-- ==== Sys2Proof/Word.lean ====
section
/-! DEFINITION. The word types and the plain table type every part of the state is made of. -/

namespace Sys2Proof

/-- A byte. Bytes and words are little-endian in every memory and record (R4). -/
abbrev Byte := BitVec 8
/-- A 32-bit word: a packet or register word. -/
abbrev W32 := BitVec 32
/-- A 64-bit word: a record, lighter or scalar word. -/
abbrev W64 := BitVec 64
/-- A 256-bit value: a key, a digest, a nonce. -/
abbrev W256 := BitVec 256

/-- A sparse table keyed by a number: the keys strictly rise, and no entry holds the value that an
unlisted key reads as, so that equal tables are equal data. -/
abbrev Tab (α : Type) := List (Nat × α)

/-- The harbourmaster's owner number (R36). -/
def hm : Nat := 16

end Sys2Proof
end

