-- ==== Sys2Proof/Syntax.lean ====
section
/-! DEFINITION. The commands of the block: one constructor for each row of the opcode table, and the
operand types they carry. An operand is what the row's step takes from outside the block's state: a packet's words, the
signals of a port (02), or what the unit of the row observes (a read-back, a sensor reading, a march-test result). -/

namespace Sys2Proof

/-- A packet as launched: the header fields of R381 but the opcode, which the row fixes, and the words P1 to PL.
L is the number of parameter words. -/
structure Pkt where
  /-- The owner of the aperture written, 16 the harbourmaster (R375). -/
  owner : Fin 17
  seq : BitVec 8
  /-- The header's charter field (R38). -/
  chart : BitVec 5
  force : Bool
  streamed : Bool
  async : Bool
  ps : List W32
  deriving DecidableEq, Repr

/-- The issue or retire side of the PAI (R46). -/
structure PaiCmd where
  tag : BitVec 24
  addr : BitVec 48
  cls : BitVec 4
  charter : BitVec 4
  priv : Bool
  mid : BitVec 8
  layer : BitVec 16
  op : BitVec 16
  deriving DecidableEq, Repr

/-- The PAI inputs sampled at every HCLK edge (R46). -/
structure PaiEdge where
  evt : BitVec 64
  slotCls : BitVec 8
  busy : BitVec 64
  stall : BitVec 64
  curCharter : BitVec 4
  curPriv : Bool
  stretch : Bool
  deriving DecidableEq, Repr

/-- One beat of a tap (R59). -/
structure TapBeat where
  data : BitVec 2048
  /-- TAP_BYTES, the number of valid bytes minus 1. -/
  bytes : BitVec 8
  sot : Bool
  eot : Bool
  sor : Bool
  eor : Bool
  row : BitVec 24
  tid : BitVec 16
  charter : BitVec 4
  priv : Bool
  fmt : BitVec 4
  wgt : Bool
  mx : Bool
  bscale : BitVec 128
  hsVld : Bool
  hscale : BitVec 32
  hzp : BitVec 16
  /-- The shadow and the statistics datapath differ at this beat, as the comparison of R258 sees it. -/
  upset : Bool
  deriving DecidableEq, Repr

/-- A Convoy frame received: peer slot, lane (true: B), counter bits [31:0], key phase (true: NEXT, R429), and whether
its check field verifies under the key of that phase (R426). -/
structure LinkFrame where
  peer : Fin 3
  lane : Bool
  ctr : BitVec 32
  phase : Bool
  auth : Bool
  deriving DecidableEq, Repr

/-- A reply on the sensor bus: SNS_ADDR, and SNS_DATA or no answer (R85). -/
structure SensorReply where
  addr : BitVec 7
  data : Option (BitVec 16)
  deriving DecidableEq, Repr

/-- A row the start-up march test finds faulty (R489). -/
structure RowFault where
  bank : Fin 34
  copy : Bool
  row : Nat
  deriving DecidableEq, Repr

/-- What the decoder reports of a stored word that carries no poison (R440), or that the copies of its side entry disagree
(R441). -/
inductive ReadObs where
  | clean | correctable | uncorrectable | sideVote
  deriving DecidableEq, Repr

/-- Which input caused a warm reset (R486). -/
inductive ResetCause where
  | wrst | internal
  deriving DecidableEq, Repr

/-- The unknown events of R356. -/
inductive WakeKind where
  | fault | hostAccess | service | earlyTick | shed | hostDomain | tapBeat | sourceRecord | heldRecord
  deriving DecidableEq, Repr

/-- One report of one fault by one unit (14): the code, the unit and the detail. -/
structure FaultRaise where
  code : BitVec 16
  unit : BitVec 16
  detail : BitVec 32
  deriving DecidableEq, Repr

/-- What a start finds on the ports (R487): the rows the memory test finds faulty (R489), the SFDP table read (R88), the fuse
words whose read answers FUSE_ERR (R87), and whether the key store answers with KS_ERR or not in time (R411). -/
structure StartFinds where
  rows : List RowFault
  sfdp : List Byte
  fuseBad : List Nat
  ksErr : Bool
  deriving DecidableEq, Repr

/-- HT_ID, HT_WR and HT_ADDR of a request (R66). -/
structure HtReq where
  id : BitVec 8
  wr : Bool
  addr : BitVec 24
  deriving DecidableEq, Repr

/-- A tally dump's probe, and the tallies whose parity is wrong (R153): 64 busy, then 64 stall. -/
structure TallyRead where
  p : Fin 128
  bad : BitVec 128
  deriving DecidableEq, Repr

/-- The counters and the tallies whose parity is wrong (R153). -/
structure ParityBad where
  ctr : BitVec 13
  tal : BitVec 128
  deriving DecidableEq, Repr

/-- What a survey tick finds: the monitors' answers (R325), the accumulators with a parity error, bit 81 the powered time
(R327), the pages of the totals whose CRC fails as copy and page (R333), and whether the key store answers with KS_ERR or not
in time (R411). -/
structure TickReads where
  monitors : List SensorReply
  bad : BitVec 96
  pages : List (Bool × Nat)
  ksErr : Bool
  deriving DecidableEq, Repr

/-- A merge buffer that times out, and whether a byte of its oldest entry has a parity error (R443, R444). -/
structure MergeOut where
  bank : Fin 34
  parity : Bool
  deriving DecidableEq, Repr

/-- The commands, in the order of the opcode table. -/
inductive Instr where
  /-- PORST_N_ASSERT (R29). -/
  | porstNAssert
  /-- COLD_START (R487): the strap, and what the start finds. -/
  | coldStart (strap : BitVec 2) (found : StartFinds)
  /-- WARM_RESET (R490). -/
  | warmReset (src : ResetCause)
  /-- BOOT_IMAGE_CHECK (R496). -/
  | bootImageCheck
  /-- FIRMWARE_START (R498). -/
  | firmwareStart
  /-- KEEPER_RESTART (R475). -/
  | keeperRestart
  /-- FIRMWARE_RESTART (R501). -/
  | firmwareRestart
  /-- FIRMWARE_TRIAL_EXPIRY (R501). -/
  | firmwareTrialExpiry
  /-- REGISTER_WRITE (R516): an access of the host target port (R66). -/
  | registerWrite (req : HtReq) (size64 : Bool) (strb : BitVec 8) (data : W64)
  /-- PACKET_BAD_OPCODE (R385). -/
  | packetBadOpcode (op : BitVec 8) (pk : Pkt)
  /-- REPLY_SLOT_RELEASE (R379). -/
  | replySlotRelease (o : Fin 17) (slot : Fin 4)
  /-- CVT_LATCH (R522). -/
  | cvtLatch (o : Fin 17) (size64 : Bool) (phase : BitVec 2)
  /-- SNAP_TRIGGER (R529). -/
  | snapTrigger (o : Fin 17) (data : W32)
  /-- APT_CLEAR_DISCARD (R526). -/
  | aptClearDiscard (o : Fin 17)
  /-- APT_CLEAR_KEY_COUNTERS (R526). -/
  | aptClearKeyCounters (o : Fin 17)
  /-- MARK_BEGIN (R527). -/
  | markBegin (o : Fin 17) (data : W64)
  /-- MARK_END (R527). -/
  | markEnd (o : Fin 17) (data : W64)
  /-- MARK_POINT (R527). -/
  | markPoint (o : Fin 17) (data : W64)
  /-- CBT_WRITE (R537). -/
  | cbtWrite
  /-- CBT_READ (R537). -/
  | cbtRead
  /-- CBT_SET_POISON (R537). -/
  | cbtSetPoison
  /-- CBT_CLR_POISON (R537). -/
  | cbtClrPoison
  /-- NOP (R395). -/
  | nop (pk : Pkt)
  /-- IDENTIFY (R395). -/
  | identify (pk : Pkt)
  /-- MODE_SET (R27). -/
  | modeSet (pk : Pkt)
  /-- SETTINGS_SAVE (R395). -/
  | settingsSave (pk : Pkt)
  /-- SETTINGS_SAVE_DONE (R395). `ks` here and below: the key store answers KS_ERR, or not in time (R411). -/
  | settingsSaveDone
  /-- HEALTH_CFG (R478). -/
  | healthCfg (pk : Pkt)
  /-- PROBE_OWNERS (R145). -/
  | probeOwners (pk : Pkt)
  /-- RANGE_SET (R146). -/
  | rangeSet (pk : Pkt)
  /-- PMC_CONFIG (R146). -/
  | pmcConfig (pk : Pkt)
  /-- COUNTER_ENABLE (R140). -/
  | counterEnable (pk : Pkt)
  /-- COUNTER_WRITE (R160). -/
  | counterWrite (pk : Pkt)
  /-- OVF_CLEAR (R159). -/
  | ovfClear (pk : Pkt)
  /-- SNAPSHOT (R157). -/
  | snapshot (pk : Pkt)
  /-- PROBE_TIMING (R396). -/
  | probeTiming (pk : Pkt)
  /-- TALLY_SET (R154). -/
  | tallySet (pk : Pkt)
  /-- SAMPLER_CONFIG (R163). -/
  | samplerConfig (pk : Pkt)
  /-- CMD_STREAM (R168). -/
  | cmdStream (pk : Pkt)
  /-- EDGE_STREAM (R170). -/
  | edgeStream (pk : Pkt)
  /-- TIE_MODE (R169). -/
  | tieMode (pk : Pkt)
  /-- PROBE_STATUS (R396). -/
  | probeStatus (pk : Pkt)
  /-- PARTITION_SET (R211). -/
  | partitionSet (pk : Pkt)
  /-- OWNER_EXPORT (R224). -/
  | ownerExport (pk : Pkt)
  /-- EXPORT_SET (R227). -/
  | exportSet (pk : Pkt)
  /-- FLUSH (R397). -/
  | flush (pk : Pkt)
  /-- LEDGER_SET (R231). -/
  | ledgerSet (pk : Pkt)
  /-- LEDGER_TRIGGER (R233). -/
  | ledgerTrigger (pk : Pkt)
  /-- LEDGER_RELEASE (R237). -/
  | ledgerRelease (pk : Pkt)
  /-- LEDGER_READ (R238). -/
  | ledgerRead (pk : Pkt)
  /-- LEDGER_READ_DONE (R238). -/
  | ledgerReadDone (o : Fin 17)
  /-- LEDGER_STATUS (R397). -/
  | ledgerStatus (pk : Pkt)
  /-- TAP_SAFETY (R248). -/
  | tapSafety (pk : Pkt)
  /-- TAP_MEASURE (R249). -/
  | tapMeasure (pk : Pkt)
  /-- TABLE_BASE (R260). -/
  | tableBase (pk : Pkt)
  /-- TABLE_ENTRY (R261). -/
  | tableEntry (pk : Pkt)
  /-- WATCH_ASSIGN (R398). -/
  | watchAssign (pk : Pkt)
  /-- WATCH_CONFIG (R268). -/
  | watchConfig (pk : Pkt)
  /-- WATCH_ARM (R268). -/
  | watchArm (pk : Pkt)
  /-- ASSAY_COUNTERS (R259). -/
  | assayCounters (pk : Pkt)
  /-- TAP_REENABLE (R258). -/
  | tapReenable (pk : Pkt)
  /-- OP_SUBMIT (R287). -/
  | opSubmit (pk : Pkt)
  /-- OP_CANCEL (R399). -/
  | opCancel (pk : Pkt)
  /-- ITIN_LOAD (R306). -/
  | itinLoad (pk : Pkt)
  /-- ITIN_LOAD_DONE (R306). -/
  | itinLoadDone
  /-- MODEL_LOAD (R317). -/
  | modelLoad (pk : Pkt)
  /-- MODEL_LOAD_DONE (R318). -/
  | modelLoadDone
  /-- SLOT_UNLOAD (R317). -/
  | slotUnload (pk : Pkt)
  /-- CH_ALLOT (R279). -/
  | chAllot (pk : Pkt)
  /-- CH_STATUS (R399). -/
  | chStatus (pk : Pkt)
  /-- TIME_STATUS (R401). -/
  | timeStatus (pk : Pkt)
  /-- SERVO_SET (R108). -/
  | servoSet (pk : Pkt)
  /-- REANCHOR (R112). -/
  | reanchor (pk : Pkt)
  /-- LANE_ASYM (R130). -/
  | laneAsym (pk : Pkt)
  /-- POWER_POLICY (R354). -/
  | powerPolicy (pk : Pkt)
  /-- ENVELOPE_SET (R364). -/
  | envelopeSet (pk : Pkt)
  /-- DERATE_SET (R370). -/
  | derateSet (pk : Pkt)
  /-- COOLANT_REPORT (R370). -/
  | coolantReport (pk : Pkt)
  /-- DOMAIN_SET (R360). -/
  | domainSet (pk : Pkt)
  /-- DOMAIN_SET_DONE (R402). -/
  | domainSetDone
  /-- DOMAIN_ASSIGN (R402). -/
  | domainAssign (pk : Pkt)
  /-- FRAME_SCHEDULE (R372). -/
  | frameSchedule (pk : Pkt)
  /-- FRAME_PLAN (R373). -/
  | framePlan (pk : Pkt)
  /-- POWER_STATUS (R402). -/
  | powerStatus (pk : Pkt)
  /-- CHARTER_BEGIN (R407). -/
  | charterBegin (pk : Pkt)
  /-- CHARTER_END (R431). -/
  | charterEnd (pk : Pkt)
  /-- CHARTER_SCRUB_START (R432). -/
  | charterScrubStart
  /-- CHARTER_SCRUB_DONE (R431). -/
  | charterScrubDone (verified : Bool)
  /-- ATTEST (R413). -/
  | attest (pk : Pkt)
  /-- KEY_AGREE (R415). -/
  | keyAgree (pk : Pkt)
  /-- KEY_INSTALL (R416). -/
  | keyInstall (pk : Pkt)
  /-- KEY_ZEROISE (R419). -/
  | keyZeroise (pk : Pkt) (readback : W256)
  /-- LINK_MODE (R423). -/
  | linkMode (pk : Pkt)
  /-- CHARTER_STATUS (R403). -/
  | charterStatus (pk : Pkt)
  /-- SURVEY_SET (R339). -/
  | surveySet (pk : Pkt)
  /-- SURVEY_PREDICT (R338). -/
  | surveyPredict (pk : Pkt)
  /-- SURVEY_PREDICT_DONE (R338). -/
  | surveyPredictDone
  /-- SURVEY_CHECKPOINT (R341). -/
  | surveyCheckpoint (pk : Pkt)
  /-- SURVEY_CHECKPOINT_DONE (R341). -/
  | surveyCheckpointDone
  /-- SURVEY_RECAL (R343). -/
  | surveyRecal (pk : Pkt)
  /-- SURVEY_RECAL_DONE (R343). -/
  | surveyRecalDone (readings : List SensorReply)
  /-- SURVEY_READ (R404). -/
  | surveyRead (pk : Pkt)
  /-- FAULT_READ (R405). -/
  | faultRead (pk : Pkt)
  /-- FAULT_RELEASE (R470). -/
  | faultRelease (pk : Pkt)
  /-- FAULT_POLICY (R464). -/
  | faultPolicy (pk : Pkt)
  /-- FAULT_INJECT (R483). -/
  | faultInject (pk : Pkt)
  /-- UPDATE_BEGIN (R500). -/
  | updateBegin (pk : Pkt)
  /-- UPDATE_DATA (R500). -/
  | updateData (pk : Pkt)
  /-- UPDATE_COMMIT (R500). -/
  | updateCommit (pk : Pkt)
  /-- UPDATE_COMMIT_DONE (R500). -/
  | updateCommitDone
  /-- UPDATE_ABORT (R500). -/
  | updateAbort (pk : Pkt)
  /-- LOGBOOK_READ (R406). -/
  | logbookRead (pk : Pkt)
  /-- STP_CONTROL (R427). -/
  | stpControl (pk : Pkt)
  /-- SERVICE_STATUS (R406). -/
  | serviceStatus (pk : Pkt)
  /-- SPARE_FUSE (R456). -/
  | spareFuse (pk : Pkt)
  /-- SPARE_FUSE_DONE (R456). -/
  | spareFuseDone (results : List Bool)
  /-- CORE_RETEST (R503). -/
  | coreRetest (pk : Pkt)
  /-- CORE_RETEST_DONE (R503). -/
  | coreRetestDone (pass : Bool)
  /-- INSTANT_ACTION_DUE (R140). -/
  | instantActionDue (idx : Nat)
  /-- COMMAND_ISSUE (R168). -/
  | commandIssue (p : Fin 128) (c : PaiCmd)
  /-- COMMAND_RETIRE (R163). -/
  | commandRetire (p : Fin 128) (c : PaiCmd) (flushed : Bool)
  /-- PRECISE_SAMPLE (R163). -/
  | preciseSample (p : Fin 128)
  /-- STAGE_ENTRY (R165). -/
  | stageEntry (p : Fin 128) (stage : Fin 8) (tid : BitVec 8)
  /-- EVT_EDGE (R170). -/
  | evtEdge (p : Fin 128) (line : Fin 64) (rising : Bool) (levels : W64)
  /-- RATE_EXCEEDED (R170). -/
  | rateExceeded (p : Fin 128) (line : Fin 64)
  /-- CHARTER_SWITCH (R167). -/
  | charterSwitch (p : Fin 128) (charter : BitVec 4) (priv : Bool)
  /-- COUNTER_WRAP (R159). -/
  | counterWrap (p : Fin 128) (i : Fin 13)
  /-- TALLY_DUMP (R154). -/
  | tallyDump (d : TallyRead)
  /-- SLOT_INVARIANT_CHECK (R152). -/
  | slotInvariantCheck (p : Fin 128)
  /-- SNAPSHOT_TAKE (R156). -/
  | snapshotTake (p : Fin 128) (bad : ParityBad)
  /-- PERIODIC_SNAPSHOT (R157). -/
  | periodicSnapshot (p : Fin 128)
  /-- FRAME_SYNC_SNAPSHOT (R157). -/
  | frameSyncSnapshot (p : Fin 128)
  /-- CLK_STRETCH_REPORT (R136). -/
  | clkStretchReport (p : Fin 128)
  /-- CLK_STRETCH_END (R136). -/
  | clkStretchEnd (p : Fin 128)
  /-- CLK_HALT (R137). -/
  | clkHalt (p : Fin 128)
  /-- CLK_RESUME (R137). -/
  | clkResume (p : Fin 128)
  /-- HRST_N_ASSERT (R141). -/
  | hrstNAssert (p : Fin 128)
  /-- HRST_N_RELEASE (R141). -/
  | hrstNRelease (p : Fin 128)
  /-- PROBE_POWER_UP (R538). -/
  | probePowerUp (p : Fin 128)
  /-- FATAL_IN (R54). -/
  | fatalIn (p : Fin 128) (pos : Bool) (neg : Bool)
  /-- FATAL_RAIL (R54). -/
  | fatalRail (p : Fin 128) (v : Bool)
  /-- TCLK_LOSS (R476). -/
  | tclkLoss (p : Fin 128) (absent : Bool)
  /-- TIN_SAMPLE (R109). -/
  | tinSample (sec : BitVec 48) (ns : BitVec 30) (step : Bool) (phase : BitVec 2)
  /-- PPS_EDGE (R115). -/
  | ppsEdge (phase : BitVec 2)
  /-- SERVO_RUN (R109). -/
  | servoRun
  /-- STEP_EDGE (R116). -/
  | stepEdge
  /-- TIME_INPUT_LOST (R118). -/
  | timeInputLost
  /-- TSYNC_LOAD (R123). -/
  | tsyncLoad (flips : Tab Nat)
  /-- TSYNC_RATE (R123). -/
  | tsyncRate (flips : Tab Nat)
  /-- TSYNC_STATUS (R123). -/
  | tsyncStatus (flips : Tab Nat)
  /-- TSYNC_CHECK (R125). -/
  | tsyncCheck (flips : Tab Nat)
  /-- SYNC (R128). -/
  | sync (fr : LinkFrame) (t1 : BitVec 96)
  /-- SYNC_ACK (R128). -/
  | syncAck (fr : LinkFrame) (t2 : BitVec 96) (t3 : BitVec 96)
  /-- SYNC_RSP (R128). -/
  | syncRsp (fr : LinkFrame) (t4 : BitVec 96)
  /-- LANE_A_RESTORE (R129). -/
  | laneARestore (peer : Fin 3)
  /-- ASYM_MEASURE_DONE (R130). -/
  | asymMeasureDone (peer : Fin 3)
  /-- EPOCH_MSG (R127). -/
  | epochMsg (fr : LinkFrame) (epoch : BitVec 16) (step : BitVec 64) (cvt : BitVec 96)
  /-- FOLLOWER_STEP (R127). -/
  | followerStep
  /-- STATE (R131). -/
  | state (fr : LinkFrame) (tstate : BitVec 3) (part : BitVec 2) (sleep : Option (BitVec 96))
  /-- PEER_SLEEP_TIMEOUT (R131). -/
  | peerSleepTimeout (peer : Fin 3)
  /-- PARTITION_SPLIT (R132). -/
  | partitionSplit (reach : BitVec 4)
  /-- HELLO (R428). -/
  | hello (peer : Fin 3) (lane : Bool) (chip : BitVec 2) (sealedMode : Bool) (housing : BitVec 32)
  /-- TIME_SYNC_DUE (R101). -/
  | timeSyncDue
  /-- BASIN_ADMIT (R214). -/
  | basinAdmit (ch : Bool)
  /-- SOURCE_RECORD_TIMEOUT (R184). -/
  | sourceRecordTimeout (src : BitVec 8)
  /-- LOSS_TOKEN (R219). -/
  | lossToken (src : BitVec 8)
  /-- WEIR_ACCUM_TIMEOUT (R218). -/
  | weirAccumTimeout (idx : Nat)
  /-- WEIR_MARK_WRITE (R218). -/
  | weirMarkWrite
  /-- SOURCE_SILENT (R220). -/
  | sourceSilent (src : BitVec 8) (o : Fin 17)
  /-- STANDING_WEIR_MARK (R190). -/
  | standingWeirMark (p : Fin 128)
  /-- LIGHTER_OPEN (R223). -/
  | lighterOpen (channel : Fin 8)
  /-- LIGHTER_FLUSH_TIMEOUT (R197). -/
  | lighterFlushTimeout (o : Fin 17)
  /-- UNIT_LEAVE (R211). -/
  | unitLeave (u : Fin 124)
  /-- MANAGER_REQUEST_ISSUE (R227). -/
  | managerRequestIssue
  /-- MANAGER_CREDIT (R71). -/
  | managerCredit (wd : Bool)
  /-- MGR_WRITE_DONE (R225). -/
  | mgrWriteDone (tag : Fin 64) (st : BitVec 2)
  /-- MGR_READ_LINE (R72). -/
  | mgrReadLine (tag : Fin 64) (data : BitVec 512) (last : Bool) (st : BitVec 2) (psn : Bool)
  /-- LEDGER_FREEZE (R232). -/
  | ledgerFreeze
  /-- LEDGER_POST_TIMEOUT (R232). -/
  | ledgerPostTimeout
  /-- LEDGER_SEAL (R236). -/
  | ledgerSeal
  /-- LEDGER_SUMMARY_WRITE (R240). -/
  | ledgerSummaryWrite
  /-- STP_LANE_UP (R510). -/
  | stpLaneUp (lanes : BitVec 2)
  /-- STP_TRAIN (R510). -/
  | stpTrain
  /-- TRAIN_ACK (R510). -/
  | trainAck (ok : BitVec 2)
  /-- STP_TRAIN_TIMEOUT (R510). -/
  | stpTrainTimeout
  /-- STP_TRAIN_RETRY (R510). -/
  | stpTrainRetry
  /-- STP_FRAME (R511). -/
  | stpFrame (lane : Bool)
  /-- PAUSE (R512). -/
  | pause (lanes : BitVec 2) (dur : BitVec 10)
  /-- PAUSE_END (R512). -/
  | pauseEnd (lane : Bool)
  /-- TAP_BEAT (R245). -/
  | tapBeat (t : Fin 4) (b : TapBeat)
  /-- TABLE_FETCH_DONE (R262). -/
  | tableFetchDone
  /-- TABLE_WRITEBACK_DONE (R262). -/
  | tableWritebackDone
  /-- RESCALE_ACK (R64). -/
  | rescaleAck (t : Fin 4)
  /-- DUMP_BLOCK_WRITE (R272). -/
  | dumpBlockWrite
  /-- PERIOD_OP_READY (R288). -/
  | periodOpReady (idx : Fin 4)
  /-- OP_START (R291). -/
  | opStart
  /-- OP_DEADLINE_EXPIRY (R289). -/
  | opDeadlineExpiry (o : Fin 17) (seq : W32)
  /-- OP_BUDGET_EXCEEDED (R292). -/
  | opBudgetExceeded
  /-- OP_COMPLETE (R294). -/
  | opComplete
  /-- CORE_RESIDUE_MISMATCH (R310). -/
  | coreResidueMismatch (c : Fin 16)
  /-- CORE_WATCHDOG (R310). -/
  | coreWatchdog (c : Fin 16)
  /-- CORE_SELF_TEST (R310). -/
  | coreSelfTest (c : Fin 16) (pass : Bool)
  /-- LD (R305). -/
  | ld (c : Fin 16)
  /-- ST (R305). -/
  | st (c : Fin 16)
  /-- LDM (R305). -/
  | ldm (c : Fin 16)
  /-- RECV (R305). -/
  | recv (c : Fin 16)
  /-- EMIT (R305). -/
  | emit (c : Fin 16)
  /-- GETS (R305). -/
  | gets (c : Fin 16)
  /-- SOP (R305). -/
  | sop (c : Fin 16)
  /-- BCAST (R305). -/
  | bcast (c : Fin 16)
  /-- XLANE (R305). -/
  | xlane (c : Fin 16)
  /-- ADD (R305). -/
  | add (c : Fin 16)
  /-- SUB (R305). -/
  | sub (c : Fin 16)
  /-- MUL (R305). -/
  | mul (c : Fin 16)
  /-- FMA (R305). -/
  | fma (c : Fin 16)
  /-- DIV (R305). -/
  | div (c : Fin 16)
  /-- SQRT (R305). -/
  | sqrt (c : Fin 16)
  /-- MIN (R305). -/
  | min (c : Fin 16)
  /-- MAX (R305). -/
  | max (c : Fin 16)
  /-- ABS (R305). -/
  | abs (c : Fin 16)
  /-- EXP2 (R305). -/
  | exp2 (c : Fin 16)
  /-- LOG2 (R305). -/
  | log2 (c : Fin 16)
  /-- CVT (R305). -/
  | cvt (c : Fin 16)
  /-- QUANT (R305). -/
  | quant (c : Fin 16)
  /-- DEQ (R305). -/
  | deq (c : Fin 16)
  /-- MXAPPLY (R305). -/
  | mxapply (c : Fin 16)
  /-- CMP (R305). -/
  | cmp (c : Fin 16)
  /-- SEL (R305). -/
  | sel (c : Fin 16)
  /-- MCOUNT (R305). -/
  | mcount (c : Fin 16)
  /-- RED (R305). -/
  | red (c : Fin 16)
  /-- ARGMAX (R305). -/
  | argmax (c : Fin 16)
  /-- DOT (R305). -/
  | dot (c : Fin 16)
  /-- MACC (R305). -/
  | macc (c : Fin 16)
  /-- ACCRD (R305). -/
  | accrd (c : Fin 16)
  /-- ACCCLR (R305). -/
  | accclr (c : Fin 16)
  /-- HIST (R305). -/
  | hist (c : Fin 16)
  /-- LUT (R305). -/
  | lut (c : Fin 16)
  /-- BITOP (R305). -/
  | bitop (c : Fin 16)
  /-- FIELD (R305). -/
  | field (c : Fin 16)
  /-- QTREF (R305). -/
  | qtref (c : Fin 16)
  /-- ALLRED (R305). -/
  | allred (c : Fin 16)
  /-- XCHG (R305). -/
  | xchg (c : Fin 16)
  /-- BAR (R305). -/
  | bar (c : Fin 16)
  /-- LOOP (R305). -/
  | loop (c : Fin 16)
  /-- ENDL (R305). -/
  | endl (c : Fin 16)
  /-- BRZ (R305). -/
  | brz (c : Fin 16)
  /-- HALT (R305). -/
  | halt (c : Fin 16)
  /-- SENSOR_SCAN (R324). -/
  | sensorScan (readings : List SensorReply)
  /-- RMON_SAMPLE (R84). -/
  | rmonSample (ch : Fin 8) (power : BitVec 16) (current : BitVec 16)
  /-- ENVELOPE_INPUT_LOST (R84). -/
  | envelopeInputLost (ch : Fin 8)
  /-- SURVEY_TICK (R329): the monitors' replies; the accumulators in which a parity error was found (R327), bit z the histogram
  of zone z, bit 32 + k the queue of series k, 65 + r the EM sums and 73 + r the rail sums of rail r, 81 the powered time; the
  pages of the totals whose CRC fails, the copy and the page (R333). -/
  | surveyTick (reads : TickReads)
  /-- JOURNAL_ENTRY (R341). -/
  | journalEntry
  /-- JOURNAL_CHECKPOINT (R341). -/
  | journalCheckpoint
  /-- COOLANT_SERIES_STALE (R326). -/
  | coolantSeriesStale
  /-- COOLANT_REPORT_LOST (R371). -/
  | coolantReportLost
  /-- POWER_STATE_CHOICE (R352). -/
  | powerStateChoice
  /-- SLEEP_ENTRY_COMPLETE (R344). -/
  | sleepEntryComplete
  /-- WAKE_TIMER (R355). -/
  | wakeTimer
  /-- WAKE_EVENT (R356). -/
  | wakeEvent (kind : WakeKind)
  /-- SLEEP_EXIT_COMPLETE (R358). -/
  | sleepExitComplete
  /-- CORE_IDLE_OFF (R359). -/
  | coreIdleOff
  /-- ENVELOPE_LOOP (R365). -/
  | envelopeLoop (upset : Bool)
  /-- ENVELOPE_SHED (R369). -/
  | envelopeShed
  /-- HOST_DOMAIN_OFF_START (R361). -/
  | hostDomainOffStart (h : Fin 72)
  /-- HOST_DOMAIN_ON_START (R362). -/
  | hostDomainOnStart (h : Fin 72)
  /-- PSW_REQ_ISSUE (R360). -/
  | pswReqIssue
  /-- PSW_ACK (R82). -/
  | pswAck (h : Fin 72) (level : Bool)
  /-- PSW_TIMEOUT (R82). -/
  | pswTimeout (h : Fin 72)
  /-- FRAME_SYNC (R372). -/
  | frameSync
  /-- FRAME_SCHEDULE_TICK (R372). -/
  | frameScheduleTick
  /-- FRAME_PLAN_STEP (R373). -/
  | framePlanStep
  /-- FRAME_MISSED (R374). -/
  | frameMissed
  /-- FAULT_RAISE (R467). -/
  | faultRaise (r : Option FaultRaise)
  /-- CLASS_TABLE_FALLBACK (R466). -/
  | classTableFallback
  /-- KEEPER_LOCKSTEP_MISMATCH (R20). -/
  | keeperLockstepMismatch
  /-- KEEPER_WATCHDOG_EXPIRY (R20). -/
  | keeperWatchdogExpiry
  /-- KEEPER_MEM_UE (R20). -/
  | keeperMemUe (word : BitVec 32)
  /-- HEARTBEAT_TOGGLE (R78). -/
  | heartbeatToggle
  /-- FC_SELF_TEST (R482). -/
  | fcSelfTest (failing : Option (BitVec 16))
  /-- LOCKSTEP_SELF_TEST (R482). -/
  | lockstepSelfTest (pass : Bool)
  /-- AON_MONITOR_TEST (R482). -/
  | aonMonitorTest (pass : Bool)
  /-- AON_REF_LOSS (R80). -/
  | aonRefLoss (lost : Bool)
  /-- PATROL_VISIT (R450). -/
  | patrolVisit (bank : Fin 34) (copy : Bool) (obs : ReadObs)
  /-- CHECKER_SELF_TEST (R457). -/
  | checkerSelfTest (bank : Fin 34) (copy : Bool) (pass : Bool)
  /-- ROW_MIGRATION_DONE (R452). -/
  | rowMigrationDone (bank : Fin 34) (copy : Bool)
  /-- SUSPECT_EXPIRY (R451). -/
  | suspectExpiry (bank : Fin 34) (copy : Bool)
  /-- ECC_BUCKET_LEAK (R447). -/
  | eccBucketLeak
  /-- MERGE_RMW_TIMEOUT (R443); a byte of the entry may have a parity error (R444). -/
  | mergeRmwTimeout (m : MergeOut)
  /-- SVC_PLUG_IN (R504). -/
  | svcPlugIn
  /-- SVC_UNPLUG (R504). -/
  | svcUnplug
  /-- BUTTON_PRESS (R505). -/
  | buttonPress
  /-- BUTTON_RELEASE (R505). -/
  | buttonRelease
  /-- BUTTON_HOLD (R508). -/
  | buttonHold
  /-- BUTTON_STUCK (R505). -/
  | buttonStuck
  /-- SHORT_PRESS (R506). -/
  | shortPress
  /-- BUTTON_NOISE_WINDOW (R507). -/
  | buttonNoiseWindow (edges : Nat)
  /-- HCLK_EDGE (R139). -/
  | hclkEdge (p : Fin 128) (e : PaiEdge)
  /-- SNAPSHOT_COPY_DONE (R158). -/
  | snapshotCopyDone (p : Fin 128)
  /-- KEEPER_RESTART_COMPLETE (R475). -/
  | keeperRestartComplete
  /-- WRST_N_RELEASE (R491). -/
  | wrstNRelease
  /-- CONVOY_EXCHANGE_FAIL (R129). -/
  | convoyExchangeFail (peer : Fin 3) (lane : Bool)
  /-- HOST_SWITCHED_DOMAIN_OFF (R538). -/
  | hostSwitchedDomainOff (h : Fin 72)
  /-- SCRATCH_PROGRAM (R500). -/
  | scratchProgram
  /-- PROBE_OUTPUT_LINK_ERROR (R171). -/
  | probeOutputLinkError (p : Fin 128)
  deriving DecidableEq, Repr

end Sys2Proof
end

