-- ==== Sys2Proof/Config.lean ====
section
/-! DEFINITION. What an implementation or a named standard fixes outside the manual: constants without a body, so that
a proof about them holds whatever they are (log entries 5, 6, 12, 13, 14 and 15). -/

namespace Sys2Proof

/-- A value the manual leaves open, taken at the model's own counter (log 14). -/
opaque Config.freeValue : Nat → Nat

/-- SHA-256 of a byte string (R236, R413, R495); a standard the manual names (log 5). -/
opaque Config.sha256 : List Byte → W256
/-- HMAC-SHA-256 under a 256-bit key (R236, R340, R455; log 5). -/
opaque Config.hmac : W256 → List Byte → W256
/-- AES-256-GCM: a byte of the key stream of a key and a nonce, by its index (R194; log 5). -/
opaque Config.gcmPad : W256 → List Byte → Nat → Byte
/-- AES-256-GCM: the 128-bit tag of a key, a nonce, additional data and a ciphertext (R194; log 5). -/
opaque Config.gcmHash : W256 → List Byte → List Byte → List Byte → BitVec 128
/-- AES key unwrap of a wrapped 256-bit key under a KEK, RFC 3394 (R416; log 5). -/
opaque Config.keyUnwrap : W256 → BitVec 320 → Option W256
/-- HKDF-SHA-256: salt, input key, info; 32 bytes (R415; log 5). -/
opaque Config.hkdf : W256 → W256 → List Byte → W256
/-- The P-256 public point of a private scalar (R412; log 5). -/
opaque Config.ecPublic : W256 → BitVec 512
/-- Whether a pair of coordinates is a point of P-256 (R415; log 5). -/
opaque Config.ecValid : BitVec 512 → Bool
/-- The x-coordinate of the ECDH shared secret (R415; log 5). -/
opaque Config.ecdh : W256 → BitVec 512 → W256
/-- An ECDSA P-256 signature: the model's counter (its random number), private scalar, SHA-256 digest (R413, R415; log 5). -/
opaque Config.ecSign : Nat → W256 → W256 → BitVec 512
/-- ECDSA P-256 verification: public key, digest, signature (R496; log 5). -/
opaque Config.ecVerify : BitVec 512 → W256 → BitVec 512 → Bool
/-- The key store's 256-bit value for a label (R411). -/
opaque Config.keyStore : Nat → W256
/-- The fresh ephemeral private scalar of a KEY_AGREE (R415), taken at the model's counter. -/
opaque Config.ephemeral : Nat → W256
/-- The digest of the boot ROM recovery personality (R413). -/
opaque Config.recoveryDigest : W256
/-- The key digests in the fuses: FW_KEY_DIGEST (0) and PLATFORM_KEY_DIGEST (1) (R496). -/
opaque Config.keyDigest : Nat → W256

/-- The key under which the harbourmaster's weights are staged while it has no memory key (R319; log 86). -/
opaque Config.noKey : W256

/-- The check bits of a data word at its word address (R440): bank width (128 or 32), address, data (log 12). -/
opaque Config.eccCheck : Nat → Nat → BitVec 128 → BitVec 9
/-- The bit a non-zero syndrome names: below 128 a data bit, from 128 a check bit; none is uncorrectable (R440; log 12). -/
opaque Config.eccColumn : Nat → BitVec 9 → Option Nat

/-- A candidate for 2 to the power of a lane, taken where it lies within 1 ULP (R305; log 6): format code, lane bits. -/
opaque Config.exp2 : Nat → Nat → Nat
/-- A candidate for the base-2 logarithm of a lane, taken where it lies within 1 ULP (R305; log 6): format code, lane bits. -/
opaque Config.log2 : Nat → Nat → Nat
/-- Constant i of a calibration set, FP64, none where the set gives no value; the layout of the set is the block's own
(R334; log 36). -/
opaque Config.calib : List Byte → Nat → Option W64
/-- The offset of a thermal sensor that a calibration set holds (R343, R494; log 36). -/
opaque Config.calibThermal : List Byte → Nat → Int
/-- The ratio of a monitor that a calibration set holds (R343, R494; log 36). -/
opaque Config.calibMonitor : List Byte → Nat → BitVec 16
/-- The asymmetry constant of a lane, 2 * peer slot + lane, that a calibration set holds (R77, R494; log 36). -/
opaque Config.calibLane : List Byte → Nat → Option Int
/-- A monitor's deficit corrected by the ratio stored at recalibration (R343; log 36): ratio, deficit. -/
opaque Config.ratioFix : BitVec 16 → BitVec 16 → BitVec 16
/-- A candidate for the FP64 exponential of the wear physics, taken where it lies within 1 ULP (R330, R335; log 6). -/
opaque Config.exp64 : W64 → W64
/-- A candidate for the FP64 power of the wear physics, taken where it lies within 1 ULP (R330; log 6). -/
opaque Config.pow64 : W64 → W64 → W64
/-- The residual and its log-uncertainty of the learned wear model, FP64: the model's words, site, mechanism, the 16
features (R335; log 6). -/
opaque Config.residual : List W64 → Nat → Nat → List W32 → W64 × W64
/-- The 90 % interval of a zone's drift from the residual of its fit (R336): lower and upper in ppm, FP32 (log 6); zone,
latest d, the points of the fit. -/
opaque Config.driftFit : Nat → W64 → List (W64 × W64) → BitVec 32 × BitVec 32
/-- Result bytes and words of the library ops whose bits the manual does not promise (R302; log 13): op code, operands, index. -/
opaque Config.libResult : Nat → List W64 → Nat → W64
/-- The alarm of a library op of the same kind (R297, R302; log 13). -/
opaque Config.libAlarm : Nat → List W64 → Bool

end Sys2Proof
end

