-- ==== Sys2Proof/Machine/Bits.lean ====
section
/-! DEFINITION. Sparse tables in canonical form, bit fields, byte order and the checksums the spec defines. -/

namespace Sys2Proof.Machine

/-- The value at a key; `d` for an unlisted key. -/
def tget {α : Type} : Tab α → Nat → α → α
  | [], _, d => d
  | (k', v) :: t, k, d => if k = k' then v else tget t k d

/-- Write a value: keys stay strictly rising, and the value `d` is never listed. -/
def tset {α : Type} [DecidableEq α] : Tab α → Nat → α → α → Tab α
  | [], k, v, d => if v = d then [] else [(k, v)]
  | (k', v') :: t, k, v, d =>
    if k = k' then (if v = d then tset t k v d else (k, v) :: t)
    else if k < k' ∧ v ≠ d then (k, v) :: (k', v') :: t
    else (k', v') :: tset t k v d

/-- The canonical form: every key above `lo`, keys strictly rising, no value `d`. -/
def twfFrom {α : Type} [DecidableEq α] (d : α) : Nat → Tab α → Bool
  | _, [] => true
  | lo, (k, v) :: t => decide (lo ≤ k) && !decide (v = d) && twfFrom d (k + 1) t

def twf {α : Type} [DecidableEq α] (d : α) (t : Tab α) : Bool := twfFrom d 0 t

/-- Bits [lo + len - 1 : lo] of a number. -/
def bits (x lo len : Nat) : Nat := x / 2 ^ lo % 2 ^ len

def bit (x lo : Nat) : Bool := x.testBit lo

/-- A field of a packet or register word. -/
def fld (w : W32) (lo len : Nat) : Nat := bits w.toNat lo len

def flag (w : W32) (i : Nat) : Bool := w.toNat.testBit i

/-- A number as two's complement in `len` bits. -/
def sgn (len x : Nat) : Int := if x % 2 ^ len < 2 ^ (len - 1) then ((x % 2 ^ len : Nat) : Int) else ((x % 2 ^ len : Nat) : Int) - 2 ^ len

def unsgn (len : Nat) (x : Int) : Nat := (x % 2 ^ len).toNat

/-- A saturating increment. -/
def satAdd (max a b : Nat) : Nat := min max (a + b)

def b2n (b : Bool) : Nat := if b then 1 else 0

/-- Bit `i` of a vector set to `b`. -/
def setBit {n : Nat} (v : BitVec n) (i : Nat) (b : Bool) : BitVec n :=
  if b then v ||| BitVec.ofNat n (2 ^ i) else v &&& ~~~(BitVec.ofNat n (2 ^ i))

def popcount {n : Nat} (v : BitVec n) : Nat := (List.range n).foldl (fun a i => a + b2n (v.getLsbD i)) 0

/-- The `n` low-order bytes of a number, least significant first (R4). -/
def leBytes : Nat → Nat → List Byte
  | 0, _ => []
  | n + 1, x => BitVec.ofNat 8 x :: leBytes n (x / 256)

def ofLe : List Byte → Nat
  | [] => 0
  | b :: bs => b.toNat + 256 * ofLe bs

/-- Most significant byte first (R403, R412). -/
def beBytes (n x : Nat) : List Byte := (leBytes n x).reverse

def ofBe (bs : List Byte) : Nat := ofLe bs.reverse

/-- Words of `n` bytes, little-endian; a short tail is filled with zeros. -/
def toWords (fuel n : Nat) (bs : List Byte) : List Nat :=
  match fuel with
  | 0 => []
  | fuel + 1 => if bs.isEmpty then [] else ofLe (bs.take n) :: toWords fuel n (bs.drop n)

def words64 (bs : List Byte) : List W64 := (toWords (bs.length + 1) 8 bs).map (BitVec.ofNat 64)

def words32 (bs : List Byte) : List W32 := (toWords (bs.length + 1) 4 bs).map (BitVec.ofNat 32)

def bytes64 (ws : List W64) : List Byte := ws.flatMap (fun w => leBytes 8 w.toNat)

def bytes32 (ws : List W32) : List Byte := ws.flatMap (fun w => leBytes 4 w.toNat)

/-- A value of 32n bytes as 8n packet words, most significant first (R412). -/
def beWords (n x : Nat) : List W32 := (List.range n).map (fun i => BitVec.ofNat 32 (x / 2 ^ (32 * (n - 1 - i))))

def ofBeWords (ws : List W32) : Nat := ws.foldl (fun a w => a * 2 ^ 32 + w.toNat) 0

def slice {α : Type} (l : List α) (from_ n : Nat) : List α := (l.drop from_).take n

/-- Put bytes into a string at an offset, extending with zeros. -/
def putBytes (l : List Byte) (off : Nat) (bs : List Byte) : List Byte :=
  (l ++ List.replicate (off - l.length) 0).take off ++ bs ++ l.drop (off + bs.length)

/-- One byte through a CRC whose register shifts left (`w` bits, polynomial `p`). -/
def crcLeft (w p : Nat) (c : Nat) (x : Nat) (nb : Nat) : Nat :=
  (List.range nb).foldl (fun c i =>
    let t := (c / 2 ^ (w - 1) + x / 2 ^ (nb - 1 - i)) % 2
    let c' := c * 2 % 2 ^ w
    if t = 1 then c' ^^^ p else c') c

/-- CRC-8 of a fuse word over bits [31:24], [23:16], [15:8] (R454): polynomial 0x07, initial value 0. -/
def fuseCrc (w : Nat) : Nat := crcLeft 8 7 (crcLeft 8 7 (crcLeft 8 7 0 (bits w 24 8) 8) (bits w 16 8) 8) (bits w 8 8) 8

/-- CRC-16 of a TSYNC frame (R122): polynomial 0x1021, initial value 0xFFFF, over the bits in sending order, bit 0
first. -/
def crc16 (n x : Nat) : Nat :=
  (List.range n).foldl (fun c i => crcLeft 16 0x1021 c (x / 2 ^ i % 2) 1) 0xFFFF

/-- CRC-32C (reflected, polynomial 0x82F63B78, initial and final value all ones). -/
def crc32c (bs : List Byte) : BitVec 32 :=
  let r := bs.foldl (fun (c : Nat) b =>
    (List.range 8).foldl (fun c _ => if c % 2 = 1 then (c / 2) ^^^ 0x82F63B78 else c / 2) (c ^^^ b.toNat)) 0xFFFFFFFF
  BitVec.ofNat 32 (r ^^^ 0xFFFFFFFF)

/-- Update the i-th element of a list. -/
def lset {α : Type} (l : List α) (i : Nat) (f : α → α) : List α := l.mapIdx (fun j x => if j = i then f x else x)

def removeAt {α : Type} (l : List α) (i : Nat) : List α := l.take i ++ l.drop (i + 1)

/-- The first index whose element satisfies a test. -/
def findIdx? {α : Type} (p : α → Bool) (l : List α) : Option Nat :=
  let i := l.findIdx p
  if i < l.length then some i else none

/-! ## AES-256-GCM (R194, R317, R422; log 5) -/

/-- The text under the key stream: a ciphertext of a plaintext, and the other way round. -/
def gcmText (key : W256) (nonce text : List Byte) : List Byte := text.mapIdx (fun i b => b ^^^ Config.gcmPad key nonce i)

/-- The tag that goes with the ciphertext of a plaintext. -/
def gcmTag (key : W256) (nonce aad text : List Byte) : BitVec 128 := Config.gcmHash key nonce aad (gcmText key nonce text)

/-- Opening a ciphertext: its plaintext, none when the tag fails. -/
def gcmOpen (key : W256) (nonce aad cipher : List Byte) (tag : BitVec 128) : Option (List Byte) :=
  if tag = Config.gcmHash key nonce aad cipher then some (gcmText key nonce cipher) else none

end Sys2Proof.Machine
end

