-- ==== Sys2Proof/Machine/State.lean ====
section
/-! DEFINITION. The state of the block as plain data, and the state after reset. Owners are numbers 0 to 16 (16 the
harbourmaster, R36). Instants named `At` are nanoseconds of AON_REF time since PORST_N; timestamps named `ts` are
Convoy Time in qt (R99). -/

namespace Sys2Proof.Machine

/-- Why the block model would stop with a fault: never. No meaning raises it; the type is closed and its constructor
is here so that the type has a value. Safe. -/
inductive Fault where
  /-- Raised by nobody. Safe. -/
  | unreachable
  deriving DecidableEq, Repr

/-- Why a command has no meaning. -/
inductive Refusal where
  /-- An arm of `exec` that has no meaning yet answers it. Safe. -/
  | notModelled (mnemonic : String)
  deriving DecidableEq, Repr

/-- The device modes, codes 0 to 4 (R26, R395). -/
inductive Mode where
  | boot | startup | service | test | recovery
  deriving DecidableEq, Repr

/-- The time states, codes 0 to 4 (R119). -/
inductive TState where
  | locked | slewing | holdover | detached | uncertain
  deriving DecidableEq, Repr

/-- The power states of the block, codes 0 to 3 (R344). -/
inductive Power where
  | underway | slack | moored | laidUp
  deriving DecidableEq, Repr

/-- The state of a charter (R407). -/
inductive ChState where
  | inactive | active | ending
  deriving DecidableEq, Repr

/-- Where the start-up sequence of R487 stands. -/
inductive BootPhase where
  /-- PORST_N low. -/
  | held
  /-- Steps 1 to 7 done; the firmware item is next. -/
  | started
  /-- Firmware (or the recovery personality) may start. -/
  | imageRead
  /-- Firmware or recovery personality running: READY. -/
  | running
  deriving DecidableEq, Repr

/-- A firmware image in a code bank: its version and the SHA-256 of its payload (R413, R495). -/
structure Image where
  version : BitVec 32
  digest : W256
  deriving DecidableEq, Repr

/-- Identification and integration values (R518, R519, R33). -/
structure Ident where
  nProbes : Nat
  hostDomains : Nat
  taps : BitVec 4
  rails : Nat
  chip : BitVec 2
  tsyncStages : Nat
  lanes : BitVec 6
  fuseBase : BitVec 12
  fuseCount : BitVec 12
  fuseErr : Nat
  fwKeyAddr : BitVec 12
  platKeyAddr : BitVec 12
  pswDefault : BitVec 72
  iref : Tab (BitVec 16)
  /-- ID_PROBE by probe where it differs from the common value below: (W - 1, units, domain; 255 none). -/
  probe : Tab (Nat × Nat × Nat)
  /-- MON_ZONE and ZONE_RAIL where they differ from m mod 32 and z mod 8. -/
  monZone : Tab Nat
  zoneRail : Tab Nat
  fw : BitVec 32
  secureBoot : Bool
  debugLock : Bool
  testLock : Bool
  sparesFused : Nat
  /-- The spare-row fuse words, in address order from `fuseBase` (R454). -/
  fuseWords : List W32
  /-- The words among them whose read at the last start answered FUSE_ERR (R87). -/
  fuseBad : List Nat
  deriving DecidableEq, Repr

/-- Device mode and start-up (R26, R487, R520, R536). -/
structure Dev where
  mode : Mode
  ready : Bool
  restarting : Bool
  /-- The Keeper has stopped on a fault and has not begun to restart (R475). -/
  down : Bool
  phase : BootPhase
  /-- WRST_N is held low. -/
  wrst : Bool
  lastReset : Nat
  recovery : Nat
  settingsDefault : Bool
  unsignedFw : Bool
  skipped : Nat
  /-- The Keeper code bank in use, the running image, and the image in the other bank with its end of trial (R501). -/
  codeBank : Bool
  image : Image
  oldImage : Option Image
  trialUntil : Option Nat
  /-- A committed image waits for its safe point (R501). -/
  newImage : Option Image
  /-- The next restart reloads the image from the Logbook (R475). -/
  reload : Bool
  /-- The settings item in force, empty without one, and the settings digest of R413. -/
  settings : List Byte
  settingsDigest : W256
  mapBad : Bool
  deriving DecidableEq, Repr

/-- Clocks and powered time (R31, R328, R521). -/
structure Clk where
  powered : Nat
  phase : Nat
  tclk : Bool
  /-- TCLK stops at the next AON_REF edge, at which the coarse counter takes CVT (R126). -/
  stop : Bool
  resTime : Tab Nat
  resEntries : Tab Nat
  deriving DecidableEq, Repr

/-- A time-input sample (R109): the capture in qt, the source time, TIN_STEP, the number of its TIN_VLD edge, and the slew
applied up to its capture in ns (R110). -/
structure Sample where
  cap : Int
  sec : BitVec 48
  ns : BitVec 30
  step : Bool
  no : Nat
  slew : Rat
  deriving DecidableEq, Repr

/-- A step decided and not yet applied (R116): d in qt, the EPOCH cause, and the instant of its request. -/
structure StepReq where
  d : Int
  cause : Nat
  epoch : Nat
  reqAt : Nat
  deriving DecidableEq, Repr

/-- The time unit (03). `cvt` is in 2^-40 ns. -/
structure TimeU where
  cvt : Nat
  epoch : BitVec 16
  part : BitVec 2
  st : TState
  bound : BitVec 22
  f : Rat
  sl : Rat
  /-- The increment and the slew term in force: those of the last RATE frame, s = 0 from a step edge (R116, R124). -/
  incOn : Nat
  slOn : Rat
  integral : Rat
  kp : BitVec 32
  ki : BitVec 32
  /-- Servo period in us (R108). -/
  period : Nat
  ring : List Sample
  latch : Option Sample
  edges : Nat
  /-- The completion slot of the pending REANCHOR with its seq (R109), and whether its sample is latched. -/
  reanchor : Option (Nat × BitVec 8)
  reanchorLatched : Bool
  /-- A REANCHOR whose step is decided. -/
  reanchorStep : Bool
  /-- Offsets in qt of the last consecutive outliers (LOCKED) or samples (DETACHED). -/
  agree : List Int
  /-- The offset in qt of the last sample accepted, and the slew applied up to its capture (R110). -/
  dLast : Option (Rat × Rat)
  slewed : Rat
  lockRun : Nat
  farRuns : Nat
  step : Option StepReq
  lastTinAt : Nat
  inputLost : Bool
  holdBound : Nat
  holdAt : Nat
  lastSample : Option Sample
  exhausted : Bool
  /-- DETACHED until PORST_N: a jump backward beyond the slew limit at epoch 0xFFFF (R104). -/
  stuck : Bool
  lastServoAt : Nat
  /-- TSYNC frames owed: a LOAD, a RATE, a STATUS (R124), and TCLK cycles since the last CHECK. -/
  oweLoad : Bool
  oweRate : Bool
  oweStatus : Bool
  sinceCheck : Nat
  /-- The instant of the last RATE frame (R124). -/
  lastRateAt : Option Nat
  deriving DecidableEq, Repr

/-- What a Convoy frame is sent under (R425): its key phase (R429), the sender and receiver, the lane and the counter of its
header, and its GCM nonce; a SEALED frame has none. The frame types' codes and the payloads are open (log 100). -/
structure SentFrame where
  next : Bool
  sender : Nat
  dest : Nat
  lane : Bool
  ctr : Nat
  nonce : List Byte
  deriving DecidableEq, Repr

/-- One lane of a Convoy pair (R128 to R130, R426). θ, RTT and the sum of a measurement in ns; the constant in 10 ps; the
exchange's times as CVT in 2^-40 ns. -/
structure Lane where
  up : Bool
  everUp : Bool
  fails : Nat
  upAt : Nat
  asym : Option Int
  theta : Rat
  rtt : Rat
  sum : Rat
  count : Nat
  /-- The first exchange that counts for the measurement of R130. -/
  measFrom : Option Nat
  tx : Nat
  rx : Nat
  txNext : Nat
  rxNext : Nat
  /-- A frame was accepted and no discard reported since. -/
  armed : Bool
  /-- The link must stop: its counter would wrap. -/
  stopped : Bool
  t1 : Nat
  t2 : Nat
  t3 : Nat
  /-- A SYNC went out or was answered, and its exchange is open. -/
  opened : Bool
  /-- The last frame sent (R425). -/
  sent : Option SentFrame
  deriving DecidableEq, Repr

/-- A peer slot. -/
structure Peer where
  sealMode : Bool
  hello : Option (Bool × BitVec 32)
  /-- 0 none, 1 A, 2 B. -/
  active : Nat
  pst : TState
  part : BitVec 2
  /-- Announced sleep: the instant of the expected wake (R131). -/
  asleep : Option Nat
  /-- The instant of the last frame accepted from it. -/
  heard : Nat
  /-- The STATE last sent to it: time state, partition, expected wake as CVT in 2^-40 ns (R131). -/
  told : Option (TState × BitVec 2 × Option Nat)
  sentNext : Bool
  gotNext : Bool
  a : Lane
  b : Lane
  deriving DecidableEq, Repr

/-- The Convoy link. `pend` is a follower's step from EPOCH_MSG: epoch, step offset in qt, lead CVT of E in 2^-40 ns. -/
structure Convoy where
  peers : Tab Peer
  noAuto : Bool
  pend : Option (BitVec 16 × Int × Nat)
  split : Bool
  acting : Bool
  leadState : TState
  deriving DecidableEq, Repr

/-- The filter of R146 without the event and overflow fields. -/
structure Filter where
  priv : BitVec 2
  charterEn : Bool
  charter : BitVec 4
  midMatch : BitVec 8
  midMask : BitVec 8
  classMask : BitVec 16
  rangeSel : BitVec 3
  rangeInv : Bool
  deriving DecidableEq, Repr

/-- A programmable counter's configuration (R146). -/
structure Pmc where
  event : BitVec 10
  flt : Filter
  ovfRec : Bool
  ovfIrq : Bool
  deriving DecidableEq, Repr

/-- The sampler (R163, R164). -/
structure Sampler where
  enable : Bool
  flt : Filter
  dither : Bool
  n : Nat
  k : Nat
  deriving DecidableEq, Repr

/-- A probe's configuration, of which the Keeper keeps the copy (R141). -/
structure ProbeCfg where
  fixedOwner : Nat
  pmcOwner : Tab Nat
  samplerOwner : Nat
  cmdOwner : Nat
  edgeOwner : Nat
  rangeOwner : Tab Nat
  ranges : Tab (Nat × Nat)
  enable : BitVec 13
  pmc : Tab Pmc
  tallyK : Nat
  sampler : Sampler
  cmdOn : Bool
  cmdFlt : Filter
  rise : BitVec 64
  fall : BitVec 64
  period : Nat
  frame : Bool
  cswitch : Bool
  latThr : Nat
  seed : BitVec 32
  deriving DecidableEq, Repr

/-- A command in flight (R147, R150): its issue-side fields, its issue edge and timestamp, and whether a stretched period
lay after its issue. -/
structure Flight where
  cmd : PaiCmd
  edge : Nat
  ts : Nat
  stretched : Bool
  deriving DecidableEq, Repr

/-- A tagged command (R165). -/
structure Tagged where
  tag : BitVec 24
  edge : Nat
  ts : Nat
  owner : Nat
  deriving DecidableEq, Repr

/-- A layer with commands in flight (R169). -/
structure LayerRec where
  charter : BitVec 4
  layer : BitVec 16
  op : BitVec 16
  superseded : Bool
  deriving DecidableEq, Repr

/-- An EVT line's window (R170). -/
structure EvtWin where
  start : Nat
  count : Nat
  first : Nat
  deriving DecidableEq, Repr

/-- A record on its way: R172's word 0 fields, the full timestamp, the epoch and partition it was taken in, and the
extra words. -/
structure Rec where
  ty : BitVec 6
  src : BitVec 8
  owner : Nat
  cls : Nat
  ts : Nat
  payload : BitVec 20
  extra : List W64
  epoch : BitVec 16
  part : BitVec 2
  /-- The instant it entered its queue (R184). -/
  inAt : Nat
  deriving DecidableEq, Repr

/-- What waits for the HCLK edge of the events already reported for it (log 8). -/
structure EdgeEv where
  iss : Option PaiCmd
  issTagged : Bool
  issSkipped : Bool
  ret : Option PaiCmd
  retFlushed : Bool
  retLat : Nat
  sampled : Bool
  /-- A sample, or a TAG_STAGE, found the sample buffer full (R166). -/
  lost : Bool
  stageLost : Bool
  stages : BitVec 8
  suppressed : Nat
  deriving DecidableEq, Repr

/-- A snapshot waiting for its edge (R157): the trigger code, tallies asked, a group asked, for which owner only (R529),
the owner whose SNAP_STATUS follows it. -/
structure SnapReq where
  trigger : Nat
  tallies : Bool
  group : Bool
  only : Option Nat
  win : Option Nat
  /-- The probe's HCLK edge count at its instant: it is taken at a later edge. -/
  edge : Nat
  deriving DecidableEq, Repr

/-- The shadow registers of a probe (R530, R531), held in D22. -/
structure Shadow where
  snapNo : BitVec 16
  trigger : Nat
  reset : Bool
  invariant : Bool
  halted : Bool
  merged : Bool
  busy : Bool
  hasTallies : Bool
  ts : Nat
  st : TState
  epoch : BitVec 16
  cnt : Tab Nat
  ovf : BitVec 13
  invalid : BitVec 13
  busyT : Tab Nat
  stallT : Tab Nat
  deriving DecidableEq, Repr

/-- A replica relative to the master (R122 to R125): its error in 2^-40 ns, the error of its increment, and the epoch,
partition and state it holds. -/
structure Replica where
  skew : Int
  rate : Int
  epoch : BitVec 16
  part : BitVec 2
  st : TState
  crcRun : Nat
  /-- It has taken a LOAD since it started (R124). -/
  loaded : Bool
  deriving DecidableEq, Repr

/-- A towpath probe (04). -/
structure Probe where
  cfg : ProbeCfg
  cnt : Tab Nat
  ovf : BitVec 13
  carry : BitVec 13
  busy : Tab Nat
  stall : Tab Nat
  tallyEdges : Nat
  /-- The length exponent of the tally interval in progress (R154). -/
  tallyCur : Nat
  inflight : List Flight
  edge : Nat
  lastEdgeTs : Nat
  prevEdgeTs : Nat
  /-- The epoch, partition and time state in force at the last HCLK edge (R185). -/
  edgeEpoch : BitVec 16
  edgePart : BitVec 2
  edgeSt : TState
  evt : BitVec 64
  curCharter : BitVec 4
  curPriv : Bool
  lfsr : BitVec 32
  tagged : List Tagged
  countdown : Nat
  due : Option (PaiCmd × Nat × Nat × Nat × Bool)
  layers : List LayerRec
  /-- Layer of the previous issued command of each charter plus 1; 0 none yet. -/
  curLayer : Tab Nat
  /-- Counter writes and OVF clears that wait for the next edge, and what they replaced at the last edge (R160). -/
  wr : Tab Nat
  clr : BitVec 13
  was : Tab Nat
  wasOvf : BitVec 13
  windows : Tab EvtWin
  ev : EdgeEv
  stretch : Bool
  stretchReported : Nat
  stretchEdge : Nat
  haltTs : Option Nat
  hrst : Bool
  up : Bool
  disabled : Bool
  disabledTs : Nat
  /-- The owners that had an enabled stream at the disable (R190). -/
  disabledFor : List Nat
  /-- Its supply was taken away by the host, without the lock-keeper (R97, R538). -/
  cut : Bool
  markTs : Nat
  invariant : Bool
  /-- The invariant's base: CYC's growth times W and the slot counters' growth since the re-base (R152). -/
  refCyc : Nat
  refSlots : Nat
  invEdges : Nat
  replica : Replica
  shadow : Shadow
  snapReq : List SnapReq
  copying : List SnapReq
  lastPeriodic : Nat
  frameSnapAt : Option Nat
  raises : List (Nat × Nat)
  fatalSeen : Bool
  railSeen : Bool
  tclkLost : Bool
  deriving DecidableEq, Repr

/-- A drop at a source waiting for its loss token (R219). -/
structure Loss where
  owner : Nat
  cls : Nat
  words : Nat
  ts : Nat
  epoch : BitVec 16
  part : BitVec 2
  dropAt : Nat
  deriving DecidableEq, Repr

/-- A stream (R101, R183): one source for one owner. -/
structure Stream where
  active : Bool
  lastSync : Nat
  since : Nat
  resync : Bool
  /-- The stream has still to show a change of epoch, partition or time state with a TIME_SYNC (R185): a probe shows it at
  its next HCLK edge, or before its first record of a later instant. -/
  owe : Bool
  /-- Held at the canal until its mark is written (R216), and whether that mark is the owner's overflow mark (R217). -/
  held : Bool
  heldOv : Bool
  /-- Seen active by the canal; the instant in qt of its last record or loss token; the timestamp of its last delivered
  record (R190, R220). -/
  seen : Bool
  lastDeliv : Nat
  lastTs : Nat
  /-- The canal saw idle = 1, a halt or a power-state gap (R188). -/
  explained : Bool
  deriving DecidableEq, Repr

/-- A weir accumulator (R217, R218). `lost` is the lost source, 255 for several. -/
structure Weir where
  owner : Nat
  lost : Nat
  cause : Nat
  first : Nat
  last : Nat
  words : Nat
  n1 : Nat
  n2 : Nat
  n3 : Nat
  epoch : BitVec 16
  part : BitVec 2
  lseq : Nat
  flags : BitVec 8
  lastAt : Nat
  deriving DecidableEq, Repr

/-- Sources, pounds and spine, weir engine (05, 06). -/
structure Canal where
  q : Tab (List Rec)
  /-- The input FIFO of each probe at its pound (R205). -/
  pound : Tab (List Rec)
  streams : Tab Stream
  losses : Tab (List Loss)
  /-- Round-robin: the last probe each pound served (key k), the last source of each block port (8, 9), the last
  requester of each channel (10, 11). -/
  rr : Tab Nat
  /-- WRR credit left of each requester (pound k: k; block port b: 8 + b). -/
  credit : Tab Nat
  weights : Tab Nat
  acc : List Weir
  closed : List Weir
  lastMarkAt : Nat
  deriving DecidableEq, Repr

/-- A basin cell (R212): bank, index in the bank, its records not yet taken, and the words ever written. -/
structure Cell where
  bank : Nat
  idx : Nat
  recs : List Rec
  used : Nat
  order : Bool
  deriving DecidableEq, Repr

/-- The basins (R210 to R215). -/
structure Basins where
  /-- Owner of each unit; 31 a free unit. -/
  owner : Tab Nat
  leaving : List Nat
  quota : Tab Nat
  /-- The units of the headrooms: two of the priority headroom, two of the order headroom. -/
  head : List Nat
  charterQ : Tab (List Cell)
  prioQ : Tab (List Cell)
  /-- Cells the sluice has read and a BASIN op has not (R285): owner, cell. -/
  kept : List (Nat × Cell)
  deriving DecidableEq, Repr

/-- An open lighter (R223). -/
structure OpenL where
  channel : Nat
  body : List W64
  count : Nat
  /-- The anchor's timestamp, and its instant. -/
  anchor : Nat
  openAt : Nat
  epoch : BitVec 16
  part : BitVec 2
  st : TState
  poisoned : Bool
  /-- The ring in force when it was opened (R397). -/
  base : Nat
  log2 : Nat
  /-- Its records, for LIGHTER_LOST (R190). -/
  recs : List Loss
  deriving DecidableEq, Repr

/-- An owner's export (R224, R225). -/
structure Export where
  dram : Bool
  stp : Bool
  weight : Nat
  base : Nat
  log2 : Nat
  seq : Nat
  widx : Nat
  lastGen : BitVec 8
  doneSeqs : List Nat
  /-- The sequences of the lighters of the ring that are not behind the write index (R225). -/
  ring : List Nat
  openL : Option OpenL
  deriving DecidableEq, Repr

/-- What a manager request is for. -/
inductive Purpose where
  | lighter (owner seq gen : Nat) (recs : List Loss)
  | ledger (owner : Nat)
  | dump (slot : Nat)
  | result (owner : Nat)
  | health
  | staged (owner : Nat)
  | tableWr (owner tap : Nat)
  | tableRd (owner tap : Nat)
  | image (job : Nat)
  | recv (ring : Nat)
  | page (slot : Nat)
  deriving DecidableEq, Repr

/-- A manager-port request (R72); `data` is the write data, `psn` the poisoned lines of it. -/
structure MReq where
  write : Bool
  tag : Nat
  line : Nat
  nl : Nat
  owner : Nat
  prio : Nat
  why : Purpose
  data : List W64
  /-- MWD_BMASK of its lines; empty: every byte. -/
  mask : List W64
  psn : List Nat
  got : List (BitVec 512 × Bool)
  deriving DecidableEq, Repr

/-- A line of write data (R71): MWD_TAG, MWD_DATA, MWD_BMASK, MWD_END, MWD_PSN. -/
structure WBeat where
  tag : Nat
  data : BitVec 512
  bmask : W64
  last : Bool
  psn : Bool
  deriving DecidableEq, Repr

/-- The manager port (R71, R72, R227, R228). -/
structure Mgr where
  cap : Nat
  share : Nat
  prioS : Nat
  prioO : Nat
  flush : Nat
  reqCredits : Nat
  wdCredits : Nat
  wait : List MReq
  out : List MReq
  /-- Lines of write data still to send, in request order. -/
  beats : List WBeat
  /-- (subwindow, bytes, sluice) of the requests issued inside the window of R227. -/
  window : List (Nat × Nat × Bool)
  /-- Reads whose last line has come and whose consumer has not taken them. -/
  ready : List MReq
  deriving DecidableEq, Repr

/-- The ledger's states (R397). -/
inductive LState where
  | armed | post | frozen | seald
  deriving DecidableEq, Repr

/-- A record in the ledger; erased ones are PAD (R241). `at_` says where it lies: bank, first byte, bytes. -/
structure LRec where
  owner : Nat
  cls : Nat
  ts : Nat
  words : List W64
  erased : Bool
  post : Bool
  at_ : List (Nat × Nat × Nat)
  deriving DecidableEq, Repr

/-- The seal block (R236). -/
structure Seal where
  freeze : BitVec 32
  trig : Nat
  t0 : Nat
  epoch : BitVec 16
  before : Nat
  after : Nat
  digests : Tab W256
  erased : BitVec 17
  mac : W256
  deriving DecidableEq, Repr

/-- LEDGER_SET (R231, R232). -/
structure LedgerCfg where
  cmask : Tab (BitVec 4)
  post : Nat
  limit : Nat
  permit : BitVec 16
  deriving DecidableEq, Repr

/-- The ledger. -/
structure Ledger where
  st : LState
  cfg : LedgerCfg
  next : Option LedgerCfg
  recs : List LRec
  /-- Bytes written since the ledger was armed: the write pointer is this modulo the capacity. -/
  bytes : Nat
  postBytes : Nat
  capacity : Nat
  t0 : Nat
  t0At : Nat
  epoch0 : BitVec 16
  trig : Nat
  n : Nat
  lastTrigAt : Option Nat
  /-- A trigger waits for its record (R208, R221): trig, fault code, ignored, timestamp. -/
  owed : Option (Nat × Nat × Bool × Nat)
  /-- The LEDGER_TRIGGER record of the trigger instant is in the ledger (R232). -/
  trigIn : Bool
  freezeNo : BitVec 32
  sealBlk : Option Seal
  /-- The read-out number of each owner's next LEDGER_READ (R238). -/
  readNext : Tab Nat
  /-- LEDGER_READs running: owner, seq, slot, pages of the owner, pages written, freeze number. -/
  jobs : List (Nat × BitVec 8 × Nat × Nat × Nat × Nat)
  summaryPending : Bool
  summaryLost : Bool
  truncated : Bool
  deriving DecidableEq, Repr

/-- A reply slot (R378, R379): the slot's words 1 to 255 as last written. -/
structure Slot where
  posts : BitVec 16
  pending : Bool
  full : Bool
  words : List W32
  deriving DecidableEq, Repr

/-- A command and reply aperture (R376, R526). -/
structure Apt where
  buf : List W32
  closed : Bool
  seq : BitVec 8
  op : BitVec 8
  discards : Nat
  s0 : Slot
  s1 : Slot
  s2 : Slot
  s3 : Slot
  deriving DecidableEq, Repr

/-- What a held action does at its instant (R391): the packet's body runs again with no instant. -/
structure Held where
  op : Nat
  pk : Pkt
  /-- The completion slot, or 0 when the reply of slot 0 waits for the application. -/
  slot : Nat
  instant : Nat
  epoch : BitVec 16
  uncertain : Bool
  deriving DecidableEq, Repr

/-- A long opcode running (R389): its opcode, aperture, seq, slot, and up to four numbers of its own. -/
structure Job where
  op : Nat
  owner : Nat
  seq : BitVec 8
  slot : Nat
  a : Nat
  b : Nat
  c : Nat
  startAt : Nat
  deriving DecidableEq, Repr

/-- A counter write whose reply waits for the application (R140): the packet, its completion slot or 0, and whether it
answers TIME_UNCERTAIN. -/
structure Applying where
  op : Nat
  pk : Pkt
  slot : Nat
  un : Bool
  deriving DecidableEq, Repr

/-- Esluac (11). `waiting` holds packets launched while the block sleeps (R356). -/
structure Esl where
  apt : Tab Apt
  held : List Held
  jobs : List Job
  waiting : List (Nat × Pkt)
  /-- SNAP_TRIGGER writes that wait for the reply of an earlier packet on one of their probes (R516): owner, the set, the
  word written. -/
  deferred : List (Nat × BitVec 128 × W32)
  /-- Counter writes that wait for their edge, with their reply (R140). -/
  applying : List Applying
  idMode : BitVec 17
  marker : BitVec 17
  deriving DecidableEq, Repr

/-- The state of a key slot (R417). `dead`: out of use after a failed zeroisation (R419). -/
inductive KState where
  | free | current | next | retiring | dead
  deriving DecidableEq, Repr

/-- A key slot: 0 memory, 1 model, 2 link. -/
structure KeySlot where
  st : KState
  key : W256
  owner : Nat
  kind : Nat
  link : Nat
  deriving DecidableEq, Repr

/-- A turnover (R431): the charter, who asked, its completion slot, its T0, and the steps done; before `begun` it waits for
the charter's earlier packets (R393). -/
structure Turnover where
  charter : Nat
  by_ : Nat
  seq : BitVec 8
  slot : Nat
  begun : Bool
  t0At : Nat
  /-- The scrub has started. -/
  scrub : Bool
  deriving DecidableEq, Repr

/-- Charters, keys (12). -/
structure Chart where
  st : Tab ChState
  turnover : Option Turnover
  keygen : Tab Nat
  kek : Tab (Option W256)
  slots : Tab KeySlot
  deriving DecidableEq, Repr

/-- An entry of the fault queue (R467, R534). -/
structure FEntry where
  code : Nat
  unit : Nat
  cls : Nat
  escalated : Bool
  fatal : Bool
  detail : BitVec 32
  order : Nat
  /-- The order of its latest raise (R469). -/
  last : Nat
  deriving DecidableEq, Repr

/-- A raise waiting for its class (R467). -/
structure Pend where
  code : Nat
  unit : Nat
  detail : BitVec 32
  /-- Class given by a tap setting (R248, R249); otherwise the class table. -/
  cls : Option Nat
  ts : Nat
  rAt : Nat
  /-- The command that raised it raises it on the fatal or the hardware-classified path. -/
  fatal : Bool
  fixed3 : Bool
  deriving DecidableEq, Repr

/-- The fault collector (14). -/
structure Fc where
  slots : Tab FEntry
  ninth : Option FEntry
  order : Nat
  /-- Raises of each (code, unit) since PORST_N. -/
  counts : Tab Nat
  pend : List Pend
  /-- The instant of the last FAULT record (R221). -/
  lastRecAt : Option Nat
  /-- FAULT records that wait for the rate of R221 or for room (R208): key, record; further raises of a key are merged into
  its own (R464). -/
  owed : List (Nat × Rec)
  ledgerOn : List Nat
  irqOn : List Nat
  tested : Bool
  selfFail : Bool
  refLost : Bool
  hb : Bool
  hbAt : Nat
  /-- Conditions that last, as keys code * 65536 + unit (R470). -/
  persist : List Nat
  r1 : Nat
  r2 : Nat
  r3 : Nat
  healthOn : Bool
  healthIrq : Bool
  healthAddr : Nat
  healthNo : Nat
  /-- The sum of the global ROWS_MISMATCH counters at the last frame start. -/
  healthMm : Nat
  deriving DecidableEq, Repr

/-- The lock-keeper (10). -/
structure LkPolicy where
  depth : Power
  guard : Nat
  thrMoored : Nat
  thrLaid : Nat
  coresIdleOff : Bool
  pswGap : Nat
  pswTimeout : Nat
  coolant : Nat
  deriving DecidableEq, Repr

/-- A host domain's change in hand (R360 to R362). -/
structure HostDom where
  req : Bool
  ack : Bool
  /-- The instant of the open handshake's PSW_REQ edge. -/
  openAt : Option Nat
  timedOut : Bool
  /-- The change has started (R361 step 1), at `startAt`; its PSW_REQ edge is next. -/
  snapped : Bool
  startAt : Nat
  /-- A change decided and not yet begun: on or off, with its reason. -/
  due : Option (Bool × Nat)
  /-- A contrary request that waits for the handshake to close. -/
  later : Option (Bool × Nat)
  reason : Nat
  /-- Shed by the envelope: only the harbourmaster switches it on again (R369). -/
  shed : Bool
  deriving DecidableEq, Repr

/-- A DOMAIN_SET waiting for its handshakes (R402): owner, seq, slot, mask, on, timeouts so far, and whether it ended a
time-uncertain wait (R121, R391). -/
structure DomJob where
  owner : Nat
  seq : BitVec 8
  slot : Nat
  mask : BitVec 72
  on : Bool
  timeouts : BitVec 72
  un : Bool
  deriving DecidableEq, Repr

/-- One copy of the envelope loop (R368): the bucket in uJ, the level, the count of low loops. -/
structure EnvCopy where
  bucket : Rat
  level : Nat
  low : Nat
  deriving DecidableEq, Repr

/-- The envelope (R364 to R371). Powers in 0.25 W unless said otherwise. -/
structure Env where
  pCont : Nat
  pBurst : Nat
  tBurst : Nat
  fallback : Nat
  shed : List Nat
  /-- Latest sample of each channel: power in 2 mW, current in 4 mA, its instant. -/
  latest : Tab (Nat × Nat × Nat)
  a : EnvCopy
  b : EnvCopy
  pInst : Nat
  /-- p_cont_eff in 0.25 W, rounded down (log 9), and exactly as a rational number of watts. -/
  pEff : Rat
  burst : Bool
  lost : BitVec 8
  highRun : Nat
  overrun : Bool
  lastShedAt : Nat
  lastOverAt : Nat
  lead : Nat
  tKnee : Int
  tMax : Int
  pMin : Nat
  tNoBurst : Int
  tStale : Int
  report : Option (Int × Int × Nat)
  reportAt : Nat
  reportLost : Bool
  /-- Temperature record of the coolant site for the Survey (R326). -/
  thr : Nat
  thrMax : Nat
  lastLoopAt : Nat
  deriving DecidableEq, Repr

/-- A frame plan step (R373). -/
structure PlanStep where
  offset : Int
  action : Nat
  taps : BitVec 4
  mask : BitVec 72
  deriving DecidableEq, Repr

/-- Frame timing (R372 to R374). -/
structure Frame where
  lastUsed : Option Nat
  lastEdge : Option Nat
  intervals : List Nat
  usable : Nat
  schedule : Option (Nat × Nat)
  lastStart : Nat
  plan : List PlanStep
  nextPlan : Option (List PlanStep)
  /-- Plan steps to run: their instant and the step. -/
  due : List (Nat × PlanStep)
  /-- The instant of the predicted edge, without a schedule. -/
  predicted : Option Nat
  missed : Nat
  ignored : List Nat
  noiseOpen : Bool
  gated : BitVec 4
  deriving DecidableEq, Repr

/-- An owner's window registers (R522 to R529). -/
structure Latch where
  cvt : BitVec 96
  epoch : BitVec 16
  st : TState
  part : BitVec 2
  coarse : Bool
  deriving DecidableEq, Repr

structure SnapWin where
  set : BitVec 128
  pendingP : BitVec 128
  pending : Bool
  rejected : Bool
  merged : Bool
  skipped : Bool
  snapNo : BitVec 16
  lowest : Nat
  deriving DecidableEq, Repr

structure Win where
  irqStatus : Tab (BitVec 32)
  irqEnable : Tab (BitVec 32)
  ovfProbe : Tab (BitVec 128)
  eccOvf : BitVec 64
  latch : Tab Latch
  snap : Tab SnapWin
  staleKey : Tab Nat
  blockAuth : Tab Nat
  deriving DecidableEq, Repr

/-- A stored word that is not plain (R441, R459): data, check bits, valid and poison. -/
structure EccWord where
  data : BitVec 128
  check : BitVec 9
  valid : Bool
  poison : Bool
  deriving DecidableEq, Repr

/-- A suspect (R451): word, corrections, powered AON cycles of the first. -/
structure Suspect where
  word : Nat
  count : Nat
  first : Nat
  deriving DecidableEq, Repr

/-- A merge-buffer entry (R443): word, byte mask, its first write; the bytes are with the memory's user (log 12). -/
structure Merge where
  word : Nat
  mask : BitVec 16
  atNs : Nat
  deriving DecidableEq, Repr

/-- One bank, or one copy of bank 32 (R447 to R453, R535). -/
structure Bank where
  ce : Nat
  ue : Nat
  bucket : Nat
  leakAt : Nat
  spares : Nat
  failed : Bool
  exhausted : Bool
  suspects : List Suspect
  migrating : Option Nat
  merge : List Merge
  pos : Nat
  /-- Words that the patrol passed over for an open merge entry (R449). -/
  again : List Nat
  passNo : Nat
  passAt : Nat
  selfFails : Nat
  /-- (row, instant) of recent uncorrectable words (R453). -/
  ueRows : List (Nat × Nat)
  /-- Written in check-bit test mode (R459). -/
  touched : Bool
  deriving DecidableEq, Repr

/-- A soft-spare map entry (R455): 0 row, 1 failed bank, 2 removed core; bank (or core), row, spare, fused. -/
structure MapEntry where
  kind : Nat
  bank : Nat
  row : Nat
  spare : Nat
  fused : Bool
  deriving DecidableEq, Repr

structure Cbt where
  bank : Nat
  copy : Bool
  word : Nat
  lo : W64
  hi : W64
  check : BitVec 9
  syndrome : BitVec 9
  result : Nat
  valid : Bool
  poison : Bool
  error : Bool
  deriving DecidableEq, Repr

structure Ecc where
  /-- Keyed bank * 2^25 + copy * 2^24 + word. -/
  word : Tab EccWord
  /-- Keyed 2 * bank + copy. -/
  bank : Tab Bank
  passHours : Nat
  map : List MapEntry
  cbt : Cbt
  /-- The bank table and the map as they stood at the entry to TEST (R459). -/
  testBank : Tab Bank
  testMap : List MapEntry
  deriving DecidableEq, Repr

/-- An update in progress (R500): kind, index, total, the bytes received, and how many are in scratch. -/
structure Update where
  kind : Nat
  index : Nat
  total : Nat
  bytes : List Byte
  programmed : Nat
  deriving DecidableEq, Repr

/-- The read modes of R88: 1-1-1, 1-1-4, 1-4-4. -/
inductive Flash where
  | one | quadOut | quad
  deriving DecidableEq, Repr

/-- The Logbook (R494). Regions are byte strings as written; an empty one is absent. -/
structure Logbook where
  present : Bool
  /-- Instants of recent failed accesses, and LOGBOOK_UNAVAILABLE open. -/
  fails : List Nat
  down : Bool
  firmware : List Byte
  settings : List Byte
  calibration : List Byte
  spareMap : List MapEntry
  mapSealed : Bool
  images : Tab (List Byte)
  dirGen : Nat
  journal : Tab (List Byte)
  journalNext : Nat
  journalFirst : List Byte
  ckptA : List Byte
  ckptB : List Byte
  ckptNext : Bool
  summaries : Tab (List Byte)
  summaryNext : Nat
  /-- The SFDP table as COLD_START read it, and the read mode chosen from it (R88). -/
  sfdp : List Byte
  flash : Flash
  /-- Lane asymmetry constants stored, by 2 * peer slot + lane (R77, R130). -/
  asym : Tab (Option Int)
  update : Option Update
  deriving DecidableEq, Repr

/-- An STP lane (R510, R511). -/
structure StpLane where
  up : Bool
  /-- DOWN, training, idling, UP: 0 to 3. -/
  st : Nat
  since : Nat
  ctr : Nat
  pauseUntil : Option Nat
  /-- The last control word sent (R509): IDLE, SOF, ABORT or TRAIN. -/
  word : W64
  deriving DecidableEq, Repr

/-- The button (R505). -/
inductive Button where
  | released | pressed | held | stuck
  deriving DecidableEq, Repr

/-- The service port (R504 to R512). -/
structure Svc where
  present : Bool
  streaming : Bool
  autoOn : Bool
  stpAuto : Bool
  button : Button
  pressAt : Nat
  pressTs : Nat
  presses : Nat
  stuck : Bool
  noise : Bool
  noisyRun : Nat
  quietRun : Nat
  limiting : Bool
  lastAct : Option Nat
  dropped : Nat
  shortDue : Option Nat
  lane0 : StpLane
  lane1 : StpLane
  /-- The STP buffer of R226: lighters as word lists with their owner. -/
  buf : List (Nat × List W64)
  missed : Nat
  next : Bool
  /-- The last frame sent: its lane, and its words with STP_TXC of each, the SOF and 515 data words (R511). -/
  sent : Option (Bool × List (Bool × W64))
  deriving DecidableEq, Repr

/-- An element or lane value: exact, with the sign of a zero (R242, R298). -/
inductive FVal where
  | nan
  | inf (neg : Bool)
  | fin (q : Rat) (negZero : Bool)
  deriving DecidableEq, Repr

/-- Safety settings of a tap for an owner (R248). `qfmt` 15 is NONE. -/
structure Safety where
  enable : Bool
  qfmt : BitVec 4
  asym : Bool
  rtz : Bool
  tol : Nat
  zpTol : Nat
  mmClass : Nat
  excMax : Nat
  ledger : Bool
  deriving DecidableEq, Repr

/-- Measurement settings (R249). -/
structure Measure where
  rowRec : Bool
  hist : Bool
  histLo : Int
  table : Bool
  k : Nat
  tSat : Nat
  tZero : Nat
  nMin : Nat
  actions : BitVec 4
  fclass : Nat
  deriving DecidableEq, Repr

/-- A scale-table entry (R260), floating-point fields as FP32 bits. -/
structure Entry where
  tid : BitVec 16
  valid : Bool
  delayed : Bool
  hlen : Nat
  margin : Nat
  count : Nat
  upd : BitVec 32
  fcScale : BitVec 32
  prevScale : BitVec 32
  fcAbsmax : BitVec 32
  lastAbsmax : BitVec 32
  hist : List (BitVec 32)
  deriving DecidableEq, Repr

/-- The open row of an instance: its values and its bytes in arrival order. -/
structure RowSt where
  idx : BitVec 24
  partRow : Bool
  elems : List FVal
  bytes : List Byte
  hs : Option (BitVec 32 × BitVec 16)
  upset : Bool
  short : Bool
  deriving DecidableEq, Repr

/-- A closed row that waits for its scale-table entry (R264): row, host scale, zero point, own shadow scale and zero
point, flat. -/
structure RowWait where
  idx : BitVec 24
  hscale : BitVec 32
  hzp : BitVec 16
  shadow : BitVec 32
  zp : Int
  flat : Bool
  deriving DecidableEq, Repr

/-- The state of an instance's scale-table fetch. -/
inductive Fetch where
  | notAsked | asked | found (e : Entry) | missing
  deriving DecidableEq, Repr

/-- An open tensor instance (R245). -/
structure Inst where
  tid : BitVec 16
  owner : Nat
  fmt : BitVec 4
  wgt : Bool
  mx : Bool
  saf : Safety
  mea : Measure
  measured : Bool
  /-- Opened without TAP_SOT: closes incomplete. -/
  headless : Bool
  anchor : Nat
  epoch : BitVec 16
  part : BitVec 2
  rows : Nat
  lastRow : BitVec 24
  absmax : Rat
  lo : Option Rat
  hi : Option Rat
  hist : Tab Nat
  nSat : Nat
  nZero : Nat
  elems : Nat
  row : Option RowSt
  fetch : Fetch
  waits : List RowWait
  firstScale : Option (BitVec 32)
  kinds : BitVec 3
  rescaled : Bool
  mmRaised : Bool
  proto : Bool
  reserved : Nat
  /-- Closed, and whether complete; such an instance waits for its entry only. -/
  closed : Option Bool
  /-- Its write-back is queued. -/
  backQ : Bool
  deriving DecidableEq, Repr

/-- A watch slot's configuration (R268). -/
structure WatchCfg where
  taps : BitVec 4
  trigger : Nat
  rowtab : Bool
  log2 : Nat
  tid : BitVec 16
  mask : BitVec 16
  n : Nat
  first : BitVec 24
  last : BitVec 24
  base : Nat
  deriving DecidableEq, Repr

/-- A running dump: its number, the bytes not yet in a staged block and the stream offsets of kinds 0, 1 and 2, the blocks
staged, the slot's block count at its start, and the bytes and complete rows of kind 0. -/
structure Dump where
  no : Nat
  tap : Nat
  tid : BitVec 16
  fmt : BitVec 4
  mx : Bool
  anchor : Nat
  epoch : BitVec 16
  part : BitVec 2
  b0 : List Byte
  b1 : List Byte
  b2 : List Byte
  o0 : Nat
  o1 : Nat
  o2 : Nat
  index : Nat
  firstBlock : Nat
  bytes : Nat
  rows : Nat
  deriving DecidableEq, Repr

/-- A dump that has ended: its TENSOR_DUMP record waits for its last block to drain (R272). -/
structure DumpEnd where
  slot : Nat
  owner : Nat
  no : Nat
  tid : BitVec 16
  tap : Nat
  addr : Nat
  incomplete : Bool
  poisoned : Bool
  bytes : Nat
  rows : Nat
  deriving DecidableEq, Repr

/-- A watch slot (R268). -/
structure Watch where
  owner : Nat
  cfg : WatchCfg
  armed : Bool
  left : Nat
  seen : Nat
  blocks : Nat
  run : Option Dump
  deriving DecidableEq, Repr

/-- A staged dump block (R270, R272): its place in the buffer, slot, owner, address, header words 0 to 4, body. -/
structure Staged where
  pos : Nat
  slot : Nat
  owner : Nat
  addr : Nat
  h : List W64
  dumpNo : Nat
  block : Nat
  body : List Byte
  deriving DecidableEq, Repr

/-- A table operation (R262): a fetch for a tap's instance, a write-back of an instance's absmax, or a commanded entry. -/
inductive TabOp where
  | fetch (tap owner : Nat) (tid : BitVec 16)
  | back (tap owner : Nat) (tid : BitVec 16) (absmax : BitVec 32) (qfmt : BitVec 4) (rtz : Bool)
  | entry (owner : Nat) (e : Entry)
  deriving DecidableEq, Repr

/-- A tap's front-end. -/
structure Tap where
  inst : Option Inst
  off : Bool
  pathFails : List Nat
  lastMm : Option Nat
  req : Bool
  reqTid : BitVec 16
  /-- Closed instances whose entry has not arrived. -/
  late : List Inst
  deriving DecidableEq, Repr

/-- The assay (07). `safety`, `measure` keyed tap * 32 + owner; `cnt` keyed (tap * 32 + owner) * 8 + k. -/
structure Assay where
  safety : Tab Safety
  measure : Tab Measure
  cnt : Tab Nat
  gmm : Tab Nat
  taps : Tab Tap
  base : Tab Nat
  engine : List TabOp
  /-- The head of the queue waits for its read. -/
  busy : Bool
  /-- A commanded entry's or a write-back's write is outstanding. -/
  writing : Bool
  slots : Tab Watch
  staging : List Staged
  /-- Excursions reported that an EXCURSION slot waits to dump: slot, tensor ID, tap (R268). -/
  excursed : List (Nat × BitVec 16 × Nat)
  /-- The next dump number of each slot and owner, keyed slot * 32 + owner (R271). -/
  dumpNo : Tab Nat
  ending : List DumpEnd
  deriving DecidableEq, Repr

/-- A loaded image (R317). -/
structure Loaded where
  itin : Bool
  plain : List Byte
  wOff : Nat
  wBytes : Nat
  steps : Nat
  units : List Nat
  digest : W256
  streamed : Bool
  stageBase : Nat
  loadNo : Nat
  gen : Nat
  modelId : BitVec 32
  /-- Format of the weight section (R316). -/
  wfmt : Nat
  /-- Unloaded while the running op uses it: it goes when that op ends (R317). -/
  going : Bool
  deriving DecidableEq, Repr

/-- A record of an input, with its poison mark, and the basin cell it lies in plus 1 (R285; 0 none). -/
structure RingRec where
  words : List W64
  bad : Bool
  cell : Nat
  deriving DecidableEq, Repr

/-- An input of an op: the records taken with the logical index of the core each went to, and what it has lost. They stay
until the op ends, so that a second run or a re-execution receives them again (R308, R311). -/
structure Input where
  recs : List (Nat × RingRec)
  delivered : Nat
  lost : Nat
  unknown : Bool
  firstTs : Option Nat
  deriving DecidableEq, Repr

/-- An op instance (R288): owner, sequence number, descriptor and parameters, ready time (ns) and instant, and the
completion slot with its seq, 0 when it reports by record only. -/
structure OpInst where
  owner : Nat
  seq : BitVec 32
  desc : List W32
  readyTs : Nat
  readyAt : Nat
  slot : Nat
  pseq : BitVec 8
  i0 : Input
  i1 : Input
  /-- Made by Survey (R329): 0 no, 1 STRESS_HOURS, 2 EM_INTEGRAL, 3 RAINFLOW, 4 WEAR_PREDICT at a journal entry, 5 for
  SURVEY_PREDICT. -/
  survey : Nat
  deriving DecidableEq, Repr

/-- A standing op (R288, R290). -/
structure Standing where
  owner : Nat
  seq : BitVec 32
  desc : List W32
  first : Bool
  slot : Nat
  pseq : BitVec 8
  nextTs : Nat
  /-- The sequence number of its latest instance. -/
  cur : Option (BitVec 32)
  i0 : Input
  i1 : Input
  deriving DecidableEq, Repr

/-- A core (R303). `poison` marks V0 to V31, S, A and M registers in bits 0, 32, 48, 52; `psn` the 16-byte words of its
local memory that hold poison stored by the op (the state region from word 24,576); `pos` the records received of
inputs 0 and 1; `stepAt` when it last retired a step. -/
structure Core where
  v : Tab (BitVec 2048)
  sr : Tab W64
  acc : Tab (BitVec 32)
  m : Tab (BitVec 256)
  poison : BitVec 56
  work : Tab Byte
  store : Tab Byte
  psn : List Nat
  pos : Tab Nat
  pc : Nat
  loops : List (Nat × Nat)
  halted : Bool
  /-- At a BAR, XCHG or ALLRED it waits for the others. -/
  waiting : Bool
  stepAt : Nat
  deriving DecidableEq, Repr

/-- The result of one run of a duplicated op (R308). -/
structure RunResult where
  w2 : W64
  w3 : W64
  outs : Tab (List Byte)
  sat : Bool
  deriving DecidableEq, Repr

/-- The running op. `cores` lists the core of each logical index; `outs` the bytes each logical index has appended to the
result stream; `stores` the state of each logical index as a duplicated op found it (R309). -/
structure Running where
  op : OpInst
  cores : List Nat
  attempt : Nat
  startAt : Nat
  /-- When the op was first started: a STREAM window counts from it (R290). -/
  capFrom : Nat
  w2 : W64
  w3 : W64
  outs : Tab (List Byte)
  /-- Pieces of 256 bytes of the result stream that are poisoned: logical index, piece. -/
  outBad : List (Nat × Nat)
  poison : Bool
  sat : Bool
  streamed : Bool
  /-- The op has stopped: its status, and the failing step (R307). -/
  failed : Option (BitVec 8 × Nat)
  /-- The second run of a duplicated op is under way: the result of the first (R308). -/
  firstRun : Option RunResult
  dup : Bool
  dupFails : Nat
  stores : Tab (Tab Byte)
  /-- Sealed blocks of the DRAM inputs opened in this attempt (R422): input, address, bytes delivered, poisoned. -/
  opened : List (Nat × Nat × List Byte × Bool)
  /-- Result blocks written in this attempt (R292, R307, R311). -/
  wrote : Nat
  deriving DecidableEq, Repr

/-- A load in hand (R317): model or itinerary, owner, seq, completion slot, source, address and bytes, STREAMED staging
base and blocks. -/
structure Load where
  id : Nat
  itin : Bool
  owner : Nat
  seq : BitVec 8
  slot : Nat
  src : Bool
  addr : Nat
  bytes : Nat
  streamed : Bool
  stageBase : Nat
  blocks : Nat
  deriving DecidableEq, Repr

/-- An owner's allotment (R279, R288). -/
structure Allot where
  st : Nat
  model : Nat
  limit : Nat
  stage : Bool
  dup : Bool
  deriving DecidableEq, Repr

/-- The Counting House (08). -/
structure Ch where
  online : BitVec 16
  removed : Nat
  domOn : BitVec 16
  idleAt : Nat
  allot : Tab Allot
  /-- Owner of each state unit and model-store unit; 31 free. -/
  stUnit : Tab Nat
  mdUnit : Tab Nat
  /-- Model-store units that failed with their bank (R453). -/
  lostUnits : List Nat
  queue : List OpInst
  standing : List Standing
  run : Option Running
  seq : Tab (BitVec 32)
  /-- The owner's sequence numbers have wrapped under the key generation (R296). -/
  seqOut : Tab Bool
  loadNo : Tab Nat
  cores : Tab Core
  /-- Keyed owner * 32 + slot. -/
  slots : Tab Loaded
  loads : List Load
  nextLoad : Nat
  residue : Tab Nat
  testAt : Tab Nat
  deriving DecidableEq, Repr

/-- Accumulators of the survey store (R327). -/
structure Accum where
  /-- Keyed zone * 64 + bin. -/
  hist : Tab Nat
  /-- Turning-point queues by sensor, 32 the coolant series. -/
  tp : Tab (List (BitVec 16))
  /-- Keyed rail * 16 + band. -/
  em : Tab Nat
  railP : Tab Nat
  railI : Tab Nat
  railN : Tab Nat
  deriving DecidableEq, Repr

/-- The totals (R333), FP64. -/
structure Totals where
  sHours : Tab W64
  cyc : Tab W64
  eHours : Tab W64
  h : W64
  deriving DecidableEq, Repr

/-- Latest output values (R338): value, lower, upper FP32, eol, journal entry. -/
structure Latest where
  value : W32
  lower : W32
  upper : W32
  eol : BitVec 48
  entry : BitVec 32
  deriving DecidableEq, Repr

/-- What a journal entry leaves for growth and RUL (R336, R337): hours, CVT seconds, whether it serves for duty, W_phys
keyed mechanism * 64 + site, and S and drift by zone. -/
structure Past where
  h : W64
  sec : Nat
  duty : Bool
  w : Tab W64
  s : Tab W64
  d : Tab W64
  deriving DecidableEq, Repr

/-- Survey (09). -/
structure Survey where
  failRun : Tab Nat
  failed : BitVec 128
  /-- The payload of the calibration set that the Survey uses since its last tick or start-up (R334, R502). -/
  consts : List Byte
  live : Accum
  shadow : Option Accum
  /-- Increments of the shadow bank still to be added: 1 stress, 2 EM, 3 cycles (R329). -/
  left : List Nat
  /-- The last temperature of each zone, the turning direction and the extreme of its queue. -/
  temp : Tab (BitVec 16)
  dir : Tab (Nat × Int)
  tickAt : Nat
  lastScanAt : Nat
  /-- The two copies of the totals (R333). -/
  totals : Totals
  mirror : Totals
  monitors : Tab (BitVec 16)
  /-- The sum and the number of a monitor's deficits since the last journal entry (R340). -/
  monSum : Tab (Nat × Nat)
  gap : BitVec 64
  subst : BitVec 64
  coolantStale : Bool
  keeperPath : Bool
  restored : Bool
  period : Nat
  advUpper : W32
  advYears : W32
  warnUpper : W32
  warnYears : W32
  /-- Keyed site * 16 + kind. -/
  latest : Tab Latest
  entryNo : Nat
  lostS : Nat
  /-- History for growth and RUL, newest first. -/
  past : List Past
  advisory : BitVec 256
  warning : BitVec 256
  entryAt : Nat
  ckptAt : Nat
  /-- Offsets of thermal sensors in 1/128 degree and zero points of monitors (R343). -/
  thermOff : Tab Int
  monZero : Tab (BitVec 16)
  /-- Since when every host domain is off, and the coolant reports of the last 600 s (R343). -/
  offSince : Nat
  reports : List (Nat × Int)
  /-- Levels raised since the last journal entry: advisory, warning (R339). -/
  raisedA : BitVec 256
  raisedW : BitVec 256
  /-- Entries that wait for the Logbook: a checkpoint or not, the bytes (R25). -/
  owed : List (Bool × List Byte)
  deriving DecidableEq, Repr

/-- What the context saved before LAID_UP holds (R349): the key slots, the KEKs and the charter table; the probe
configuration copies; the settings and counters of the assay; those of the canal, the sluice and the rings; the servo; the
Lock-keeper policy. -/
structure Saved where
  slots : Tab KeySlot
  kek : Tab (Option W256)
  st : Tab ChState
  keygen : Tab Nat
  probes : Tab ProbeCfg
  safety : Tab Safety
  measure : Tab Measure
  cnt : Tab Nat
  gmm : Tab Nat
  base : Tab Nat
  watch : Tab Watch
  dumpNo : Tab Nat
  weights : Tab Nat
  quota : Tab Nat
  exp : Tab Export
  /-- Cap, sluice share, the two priorities, flush timeout. -/
  mgr : List Nat
  ledger : LedgerCfg
  f : Rat
  integral : Rat
  kp : BitVec 32
  ki : BitVec 32
  period : Nat
  policy : LkPolicy
  deriving DecidableEq, Repr

/-- The sealed LAID_UP context of R349: what the retained region holds. -/
structure Context where
  saved : Saved
  mac : W256
  deriving DecidableEq, Repr

structure Lk where
  st : Power
  /-- The state being entered, and the wake held during the entry (R357). -/
  entering : Option Power
  exiting : Bool
  heldWake : Option Nat
  wakeTs : Nat
  policySet : Bool
  policy : LkPolicy
  wakeAt : Option Nat
  /-- The known event the timer was set for (R355). -/
  knownAt : Option Nat
  horizon : Nat
  ctx : Option Context
  doms : Tab HostDom
  lastEdgeAt : Nat
  assign : Tab (BitVec 72)
  jobs : List DomJob
  deriving DecidableEq, Repr

/-- The ports whose levels no other part of the state gives (02), as they stand between commands. -/
structure Io where
  /-- Host target port (R66): HT_RDY, and the last response. -/
  htRdy : Bool
  rspVld : Bool
  rspId : BitVec 8
  rdata : W64
  rspErr : BitVec 2
  /-- SNS_REQ and SNS_ADDR (R81). -/
  snsReq : Bool
  snsAddr : BitVec 7
  /-- Logbook port (R87): `lbIo` none while it is not driven. -/
  lbSck : Bool
  lbCsN : Bool
  lbIo : Option (BitVec 4)
  lbRstN : Bool
  /-- Key store and fuse ports (R87). -/
  ksReq : Bool
  /-- KS_ERR, an input: the key store answers with an error, or not in time (R411). -/
  ksErr : Bool
  ksLabel : BitVec 8
  fuseReq : Bool
  fuseWr : Bool
  fuseAddr : BitVec 12
  fuseWdata : W32
  /-- STP_TXC0 and STP_TXC1 (R90). -/
  txc0 : Bool
  txc1 : Bool
  /-- THR_LEVEL as the port shows it, and the powered AON_REF cycle of its last change (R83). -/
  thr : Nat
  thrAt : Nat
  /-- The line on the write-data channel; none: MWD_VLD is 0 (R71). -/
  mwd : Option WBeat
  deriving DecidableEq, Repr

/-- The state of the block. -/
structure State where
  pending : List Instr
  ident : Ident
  dev : Dev
  clk : Clk
  time : TimeU
  convoy : Convoy
  probes : Tab Probe
  canal : Canal
  basins : Basins
  exp : Tab Export
  mgr : Mgr
  ledger : Ledger
  esl : Esl
  chart : Chart
  fc : Fc
  lk : Lk
  env : Env
  frame : Frame
  win : Win
  ecc : Ecc
  lb : Logbook
  svc : Svc
  assay : Assay
  ch : Ch
  survey : Survey
  io : Io
  /-- The model's counter for free values (log 14). -/
  free : Nat
  deriving DecidableEq, Repr

/-! Values after reset. -/

/-- Every filter field 0 (log 3). -/
def Filter.zero : Filter := ⟨0, false, 0, 0, 0, 0, 0, false⟩

def Pmc.zero : Pmc := ⟨0, Filter.zero, false, false⟩

/-- A probe's configuration after reset: all owners the harbourmaster, every counter disabled (R146, R154, R163, R164,
R150 defaults; log 3 for the rest). -/
def ProbeCfg.zero : ProbeCfg :=
  { fixedOwner := hm, pmcOwner := [], samplerOwner := hm, cmdOwner := hm, edgeOwner := hm, rangeOwner := [],
    ranges := [], enable := 0, pmc := [], tallyK := 20, sampler := ⟨false, Filter.zero, false, 65536, 12⟩,
    cmdOn := false, cmdFlt := Filter.zero, rise := 0, fall := 0, period := 0, frame := false, cswitch := false,
    latThr := 1024, seed := 0 }

def EdgeEv.zero : EdgeEv := ⟨none, false, false, none, false, 0, false, false, false, 0, 0⟩

def Shadow.zero : Shadow :=
  { snapNo := 0, trigger := 0, reset := false, invariant := false, halted := false, merged := false, busy := false,
    hasTallies := false, ts := 0, st := .locked, epoch := 0, cnt := [], ovf := 0, invalid := 0, busyT := [], stallT := [] }

def Replica.zero : Replica := ⟨0, 0, 0, 0, .detached, 0, false⟩

def Probe.zero : Probe :=
  { cfg := ProbeCfg.zero, cnt := [], ovf := 0, carry := 0, busy := [], stall := [], tallyEdges := 0, tallyCur := 20,
    inflight := [], edge := 0, lastEdgeTs := 0, prevEdgeTs := 0, edgeEpoch := 0, edgePart := 0, edgeSt := .detached, evt := 0, curCharter := 0, curPriv := false, lfsr := 1,
    tagged := [], countdown := 65536, due := none, layers := [], curLayer := [], wr := [], clr := 0, was := [], wasOvf := 0, windows := [],
    ev := EdgeEv.zero, stretch := false, stretchReported := 0, stretchEdge := 0, haltTs := none, hrst := false, up := true,
    disabled := false, disabledTs := 0, disabledFor := [], cut := false, markTs := 0, invariant := false, refCyc := 0, refSlots := 0, invEdges := 0,
    replica := Replica.zero, shadow := Shadow.zero, snapReq := [], copying := [], lastPeriodic := 0, frameSnapAt := none,
    raises := [], fatalSeen := false, railSeen := false, tclkLost := false }

def Lane.zero : Lane :=
  { up := false, everUp := false, fails := 0, upAt := 0, asym := none, theta := 0, rtt := 0, sum := 0, count := 0,
    measFrom := none, tx := 0, rx := 0, txNext := 0, rxNext := 0, armed := false, stopped := false, t1 := 0, t2 := 0, t3 := 0,
    opened := false, sent := none }

def Peer.zero : Peer :=
  { sealMode := false, hello := none, active := 0, pst := .detached, part := 0, asleep := none, heard := 0, told := none, sentNext := false, gotNext := false, a := Lane.zero, b := Lane.zero }

def Stream.zero : Stream := ⟨false, 0, 0, false, false, false, false, false, 0, 0, false⟩

def Export.zero : Export :=
  { dram := false, stp := false, weight := 1, base := 0, log2 := 4, seq := 0, widx := 0, lastGen := 0, doneSeqs := [],
    ring := [], openL := none }

def Slot.zero : Slot := ⟨0, false, false, []⟩

def Apt.zero : Apt := ⟨[], false, 0, 0, 0, Slot.zero, Slot.zero, Slot.zero, Slot.zero⟩

def KeySlot.zero : KeySlot := ⟨.free, 0, 0, 0, 0⟩

def HostDom.zero : HostDom := ⟨true, true, none, false, false, 0, none, none, 0, false⟩

def Latch.zero : Latch := ⟨0, 0, .detached, 0, false⟩

def SnapWin.zero : SnapWin := ⟨0, 0, false, false, false, false, 0, 0⟩

def Bank.zero : Bank :=
  { ce := 0, ue := 0, bucket := 0, leakAt := 0, spares := 0, failed := false, exhausted := false, suspects := [],
    migrating := none, merge := [], pos := 0, again := [], passNo := 0, passAt := 0, selfFails := 0, ueRows := [], touched := false }

def StpLane.zero : StpLane := ⟨false, 0, 0, 0, none, 1⟩

/-- The defaults of R248. -/
def Safety.zero : Safety := ⟨false, 15, false, false, 2, 1, 2, 1, false⟩

/-- The defaults of R249. -/
def Measure.zero : Measure := ⟨false, false, -24, false, 3, 64, 4096, 4096, 1, 1⟩

def Tap.zero : Tap := ⟨none, false, [], none, false, 0, []⟩

def WatchCfg.zero : WatchCfg := ⟨0, 0, false, 0, 0, 0, 1, 0, 0, 0⟩

def Watch.zero : Watch := ⟨hm, WatchCfg.zero, false, 0, 0, 0, none⟩

/-- A charter's allotment at reset (R288: limit 4; the harbourmaster's 8 is `allotOf`'s). -/
def Allot.zero : Allot := ⟨0, 0, 4, false, false⟩

def Core.zero : Core :=
  { v := [], sr := [], acc := [], m := [], poison := 0, work := [], store := [], psn := [], pos := [], pc := 0, loops := [], halted := false,
    waiting := false, stepAt := 0 }

def Input.zero : Input := ⟨[], 0, 0, false, none⟩

def Accum.zero : Accum := ⟨[], [], [], [], [], []⟩

def Totals.zero : Totals := ⟨[], [], [], 0⟩

def Latest.zero : Latest := ⟨0, 0, 0, 0, 0⟩

def Ident.reset : Ident :=
  { nProbes := 128, hostDomains := 72, taps := 15, rails := 8, chip := 0, tsyncStages := 0, lanes := 0, fuseBase := 0,
    fuseCount := 0, fuseErr := 0, fwKeyAddr := 0, platKeyAddr := 0, pswDefault := BitVec.allOnes 72, iref := [],
    probe := [], monZone := [], zoneRail := [], fw := 0, secureBoot := false, debugLock := false, testLock := false,
    sparesFused := 0, fuseWords := [], fuseBad := [] }

def Dev.reset : Dev :=
  { mode := .boot, ready := false, restarting := false, down := false, phase := .held, wrst := false, lastReset := 0, recovery := 0,
    settingsDefault := false, unsignedFw := false, skipped := 0, codeBank := false, image := ⟨0, 0⟩, oldImage := none,
    trialUntil := none, newImage := none, reload := false, settings := [], settingsDigest := 0, mapBad := false }

def TimeU.reset : TimeU :=
  { cvt := 0, epoch := 0, part := 0, st := .detached, bound := 0x3FFFFF, f := 0, sl := 0, incOn := 2 ^ 40, slOn := 0, integral := 0,
    kp := 0x3E800000, ki := 0x3CA3D70A, period := 125000, ring := [], latch := none, edges := 0, reanchor := none,
    reanchorLatched := false, reanchorStep := false, agree := [], dLast := none, slewed := 0, lockRun := 0, farRuns := 0,
    step := none, lastTinAt := 0, inputLost := false, holdBound := 0, holdAt := 0, lastSample := none,
    exhausted := false, stuck := false, lastServoAt := 0, oweLoad := true, oweRate := false, oweStatus := false, sinceCheck := 0,
    lastRateAt := none }

def LedgerCfg.zero : LedgerCfg := ⟨[], 4, 20000, 0⟩

def Ledger.reset : Ledger :=
  { st := .armed, cfg := LedgerCfg.zero, next := none, recs := [], bytes := 0, postBytes := 0, capacity := 4194304,
    t0 := 0, t0At := 0, epoch0 := 0, trig := 0, n := 0, lastTrigAt := none, owed := none, trigIn := false, freezeNo := 0,
    sealBlk := none, readNext := [], jobs := [], summaryPending := false, summaryLost := false,
    truncated := false }

def Mgr.reset : Mgr := ⟨16, 12, 8, 4, 20, 0, 0, [], [], [], [], []⟩

def Canal.reset : Canal := ⟨[], [], [], [], [], [], [], [], [], 0⟩

def Fc.reset : Fc :=
  { slots := [], ninth := none, order := 0, counts := [], pend := [], lastRecAt := none, owed := [], ledgerOn := [],
    irqOn := [], tested := false, selfFail := false, refLost := false, hb := false, hbAt := 0, persist := [], r1 := 0,
    r2 := 0, r3 := 0, healthOn := false, healthIrq := false, healthAddr := 0, healthNo := 0, healthMm := 0 }

/-- The defaults of R354 and R82. -/
def LkPolicy.zero : LkPolicy := ⟨.laidUp, 20, 400, 30000, false, 2, 100, 1000⟩

def Lk.reset : Lk :=
  { st := .underway, entering := none, exiting := false, heldWake := none, wakeTs := 0, policySet := false,
    policy := LkPolicy.zero, wakeAt := none, knownAt := none, horizon := 0, ctx := none, doms := [], lastEdgeAt := 0,
    assign := [], jobs := [] }

/-- The bucket is full at PORST_N (R365): 20 W for 10 ms is 200,000 uJ. -/
def EnvCopy.full : EnvCopy := ⟨200000, 0, 0⟩

/-- The defaults of R364, R370 and R371. -/
def Env.reset : Env :=
  { pCont := 160, pBurst := 240, tBurst := 1000, fallback := 8, shed := [], latest := [], a := EnvCopy.full,
    b := EnvCopy.full, pInst := 0, pEff := 40, burst := true, lost := 0, highRun := 0, overrun := false,
    lastShedAt := 0, lastOverAt := 0, lead := 120, tKnee := 5760, tMax := 8960, pMin := 40, tNoBurst := 7040,
    tStale := 8320, report := none, reportAt := 0, reportLost := false, thr := 0, thrMax := 0, lastLoopAt := 0 }

def Frame.reset : Frame :=
  { lastUsed := none, lastEdge := none, intervals := [], usable := 0, schedule := none, lastStart := 0, plan := [],
    nextPlan := none, due := [], predicted := none, missed := 0, ignored := [], noiseOpen := false, gated := 0 }

def Ecc.reset : Ecc := ⟨[], [], 24, [], ⟨0, false, 0, 0, 0, 0, 0, 0, false, false, false⟩, [], []⟩

def Logbook.reset : Logbook :=
  { present := true, fails := [], down := false, firmware := [], settings := [], calibration := [], spareMap := [],
    mapSealed := true, images := [], dirGen := 0, journal := [], journalNext := 0, journalFirst := [], ckptA := [],
    ckptB := [], ckptNext := false, summaries := [], summaryNext := 0, sfdp := [], flash := .one, asym := [], update := none }

def Svc.reset : Svc :=
  { present := false, streaming := false, autoOn := false, stpAuto := false, button := .released, pressAt := 0,
    pressTs := 0, presses := 0, stuck := false, noise := false, noisyRun := 0, quietRun := 0, limiting := false,
    lastAct := none, dropped := 0, shortDue := none, lane0 := StpLane.zero, lane1 := StpLane.zero, buf := [],
    missed := 0, next := false, sent := none }

def Assay.reset : Assay := ⟨[], [], [], [], [], [], [], false, false, [], [], [], [], []⟩

def Ch.reset : Ch :=
  { online := 0xFFFF, removed := 0, domOn := 0xFFFF, idleAt := 0, allot := [(16, ⟨0, 0, 8, false, false⟩)], stUnit := [],
    mdUnit := [], lostUnits := [], queue := [], standing := [], run := none, seq := [], seqOut := [], loadNo := [],
    cores := [], slots := [], loads := [], nextLoad := 0, residue := [], testAt := [] }

/-- The thresholds of R339 in FP32: 0.75, 3 years, 0.95, 1 year; the period of R328. -/
def Survey.reset : Survey :=
  { failRun := [], failed := 0, consts := [], live := Accum.zero, shadow := none, temp := [], dir := [], tickAt := 0, lastScanAt := 0,
    totals := Totals.zero, mirror := Totals.zero, monitors := [], monSum := [], gap := 0, subst := 0, coolantStale := false, keeperPath := false,
    restored := false, period := 60, advUpper := 0x3F400000, advYears := 0x40400000,
    warnUpper := 0x3F733333, warnYears := 0x3F800000, latest := [], entryNo := 0, lostS := 0, past := [], advisory := 0,
    warning := 0, entryAt := 0, ckptAt := 0, thermOff := [], monZero := [], offSince := 0, reports := [], raisedA := 0,
    raisedW := 0, owed := [], left := [] }

/-- The Reset column of the port tables (R66, R71, R81, R87, R90). -/
def Io.reset : Io :=
  { htRdy := false, rspVld := false, rspId := 0, rdata := 0, rspErr := 0, snsReq := false, snsAddr := 0, lbSck := false, lbCsN := true,
    lbIo := none, lbRstN := false, ksReq := false, ksErr := false, ksLabel := 0, fuseReq := false, fuseWr := false, fuseAddr := 0, fuseWdata := 0,
    txc0 := true, txc1 := true, thr := 0, thrAt := 0, mwd := none }

/-- The machine right after reset: PORST_N asserted, no command waiting (log 3 and 4 for what the spec leaves open). -/
def State.reset : State :=
  { pending := [], ident := Ident.reset, dev := Dev.reset, clk := ⟨0, 0, true, false, [], []⟩, time := TimeU.reset,
    convoy := ⟨[], false, none, false, false, .detached⟩, probes := [], canal := Canal.reset,
    basins := ⟨[], [], [(16, 124)], [124, 125, 126, 127], [], [], []⟩, exp := [], mgr := Mgr.reset, ledger := Ledger.reset,
    esl := ⟨[], [], [], [], [], [], 0, 0⟩, chart := ⟨[], none, [], [], []⟩, fc := Fc.reset, lk := Lk.reset, env := Env.reset,
    frame := Frame.reset, win := ⟨[], [], [], 0, [], [], [], []⟩, ecc := Ecc.reset, lb := Logbook.reset, svc := Svc.reset,
    assay := Assay.reset, ch := Ch.reset, survey := Survey.reset, io := Io.reset, free := 0 }

end Sys2Proof.Machine
end

