-- ==== Sys2Proof/Machine/Ops.lean ====
section
/-! DEFINITION. The named operations over the state that the meanings share: time, registers of the state's parts,
streams and records (05), interrupts, ledger triggers (06), wake events (10), raises (14) and key slots (12). -/

namespace Sys2Proof.Machine

abbrev Res := Host.Outcome State Fault Refusal

/-! ## Codes -/

def Mode.code : Mode → Nat
  | .boot => 0 | .startup => 1 | .service => 2 | .test => 3 | .recovery => 4

def TState.code : TState → Nat
  | .locked => 0 | .slewing => 1 | .holdover => 2 | .detached => 3 | .uncertain => 4

/-- Severity of R119, rising: LOCKED, SLEWING, UNCERTAIN, HOLDOVER, DETACHED. -/
def TState.severity : TState → Nat
  | .locked => 0 | .slewing => 1 | .uncertain => 2 | .holdover => 3 | .detached => 4

def TState.worse (a b : TState) : TState := if a.severity < b.severity then b else a

def TState.ofCode : Nat → TState
  | 0 => .locked | 1 => .slewing | 2 => .holdover | 4 => .uncertain | _ => .detached

def Power.code : Power → Nat
  | .underway => 0 | .slack => 1 | .moored => 2 | .laidUp => 3

def Power.ofCode : Nat → Power
  | 0 => .underway | 1 => .slack | 2 => .moored | _ => .laidUp

def LState.code : LState → Nat
  | .armed => 0 | .post => 1 | .frozen => 2 | .seald => 3

/-! ## Time -/

/-- Nanoseconds of AON_REF time since PORST_N. -/
def State.now (s : State) : Nat := s.clk.powered * 40 + s.clk.phase

/-- 2^38 units of 2^-40 ns are 250 ps. -/
def qtUnit : Nat := 2 ^ 38

/-- The timestamp of now (R99). -/
def State.ts (s : State) : Nat := s.time.cvt / qtUnit

/-- The timestamp of an edge at a TCLK phase (R106); coarse while TCLK is stopped (R126). -/
def State.capture (s : State) (ph : BitVec 2) : Nat :=
  if s.clk.tclk then (s.time.cvt + ph.toNat * qtUnit) / qtUnit else s.ts

/-- CVT[63:0] and CVT[95:64] of a timestamp (R98). -/
def cvtLo (t : Nat) : Nat := (t / 4000000000 % 2 ^ 16) * 2 ^ 48 + (t / 4 % 1000000000) * 2 ^ 16 + (t % 4) * 0x4000

def cvtHi (t : Nat) : Nat := t / 4000000000 / 2 ^ 16 % 2 ^ 32

def cvt96 (t : Nat) : Nat := cvtHi t * 2 ^ 64 + cvtLo t

/-- A 96-bit CVT value in 2^-40 ns. -/
def fineOf96 (x : Nat) : Nat := ((x / 2 ^ 48) * 1000000000 + (x / 2 ^ 16 % 2 ^ 32)) * 2 ^ 40 + (x % 2 ^ 16) * 2 ^ 24

/-- A 96-bit CVT value in qt. -/
def qtOf96 (x : Nat) : Nat := fineOf96 x / qtUnit

/-- CVT in 2^-16 ns as a 96-bit value (R98). -/
def State.cvt96 (s : State) : Nat :=
  (s.time.cvt / 2 ^ 40 / 1000000000 % 2 ^ 48) * 2 ^ 48 + (s.time.cvt / 2 ^ 40 % 1000000000) * 2 ^ 16
    + s.time.cvt / 2 ^ 24 % 2 ^ 16

/-! ## Parts of the state -/

def State.probe (s : State) (p : Nat) : Probe := tget s.probes p Probe.zero
def State.setProbe (s : State) (p : Nat) (x : Probe) : State := { s with probes := tset s.probes p x Probe.zero }
def State.modProbe (s : State) (p : Nat) (f : Probe → Probe) : State := s.setProbe p (f (s.probe p))

def State.peer (s : State) (j : Nat) : Peer := tget s.convoy.peers j Peer.zero
def State.setPeer (s : State) (j : Nat) (x : Peer) : State :=
  { s with convoy := { s.convoy with peers := tset s.convoy.peers j x Peer.zero } }
def State.modPeer (s : State) (j : Nat) (f : Peer → Peer) : State := s.setPeer j (f (s.peer j))

def State.apt (s : State) (o : Nat) : Apt := tget s.esl.apt o Apt.zero
def State.setApt (s : State) (o : Nat) (x : Apt) : State := { s with esl := { s.esl with apt := tset s.esl.apt o x Apt.zero } }
def State.modApt (s : State) (o : Nat) (f : Apt → Apt) : State := s.setApt o (f (s.apt o))

def State.export_ (s : State) (o : Nat) : Export := tget s.exp o Export.zero
def State.setExport (s : State) (o : Nat) (x : Export) : State := { s with exp := tset s.exp o x Export.zero }

def State.dom (s : State) (h : Nat) : HostDom := tget s.lk.doms h HostDom.zero
def State.setDom (s : State) (h : Nat) (x : HostDom) : State := { s with lk := { s.lk with doms := tset s.lk.doms h x HostDom.zero } }
def State.modDom (s : State) (h : Nat) (f : HostDom → HostDom) : State := s.setDom h (f (s.dom h))

def State.bank (s : State) (k : Nat) : Bank := tget s.ecc.bank k Bank.zero
def State.setBank (s : State) (k : Nat) (x : Bank) : State := { s with ecc := { s.ecc with bank := tset s.ecc.bank k x Bank.zero } }
def State.modBank (s : State) (k : Nat) (f : Bank → Bank) : State := s.setBank k (f (s.bank k))

def State.keySlot (s : State) (i : Nat) : KeySlot := tget s.chart.slots i KeySlot.zero
def State.setKeySlot (s : State) (i : Nat) (x : KeySlot) : State :=
  { s with chart := { s.chart with slots := tset s.chart.slots i x KeySlot.zero } }

def State.chState (s : State) (o : Nat) : ChState := if o = hm then .active else tget s.chart.st o .inactive
def State.active (s : State) (o : Nat) : Bool := decide (s.chState o = .active)
def State.keygen (s : State) (o : Nat) : Nat := tget s.chart.keygen o 0

def State.tap (s : State) (t : Nat) : Tap := tget s.assay.taps t Tap.zero
def State.setTap (s : State) (t : Nat) (x : Tap) : State := { s with assay := { s.assay with taps := tset s.assay.taps t x Tap.zero } }
def State.modTap (s : State) (t : Nat) (f : Tap → Tap) : State := s.setTap t (f (s.tap t))

def State.slot (s : State) (k : Nat) : Watch := tget s.assay.slots k Watch.zero
def State.setSlot (s : State) (k : Nat) (x : Watch) : State := { s with assay := { s.assay with slots := tset s.assay.slots k x Watch.zero } }

def State.allot (s : State) (o : Nat) : Allot := tget s.ch.allot o Allot.zero
def State.core (s : State) (c : Nat) : Core := tget s.ch.cores c Core.zero
def State.setCore (s : State) (c : Nat) (x : Core) : State := { s with ch := { s.ch with cores := tset s.ch.cores c x Core.zero } }

def State.stream (s : State) (src o : Nat) : Stream := tget s.canal.streams (src * 32 + o) Stream.zero
def State.setStream (s : State) (src o : Nat) (x : Stream) : State :=
  { s with canal := { s.canal with streams := tset s.canal.streams (src * 32 + o) x Stream.zero } }

def State.queue (s : State) (src : Nat) : List Rec := tget s.canal.q src []
def State.setQueue (s : State) (src : Nat) (q : List Rec) : State := { s with canal := { s.canal with q := tset s.canal.q src q [] } }

def State.latch (s : State) (o : Nat) : Latch := tget s.win.latch o Latch.zero
def State.snapWin (s : State) (o : Nat) : SnapWin := tget s.win.snap o SnapWin.zero
def State.setSnapWin (s : State) (o : Nat) (x : SnapWin) : State := { s with win := { s.win with snap := tset s.win.snap o x SnapWin.zero } }

/-- Units, domain and issue width of a probe (R519): (W - 1, units, domain). -/
def State.probeInt (s : State) (p : Nat) : Nat × Nat × Nat := tget s.ident.probe p (1, 64, p % 24)
def State.probeW (s : State) (p : Nat) : Nat := (s.probeInt p).1 + 1
def State.probeUnits (s : State) (p : Nat) : Nat := (s.probeInt p).2.1
def State.probeDom (s : State) (p : Nat) : Option Nat := let d := (s.probeInt p).2.2; if d < 72 then some d else none

/-- Whether a host domain counts as on (R363). -/
def State.domOn (s : State) (h : Nat) : Bool := let d := s.dom h; if d.timedOut then d.req else d.ack
def State.probePowered (s : State) (p : Nat) : Bool := match s.probeDom p with | none => true | some h => s.domOn h

/-- A probe takes part in capture: present, powered up, out of HRST_N, not disabled. -/
def State.probeLive (s : State) (p : Nat) : Bool :=
  decide (p < s.ident.nProbes) && (s.probe p).up && !(s.probe p).hrst && !(s.probe p).disabled

/-- The next free value of the model's counter (log 14). -/
def State.fresh (s : State) : Nat × State := (Config.freeValue s.free, { s with free := s.free + 1 })

/-- A free value where one is needed. -/
def State.freshIf (s : State) (need : Bool) : Nat × State := if need then s.fresh else (0, s)

/-! ## Interrupts (R523) -/

def State.irqStatus (s : State) (o : Nat) : BitVec 32 := tget s.win.irqStatus o 0
def State.setIrq (s : State) (o b : Nat) : State :=
  { s with win := { s.win with irqStatus := tset s.win.irqStatus o (setBit (s.irqStatus o) b true) 0 } }

/-! ## Key slots (R417) -/

def State.findKey (s : State) (p : KeySlot → Bool) : Option (Nat × KeySlot) := s.chart.slots.find? (fun e => p e.2)

/-- The owner's CURRENT memory key. -/
def State.memKey (s : State) (o : Nat) : Option (Nat × KeySlot) := s.findKey (fun k => k.st = .current && k.kind = 0 && k.owner = o)
def State.modelKey (s : State) (o : Nat) : Option (Nat × KeySlot) := s.findKey (fun k => k.st = .current && k.kind = 1 && k.owner = o)
def State.linkKey (s : State) (j : Nat) (next : Bool) : Option (Nat × KeySlot) :=
  s.findKey (fun k => k.kind = 2 && k.link = j && k.st = (if next then .next else .current))

/-- The input FIFO of a probe at its pound. -/
def State.poundQ (s : State) (p : Nat) : List Rec := tget s.canal.pound p []
def State.setPoundQ (s : State) (p : Nat) (q : List Rec) : State :=
  { s with canal := { s.canal with pound := tset s.canal.pound p q [] } }

/-- The owner has a destination (R224), an ACTIVE charter only with a memory key (R420), and none while not ACTIVE
(R408). -/
def State.hasDest (s : State) (o : Nat) : Bool :=
  ((s.export_ o).dram || (s.export_ o).stp) && s.active o && (decide (o = hm) || (s.memKey o).isSome)

/-! ## Records (05) -/

def Rec.words (r : Rec) : List W64 :=
  BitVec.ofNat 64 (r.ty.toNat * 2 ^ 58 + r.extra.length % 4 * 2 ^ 56 + r.src.toNat * 2 ^ 48 + r.owner % 32 * 2 ^ 43
    + r.cls % 4 * 2 ^ 41 + r.ts % 2 ^ 21 * 2 ^ 20 + r.payload.toNat) :: r.extra

def Rec.len (r : Rec) : Nat := r.extra.length + 1

def qWords (q : List Rec) : Nat := q.foldl (fun a r => a + r.len) 0

/-- SAMPLE and TAG_STAGE records wait in the sample buffer of the probe, the rest in its output queue; one list holds both
in their order (R166, R208). -/
def Rec.inBuffer (src : Nat) (r : Rec) : Bool := decide (src < 128) && (decide (r.ty = 0x12) || decide (r.ty = 0x13))

/-- A queue holds more than R208 gives it: 256 words of a probe; of a block source 1,024, of which 768 for the classes
1 to 3. -/
def overfull (src : Nat) (q : List Rec) : Bool :=
  if src < 128 then decide (256 < qWords (q.filter (fun r => !r.inBuffer src)))
  else decide (1024 < qWords q) || decide (768 < qWords (q.filter (fun r => r.cls ≠ 0)))

/-- The record R208 drops: the highest class, the youngest of them; never class 0. -/
def dropIdx (src : Nat) (q : List Rec) : Option Nat :=
  let m := (q.filter (fun r => !r.inBuffer src)).foldl (fun a r => max a r.cls) 0
  if m = 0 then none
  else (q.mapIdx (fun i r => (i, r))).foldl (fun a e => if e.2.cls = m && !e.2.inBuffer src then some e.1 else a) none

/-- Drop records until the queue fits; the second list is what was dropped, in the order of dropping. -/
def fitQueue (src : Nat) : Nat → List Rec → List Rec × List Rec
  | 0, q => (q, [])
  | n + 1, q =>
    if overfull src q then
      match dropIdx src q with
      | none => (q, [])
      | some i =>
        let r := fitQueue src n (removeAt q i)
        (r.1, (q.drop i).take 1 ++ r.2)
    else (q, [])

/-- A source's loss: kept for its loss token (R219); a class 1 record leaves its stream owing a resync (R208). -/
def State.noteLoss (s : State) (src : Nat) (r : Rec) : State :=
  let l : Loss := ⟨r.owner, r.cls, r.len, r.ts, r.epoch, r.part, s.now⟩
  let s := { s with canal := { s.canal with losses := tset s.canal.losses src (tget s.canal.losses src [] ++ [l]) [] } }
  if r.cls = 1 then s.setStream src r.owner { s.stream src r.owner with resync := true } else s

/-- A record enters its source's queue (R208). -/
def State.pushRec (s : State) (src : Nat) (r : Rec) : State :=
  let f := fitQueue src 8 (s.queue src ++ [{ r with inAt := s.now }])
  f.2.foldl (fun s d => s.noteLoss src d) (s.setQueue src f.1)

/-- The peer slot of the chip whose time this chip follows (R77, R132): none on the lead or acting lead. -/
def State.leadSlot (s : State) : Option Nat :=
  let c := s.ident.chip.toNat
  let p := s.time.part.toNat
  if p = c then none else some (if p < c then p else p - 1)

/-- The time state a chip reports (R119). -/
def State.tstate (s : State) : TState := if s.ident.chip = 0 then s.time.st else s.time.st.worse s.convoy.leadState

/-- The peer whose time this chip follows is announced asleep, and no frame of it has come for two exchanges (R131). -/
def State.leadAway (s : State) : Bool :=
  match s.leadSlot with
  | some j => (s.peer j).asleep.isSome && decide ((s.peer j).heard + 250000 < s.now)
  | none => false

/-- The uncertainty bound of now in qt, that of the state the chip reports (R119, R120, R131). -/
def State.boundNow (s : State) : Nat :=
  let grown := min 0x3FFFFF (s.time.holdBound + (8 * (s.now - s.time.holdAt) + 999999) / 1000000)
  match s.tstate with
  | .detached => 0x3FFFFF
  | .holdover => grown
  | st => if s.leadAway then grown else if st = .locked then 1 else s.time.bound.toNat

/-- The epoch, partition and time state that a source stamps: a probe's replica's, otherwise the master's. -/
def State.stampOf (s : State) (src : Nat) : BitVec 16 × BitVec 2 × TState :=
  if src < 128 then let r := (s.probe src).replica; (r.epoch, r.part, r.st)
  else (s.time.epoch, s.time.part, s.tstate)

/-- Those in force at a timestamp (R185): what a probe composes for its last HCLK edge carries what was in force there. -/
def State.stampAt (s : State) (src ts : Nat) : BitVec 16 × BitVec 2 × TState :=
  if src < 128 && decide (ts = (s.probe src).lastEdgeTs) then
    let x := s.probe src
    (x.edgeEpoch, x.edgePart, x.edgeSt)
  else s.stampOf src

def State.mkRec (s : State) (src o ty cls ts payload : Nat) (extra : List Nat) : Rec :=
  { ty := BitVec.ofNat 6 ty, src := BitVec.ofNat 8 src, owner := o, cls := cls, ts := ts, payload := BitVec.ofNat 20 payload,
    extra := extra.map (BitVec.ofNat 64), epoch := (s.stampAt src ts).1, part := (s.stampAt src ts).2.1, inAt := s.now }

/-- A TIME_SYNC of a stream at an instant (R178); the bound in word 3 for the time unit (R120). -/
def State.syncRec (s : State) (src o ts : Nat) (resync idle : Bool) : Rec :=
  let st := s.stampAt src ts
  s.mkRec src o 1 1 ts (st.2.2.code + st.2.1.toNat * 8 + b2n resync * 128 + b2n idle * 256)
    ([cvtLo ts, cvtHi ts + st.1.toNat * 2 ^ 32] ++ (if src = 134 then [s.boundNow] else []))

/-- A stream's TIME_SYNC (R101). -/
def State.emitSync (s : State) (src o ts : Nat) (resync idle : Bool) : State :=
  let x := s.stream src o
  (s.setStream src o { x with active := !idle, lastSync := ts, since := 0, resync := false, owe := false }).pushRec src (s.syncRec src o ts resync idle)

/-- A source can emit for an owner at all: R224, R408; a probe not before its first LOAD (R124), nor disabled (R171). -/
def State.canEmit (s : State) (src o : Nat) : Bool :=
  s.hasDest o && (decide (128 ≤ src) || (!(s.probe src).disabled && (s.probe src).replica.loaded))

/-- A stream shows a change of epoch, partition or time state before a record of this timestamp: not before one of an
instant at which the old values were in force (R185). -/
def State.showsChange (s : State) (src o ts : Nat) : Bool := (s.stream src o).owe && decide (s.stampAt src ts = s.stampOf src)

/-- The clock of a probe's cluster is halted: it emits no TIME_SYNC (R137). -/
def State.halted (s : State) (src : Nat) : Bool := decide (src < 128) && (s.probe src).haltTs.isSome

/-- Emit a record: an inactive stream first becomes active with a TIME_SYNC, and one that owes a resync or a change of epoch,
partition or time state pays it (R101, R185, R208). -/
def State.emit (s : State) (src o ty cls ts payload : Nat) (extra : List Nat) : State :=
  if s.canEmit src o then
    let x := s.stream src o
    let s := if (x.active && !x.resync && !s.showsChange src o ts) || s.halted src then s else s.emitSync src o ts x.resync false
    let x := s.stream src o
    (s.setStream src o { x with since := x.since + 1 }).pushRec src (s.mkRec src o ty cls ts payload extra)
  else s

/-- Emit a record already composed. -/
def State.emitRec (s : State) (r : Rec) : State :=
  s.emit r.src.toNat r.owner r.ty.toNat r.cls r.ts r.payload.toNat (r.extra.map (·.toNat))

/-- Emit a record that carries its own full time ahead of the stream's TIME_SYNC (CLK_RESUME, R101, R137). -/
def State.emitBare (s : State) (src o ty cls ts payload : Nat) (extra : List Nat) : State :=
  if s.canEmit src o then s.pushRec src (s.mkRec src o ty cls ts payload extra) else s

/-- Streams of a source that are active, as owners. -/
def State.activeOwners (s : State) (src : Nat) : List Nat :=
  (List.range 17).filter (fun o => (s.stream src o).active)

/-- After a change of epoch, partition or time state, every active stream of these sources emits a TIME_SYNC (R185). -/
def State.syncOf (s : State) (srcs : List Nat) : State :=
  srcs.foldl (fun s src =>
    (s.activeOwners src).foldl (fun s o =>
      if s.canEmit src o then s.emitSync src o s.ts (s.stream src o).resync false else s) s) s

/-- A probe's active streams have a change to show (R185). -/
def State.oweSync (s : State) (src : Nat) : State :=
  (s.activeOwners src).foldl (fun s o => s.setStream src o { s.stream src o with owe := true }) s

/-- The streams of a probe show the change at an HCLK edge (R185). -/
def State.paySync (s : State) (src ts : Nat) : State :=
  (s.activeOwners src).foldl (fun s o =>
    if (s.stream src o).owe && s.canEmit src o then s.emitSync src o ts (s.stream src o).resync false else s) s

/-- The block's own sources (R174). -/
def blockSources : List Nat := (List.range 11).map (· + 128)

/-- Streams of a source stop for a halt or a power-state change (R101). -/
def State.stopStreams (s : State) (src : Nat) : State :=
  (s.activeOwners src).foldl (fun s o => let x := s.stream src o; s.setStream src o { x with active := false, explained := true }) s

/-- Streams of a source break off with no record to explain it (R97, R538). -/
def State.cutStreams (s : State) (src : Nat) : State :=
  (s.activeOwners src).foldl (fun s o => s.setStream src o { s.stream src o with active := false }) s

/-! ## Wake events (R356, R357) -/

/-- From which states a wake event wakes the block (R356); a held record of class 0 from each (DEDUCED, log 72). -/
def wakesFrom : WakeKind → Power → Bool
  | _, .underway => false
  | .hostDomain, p => decide (p ≠ .slack)
  | .tapBeat, p => decide (p = .slack)
  | .sourceRecord, p => decide (p = .slack)
  | _, _ => true

/-- The exit reason of a wake event (R357); a held record's is a source record's (DEDUCED, log 72). -/
def wakeReason : WakeKind → Nat
  | .fault => 1 | .hostAccess => 2 | .service => 3 | .earlyTick => 4 | .shed => 5 | .hostDomain => 6
  | .tapBeat => 0 | .sourceRecord => 0 | .heldRecord => 0

/-- A wake event: during an entry it is held (R357); asleep, the exit starts. -/
def State.wake (s : State) (k : WakeKind) : State :=
  match s.lk.entering with
  | some _ => if s.lk.heldWake.isNone then { s with lk := { s.lk with heldWake := some (wakeReason k), wakeTs := s.ts } } else s
  | none =>
    if wakesFrom k s.lk.st && !s.lk.exiting then
      { s with lk := { s.lk with exiting := true, heldWake := some (wakeReason k), wakeTs := s.ts } }
    else s

/-- CCLK, ACLK and KCLK run (R31, R344). -/
def State.fastClocks (s : State) : Bool := decide (s.lk.st = .underway)

/-! ## Room for records of class 0 (R208, R222) -/

/-- The key of a bank, or of a copy of bank 32. -/
def bankKey (b : Nat) (copy : Bool) : Nat := 2 * b + b2n (copy && decide (b = 32))

/-- The bank takes new cells: neither failed nor migrating a row (R230). -/
def State.bankUp (s : State) (b : Nat) : Bool := let x := s.bank (bankKey b false); !x.failed && x.migrating.isNone

def Cell.unit (c : Cell) : Nat := c.idx / 1024 * 8 + c.bank

def State.prioQ (s : State) (o : Nat) : List Cell := tget s.basins.prioQ o []

def State.allCells (s : State) : List Cell :=
  s.basins.charterQ.flatMap Prod.snd ++ s.basins.prioQ.flatMap Prod.snd ++ s.basins.kept.map Prod.snd

/-- The first number from i that a list does not hold. -/
def firstFree (used : List Nat) : Nat → Nat → Option Nat
  | 0, _ => none
  | n + 1, i => if used.contains i then firstFree used n (i + 1) else some i

/-- A free cell of one of these units, whose bank takes cells. -/
def State.freeCell (s : State) (us : List Nat) : Option (Nat × Nat) :=
  (us.filter (fun u => s.bankUp (u % 8))).findSome? (fun u =>
    let inUse := (s.allCells.filter (fun c => c.unit = u)).map (fun c => c.idx)
    (firstFree inUse 1024 (u / 8 * 1024)).map (fun i => (u % 8, i)))

/-- The record fits in the tail cell of a queue (R212). -/
def State.fitsTail (s : State) (q : List Cell) (r : Rec) : Bool :=
  match q.getLast? with
  | some c => decide (c.used + r.len ≤ 8) && s.bankUp c.bank
  | none => false

/-- The priority headroom and the order headroom (R210). -/
def State.prioUnits (s : State) : List Nat := s.basins.head.take 2
def State.orderUnits (s : State) : List Nat := s.basins.head.drop 2

/-- The priority headroom has room for a record. -/
def State.prioRoom (s : State) (r : Rec) : Bool := s.fitsTail (s.prioQ r.owner) r || (s.freeCell s.prioUnits).isSome

/-- The reserve of a block source has room for a record of n words (R208). -/
def State.reserveRoom (s : State) (src n : Nat) : Bool := decide (qWords (s.queue src) + n ≤ 1024)

/-- The generator of a class 0 record of source 136 or 137 may release it (R208, R222). -/
def State.releases (s : State) (src n : Nat) (r : Rec) : Bool := s.reserveRoom src n && s.prioRoom r

/-! ## Ledger triggers (R233, R234) -/

/-- The LEDGER_TRIGGER record of a trigger (R182), the harbourmaster's; its n counts every trigger since the release,
`ledger.n` those after the first. Without room it is held (R208). -/
def State.emitTrigger (s : State) (trig code : Nat) (ignored : Bool) (ts : Nat) : State :=
  let payload := trig + b2n ignored * 16
  let extra := [min 65535 (s.ledger.n + 1) + code * 2 ^ 16]
  if s.releases 137 2 (s.mkRec 137 hm 5 0 ts payload extra) then
    { s.emit 137 hm 5 0 ts payload extra with ledger := { s.ledger with lastTrigAt := some s.now, owed := none } }
  else { s with ledger := { s.ledger with owed := some (trig, code, ignored, ts) } }.wake .heldRecord

/-- A counted trigger: n, and a record with ignored = 1 no more often than every 10 us, later ones being counted in its n
(R221, R234). A record that still waits is not passed by it. -/
def State.countTrigger (s : State) (trig code : Nat) : State :=
  let s := { s with ledger := { s.ledger with n := satAdd 65535 s.ledger.n 1 } }
  match s.ledger.owed with
  | some (_, _, false, _) => s
  | _ =>
    match s.ledger.lastTrigAt with
    | some t => if t + 10000 ≤ s.now then s.emitTrigger trig code true s.ts
                else { s with ledger := { s.ledger with owed := some (trig, code, true, s.ts) } }
    | none => s.emitTrigger trig code true s.ts

/-- The first trigger's record, still in its queue or held, takes the trigger of a lower code that arrived at the same
instant (R234); the fault code of the one it gives up. -/
def State.swapTrigger (s : State) (trig code : Nat) : Nat × State :=
  let mine := fun (r : Rec) => decide (r.ty = 5) && decide (r.ts = s.ledger.t0) && !r.payload.getLsbD 4
  let q := s.queue 137
  let old := ((q.find? mine).bind (fun r => r.extra.head?)).map (fun w => bits w.toNat 16 16)
  let s := s.setQueue 137 (q.map (fun (r : Rec) => if mine r then
    { r with payload := BitVec.ofNat 20 trig, extra := r.extra.map (fun w => BitVec.ofNat 64 (w.toNat % 2 ^ 16 + code * 2 ^ 16)) } else r))
  let s := { s with ledger := { s.ledger with trig := trig } }
  match s.ledger.owed with
  | some (_, c, false, ts) => (c, { s with ledger := { s.ledger with owed := some (trig, code, false, ts) } })
  | _ => (old.getD 0, s)

/-- A trigger: the first of an armed ledger fixes the trigger instant, of several at one instant that of the lowest code;
every other is counted (R234). Whether the record of the trigger instant is always in the ledger although the
harbourmaster has no destination and emits none (R224, R232) is open: here there is none and the ledger waits for none
(DESIGN CHOICE, log 67). -/
def State.fireTrigger (s : State) (trig code : Nat) : State :=
  if s.ledger.st = .armed then
    let s := { s with ledger := { s.ledger with st := .post, t0 := s.ts, t0At := s.now, epoch0 := s.time.epoch, trig := trig,
                                                postBytes := 0, trigIn := !s.hasDest hm } }
    s.emitTrigger trig code false s.ts
  else if s.ledger.st = .post && decide (s.ledger.t0At = s.now) && decide (trig < s.ledger.trig) then
    let old := s.ledger.trig
    let r := s.swapTrigger trig code
    r.2.countTrigger old r.1
  else s.countTrigger trig code

/-! ## Raises (14) -/

/-- The fault table (R476): code, class, path (0 classified, 1 "3 fixed", 2 fatal). SCALE_MISMATCH and SCALE_EXCURSION
take the class their raise names; the table's entry is the default of R248 and R249. -/
def faultTable : List (Nat × Nat × Nat) :=
  [(0x100, 3, 2), (0x101, 3, 2), (0x102, 3, 1), (0x103, 3, 1), (0x104, 3, 1), (0x200, 3, 1), (0x201, 3, 1), (0x202, 3, 1),
   (0x203, 1, 0), (0x204, 2, 0), (0x300, 1, 0), (0x301, 1, 0), (0x302, 1, 0), (0x303, 1, 0), (0x304, 2, 0), (0x305, 2, 0),
   (0x306, 0, 0), (0x307, 1, 0), (0x308, 1, 0), (0x309, 3, 1), (0x400, 1, 0), (0x401, 1, 0), (0x402, 1, 0)] ++
  [(0x500, 1, 0), (0x501, 2, 0), (0x502, 1, 0), (0x600, 1, 0), (0x601, 2, 0), (0x602, 2, 0), (0x603, 2, 0), (0x604, 1, 0),
   (0x605, 0, 0), (0x606, 1, 0), (0x700, 1, 0), (0x701, 1, 0), (0x702, 1, 0), (0x703, 2, 0), (0x704, 1, 0), (0x705, 2, 0),
   (0x800, 1, 0), (0x801, 1, 0), (0x802, 0, 0), (0x803, 1, 0)] ++
  [(0x900, 1, 0), (0x901, 2, 0), (0x902, 2, 0), (0x903, 2, 0), (0x904, 1, 0), (0x905, 1, 0), (0x906, 0, 0), (0x907, 1, 0),
   (0xA00, 2, 0), (0xA01, 2, 0), (0xA02, 1, 0), (0xA03, 1, 0), (0xA04, 1, 0), (0xA05, 2, 0), (0xB00, 0, 0), (0xB01, 0, 0),
   (0xB02, 1, 0), (0xB03, 0, 0), (0xB04, 1, 0), (0xB05, 2, 0), (0xB06, 1, 0), (0xC00, 0, 0), (0xC01, 0, 0)]

def faultEntry (code : Nat) : Option (Nat × Nat) := (faultTable.find? (fun e => e.1 = code)).map Prod.snd

/-- The class table of the fault collector (R466): the classes of the fault table; a raise of SCALE_MISMATCH or
SCALE_EXCURSION brings the class that its tap and owner have set. -/
def classOf (code : Nat) : Nat := (faultEntry code).map Prod.fst |>.getD 1

def fKey (code unit : Nat) : Nat := code * 65536 + unit

def State.persisting (s : State) (code unit : Nat) : Bool := s.fc.persist.contains (fKey code unit)

def State.setPersist (s : State) (code unit : Nat) (on : Bool) : State :=
  let k := fKey code unit
  { s with fc := { s.fc with persist := if on then (if s.fc.persist.contains k then s.fc.persist else s.fc.persist ++ [k])
                                        else s.fc.persist.filter (· ≠ k) } }

/-- Latch a raise on the classified path; FAULT_RAISE classifies it (R467, log 10). -/
def State.raiseAs (s : State) (code unit : Nat) (detail : Nat) (cls : Option Nat) (ts : Nat) : State :=
  { s with fc := { s.fc with pend := s.fc.pend ++ [⟨code, unit, BitVec.ofNat 32 detail, cls, ts, s.now, false, false⟩] } }

def State.raise (s : State) (code unit detail : Nat) : State := s.raiseAs code unit detail none s.ts

def State.openEntries (s : State) : List FEntry := s.fc.slots.map Prod.snd

def State.openCount (s : State) : Nat := s.fc.slots.length

/-- The highest open class, the ninth entry included. -/
def State.topClass (s : State) : Nat :=
  (s.openEntries ++ s.fc.ninth.toList).foldl (fun a e => max a e.cls) 0

def State.startupFault (s : State) : Bool := !s.fc.tested || s.fc.selfFail || s.fc.refLost

/-- ERR_CLASS (R472). -/
def State.errClass (s : State) : Nat := if s.startupFault then 3 else s.topClass

/-- FAULT_N is low (R472). -/
def State.faultNLow (s : State) : Bool := s.startupFault || decide (s.topClass = 3)

/-- FAULT_P is the complement of FAULT_N (R79). -/
def State.faultP (s : State) : Bool := s.faultNLow

/-- Entries in the order of their age in the queue: the oldest of the highest class, the ninth included (R534). -/
def State.topCode (s : State) : Nat :=
  let es := s.openEntries ++ s.fc.ninth.toList
  let m := es.foldl (fun a e => max a e.cls) 0
  match (es.filter (fun e => e.cls = m)).foldl (fun (a : Option FEntry) e =>
      match a with | none => some e | some b => if e.order < b.order then some e else some b) none with
  | none => 0
  | some e => e.code

/-- The lowest free queue slot. -/
def State.freeEntry (s : State) : Option Nat := (List.range 8).find? (fun i => !(s.fc.slots.any (fun e => e.1 = i)))

def FEntry.none : FEntry := ⟨0, 0, 0, false, false, 0, 0, 0⟩

/-- The entry that an overflowing raise displaces: that of the youngest raise of the lowest class open,
when that class is lower (R469). -/
def State.victimEntry (s : State) (cls : Nat) : Option Nat :=
  let m := s.openEntries.foldl (fun a e => min a e.cls) 3
  if m < cls then
    ((s.fc.slots.filter (fun e => e.2.cls = m)).foldl (fun (a : Option (Nat × FEntry)) e =>
      match a with | Option.none => some e | some b => if b.2.last < e.2.last then some e else some b) Option.none).map Prod.fst
  else Option.none

/-- The FAULT record (R182) of a raise with its class fixed. -/
def State.faultRec (s : State) (p : Pend) (cls : Nat) (esc fatal : Bool) : Rec :=
  s.mkRec 136 hm 4 0 p.ts (p.code + cls * 2 ^ 16 + b2n esc * 2 ^ 18 + b2n fatal * 2 ^ 19)
    [p.unit + s.openCount * 2 ^ 16 + tget s.fc.counts (fKey p.code p.unit) 0 * 2 ^ 24 + p.detail.toNat * 2 ^ 32]

/-- The fault collector may emit a FAULT record now: one per us, and with room for it (R208, R221). -/
def State.faultDue (s : State) (r : Rec) : Bool :=
  (match s.fc.lastRecAt with | some t => decide (t + 1000 ≤ s.now) | none => true) && s.releases 136 2 r

/-- A FAULT record leaves now. -/
def State.sendFault (s : State) (r : Rec) : State :=
  { s.emit 136 hm 4 0 r.ts r.payload.toNat (r.extra.map (·.toNat)) with fc := { s.fc with lastRecAt := some s.now } }

/-- A FAULT record leaves, or waits; one that waits is merged into the next of its key (R464). -/
def State.emitFault (s : State) (key : Nat) (r : Rec) : State :=
  if s.fc.owed.isEmpty && s.faultDue r then s.sendFault r
  else
    let s := if s.releases 136 2 r then s else s.wake .heldRecord
    { s with fc := { s.fc with owed := if s.fc.owed.any (fun o => o.1 = key) then s.fc.owed.map (fun o => if o.1 = key then (key, r) else o)
                                          else s.fc.owed ++ [(key, r)] } }

/-- The FAULT record that has waited longest leaves when it may, with the count of now (R221, R464). -/
def State.payFaults (s : State) : State :=
  match s.fc.owed with
  | [] => s
  | o :: os =>
    let c := tget s.fc.counts o.1 0
    let r := { o.2 with extra := o.2.extra.map (fun w => BitVec.ofNat 64 (w.toNat / 2 ^ 32 * 2 ^ 32 + c * 2 ^ 24 + w.toNat % 2 ^ 24)) }
    if s.faultDue r then ({ s with fc := { s.fc with owed := os } }).sendFault r else s

/-- The LEDGER_TRIGGER record that waits leaves when it may (R208, R221). -/
def State.payTrigger (s : State) : State :=
  match s.ledger.owed with
  | none => s
  | some (t, c, ignored, ts) =>
    if !ignored || (match s.ledger.lastTrigAt with | some a => decide (a + 10000 ≤ s.now) | none => true) then
      s.emitTrigger t c ignored (if ignored then s.ts else ts)
    else s

/-- The raise count of a key (R464), saturating at 255. -/
def State.countRaise (s : State) (key : Nat) : State :=
  { s with fc := { s.fc with counts := tset s.fc.counts key (satAdd 255 (tget s.fc.counts key 0) 1) 0 } }

/-- Class effects beyond the queue: the frame's counts, the interrupt, the ledger trigger, UNDERWAY. A fault of class 0 or 1
fires the trigger and forces UNDERWAY only where FAULT_POLICY enables its trigger (R19, R464, R473; log 68). -/
def State.classEffects (s : State) (code cls : Nat) : State :=
  let s := { s with fc := { s.fc with
    r1 := if cls = 1 then satAdd 65535 s.fc.r1 1 else s.fc.r1
    r2 := if cls = 2 then satAdd 65535 s.fc.r2 1 else s.fc.r2
    r3 := if cls = 3 then satAdd 65535 s.fc.r3 1 else s.fc.r3 } }
  let s := if 2 ≤ cls || s.fc.irqOn.contains code then s.setIrq hm 5 else s
  if 2 ≤ cls || s.fc.ledgerOn.contains code then (s.fireTrigger 1 code).wake .fault else s

/-- FAULT_QUEUE_OVERFLOW opens or repeats the reserved ninth entry, at class 3 (R469). -/
def State.openNinth (s : State) (ts : Nat) : State :=
  let s := s.countRaise (fKey 0x102 0)
  let e : FEntry := match s.fc.ninth with | some e => e | none => ⟨0x102, 0, 3, false, false, 0, s.fc.order, s.fc.order⟩
  let s := { s with fc := { s.fc with ninth := some e, order := s.fc.order + 1 } }
  let s := s.classEffects 0x102 3
  s.emitFault (fKey 0x102 0) (s.faultRec ⟨0x102, 0, 0, some 3, ts, s.now, false, true⟩ 3 false false)

/-- Weir marks of a disabled probe go to the harbourmaster and to every owner with an enabled stream (R190). -/
def ProbeCfg.streams (c : ProbeCfg) (idMode : BitVec 17) (o : Nat) : Bool :=
  (decide (c.fixedOwner = o) && (List.range 5).any (fun i => c.enable.getLsbD i)) ||
  (List.range 8).any (fun i => c.enable.getLsbD (5 + i) && decide (tget c.pmcOwner i hm = o)) ||
  (c.sampler.enable && decide (c.samplerOwner = o)) || (c.cmdOn && decide (c.cmdOwner = o)) ||
  ((c.rise ||| c.fall) ≠ 0 && decide (c.edgeOwner = o)) ||
  (decide (o < 16) && idMode.getLsbD o)

/-- A snapshot that the window waits for and that can no longer be taken is skipped (R529). -/
def State.winSkip (s : State) (p : Nat) (rs : List SnapReq) : State :=
  rs.foldl (fun s r => match r.win with
    | none => s
    | some o =>
      let v := s.snapWin o
      let q := setBit v.pendingP p false
      let s := s.setSnapWin o { v with pendingP := q, pending := decide (q ≠ 0), skipped := true }
      if v.pendingP.getLsbD p && q = 0 then s.setIrq o 4 else s) s

/-- The records a source still holds are lost and counted (R189). -/
def State.dropQueue (s : State) (src : Nat) : State := (s.queue src).foldl (fun s r => s.noteLoss src r) (s.setQueue src [])

/-- PROBE_FAILED: the probe is disabled; what its queue holds is lost (R171, R189), and the owners whose streams stood are
those of the standing marks (R190). -/
def State.disableProbe (s : State) (p : Nat) : State :=
  let os := (List.range 17).filter (fun o => decide (o = hm) || ((s.probe p).cfg.streams s.esl.idMode o && s.active o))
  let s := (s.dropQueue p).stopStreams p
  let s := s.winSkip p ((s.probe p).snapReq ++ (s.probe p).copying)
  s.modProbe p (fun x => { x with disabled := true, disabledTs := s.ts, markTs := s.ts, disabledFor := os, inflight := [], tagged := [],
                                  snapReq := [], copying := [], due := none, wr := [], clr := 0 })

/-- R171: the fourth raise of one of a probe's codes within 1 s disables it. Whether the four are of one code or of any mix is
open: each code is counted apart (DESIGN CHOICE, log 69). -/
def State.probeRaise (s : State) (code p : Nat) : State :=
  if (code = 0x401 || code = 0x400 || code = 0x305 || code = 0x304) && decide (p < 128) then
    let x := s.probe p
    let rs := (x.raises ++ [(code, s.now)]).filter (fun r => r.1 = code && decide (s.now < r.2 + 1000000000))
    let others := x.raises.filter (fun r => r.1 ≠ code)
    let s := s.setProbe p { x with raises := others ++ rs }
    if 4 ≤ rs.length && !x.disabled then (s.disableProbe p).raise 0x402 p 0 else s
  else s

/-- The class of a raise after escalation (R468): it is the one the interrupt, the ledger and the counts of the frame
follow (R19, R464; log 37). -/
def State.raisedClass (s : State) (p : Pend) (cls : Nat) : Nat :=
  if cls = 0 || p.code = 0x102 then cls
  else match s.fc.slots.find? (fun e => e.2.code = p.code && e.2.unit = p.unit) with
    | some (_, e) => min 3 (max cls (e.cls + 1))
    | none => cls

/-- Handle one raise whose class is fixed (R467 to R469). -/
def State.takeRaise (s : State) (p : Pend) : State :=
  let cls := if p.fatal || p.fixed3 then 3 else p.cls.getD (classOf p.code)
  let key := fKey p.code p.unit
  let s := s.countRaise key
  let s := s.classEffects p.code (s.raisedClass p cls)
  let s := s.probeRaise p.code p.unit
  if cls = 0 then s.emitFault key (s.faultRec p 0 false false)
  else if p.code = 0x102 then
    match s.fc.ninth with
    | some _ => s.emitFault key (s.faultRec p 3 false false)
    | none =>
      let s := { s with fc := { s.fc with ninth := some ⟨0x102, p.unit, 3, false, false, p.detail, s.fc.order, s.fc.order⟩, order := s.fc.order + 1 } }
      s.emitFault key (s.faultRec p 3 false false)
  else
    match s.fc.slots.find? (fun e => e.2.code = p.code && e.2.unit = p.unit) with
    | some (i, e) =>
      let c := min 3 (max cls (e.cls + 1))
      let esc := decide (cls < c)
      let e' := { e with cls := c, escalated := e.escalated || esc, detail := p.detail, fatal := e.fatal || p.fatal, last := s.fc.order }
      let s := { s with fc := { s.fc with slots := tset s.fc.slots i e' FEntry.none, order := s.fc.order + 1 } }
      s.emitFault key (s.faultRec p c esc p.fatal)
    | none =>
      let e : FEntry := ⟨p.code, p.unit, cls, false, p.fatal, p.detail, s.fc.order, s.fc.order⟩
      match s.freeEntry with
      | some i =>
        let s := { s with fc := { s.fc with slots := tset s.fc.slots i e FEntry.none, order := s.fc.order + 1 } }
        s.emitFault key (s.faultRec p cls false p.fatal)
      | none =>
        let s := match s.victimEntry cls with
          | some i => { s with fc := { s.fc with slots := tset s.fc.slots i e FEntry.none, order := s.fc.order + 1 } }
          | none => s
        (s.emitFault key (s.faultRec p cls false p.fatal)).openNinth p.ts

/-- A raise on the hardware-classified path, class 3 fixed (R465). -/
def State.raiseFixed (s : State) (code unit detail : Nat) : State :=
  s.takeRaise ⟨code, unit, BitVec.ofNat 32 detail, some 3, s.ts, s.now, false, true⟩

/-- A raise on the fatal path (R465). -/
def State.raiseFatal (s : State) (code unit : Nat) : State :=
  s.takeRaise ⟨code, unit, 0, some 3, s.ts, s.now, true, false⟩

/-- Zeroise a key slot and read it back (R419): a read-back that is not zero raises KEY_ZEROISE_FAIL and leaves the slot
out of use. -/
def State.zeroise (s : State) (i : Nat) (readback : W256) : State :=
  if readback = 0 then s.setKeySlot i KeySlot.zero
  else (s.setKeySlot i { KeySlot.zero with st := .dead }).raise 0xA01 i 0

/-- The key store is asked for the value of a label; KS_ERR, or no answer in time, raises KEY_STORE_ERROR (R87, R411). -/
def State.askKey (s : State) (label : Nat) : State :=
  let s := { s with io := { s.io with ksLabel := BitVec.ofNat 8 label } }
  if s.io.ksErr then s.raise 0xA00 label 0 else s

/-- The chip index (R34). -/
def State.chip (s : State) : Nat := s.ident.chip.toNat

end Sys2Proof.Machine
end

