-- ==== Sys2Proof/Machine/Packet.lean ====
section
/-! DEFINITION. Esluac packets (11): apertures, the order of checks (R385), replies and completions (R380, R389), and
instants (R391). -/

namespace Sys2Proof.Machine

/-- The status codes (R384). -/
inductive Status where
  | ok | accepted | badOpcode | badLength | badParam | denied | noCharter | busy | exhausted | tooLarge | integrity
  | signature | degraded | timeUncertain | internal
  deriving DecidableEq, Repr

def Status.code : Status → Nat
  | .ok => 0x00 | .accepted => 0x01 | .badOpcode => 0x10 | .badLength => 0x11 | .badParam => 0x12 | .denied => 0x20
  | .noCharter => 0x21 | .busy => 0x30 | .exhausted => 0x31 | .tooLarge => 0x32 | .integrity => 0x40
  | .signature => 0x41 | .degraded => 0x50 | .timeUncertain => 0x60 | .internal => 0x7F

/-- The privilege codes of R392. -/
inductive Priv where
  | hmOnly | own | any
  deriving DecidableEq, Repr

/-- A row of the opcode tables: opcode, privilege, the lengths allowed, and what the header may ask. -/
structure OpSpec where
  op : Nat
  priv : Priv
  len : List W32 → Bool
  inRecovery : Bool := false
  mode : Option Mode := none
  force : Bool := false
  streamed : Bool := false
  long : Bool := false
  /-- Accepted from an inactive charter (R385). -/
  free : Bool := false
  /-- Index of the instant's first parameter word, from 0 (R391). -/
  instant : Option Nat := none
  /-- The opcode is reserved (check 3). -/
  reserved : Bool := false
  /-- What else an aperture needs to be permitted the opcode (check 4). -/
  permit : Nat → State → Bool := fun _ _ => true

/-- What checks 8 to 10 and the execution give: a rejection with A1 and A2 (R386), a final reply, or the start of a long
operation. -/
inductive Verdict where
  | reject (st : Status) (a1 a2 : Nat)
  | done (st : Status) (ws : List Nat) (s : State)
  | accept (ws : List Nat) (s : State)

end Sys2Proof.Machine

namespace Sys2Proof

open Machine

/-- Parameter word P(i). -/
def Pkt.p (pk : Pkt) (i : Nat) : W32 := pk.ps.getD (i - 1) 0

/-- A 48-bit address in two words (R394). -/
def Pkt.addr (pk : Pkt) (i : Nat) : Nat := (pk.p i).toNat + fld (pk.p (i + 1)) 0 16 * 2 ^ 32

/-- A probe set in P1 to P4 (R394). -/
def Pkt.probes (pk : Pkt) : BitVec 128 := pk.p 4 ++ pk.p 3 ++ pk.p 2 ++ pk.p 1

def probeList (v : BitVec 128) : List Nat := (List.range 128).filter (fun i => v.getLsbD i)

/-- A host domain mask in three words (R394). -/
def Pkt.domains (pk : Pkt) (i : Nat) : BitVec 72 := (pk.p (i + 2)).setWidth 8 ++ pk.p (i + 1) ++ pk.p i

def domainList (v : BitVec 72) : List Nat := (List.range 72).filter (fun i => v.getLsbD i)

def domainWords (v : BitVec 72) : List Nat := [v.toNat % 2 ^ 32, v.toNat / 2 ^ 32 % 2 ^ 32, v.toNat / 2 ^ 64]

/-- A CVT value of three words, least significant first (R391). -/
def Pkt.cvt (pk : Pkt) (i : Nat) : Nat := (pk.p i).toNat + (pk.p (i + 1)).toNat * 2 ^ 32 + (pk.p (i + 2)).toNat * 2 ^ 64

def cvtWords (x : Nat) : List Nat := [x % 2 ^ 32, x / 2 ^ 32 % 2 ^ 32, x / 2 ^ 64 % 2 ^ 32]

def Pkt.header (pk : Pkt) (op : Nat) : W32 :=
  BitVec.ofNat 32 (op * 2 ^ 24 + pk.ps.length % 256 * 2 ^ 16 + pk.seq.toNat * 2 ^ 8 + pk.chart.toNat * 8 + b2n pk.force * 4
    + b2n pk.streamed * 2 + b2n pk.async)

def Pkt.o (pk : Pkt) : Nat := pk.owner.val
end Sys2Proof

namespace Sys2Proof.Machine

/-- L must be n. -/
def exactly (n : Nat) (ps : List W32) : Bool := decide (ps.length = n)

/-- The words of a reply over a slot's older contents (R380). -/
def Slot.fill (x : Slot) (op seq st : Nat) (ws : List Nat) : Slot :=
  { x with posts := x.posts + 1
           words := BitVec.ofNat 32 (op * 2 ^ 24 + ws.length * 2 ^ 16 + seq * 2 ^ 8 + st) ::
                    (ws.map (BitVec.ofNat 32) ++ x.words.drop (ws.length + 1)) }

def Apt.slot (a : Apt) : Nat → Slot
  | 0 => a.s0 | 1 => a.s1 | 2 => a.s2 | _ => a.s3

def Apt.setSlot (a : Apt) (i : Nat) (x : Slot) : Apt :=
  match i with
  | 0 => { a with s0 := x } | 1 => { a with s1 := x } | 2 => { a with s2 := x } | _ => { a with s3 := x }

/-- The free completion slot with the lowest number (R390). -/
def Apt.freeSlot (a : Apt) : Option Nat := [1, 2, 3].find? (fun i => !(a.slot i).pending && !(a.slot i).full)

/-- Post the immediate reply: the aperture opens again (R377, R380). -/
def State.reply (s : State) (op : Nat) (pk : Pkt) (st : Status) (ws : List Nat) : State :=
  (s.modApt pk.o (fun a => { a with closed := false, s0 := { a.s0.fill op pk.seq.toNat st.code ws with pending := false } })).setIrq pk.o 0

/-- Post a completion into an allocated slot (R390). -/
def State.complete (s : State) (op o : Nat) (seq : BitVec 8) (slot : Nat) (st : Status) (ws : List Nat) : State :=
  (s.modApt o (fun a => a.setSlot slot { (a.slot slot).fill op seq.toNat st.code ws with pending := false, full := true })).setIrq o 0

/-- A reply other than OK or ACCEPTED carries A1 and A2 (R386). -/
def failWords (st : Status) (ws : List Nat) : List Nat := if st = .ok || st = .accepted then ws else
  if ws.length = 2 then ws else [0, 0]

/-- Time states in which a stated instant is not executed (R121). Which state decides at a follower, its own or the one it
reports (R119), is open: its own does (DESIGN CHOICE, log 74). -/
def State.uncertain (s : State) : Bool := decide (s.time.st = .detached) || decide (s.time.st = .uncertain)

/-- The packet's stated instant in 2^-40 ns, 0 words meaning at arrival (R391). -/
def OpSpec.at_ (sp : OpSpec) (pk : Pkt) : Option Nat :=
  match sp.instant with
  | none => none
  | some i => if pk.cvt (i + 1) = 0 then none else some (fineOf96 (pk.cvt (i + 1)))

def msFine : Nat := 1000000 * 2 ^ 40

/-- Whether a packet needs a completion slot (R389, R391). -/
def OpSpec.needsSlot (sp : OpSpec) (pk : Pkt) (s : State) : Bool :=
  sp.long || pk.async || (match sp.at_ pk with | some t => decide (s.time.cvt + msFine < t) | none => false)

/-- A CHARTER_END of the charter has been accepted: no later packet of its aperture passes check 7 (R393). -/
def State.leaves (s : State) (o : Nat) : Bool := s.chart.turnover.any (fun t => decide (t.charter = o))

/-- During a turnover domain switches wait, envelope shedding apart (R433). -/
def State.switchHeld (s : State) (reason : Nat) : Bool := (match s.chart.turnover with | some t => t.begun | none => false) && decide (reason ≠ 5)

/-- Core domains are off, and a turnover keeps them so (R433). -/
def State.coresHeld (s : State) : Bool := s.switchHeld 0 && decide (s.ch.domOn ≠ s.ch.online)

/-- Checks 1 to 7 of R385, in order. -/
def preCheck (sp : OpSpec) (pk : Pkt) (s : State) : Option Status :=
  if s.dev.mode = .boot || s.dev.phase ≠ .running || s.dev.restarting || (sp.needsSlot pk s && (s.apt pk.o).freeSlot.isNone) then some .busy
  else if pk.chart.toNat ≠ pk.o then some .denied
  else if sp.reserved then some .badOpcode
  else if (s.dev.mode = .test && pk.o ≠ hm) || (s.dev.mode = .recovery && (pk.o ≠ hm || !sp.inRecovery))
      || (sp.priv = .hmOnly && pk.o ≠ hm) || (match sp.mode with | some m => s.dev.mode ≠ m | none => false) || !sp.permit pk.o s then some .denied
  else if !sp.len pk.ps then some .badLength
  else if (pk.streamed && !sp.streamed) || (pk.force && !sp.force) then some .badParam
  else if pk.o ≠ hm && (!s.active pk.o || s.leaves pk.o) && !sp.free then some .noCharter
  else none

/-- A packet is a COUNTER_WRITE and a probe of its set has still to apply it (R140). -/
def State.stillApplies (s : State) (op : Nat) (pk : Pkt) : Bool :=
  decide (op = 0x14) && (probeList pk.probes).any (fun p => decide (tget (s.probe p).wr (fld (pk.p 5) 0 4) 0 ≠ 0))

/-- Post a final reply, in slot 0 or as a completion; that of a counter write follows its application (R140). -/
def State.answer (s : State) (op : Nat) (pk : Pkt) (slot : Nat) (st : Status) (ws : List Nat) : State :=
  if s.stillApplies op pk then { s with esl := { s.esl with applying := s.esl.applying ++ [⟨op, pk, slot, decide (st = .timeUncertain)⟩] } }
  else if slot = 0 then s.reply op pk st ws
  else s.complete op pk.o pk.seq slot st ws

/-- The counter writes that have been applied answer (R140). -/
def State.settleWrites (s : State) : State :=
  s.esl.applying.foldl (fun s a =>
      if a.un then s.answer a.op a.pk a.slot .timeUncertain [0, 0] else s.answer a.op a.pk a.slot .ok [])
    { s with esl := { s.esl with applying := [] } }

/-- Post what an executed packet answers: with a slot, ACCEPTED first and the final reply as its completion. -/
def finish (sp : OpSpec) (pk : Pkt) (slot : Nat) (un : Bool) (s : State) (v : Verdict) : State :=
  match v with
  | .reject st a1 a2 => s.reply sp.op pk st [a1, a2]
  | .done st ws t =>
    let st := if un && st = .ok then .timeUncertain else st
    let ws := failWords st ws
    if sp.long || pk.async then
      ((t.modApt pk.o (fun a => a.setSlot slot { a.slot slot with pending := true })).reply sp.op pk .accepted [slot]).answer sp.op pk slot st ws
    else t.answer sp.op pk 0 st ws
  | .accept ws t =>
    (t.modApt pk.o (fun a => a.setSlot slot { a.slot slot with pending := true })).reply sp.op pk .accepted (slot :: ws)

/-- Execute a launched packet. -/
def runPacket (sp : OpSpec) (body : Pkt → Nat → State → Verdict) (pk : Pkt) (s : State) : State :=
  match preCheck sp pk s with
  | some st => s.reply sp.op pk st [0, 0]
  | none =>
    let slot := if sp.needsSlot pk s then (s.apt pk.o).freeSlot.getD 0 else 0
    match body pk slot s with
    | .reject st a1 a2 => s.reply sp.op pk st [a1, a2]
    | v =>
      match sp.at_ pk with
      | none => finish sp pk slot false s v
      | some t =>
        if s.time.cvt + 60000 * msFine < t then s.reply sp.op pk .badParam [sp.instant.getD 0 + 1, 0]
        else if s.uncertain && !pk.force then s.reply sp.op pk .timeUncertain [0, 0]
        else if t ≤ s.time.cvt then finish sp pk slot s.uncertain s v
        else
          let h : Held := ⟨sp.op, pk, slot, t, s.time.epoch, s.uncertain⟩
          let s := { s with esl := { s.esl with held := s.esl.held ++ [h] } }
          if slot = 0 then s
          else (s.modApt pk.o (fun a => a.setSlot slot { a.slot slot with pending := true })).reply sp.op pk .accepted [slot]

/-- The Keeper does not execute: the block sleeps, or is entering sleep (R344, R356). -/
def State.asleep (s : State) : Bool := decide (s.lk.st ≠ .underway) || s.lk.entering.isSome

/-- The response of the host target port to the request accepted last (R66, R67). -/
def State.respond (s : State) (id : BitVec 8) (err : BitVec 2) (data : W64) : State :=
  { s with io := { s.io with rspVld := true, rspId := id, rspErr := err, rdata := data } }

/-- An access of the host target port: it wakes the block (R515) and is answered OK (R67). Only REGISTER_WRITE names the HT_ID
and HT_ADDR of its request; every other access row is of HT_ID 0 (log 95). -/
def State.hostAccess (s : State) : State := (s.wake .hostAccess).respond 0 0 0

/-- Writes to a closed aperture are discarded and counted, one per 64-bit write of the packet's words (R377, log 16). -/
def State.discard (s : State) (o n : Nat) : State := s.modApt o (fun a => { a with discards := satAdd (2 ^ 32 - 1) a.discards n })

/-- Write a packet's words into its aperture, the last of them the doorbell (R376), and execute it. A packet launched
while the block sleeps waits for the exit, its aperture closed (R356, R377); the port takes none while PORST_N is low (R42). -/
def launch (sp : OpSpec) (body : Pkt → Nat → State → Verdict) (pk : Pkt) (s : State) : State :=
  if s.dev.phase = .held then s
  else
  let s := s.hostAccess
  let a := s.apt pk.o
  if a.closed then s.discard pk.o ((pk.ps.length + 2) / 2)
  else
    let s := s.setApt pk.o { a with
      buf := pk.header sp.op :: (pk.ps ++ a.buf.drop (pk.ps.length + 1)), closed := true, seq := pk.seq,
      op := BitVec.ofNat 8 sp.op, s0 := { a.s0 with pending := true } }
    if s.asleep then { s with esl := { s.esl with waiting := s.esl.waiting ++ [(sp.op, pk)] } }
    else runPacket sp body pk s

/-- One check of R385: when it fails, the status and the index of the failing word. -/
def chk (bad : Bool) (st : Status) (i : Nat) (k : Verdict) : Verdict := if bad then .reject st i 0 else k

/-- The owner field of word i: an ACTIVE charter or the harbourmaster (R385 check 7, R394). -/
def concern (o i : Nat) (s : State) (k : Verdict) : Verdict :=
  chk (decide (o < 16) && !s.active o) .noCharter i (chk (decide (16 < o)) .badParam i k)

/-- The first probe of a set that exists and is not owned (check 8). -/
def firstDenied (s : State) (owned : Nat → Bool) (ps : List Nat) : Option Nat :=
  ps.find? (fun p => decide (p < s.ident.nProbes) && !owned p)

/-- The first probe of a set at or above N (R394, check 9). -/
def firstAbsent (s : State) (ps : List Nat) : Option Nat := ps.find? (fun p => decide (s.ident.nProbes ≤ p))

/-- The checks of a probe set as a list: owned (check 8), below N (R394, check 9). The index is that of the first word
with a failing probe. -/
def checkList (ps : List Nat) (s : State) (owned : Nat → Bool) (k : List Nat → Verdict) : Verdict :=
  match firstDenied s owned ps with
  | some p => .reject .denied (p / 32 + 1) 0
  | none =>
    match firstAbsent s ps with
    | some p => .reject .badParam (p / 32 + 1) 0
    | none => k ps

/-- The checks of the probe set of P1 to P4. -/
def checkSet (pk : Pkt) (s : State) (owned : Nat → Bool) (k : List Nat → Verdict) : Verdict :=
  checkList (probeList pk.probes) s owned k

/-- A long operation's job (R389). -/
def State.addJob (s : State) (op : Nat) (pk : Pkt) (slot a b c : Nat) : State :=
  { s with esl := { s.esl with jobs := s.esl.jobs ++ [⟨op, pk.o, pk.seq, slot, a, b, c, s.now⟩] } }

def State.findJob (s : State) (op : Nat) : Option Job := s.esl.jobs.find? (fun j => j.op = op)

/-- Remove a job and post its completion. -/
def State.endJob (s : State) (j : Job) (st : Status) (ws : List Nat) : State :=
  ({ s with esl := { s.esl with jobs := s.esl.jobs.erase j } }).complete j.op j.owner j.seq j.slot st (failWords st ws)

end Sys2Proof.Machine
end

