-- ==== Sys2Proof/Machine/ChInput.lean ====
section
/-! DEFINITION. The op descriptor's fields (R286) and the record inputs of an op (R282 to R285, R290). -/

namespace Sys2Proof.Machine

def dfld (d : List W32) (w lo len : Nat) : Nat := fld (d.getD w 0) lo len

/-- Space and ring size of input j (R286). -/
def inSpace (d : List W32) (j : Nat) : Nat := dfld d (6 + 4 * j) 0 3
def inRing (d : List W32) (j : Nat) : Nat := dfld d (6 + 4 * j) 3 9

def srcIn (d : List W32) (j src : Nat) : Bool := decide (dfld d (7 + 4 * j) 0 8 ≤ src) && decide (src ≤ dfld d (7 + 4 * j) 8 8)

/-- Whether a record matches the filter of a record input. -/
def inMatches (d : List W32) (j : Nat) (r : Rec) : Bool :=
  srcIn d j r.src.toNat && (dfld d (7 + 4 * j) 16 4).testBit r.cls &&
  (decide (dfld d (7 + 4 * j) 20 6 = 0x3F) || decide (dfld d (7 + 4 * j) 20 6 = r.ty.toNat))

/-- What a WEIR of the owner adds to the lost count (R284): it covers a matched source and overlaps the input's span, which
begins with the capture, or with an earlier record delivered. -/
def Input.weir (d : List W32) (j : Nat) (r : Rec) (i : Input) : Input :=
  let lost := bits r.payload.toNat 8 8
  let end_ := r.ts + ((r.extra.headD 0).toNat % 2 ^ 21 + 2 ^ 21 - r.ts % 2 ^ 21) % 2 ^ 21
  let meets := match i.firstTs with | some t => decide (t ≤ end_) | none => true
  if r.ty = 3 && meets && (decide (lost = 255) || srcIn d j lost) then
    let w2 := (r.extra.getD 1 0).toNat
    let w3 := (r.extra.getD 2 0).toNat
    let m := dfld d (7 + 4 * j) 16 4
    let n := (if m.testBit 1 then bits w2 0 32 else 0) + (if m.testBit 2 then bits w2 32 32 else 0) + (if m.testBit 3 then bits w3 0 32 else 0)
    { i with lost := satAdd (2 ^ 32 - 1) i.lost n, unknown := i.unknown || r.payload.toNat.testBit 1 }
  else i

/-- A record into the input's rings, one logical index in turn; of a STREAM input, one that finds its ring full is lost
(R284). A standing op's ring is used in halves (R290). Basin and ledger data wait where they are (R285). -/
def Input.put (d : List W32) (j cores parts : Nat) (ts : Nat) (r : RingRec) (i : Input) : Input :=
  let c := i.delivered % (max 1 cores)
  let held := (i.recs.filter (fun e => e.1 = c)).foldl (fun a e => a + e.2.words.length) 0
  if decide (inSpace d j ≠ 1) || decide ((held + r.words.length) * 8 * parts ≤ inRing d j * 1024) then
    { i with recs := i.recs ++ [(c, r)], delivered := i.delivered + 1, firstTs := some (min (i.firstTs.getD ts) ts) }
  else { i with lost := satAdd (2 ^ 32 - 1) i.lost 1, delivered := i.delivered + 1 }

/-- A record of a record space reaches an input; `cell` and `bad` as in `RingRec`. -/
def Input.take (d : List W32) (j cores parts cell : Nat) (bad : Bool) (r : Rec) (i : Input) : Input :=
  let i := i.weir d j r
  if inMatches d j r then i.put d j cores parts r.ts ⟨r.words, bad, cell⟩ else i

def OpInst.input (o : OpInst) (j : Nat) : Input := if j = 0 then o.i0 else o.i1

def OpInst.setInput (o : OpInst) (j : Nat) (i : Input) : OpInst := if j = 0 then { o with i0 := i } else { o with i1 := i }

def Standing.input (o : Standing) (j : Nat) : Input := if j = 0 then o.i0 else o.i1

def Standing.setInput (o : Standing) (j : Nat) (i : Input) : Standing := if j = 0 then { o with i0 := i } else { o with i1 := i }

/-- Both inputs of a running op that read a space see a record, where `open_` holds of the input. -/
def OpInst.see (o : OpInst) (space cores cell : Nat) (bad : Bool) (open_ : Nat → Bool) (r : Rec) : OpInst :=
  [0, 1].foldl (fun o j => if inSpace o.desc j = space && open_ j then o.setInput j ((o.input j).take o.desc j cores 1 cell bad r) else o) o

def Standing.see (x : Standing) (cores : Nat) (r : Rec) : Standing :=
  [0, 1].foldl (fun x j => if inSpace x.desc j = 1 then x.setInput j ((x.input j).take x.desc j cores 2 0 false r) else x) x

def opRepeat (d : List W32) : Nat := dfld d 0 19 2

/-- A standing op's next ready time in qt: a multiple of its period after now (R288). -/
def nextReady (d : List W32) (ts : Nat) : Nat :=
  let p := (d.getD 2 0).toNat * 4000
  if p = 0 then ts else (ts / p + 1) * p

/-- A step of Convoy Time moves the ready times that a PERIOD op still expects to the multiples after the new time (R288). -/
def State.retime (s : State) (old : Nat) : State :=
  { s with ch := { s.ch with standing := s.ch.standing.map (fun (x : Standing) =>
      if opRepeat x.desc = 2 && decide (old < x.nextTs) then { x with nextTs := nextReady x.desc s.ts } else x) } }

/-- An input whose capture begins (R284): the span of a record input starts here. -/
def Input.begin_ (ts : Nat) : Input := { Input.zero with firstTs := some ts }

/-- The capture window of a STREAM input of a ONCE op, in us (R286). -/
def inWindow (d : List W32) (j : Nat) : Nat := (d.getD (8 + 4 * j) 0).toNat

/-- A STREAM input of a running ONCE op captures (R290). -/
def Running.captures (x : Running) (now j : Nat) : Bool :=
  decide (opRepeat x.op.desc = 0) && decide (now < x.capFrom + inWindow x.op.desc j * 1000)

/-- An op takes its record inputs once: a duplicated op's second run sees what the first one had (R308). -/
def Running.takes (x : Running) : Bool := x.firstRun.isNone

/-- The spine delivers a record to the STREAM inputs (R282): a standing op's, and a ONCE op's inside its window (R290). -/
def State.streamIn (s : State) (r : Rec) : State :=
  let n := popcount s.ch.online
  { s with ch := { s.ch with
      standing := s.ch.standing.map (fun (x : Standing) => if x.owner = r.owner then x.see n r else x)
      run := s.ch.run.map (fun (x : Running) =>
        if x.op.owner = r.owner && x.takes then { x with op := x.op.see 1 x.cores.length 0 false (x.captures s.now) r } else x) } }

/-- A record admitted to the charter queue, in a cell, reaches the BASIN inputs of the owner's running op (R282). -/
def State.basinIn (s : State) (cell : Nat) (r : Rec) : State :=
  { s with ch := { s.ch with run := s.ch.run.map (fun (x : Running) =>
      if x.op.owner = r.owner && x.takes then { x with op := x.op.see 2 x.cores.length cell false (fun _ => true) r } else x) } }

/-- An ASSAY input takes a tap and a tensor (R286). -/
def assayHit (d : List W32) (j t : Nat) (tid : BitVec 16) : Bool :=
  decide (inSpace d j = 4) && (dfld d (7 + 4 * j) 0 4).testBit t &&
  decide (tid.toNat &&& dfld d (8 + 4 * j) 0 16 = dfld d (7 + 4 * j) 16 16 &&& dfld d (8 + 4 * j) 0 16)

/-- An op, standing or a running ONCE op, has an ASSAY input from the tap: the tap's beats are taken for it (R282, log 28). -/
def State.assayTap (s : State) (t : Nat) : Bool :=
  let hit := fun (d : List W32) => [0, 1].any (fun j => decide (inSpace d j = 4) && (dfld d (7 + 4 * j) 0 4).testBit t)
  s.ch.standing.any (fun x => hit x.desc) || (match s.ch.run with | some x => hit x.op.desc | none => false)

/-- An op of the owner, standing or a running ONCE op, has an ASSAY input for the tensor. -/
def State.assayWants (s : State) (t o : Nat) (tid : BitVec 16) : Bool :=
  let hit := fun (d : List W32) => assayHit d 0 t tid || assayHit d 1 t tid
  s.ch.standing.any (fun x => decide (x.owner = o) && hit x.desc) ||
  (match s.ch.run with | some x => decide (x.op.owner = o) && hit x.op.desc | none => false)

/-- The statistics of a row or an instance reach the ASSAY inputs of an owner whose filter takes the tap and the tensor
(R282, R286): a running op's, and a standing op's between its ready times (log 28). -/
def State.assayIn (s : State) (t o : Nat) (tid : BitVec 16) (r : Rec) : State :=
  let rr : RingRec := ⟨r.words, false, 0⟩
  let n := popcount s.ch.online
  { s with ch := { s.ch with
      standing := s.ch.standing.map (fun (x : Standing) => if x.owner = o then
        [0, 1].foldl (fun x j => if assayHit x.desc j t tid then x.setInput j ((x.input j).put x.desc j n 2 r.ts rr) else x) x else x)
      run := s.ch.run.map (fun (x : Running) => if x.op.owner = o && x.takes && decide (opRepeat x.op.desc = 0) then
        { x with op := [0, 1].foldl (fun p j => if assayHit p.desc j t tid then p.setInput j ((p.input j).put p.desc j x.cores.length 1 r.ts rr) else p) x.op }
        else x) } }

/-- The records of a basin cell, as 1 plus its number, that the running op's BASIN inputs have and some core has not
received (R285). -/
def State.opWants (s : State) (o cell : Nat) : Bool :=
  match s.ch.run with
  | none => false
  | some x => decide (x.op.owner = o) && [0, 1].any (fun j => decide (inSpace x.op.desc j = 2) &&
      (List.range x.cores.length).any (fun l =>
        let mine := (x.op.input j).recs.filter (fun e => e.1 = l)
        (mine.drop (tget (tget s.ch.cores (x.cores.getD l 0) Core.zero).pos j 0)).any (fun e => e.2.cell = cell)))

end Sys2Proof.Machine
end

