-- ==== Sys2Proof/WellFormed.lean ====
section
/-! DEFINITION. What a command's operands must satisfy to be one the ports can carry: L of a packet is an 8-bit field
(R381), a sensor scan reads each of its sensors at most once (R324), a march test names rows a bank has (R437), a
recalibration takes 16 readings of each of 32 sensors and one of each of 72 monitors (R343). -/

namespace Sys2Proof

/-- L fits its 8-bit field. -/
def Pkt.wf (pk : Pkt) : Bool := pk.ps.length ≤ 255

/-- Rows of a bank (R437). -/
def bankRows (b : Nat) : Nat :=
  if b < 12 then 1024 else if b < 28 then 512 else if b < 31 then 1024 else if b = 31 then 32 else if b = 32 then 16 else 1

def RowFault.wf (r : RowFault) : Bool := r.row < bankRows r.bank

def SensorReply.wf (lo n : Nat) (rs : List SensorReply) : Bool :=
  rs.all (fun r => lo ≤ r.addr.toNat && r.addr.toNat < lo + n) && decide (rs.map SensorReply.addr).Nodup

/-- A command the ports can carry. Packet rows: the packet is. -/
def Instr.wf : Instr → Bool
  | .coldStart _ f => f.rows.all RowFault.wf
  | .sensorScan rs => SensorReply.wf 72 32 rs
  | .surveyTick r => SensorReply.wf 0 72 r.monitors
  | .surveyRecalDone rs => rs.length ≤ 584
  | .packetBadOpcode _ pk => pk.wf
  | .keyZeroise pk _ => pk.wf
  | .nop pk => pk.wf
  | .identify pk => pk.wf
  | .modeSet pk => pk.wf
  | .settingsSave pk => pk.wf
  | .healthCfg pk => pk.wf
  | .probeOwners pk => pk.wf
  | .rangeSet pk => pk.wf
  | .pmcConfig pk => pk.wf
  | .counterEnable pk => pk.wf
  | .counterWrite pk => pk.wf
  | .ovfClear pk => pk.wf
  | .snapshot pk => pk.wf
  | .probeTiming pk => pk.wf
  | .tallySet pk => pk.wf
  | .samplerConfig pk => pk.wf
  | .cmdStream pk => pk.wf
  | .edgeStream pk => pk.wf
  | .tieMode pk => pk.wf
  | .probeStatus pk => pk.wf
  | .partitionSet pk => pk.wf
  | .ownerExport pk => pk.wf
  | .exportSet pk => pk.wf
  | .flush pk => pk.wf
  | .ledgerSet pk => pk.wf
  | .ledgerTrigger pk => pk.wf
  | .ledgerRelease pk => pk.wf
  | .ledgerRead pk => pk.wf
  | .ledgerStatus pk => pk.wf
  | .tapSafety pk => pk.wf
  | .tapMeasure pk => pk.wf
  | .tableBase pk => pk.wf
  | .tableEntry pk => pk.wf
  | .watchAssign pk => pk.wf
  | .watchConfig pk => pk.wf
  | .watchArm pk => pk.wf
  | .assayCounters pk => pk.wf
  | .tapReenable pk => pk.wf
  | .opSubmit pk => pk.wf
  | .opCancel pk => pk.wf
  | .itinLoad pk => pk.wf
  | .modelLoad pk => pk.wf
  | .slotUnload pk => pk.wf
  | .chAllot pk => pk.wf
  | .chStatus pk => pk.wf
  | .timeStatus pk => pk.wf
  | .servoSet pk => pk.wf
  | .reanchor pk => pk.wf
  | .laneAsym pk => pk.wf
  | .powerPolicy pk => pk.wf
  | .envelopeSet pk => pk.wf
  | .derateSet pk => pk.wf
  | .coolantReport pk => pk.wf
  | .domainSet pk => pk.wf
  | .domainAssign pk => pk.wf
  | .frameSchedule pk => pk.wf
  | .framePlan pk => pk.wf
  | .powerStatus pk => pk.wf
  | .charterBegin pk => pk.wf
  | .charterEnd pk => pk.wf
  | .attest pk => pk.wf
  | .keyAgree pk => pk.wf
  | .keyInstall pk => pk.wf
  | .linkMode pk => pk.wf
  | .charterStatus pk => pk.wf
  | .surveySet pk => pk.wf
  | .surveyPredict pk => pk.wf
  | .surveyCheckpoint pk => pk.wf
  | .surveyRecal pk => pk.wf
  | .surveyRead pk => pk.wf
  | .faultRead pk => pk.wf
  | .faultRelease pk => pk.wf
  | .faultPolicy pk => pk.wf
  | .faultInject pk => pk.wf
  | .updateBegin pk => pk.wf
  | .updateData pk => pk.wf
  | .updateCommit pk => pk.wf
  | .updateAbort pk => pk.wf
  | .logbookRead pk => pk.wf
  | .stpControl pk => pk.wf
  | .serviceStatus pk => pk.wf
  | .spareFuse pk => pk.wf
  | .coreRetest pk => pk.wf
  | _ => true

end Sys2Proof
end

