-- ==== Sys2Proof/Machine/Banks.lean ====
section
/-! DEFINITION. Stored words (13): codes, side entries, poison, counting of corrections, clearing of banks. A bank's words
are plain data unless `ecc.word` lists them (log 12). -/

namespace Sys2Proof.Machine

/-- Banks of 32-bit words (R437). -/
def is32 (b : Nat) : Bool := decide (b = 30) || decide (b = 32)

/-- Words per row: 64, or 256 in a bank of 32-bit words (R438). -/
def rowWords (b : Nat) : Nat := if is32 b then 256 else 64

def bankWords (b : Nat) : Nat := bankRows b * rowWords b

/-- Spare rows of a bank (R437). -/
def bankSpares (b : Nat) : Nat := if b < 12 then 16 else if b < 28 then 8 else if b < 31 then 16 else 0

def codeWidth (b : Nat) : Nat := if is32 b then 32 else 128

def poisonCode (b : Nat) : BitVec 9 := if is32 b then 0x7F else 0x1FF

def eccKey (b : Nat) (copy : Bool) (w : Nat) : Nat := b * 2 ^ 25 + b2n (copy && decide (b = 32)) * 2 ^ 24 + w

def EccWord.plain : EccWord := ⟨0, 0, false, false⟩

def State.word? (s : State) (b : Nat) (copy : Bool) (w : Nat) : Option EccWord :=
  (s.ecc.word.find? (fun e => e.1 = eccKey b copy w)).map Prod.snd

def State.setWord (s : State) (b : Nat) (copy : Bool) (w : Nat) (x : EccWord) : State :=
  { s with ecc := { s.ecc with word := tset s.ecc.word (eccKey b copy w) x EccWord.plain } }

def State.dropWord (s : State) (b : Nat) (copy : Bool) (w : Nat) : State :=
  { s with ecc := { s.ecc with word := s.ecc.word.filter (fun e => e.1 ≠ eccKey b copy w) } }

/-- The syndrome: stored check bits against those of the stored data at its logical address (R440). -/
def EccWord.syndrome (x : EccWord) (b w : Nat) : BitVec 9 := x.check ^^^ Config.eccCheck (codeWidth b) w x.data

/-- The decoder's result: 0 clean, 1 correctable, 2 uncorrectable, 3 poisoned (R441, R442, R537). -/
def EccWord.result (x : EccWord) (b w : Nat) : Nat :=
  if x.poison then 3
  else if !x.valid then 0
  else if x.syndrome b w = poisonCode b then 3
  else if x.syndrome b w = 0 then 0
  else if (Config.eccColumn (codeWidth b) (x.syndrome b w)).isSome then 1 else 2

/-- The data a read delivers: corrected, zero for a poisoned, uncorrectable or invalid word (R442, R445). -/
def EccWord.read (x : EccWord) (b w : Nat) : BitVec 128 :=
  match x.result b w with
  | 0 => if x.valid then x.data else 0
  | 1 => match Config.eccColumn (codeWidth b) (x.syndrome b w) with
    | some c => if c < 128 then x.data ^^^ BitVec.ofNat 128 (2 ^ c) else x.data
    | none => x.data
  | _ => 0

/-- Rewrite a word poisoned in place (R441, R445). -/
def State.poisonWord (s : State) (b : Nat) (copy : Bool) (w : Nat) : State :=
  s.setWord b copy w ⟨0, Config.eccCheck (codeWidth b) w 0 ^^^ poisonCode b, true, true⟩

/-- Count a correction: the counter, and the bucket or its overflow (R447). -/
def State.countCe (s : State) (b : Nat) (copy : Bool) : State :=
  let k := bankKey b copy
  let x := s.bank k
  let s := s.setBank k { x with ce := satAdd (2 ^ 32 - 1) x.ce 1, bucket := min 16 (x.bucket + 1) }
  if x.bucket < 16 then s
  else if s.win.eccOvf.getLsbD b then s
  else ({ s with win := { s.win with eccOvf := setBit s.win.eccOvf b true } }).raise 0xB02 b 0

/-- The row of a word (R438). -/
def wordRow (b w : Nat) : Nat := w / rowWords b

/-- Uncorrectable words in four rows within 1 s have been found: the bank is to fail (R453). -/
def Bank.fourRows (x : Bank) : Bool := decide (4 ≤ (x.ueRows.map Prod.fst).eraseDups.length)

/-- Count an uncorrectable word found (R447), and remember its row for a second (R453). -/
def State.countUe (s : State) (b : Nat) (copy : Bool) (w : Nat) : State :=
  s.modBank (bankKey b copy) (fun x => { x with
    ue := satAdd (2 ^ 32 - 1) x.ue 1
    ueRows := if x.fourRows then x.ueRows else x.ueRows.filter (fun e => decide (s.now < e.2 + 1000000000)) ++ [(wordRow b w, s.now)] })

/-- A normal read of a word (R445): whether it delivers poison. -/
def State.readWord (s : State) (b : Nat) (copy : Bool) (w : Nat) : Bool × State :=
  if (s.bank (bankKey b copy)).failed then (true, s)
  else match s.word? b copy w with
    | none => (false, s)
    | some x =>
      match x.result b w with
      | 0 => (false, s)
      | 1 => (false, s.countCe b copy)
      | 2 => (true, ((s.countUe b copy w).poisonWord b copy w).raise 0xB00 b w)
      | _ => (true, s)

/-- Read a range of words: whether any of them delivers poison. -/
def State.readRange (s : State) (b : Nat) (w n : Nat) : Bool × State :=
  if (s.bank (bankKey b false)).failed then (true, s)
  else
    (s.ecc.word.filter (fun e => decide (eccKey b false w ≤ e.1) && decide (e.1 < eccKey b false w + n))).foldl
      (fun a e => let r := a.2.readWord b false (e.1 - eccKey b false 0); (a.1 || r.1, r.2)) (false, s)

/-- A range is written afresh: whole-word writes clear its poison (R442, R444). -/
def State.writeRange (s : State) (b : Nat) (w n : Nat) : State :=
  { s with ecc := { s.ecc with
      word := s.ecc.word.filter (fun e => !(decide (eccKey b false w ≤ e.1) && decide (e.1 < eccKey b false w + n))) } }

/-- Clear a bank's valid bits (R442). -/
def State.clearBank (s : State) (b : Nat) : State :=
  let s := { s with ecc := { s.ecc with word := s.ecc.word.filter (fun e => e.1 / 2 ^ 25 ≠ b) } }
  (s.modBank (bankKey b false) (fun x => { x with merge := [] })).modBank (bankKey b true) (fun x => { x with merge := [] })

def State.clearBanks (s : State) (bs : List Nat) : State := bs.foldl State.clearBank s

/-- A bank whose domain goes off loses its contents; its pass starts again at word 0 (R442, R448). -/
def State.bankOff (s : State) (b : Nat) : State :=
  [false, true].foldl (fun s c => s.modBank (bankKey b c) (fun x => { x with pos := 0, again := [], passNo := 0 })) (s.clearBank b)

/-- Exit from TEST (R27, R459): the banks written in check-bit test mode are cleared, their buckets, counters and suspect
tables reset, and the sparing decisions made in TEST on them undone. -/
def State.leaveTest (s : State) : State :=
  let ks := (s.ecc.bank.filter (fun e => e.2.touched)).map Prod.fst
  let s := s.clearBanks (ks.map (· / 2))
  let s := ks.foldl (fun s k =>
    let old := tget s.ecc.testBank k Bank.zero
    s.setBank k { Bank.zero with spares := old.spares, failed := old.failed, exhausted := old.exhausted,
                                 pos := (s.bank k).pos, passNo := (s.bank k).passNo, passAt := (s.bank k).passAt }) s
  let mine := fun (m : MapEntry) => decide (m.kind ≠ 2) && ks.any (fun k => k / 2 = m.bank)
  { s with ecc := { s.ecc with map := s.ecc.map.filter (fun m => !mine m) ++ s.ecc.testMap.filter mine,
                               testBank := [], testMap := [] } }

end Sys2Proof.Machine
end

