-- ==== Sys2Proof/Machine/Merge.lean ====
section
/-! DEFINITION. The merge buffers (R443, R444). -/

namespace Sys2Proof.Machine

def State.dropMerge (s : State) (b w : Nat) : State :=
  s.modBank (bankKey b false) (fun x => { x with merge := x.merge.filter (fun e => e.word ≠ w) })

/-- Complete an entry by read-modify-write: whether its word was uncorrectable. A poisoned word stays so; an
uncorrectable one is written poisoned and counted as one the patrol finds (R444, R450). -/
def State.rmw (s : State) (b : Nat) (e : Merge) : Bool × State :=
  let s := s.dropMerge b e.word
  match s.word? b false e.word with
  | none => (false, s)
  | some x =>
    match x.result b e.word with
    | 0 => (false, s.dropWord b false e.word)
    | 1 => (false, (s.countCe b false).dropWord b false e.word)
    | 2 =>
      let s := ((s.countUe b false e.word).poisonWord b false e.word).raise 0xB01 b e.word
      (true, if (8 ≤ b && b < 12) || b = 33 then s.raise 0x501 b 0 else s)
    | _ => (false, s)

/-- A byte of an entry has a parity error: its word is written poisoned (R444). -/
def State.mergeParity (s : State) (b : Nat) (e : Merge) : State := (s.dropMerge b e.word).poisonWord b false e.word

/-- A full word is written with fresh check bits, its poison cleared (R444). -/
def State.writeWord (s : State) (b w : Nat) : State := (s.dropMerge b w).dropWord b false w

/-- A write of some bytes of a word (R443): a full mask writes at once; a full buffer completes its oldest entry. -/
def State.mergeWord (s : State) (b w : Nat) (mask : BitVec 16) : State :=
  if mask = 0xFFFF then s.writeWord b w
  else
    let x := s.bank (bankKey b false)
    match x.merge.find? (fun e => e.word = w) with
    | some e =>
      let m := e.mask ||| mask
      if m = 0xFFFF then s.writeWord b w
      else s.modBank (bankKey b false) (fun x => { x with merge := x.merge.map (fun (e : Merge) => if e.word = w then { e with mask := m } else e) })
    | none =>
      let s := if x.merge.length < 8 then s else match x.merge with | e :: _ => (s.rmw b e).2 | [] => s
      s.modBank (bankKey b false) (fun x => { x with merge := x.merge ++ [⟨w, mask, s.now⟩] })

/-- A write of `n` bytes from byte address `a` of a bank of 128-bit words. -/
def State.mergeBytes (s : State) (b a n : Nat) : State :=
  (List.range ((a + n + 15) / 16 - a / 16)).foldl (fun s i =>
    let w := a / 16 + i
    let lo := if i = 0 then a % 16 else 0
    let hi := min 16 (a + n - 16 * w)
    s.mergeWord b w (BitVec.ofNat 16 (2 ^ hi - 2 ^ lo))) s

/-- Entries of a range are completed before it is read (R444). -/
def State.settle (s : State) (b w n : Nat) : State :=
  ((s.bank (bankKey b false)).merge.filter (fun e => decide (w ≤ e.word) && decide (e.word < w + n))).foldl (fun s e => (s.rmw b e).2) s

/-- Read words of a bank of 128-bit words, open entries first: whether any delivers poison. -/
def State.fetch (s : State) (b w n : Nat) : Bool × State := (s.settle b w n).readRange b w n

/-- Every entry is completed before the clocks stop (R444). -/
def State.settleAll (s : State) : State :=
  (List.range 34).foldl (fun s b => (s.bank (bankKey b false)).merge.foldl (fun s e => (s.rmw b e).2) s) s

end Sys2Proof.Machine
end

