-- ==== Sys2Proof/Machine/Items.lean ====
section
/-! DEFINITION. Logbook items and the settings payload (15, R494 to R498), and access to the Logbook (R25, R476). -/

namespace Sys2Proof.Machine

/-- One Logbook access: whether it succeeds; three failures within 100 ms raise LOGBOOK_UNAVAILABLE, and a success ends
the condition (R476). -/
def State.lbAccess (s : State) : Bool × State :=
  if s.lb.present then
    (true, ({ s with lb := { s.lb with fails := [], down := false } }).setPersist 0x203 0 false)
  else
    let fs := (s.lb.fails ++ [s.now]).filter (fun t => decide (s.now < t + 100000000))
    let up := decide (3 ≤ fs.length) && !s.lb.down
    let s := { s with lb := { s.lb with fails := fs, down := s.lb.down || up } }
    (false, if up then (s.raise 0x203 0 0).setPersist 0x203 0 true else s)

/-- Deferred Logbook writes are not taken while it is unavailable (R25). -/
def State.lbWrite (s : State) (f : Logbook → Logbook) : State :=
  let r := s.lbAccess
  if r.1 then { r.2 with lb := f r.2.lb } else r.2

/-- An item's header (R495). -/
def itemHeader (kind index auth ver : Nat) (payload : List Byte) : List Byte :=
  leBytes 4 0x1D3E5A83 ++ leBytes 1 1 ++ leBytes 1 kind ++ leBytes 1 index ++ leBytes 1 auth ++ leBytes 4 payload.length ++
  leBytes 4 ver ++ beBytes 32 (Config.sha256 payload).toNat ++ List.replicate 16 0

/-- An item sealed by the block: auth MAC under label 0x05 (R496). -/
def macItem (kind index ver : Nat) (payload : List Byte) : List Byte :=
  let h := itemHeader kind index 1 ver payload
  h ++ payload ++ beBytes 32 (Config.hmac (Config.keyStore 5) (h ++ payload)).toNat ++ List.replicate 96 0

def itemKind (b : List Byte) : Nat := ofLe (slice b 5 1)
def itemIndex (b : List Byte) : Nat := ofLe (slice b 6 1)
def itemAuth (b : List Byte) : Nat := ofLe (slice b 7 1)
def itemLen (b : List Byte) : Nat := ofLe (slice b 8 4)
def itemVersion (b : List Byte) : BitVec 32 := BitVec.ofNat 32 (ofLe (slice b 12 4))
def itemPayload (b : List Byte) : List Byte := slice b 64 (itemLen b)
def itemTrailer (b : List Byte) : List Byte := slice b (64 + itemLen b) 128

/-- The header is one of R495 for this kind, and the digest matches the payload. -/
def itemFormed (kind : Nat) (b : List Byte) : Bool :=
  decide (ofLe (slice b 0 4) = 0x1D3E5A83) && decide (ofLe (slice b 4 1) = 1) && decide (itemKind b = kind) &&
  decide (b.length = 192 + itemLen b) && decide (b.length ≤ 2 ^ 20) &&
  (decide (kind ≠ 0) || decide (itemLen b ≤ 393216)) &&
  decide (ofBe (slice b 16 32) = (Config.sha256 (itemPayload b)).toNat)

/-- The signature of an item with auth SIG verifies (R496). -/
def itemSigned (kind : Nat) (b : List Byte) : Bool :=
  let t := itemTrailer b
  let pub := t.take 64
  decide (Config.sha256 pub = Config.keyDigest (if kind = 0 then 0 else 1)) &&
  Config.ecVerify (BitVec.ofNat 512 (ofBe pub)) (Config.sha256 (b.take (64 + itemLen b))) (BitVec.ofNat 512 (ofBe (slice t 64 64)))

/-- An item verifies (R496). -/
def itemOk (kind : Nat) (b : List Byte) : Bool :=
  itemFormed kind b &&
  (if itemAuth b = 0 then decide (kind ≠ 5) && itemSigned kind b
   else decide (itemAuth b = 1) && (decide (kind = 1) || decide (kind = 2) || decide (kind = 5)) &&
     decide (ofBe ((itemTrailer b).take 32) = (Config.hmac (Config.keyStore 5) (b.take (64 + itemLen b))).toNat))

/-! ## Settings (R498) -/

/-- The fixed block's fields of a settings item: housing ID, stp_auto, survey model. -/
def setHousing (b : List Byte) : Nat := if b.isEmpty then 0 else ofLe (slice (itemPayload b) 0 4)
def setModel (b : List Byte) : Nat := if b.isEmpty then 0xFF else ofLe (slice (itemPayload b) 5 1)
def setStpAuto (b : List Byte) : Bool := if b.isEmpty then false else decide (ofLe (slice (itemPayload b) 4 1) = 1)
def setCount (b : List Byte) : Nat := ofLe (slice (itemPayload b) 6 2)

/-- The packets of a list of words, as the harbourmaster's. -/
def parsePackets : Nat → List W32 → List (Nat × Pkt)
  | 0, _ => []
  | _ + 1, [] => []
  | n + 1, h :: ws =>
    let l := fld h 16 8
    (fld h 24 8, ⟨16, BitVec.ofNat 8 (fld h 8 8), BitVec.ofNat 5 (fld h 3 5), flag h 2, flag h 1, flag h 0, ws.take l⟩)
      :: parsePackets n (ws.drop l)

def settingsPackets (b : List Byte) : List (Nat × Pkt) :=
  parsePackets (setCount b) (words32 ((itemPayload b).drop 64))

def settingsOps : List Nat :=
  [0x02, 0x04, 0x10, 0x17, 0x30, 0x31, 0x32, 0x34, 0x40, 0x44, 0x55, 0x61, 0x63, 0x70, 0x71, 0x72, 0x75, 0x76, 0x77, 0x86,
   0x90, 0xA2]

def hmWords (op : Nat) (ps : List Nat) : List Nat := (op * 2 ^ 24 + ps.length * 2 ^ 16 + 16 * 8) :: ps

def setWords (p : Nat) : List Nat := (List.range 4).map (fun i => if p / 32 = i then 2 ^ (p % 32) else 0)

def PlanStep.words (x : PlanStep) : List Nat :=
  [unsgn 32 x.offset, x.action + x.taps.toNat * 4 + x.mask.toNat / 2 ^ 64 * 64, x.mask.toNat % 2 ^ 32, x.mask.toNat / 2 ^ 32 % 2 ^ 32]

def LedgerCfg.maskWords (c : LedgerCfg) : List Nat :=
  (List.range 3).map (fun j => (List.range 8).foldl (fun a i =>
    a + (if 8 * j + i < 17 then (tget c.cmask (8 * j + i) 0).toNat * 16 ^ i else 0)) 0)

/-- P1 of the TAP_SAFETY that sets the harbourmaster's fields of a tap (R398). -/
def Safety.word (f : Safety) (t : Nat) : Nat :=
  t + hm * 2 ^ 2 + b2n f.enable * 2 ^ 7 + f.qfmt.toNat * 2 ^ 8 + b2n f.asym * 2 ^ 12 + b2n f.rtz * 2 ^ 13 + f.tol * 2 ^ 14 +
    f.zpTol * 2 ^ 22 + f.mmClass * 2 ^ 25 + f.excMax * 2 ^ 27 + b2n f.ledger * 2 ^ 29

/-- The LANE_ASYM packets (R401): the switch of R130, and each constant that the Logbook does not hold. -/
def State.asymList (s : State) : List (List Nat) :=
  let no := b2n s.convoy.noAuto * 16
  (if s.convoy.noAuto then [hmWords 0x63 [no + 32, 0]] else []) ++
  (List.range 6).filterMap (fun k => match (if k % 2 = 1 then (s.peer (k / 2)).b else (s.peer (k / 2)).a).asym with
    | none => none
    | some a => if s.convoy.noAuto || decide (tget s.lb.asym k none ≠ some a) then some (hmWords 0x63 [k / 2 + k % 2 * 4 + no, unsgn 32 a]) else none)

/-- The harbourmaster settings in force, as the packets that set them (log 17). -/
def State.settingsList (s : State) : List (List Nat) :=
  let p := s.lk.policy
  let e := s.env
  let x := s.export_ hm
  let a := s.allot hm
  [hmWords 0x61 [s.time.period, s.time.kp.toNat, s.time.ki.toNat],
   hmWords 0x70 [p.depth.code + b2n p.coresIdleOff * 4 + p.pswGap * 8, p.guard, p.thrMoored, p.thrLaid, p.pswTimeout, p.coolant],
   hmWords 0x71 ([e.pCont + e.pBurst * 2 ^ 8 + e.tBurst * 2 ^ 17 + e.fallback * 2 ^ 27, e.shed.length] ++
     (List.range 4).map (fun j => (List.range 4).foldl (fun a i => a + e.shed.getD (4 * j + i) 0 * 256 ^ i) 0)),
   hmWords 0x72 [e.lead, unsgn 16 e.tKnee + unsgn 16 e.tMax * 2 ^ 16, unsgn 16 e.tNoBurst + unsgn 16 e.tStale * 2 ^ 16, e.pMin],
   hmWords 0x32 [s.mgr.cap + s.mgr.share % 16 * 2 ^ 8 + s.mgr.prioS * 2 ^ 12 + s.mgr.prioO * 2 ^ 16, s.mgr.flush,
     (List.range 8).foldl (fun a k => a + (tget s.canal.weights k 1 - 1) * 16 ^ k) 0,
     (tget s.canal.weights 8 1 - 1) + (tget s.canal.weights 9 1 - 1) * 16],
   hmWords 0x30 [hm + tget s.basins.quota hm 0 * 2 ^ 8],
   hmWords 0x31 [hm + b2n x.dram * 32 + b2n x.stp * 64 + (x.weight - 1) * 2 ^ 8 + x.log2 * 2 ^ 12, x.base % 2 ^ 32, x.base / 2 ^ 32],
   hmWords 0x34 (s.ledger.cfg.maskWords ++ [s.ledger.cfg.post, s.ledger.cfg.limit, s.ledger.cfg.permit.toNat]),
   hmWords 0x55 [hm + a.st * 2 ^ 5 + a.model * 2 ^ 11 + (a.limit - 1) * 2 ^ 17 + b2n a.stage * 2 ^ 22 + b2n a.dup * 2 ^ 23],
   hmWords 0x04 [b2n s.fc.healthOn + b2n s.fc.healthIrq * 2, s.fc.healthAddr % 2 ^ 32, s.fc.healthAddr / 2 ^ 32],
   hmWords 0x90 [s.survey.period, s.survey.advUpper.toNat, s.survey.advYears.toNat, s.survey.warnUpper.toNat, s.survey.warnYears.toNat]] ++
  (match s.frame.schedule with | some (per, ph) => [hmWords 0x76 (per :: cvtWords ph)] | none => []) ++
  [hmWords 0x77 (s.frame.plan.length :: s.frame.plan.flatMap PlanStep.words)] ++
  (s.probes.filterMap (fun q =>
    let c := q.2.cfg
    if c.period = 0 && !c.frame && !c.cswitch && c.latThr = 1024 && c.seed = 0 then none
    else some (hmWords 0x17 (setWords q.1 ++ [c.period, b2n c.frame + b2n c.cswitch * 2 + c.latThr * 4, c.seed.toNat])))) ++
  (List.range 3).filterMap (fun j => if (s.peer j).sealMode then some (hmWords 0x86 [j + 4]) else none) ++
  (List.range 4).filterMap (fun t =>
    let f := tget s.assay.safety (t * 32 + hm) Safety.zero
    if f = Safety.zero then none else some (hmWords 0x40 [f.word t])) ++
  s.asymList ++
  (faultTable.filterMap (fun f =>
    let l := s.fc.ledgerOn.contains f.1
    let q := s.fc.irqOn.contains f.1
    if l || q then some (hmWords 0xA2 [f.1 + b2n l * 2 ^ 16 + b2n q * 2 ^ 17]) else none))

/-- The settings payload: the fixed block, then the packets (R498). -/
def State.settingsPayload (s : State) : List Byte :=
  let l := s.settingsList
  leBytes 4 (setHousing s.dev.settings) ++ leBytes 1 (b2n s.svc.stpAuto) ++ leBytes 1 (setModel s.dev.settings) ++
  leBytes 2 l.length ++ List.replicate 56 0 ++ (l.flatMap (fun p => p.flatMap (leBytes 4)))

end Sys2Proof.Machine
end

