-- ==== Sys2Proof/Machine/Device.lean ====
section
/-! DEFINITION. Device and mode packets 0x00 to 0x04 (R395), reserved opcodes, and the release of a reply slot. -/

namespace Sys2Proof.Machine

/-- The opcodes that the tables of 11 assign. -/
def assignedOp (op : Nat) : Bool :=
  let lo := op % 16
  match op / 16 with
  | 0 => decide (lo < 5) | 1 => decide (lo < 14) | 3 => decide (lo < 9) | 4 => decide (lo < 9) | 5 => decide (lo < 7)
  | 6 => decide (lo < 4) | 7 => decide (lo < 9) | 8 => decide (lo < 8) | 9 => decide (lo < 5) | 10 => decide (lo < 4)
  | 11 => decide (lo < 9) | _ => false

/-- PACKET_BAD_OPCODE (R385, check 3): the row is the launch of a reserved opcode; an assigned one has its own row. -/
def execPacketBadOpcode (op : BitVec 8) (pk : Pkt) (s : State) : Res :=
  .next (if assignedOp op.toNat then s
    else launch { op := op.toNat, priv := .any, len := fun _ => true, reserved := true } (fun _ _ _ => .reject .badOpcode 0 0) pk s)

/-- REPLY_SLOT_RELEASE (R379): frees a full completion slot. -/
def execReplySlotRelease (o : Fin 17) (slot : Fin 4) (s : State) : Res :=
  if s.dev.phase = .held then .next s
  else
  let s := s.hostAccess
  .next (if slot.val = 0 then s else
    s.modApt o.val (fun a => if (a.slot slot.val).full then a.setSlot slot.val { a.slot slot.val with full := false } else a))

def specNop : OpSpec := { op := 0x00, priv := .any, len := exactly 0 }

/-- NOP (R395). -/
def bodyNop (_ : Pkt) (_ : Nat) (s : State) : Verdict := .done .ok [] s

def execNop (pk : Pkt) (s : State) : Res := .next (launch specNop bodyNop pk s)

def specIdentify : OpSpec := { op := 0x01, priv := .any, len := exactly 0, inRecovery := true, free := true }

def State.activeMask (s : State) : Nat :=
  (List.range 16).foldl (fun a c => a + b2n (s.active c) * 2 ^ c) (2 ^ 16)

/-- IDENTIFY (R395): release, mode, chip, firmware version, active charters. -/
def bodyIdentify (_ : Pkt) (_ : Nat) (s : State) : Verdict :=
  .done .ok [0x0100 + s.dev.mode.code * 2 ^ 16 + s.chip * 2 ^ 19,
             (if s.dev.mode = .recovery then 0 else s.ident.fw.toNat), s.activeMask] s

def execIdentify (pk : Pkt) (s : State) : Res := .next (launch specIdentify bodyIdentify pk s)

/-- The length of the next interval of the precise sampler (R163). -/
def Probe.interval (x : Probe) : Nat :=
  let n := x.cfg.sampler.n
  let m := n / 8
  if x.cfg.sampler.dither && decide (8 ≤ n) then n + x.lfsr.toNat % (2 * m + 1) - m else n

/-- Precise sampling begins a fresh interval on every enabled sampler (R162). -/
def State.freshIntervals (s : State) : State :=
  { s with probes := s.probes.map (fun e => (e.1, if e.2.cfg.sampler.enable then { e.2 with countdown := e.2.interval } else e.2)) }

def specModeSet : OpSpec := { op := 0x02, priv := .hmOnly, len := exactly 1 }

/-- MODE_SET (R27). -/
def bodyModeSet (pk : Pkt) (_ : Nat) (s : State) : Verdict :=
  let m := fld (pk.p 1) 0 3
  let anyActive := (List.range 16).any s.active
  match s.dev.mode with
  | .startup =>
    if m = 2 then .done .ok [] ({ s with dev := { s.dev with mode := .service } }).freshIntervals
    else if m = 3 then
      if anyActive then .reject .denied 1 0
      else .done .ok [] { s with dev := { s.dev with mode := .test }, ecc := { s.ecc with testBank := s.ecc.bank, testMap := s.ecc.map } }
    else .reject .badParam 1 0
  | .service =>
    if m = 1 then .done .ok [] { s with dev := { s.dev with mode := .startup } }
    else if m = 3 then
      if anyActive then .reject .denied 1 0
      else .done .ok [] { s with dev := { s.dev with mode := .test }, ecc := { s.ecc with testBank := s.ecc.bank, testMap := s.ecc.map } }
    else .reject .badParam 1 0
  | .test => if m = 1 then .done .ok [] ({ s with dev := { s.dev with mode := .startup } }).leaveTest else .reject .badParam 1 0
  | _ => .reject .badParam 1 0

def execModeSet (pk : Pkt) (s : State) : Res := .next (launch specModeSet bodyModeSet pk s)

def specSettingsSave : OpSpec := { op := 0x03, priv := .hmOnly, len := exactly 0, long := true }

/-- SETTINGS_SAVE (R395): accepted; SETTINGS_SAVE_DONE writes and completes. -/
def bodySettingsSave (pk : Pkt) (slot : Nat) (s : State) : Verdict := .accept [] (s.addJob 0x03 pk slot 0 0 0)

def execSettingsSave (pk : Pkt) (s : State) : Res := .next (launch specSettingsSave bodySettingsSave pk s)

/-- SETTINGS_SAVE_DONE (R395, R411, R498): the settings item is written, or the completion is INTERNAL. -/
def execSettingsSaveDone (s : State) : Res :=
  match s.findJob 0x03 with
  | none => .next s
  | some j =>
    let r := (s.askKey 5).lbAccess
    if r.1 && !s.io.ksErr then
      let t := r.2
      let item := macItem 1 0 0 t.settingsPayload
      .next (({ t with lb := { t.lb with settings := item }, dev := { t.dev with settingsDigest := Config.sha256 item } }).endJob j .ok [])
    else .next (r.2.endJob j .internal [])

def specHealthCfg : OpSpec := { op := 0x04, priv := .hmOnly, len := exactly 3 }

/-- HEALTH_CFG (R395, R478). -/
def bodyHealthCfg (pk : Pkt) (_ : Nat) (s : State) : Verdict :=
  .done .ok [] { s with fc := { s.fc with healthOn := flag (pk.p 1) 0, healthIrq := flag (pk.p 1) 1, healthAddr := pk.addr 2 } }

def execHealthCfg (pk : Pkt) (s : State) : Res := .next (launch specHealthCfg bodyHealthCfg pk s)

end Sys2Proof.Machine
end

