-- ==== Sys2Proof/Machine/ProbeOps.lean ====
section
/-! DEFINITION. What the probe packets and the PAI commands share (04): filters, event codes, ownership, samples, layers,
snapshots. -/

namespace Sys2Proof.Machine

/-! ## Time of a probe -/

/-- A probe's timestamp of now, from its replica (R55). -/
def State.probeTs (s : State) (p : Nat) : Nat :=
  (((s.time.cvt : Int) + (s.probe p).replica.skew) / (qtUnit : Int)).toNat

/-- Capture runs: the probe is live and its clock is not halted. -/
def State.probeRuns (s : State) (p : Nat) : Bool := s.probeLive p && (s.probe p).haltTs.isNone

/-! ## Filters (R146, R147) -/

def Filter.who (f : Filter) (priv : Bool) (charter : BitVec 4) : Bool :=
  (if priv then f.priv.getLsbD 1 else f.priv.getLsbD 0) && (!f.charterEn || priv || decide (f.charter = charter))

def Filter.mid (f : Filter) (m : BitVec 8) : Bool := decide (m &&& f.midMask = f.midMatch &&& f.midMask)

def Filter.range (f : Filter) (c : ProbeCfg) (addr : BitVec 48) : Bool :=
  if 4 ≤ f.rangeSel.toNat then true
  else
    let r := tget c.ranges f.rangeSel.toNat (0, 0)
    (decide (r.1 ≤ addr.toNat) && decide (addr.toNat < r.2)) != f.rangeInv

/-- Every filter that applies to a command event passes. -/
def Filter.cmd (f : Filter) (c : ProbeCfg) (x : PaiCmd) : Bool :=
  f.who x.priv x.charter && f.mid x.mid && f.range c x.addr && f.classMask.getLsbD x.cls.toNat

/-- Samples of a charter-filtered sampler belong to its charter, all others to the harbourmaster (R144, R162). -/
def Filter.sampleOwner (f : Filter) : Nat := if f.priv = 1 && f.charterEn then f.charter.toNat else hm

/-- The forcing of R144. -/
def Filter.forced (f : Filter) (o : Nat) : Filter :=
  if o < 16 then { f with priv := 1, charterEn := true, charter := BitVec.ofNat 4 o } else f

/-! ## Counters -/

def ctrWidth (i : Nat) : Nat := if i = 0 then 64 else 48

/-- The owner of a counter index (R142, R143). -/
def ProbeCfg.ownerOf (c : ProbeCfg) (i : Nat) : Nat := if i < 5 then c.fixedOwner else tget c.pmcOwner (i - 5) hm

/-- The counter indices an owner owns. -/
def ProbeCfg.owned (c : ProbeCfg) (o : Nat) : BitVec 13 :=
  (List.range 13).foldl (fun a i => setBit a i (decide (c.ownerOf i = o))) 0

/-- A counter is charter-filtered exactly when its privilege filter is charter code only and its charter match is enabled
(R144). -/
def Filter.ofCharter (f : Filter) : Bool := decide (f.priv = 1) && f.charterEn

/-- The counter indices an owner may read (R145): those it owns, but no charter-filtered counter for the harbourmaster. -/
def ProbeCfg.readable (c : ProbeCfg) (o : Nat) : BitVec 13 :=
  if o ≠ hm then c.owned o
  else (List.range 8).foldl (fun a i => if (tget c.pmc i Pmc.zero).flt.ofCharter then setBit a (5 + i) false else a) (c.owned o)

/-- A probe is armed (11, Probes and counters). -/
def ProbeCfg.armed (c : ProbeCfg) : Bool :=
  decide (c.enable ≠ 0) || c.sampler.enable || c.cmdOn || decide (c.rise ||| c.fall ≠ 0)

def State.armed (s : State) (p : Nat) : Bool := decide (p < s.ident.nProbes) && !(s.probe p).disabled && (s.probe p).cfg.armed

def State.anyArmed (s : State) : Bool := s.probes.any (fun e => s.armed e.1)

/-- Re-base of the slot invariant (R152): the base values of CYC and of the sum of the slot counters. -/
def Probe.rebase (x : Probe) : Probe :=
  { x with refCyc := tget x.cnt 0 0, refSlots := ([1, 2, 3, 4].map (fun i => tget x.cnt i 0)).sum }

/-- Clear a counter for a new owner (R145, R532). -/
def Probe.clearCounter (x : Probe) (i : Nat) : Probe :=
  { x with cnt := tset x.cnt i 0 0, ovf := setBit x.ovf i false, carry := setBit x.carry i false, wr := tset x.wr i 0 0,
           was := x.was.filter (fun e => e.1 ≠ i), wasOvf := setBit x.wasOvf i false,
           cfg := { x.cfg with enable := setBit x.cfg.enable i false },
           shadow := { x.shadow with cnt := tset x.shadow.cnt i 0 0, ovf := setBit x.shadow.ovf i false,
                                     invalid := setBit x.shadow.invalid i false } }

/-- The event codes of R148. -/
def eventOk (c : Nat) : Bool :=
  decide (c ≤ 0xB7) || (decide (0xC0 ≤ c) && decide (c ≤ 0xC2)) || (decide (0x100 ≤ c) && decide (c ≤ 0x17F)) ||
  (decide (0x200 ≤ c) && decide (c ≤ 0x203)) || (decide (0x210 ≤ c) && decide (c ≤ 0x21F))

/-- The increment of an event code at an edge, filters included (R147, R148); a lost TAG_STAGE counts by the charter and
privilege of the cycle (DEDUCED, log 78). `units` connected units, `w` issue slots. -/
def eventInc (x : Probe) (e : PaiEdge) (units w : Nat) (m : Pmc) : Nat :=
  let c := m.event.toNat
  let f := m.flt
  let cyc := f.who e.curPriv e.curCharter
  let iss := match x.ev.iss with | some q => f.cmd x.cfg q | none => false
  let ret := match x.ev.ret with | some q => f.cmd x.cfg q | none => false
  let retd := ret && !x.ev.retFlushed
  let cls := match x.ev.ret with | some q => q.cls.toNat | none => 0
  let icls := match x.ev.iss with | some q => q.cls.toNat | none => 0
  let on := fun (b : Bool) => b2n (cyc && b)
  if c < 0x40 then on (e.evt.getLsbD c)
  else if c < 0x80 then on (e.evt.getLsbD (c - 0x40) && !x.evt.getLsbD (c - 0x40))
  else if c = 0x80 then on true
  else if c = 0x81 then b2n iss
  else if c = 0x82 then b2n retd
  else if c = 0x83 then b2n (ret && x.ev.retFlushed)
  else if c ≤ 0x87 then if cyc then ((List.range w).filter (fun i => bits e.slotCls.toNat (2 * i) 2 = c - 0x84)).length else 0
  else if c = 0x88 then on e.stretch
  else if c = 0x89 then on (decide (e.busy ≠ 0))
  else if c = 0x8A then on (decide (e.stall ≠ 0))
  else if c = 0x8B then b2n (iss && x.ev.issTagged)
  else if c = 0x8C then b2n (iss && x.ev.issSkipped)
  else if c = 0x8D then b2n (ret && x.ev.sampled)
  else if c = 0x8E then b2n ((ret && x.ev.lost) || (cyc && x.ev.stageLost))
  else if c = 0x8F then if cyc then x.ev.suppressed else 0
  else if c ≤ 0x9F then b2n (retd && decide (cls = c - 0x90))
  else if c ≤ 0xAF then b2n (iss && decide (icls = c - 0xA0))
  else if c ≤ 0xB7 then on (x.ev.stages.getLsbD (c - 0xB0))
  else if c = 0xC0 then b2n (retd && decide (x.cfg.latThr < x.ev.retLat))
  else if c = 0xC1 then if retd then x.ev.retLat else 0
  else if c = 0xC2 then (x.inflight.filter (fun q => f.cmd x.cfg q.cmd)).length
  else if c < 0x140 then on (e.busy.getLsbD (c - 0x100))
  else if c < 0x180 then on (e.stall.getLsbD (c - 0x140))
  else if !cyc then 0
  else if c = 0x200 then popcount e.busy
  else if c = 0x201 then popcount e.stall
  else if c = 0x202 then popcount (e.busy &&& e.stall)
  else if c = 0x203 then ((List.range units).filter (fun u => !e.busy.getLsbD u)).length
  else if c < 0x218 then popcount (e.busy.extractLsb' (8 * (c - 0x210)) 8)
  else popcount (e.stall.extractLsb' (8 * (c - 0x218)) 8)

/-- The increment of a counter index at an edge (R138, R142). -/
def ctrInc (x : Probe) (e : PaiEdge) (units w i : Nat) : Nat :=
  if !x.cfg.enable.getLsbD i then 0
  else if 5 ≤ i then eventInc x e units w (tget x.cfg.pmc (i - 5) Pmc.zero)
  else if x.cfg.fixedOwner ≠ hm && (e.curPriv || decide (e.curCharter.toNat ≠ x.cfg.fixedOwner)) then 0
  else if i = 0 then 1
  else ((List.range w).filter (fun j => bits e.slotCls.toNat (2 * j) 2 = i - 1)).length

/-! ## Owners of streams -/

/-- The harbourmaster and every owner with an enabled stream on the probe (R167). -/
def State.probeOwnersList (s : State) (p : Nat) : List Nat :=
  (List.range 17).filter (fun o => decide (o = hm) || (s.probe p).cfg.streams s.esl.idMode o)

/-! ## Samples (R166) -/

/-- A SAMPLE or TAG_STAGE record enters the sample buffer; one that finds it full is lost: false. -/
def State.emitSample (s : State) (p o ty ts payload : Nat) (extra : List Nat) : Bool × State :=
  if s.canEmit p o then
    if ((s.queue p).filter (fun r => r.inBuffer p)).length < 64 then (true, s.emit p o ty 2 ts payload extra)
    else (false, s.noteLoss p (s.mkRec p o ty 2 ts payload extra))
  else (true, s)

def clamp (m x : Nat) : Nat := min m x

/-- The SAMPLE record of a command at its retire (R163, R179). -/
def sampleWords (c : PaiCmd) (latCyc latQt : Nat) (random flushed stretched : Bool) : List Nat :=
  let sat := decide (0xFFFFF < latCyc) || decide (0xFFFFFF < latQt)
  [c.addr.toNat + c.mid.toNat * 2 ^ 48 + c.cls.toNat * 2 ^ 56 + b2n random * 2 ^ 60 + b2n flushed * 2 ^ 61 + b2n sat * 2 ^ 62
     + b2n stretched * 2 ^ 63,
   c.tag.toNat + clamp 0xFFFFFF latQt * 2 ^ 24 + c.layer.toNat * 2 ^ 48, c.op.toNat]

/-! ## The slot invariant (R152) -/

/-- CYC and the slot counters are all enabled, and their growths since the re-base differ. -/
def Probe.broken (x : Probe) (w : Nat) : Bool :=
  decide (x.cfg.enable.toNat % 32 = 31) &&
  decide ((w * (tget x.cnt 0 0 + 2 ^ 64 - x.refCyc)) % 2 ^ 48
    ≠ (([1, 2, 3, 4].map (fun i => tget x.cnt i 0)).sum + 2 ^ 50 - x.refSlots) % 2 ^ 48)

/-- Compare the growths; when they differ, the status, the raise, the group and the re-base. Which owners receive the group
is open: the owner of the five counters does (DESIGN CHOICE, log 79). -/
def State.checkInvariant (s : State) (p : Nat) : State :=
  let x := s.probe p
  if x.broken (s.probeW p) then
    (s.setProbe p { x.rebase with invariant := true, snapReq := x.snapReq ++ [⟨6, false, true, some x.cfg.fixedOwner, none, x.edge⟩] }).raise 0x400 p 0
  else s

/-! ## Snapshots (R156 to R158, R180) -/

def snapNext (n : BitVec 16) : BitVec 16 := if n = 0xFFFF then 1 else n + 1

/-- The number that the next snapshot of a probe will carry: that of the copy in progress when it is merged into it. -/
def Probe.snapNoNext (x : Probe) : BitVec 16 := if x.copying.isEmpty then snapNext x.shadow.snapNo else x.shadow.snapNo

/-- The owners a request gives a group to: one for each owner of an enabled counter, or the one asked for (R157). -/
def SnapReq.groupOwners (r : SnapReq) (c : ProbeCfg) : List Nat :=
  if !r.group then []
  else (List.range 17).filter (fun o =>
    (match r.only with | some q => decide (q = o) | none => true) && decide (c.owned o &&& c.enable ≠ 0))

def Shadow.flags (h : Shadow) : Nat := b2n h.reset + b2n h.invariant * 2 + b2n h.halted * 4 + b2n h.merged * 8

/-- Three values per counter record, in ascending index (R180). -/
def cntRecords : Nat → List (Nat × Nat) → List (List Nat)
  | 0, _ => []
  | n + 1, l => if l.isEmpty then [] else (l.take 3).map (fun e => e.2 % 2 ^ 48 + e.1 * 2 ^ 48) :: cntRecords n (l.drop 3)

/-- Eight 24-bit tallies in three words. -/
def pack24 (f : Nat → Nat) : List Nat :=
  let v := (List.range 8).foldl (fun a i => a + f i % 2 ^ 24 * 2 ^ (24 * i)) 0
  [v % 2 ^ 64, v / 2 ^ 64 % 2 ^ 64, v / 2 ^ 128]

/-- The 16 tally records of a snapshot or dump. -/
def State.emitTallies (s : State) (p o ts flags : Nat) (busy stall : Tab Nat) : State :=
  (List.range 16).foldl (fun s g =>
    let t := if g < 8 then busy else stall
    s.emit p o 0x14 2 ts ((if g < 8 then 2 else 3) * 2 ^ 16 + g % 8 * 2 ^ 13 + flags) (pack24 (fun i => tget t (8 * (g % 8) + i) 0))) s

/-- One owner's COUNTER_SNAPSHOT group from the shadow: every counter it owns, one it may not read as 0 (R145, R157; log
77). -/
def State.emitGroup (s : State) (p o : Nat) (tallies : Bool) : State :=
  let x := s.probe p
  let h := x.shadow
  let own := x.cfg.owned o
  let see := x.cfg.readable o
  let idx := (List.range 12).filter (fun i => own.getLsbD (i + 1))
  let rs := cntRecords 4 (idx.map (fun i => (i + 1, if see.getLsbD (i + 1) then tget h.cnt (i + 1) 0 else 0)))
  let tal := tallies && h.hasTallies && decide (x.cfg.fixedOwner = o)
  let s := s.emit p o 0x14 2 h.ts h.flags
    [if own.getLsbD 0 then tget h.cnt 0 0 else 0,
     own.toNat + (h.ovf &&& see).toNat * 2 ^ 13 + (h.invalid &&& see).toNat * 2 ^ 26 + h.trigger * 2 ^ 39 + h.snapNo.toNat * 2 ^ 48,
     rs.length + (if tal then 16 else 0) * 8]
  let s := (rs.mapIdx (fun i r => (i, r))).foldl (fun s e => s.emit p o 0x14 2 h.ts (2 ^ 16 + e.1 * 2 ^ 13 + h.flags) e.2) s
  if tal then s.emitTallies p o h.ts h.flags h.busyT h.stallT else s

/-- Groups of the requests, each owner once, but for owners already served by the same copy; the group of the slot invariant
carries its flag and is always emitted (R152). -/
def State.emitGroups (s : State) (p : Nat) (served now : List SnapReq) : State :=
  let c := (s.probe p).cfg
  let broke := (now.filter (fun r => r.trigger = 6)).flatMap (fun r => r.groupOwners c)
  let done := (served.flatMap (fun r => r.groupOwners c)).filter (fun o => !broke.contains o)
  let os := (List.range 17).filter (fun o => !done.contains o && now.any (fun r => (r.groupOwners c).contains o))
  os.foldl (fun s o => s.emitGroup p o (now.any (fun r => r.tallies && (r.groupOwners c).contains o))) s

/-- The counters as the snapshot edge copies them: before a write or clear of the same edge (R160). -/
def Probe.snapValue (x : Probe) (i : Nat) : Nat :=
  match x.was.find? (fun e => e.1 = i) with | some e => e.2 | none => tget x.cnt i 0

/-- The parity errors of a snapshot (R153): counters and, from bit 13 of the detail on, busy and stall tallies. -/
def State.raiseParity (s : State) (p : Nat) (bad : BitVec 13) (badT : BitVec 128) : State :=
  (List.range 141).foldl (fun s i => if (badT ++ bad).getLsbD i then s.raise 0x401 p i else s) s

/-- Take a snapshot for the requests now, with the counters and tallies whose parity is bad. The shadow marks it MERGED when
it serves several sources of one edge, and their SNAP_STATUS does not (R158; DESIGN CHOICE, log 80). -/
def State.takeSnap (s : State) (p : Nat) (rs : List SnapReq) (bad : BitVec 13) (badT : BitVec 128) (reset : Bool) : State :=
  let x := s.probe p
  let halted := x.haltTs.isSome
  let tal := rs.any (fun r => r.tallies)
  let inv := rs.any (fun r => decide (r.trigger = 6))
  let h : Shadow :=
    { snapNo := snapNext x.shadow.snapNo, trigger := (rs.head?.map (·.trigger)).getD 0, reset := reset, invariant := inv,
      halted := halted, merged := decide (1 < rs.length), busy := true, hasTallies := tal,
      ts := if halted then s.probeTs p else x.lastEdgeTs,
      st := if halted then x.replica.st else x.edgeSt, epoch := if halted then x.replica.epoch else x.edgeEpoch,
      cnt := (List.range 13).foldl (fun t i => tset t i (x.snapValue i) 0) [], ovf := x.ovf ||| x.carry ||| x.wasOvf,
      invalid := bad, busyT := if tal then x.busy else x.shadow.busyT, stallT := if tal then x.stall else x.shadow.stallT }
  let s := s.setProbe p { x with shadow := h, copying := rs, snapReq := x.snapReq.filter (fun r => !rs.contains r) }
  (s.raiseParity p bad badT).emitGroups p [] rs

end Sys2Proof.Machine
end

