-- ==== Sys2Proof/Machine/ProbePackets.lean ====
section
/-! DEFINITION. The probe packets 0x10 to 0x1D (R396). -/

namespace Sys2Proof.Machine

/-- Fold an update over the probes of a set. -/
def onProbes (ps : List Nat) (f : Nat → Probe → Probe) (s : State) : State := ps.foldl (fun s p => s.modProbe p (f p)) s

/-- An owner-assignment field: 31 leaves the owner unchanged (R394). -/
def ownerBad (v : Nat) : Bool := decide (16 < v) && decide (v ≠ 31)

/-- The owner fields of PROBE_OWNERS: word, value, in the order fixed, sampler, cmd, edge, PMC0 to 7, ranges 0 to 3. -/
def ownerFields (pk : Pkt) : List (Nat × Nat) :=
  (List.range 4).map (fun i => (5, fld (pk.p 5) (5 * i) 5)) ++ (List.range 6).map (fun i => (6, fld (pk.p 6) (5 * i) 5)) ++
  (List.range 6).map (fun i => (7, fld (pk.p 7) (5 * i) 5))

/-- A new owner of the fixed counters and tallies (R145, R152, R155). -/
def Probe.setFixed (o : Nat) (x : Probe) : Probe :=
  if o = 31 || o = x.cfg.fixedOwner then x
  else
    let y := [0, 1, 2, 3, 4].foldl (fun y i => y.clearCounter i) { x with cfg := { x.cfg with fixedOwner := o } }
    { y.rebase with busy := [], stall := [], tallyEdges := 0, tallyCur := y.cfg.tallyK,
                    shadow := { y.shadow with busyT := [], stallT := [] } }

/-- A new owner of a PMC: a charter's carries the forced filter (R144, R145). -/
def Probe.setPmcOwner (i o : Nat) (x : Probe) : Probe :=
  if o = 31 || o = tget x.cfg.pmcOwner i hm then x
  else
    let m := tget x.cfg.pmc i Pmc.zero
    ({ x with cfg := { x.cfg with pmcOwner := tset x.cfg.pmcOwner i o hm,
                                  pmc := tset x.cfg.pmc i { m with flt := m.flt.forced o } Pmc.zero } }).clearCounter (5 + i)

/-- New owners of the sampler, the command stream and the edge stream: disabled, and the sampler's tracking dropped (R145,
R165; log 18). -/
def Probe.setSamplerOwner (o : Nat) (x : Probe) : Probe :=
  if o = 31 || o = x.cfg.samplerOwner then x
  else { x with cfg := { x.cfg with samplerOwner := o, sampler := { x.cfg.sampler with enable := false } }, tagged := [], due := none }

def Probe.setCmdOwner (o : Nat) (x : Probe) : Probe :=
  if o = 31 || o = x.cfg.cmdOwner then x else { x with cfg := { x.cfg with cmdOwner := o, cmdOn := false } }

def Probe.setEdgeOwner (o : Nat) (x : Probe) : Probe :=
  if o = 31 || o = x.cfg.edgeOwner then x else { x with cfg := { x.cfg with edgeOwner := o, rise := 0, fall := 0 }, windows := [] }

/-- A new owner of an address range. What becomes of a PMC's standing selection of it is open: the selection stays, and the
PMC counts on (R143; DESIGN CHOICE, log 82). -/
def Probe.setRangeOwner (j o : Nat) (x : Probe) : Probe :=
  if o = 31 then x else { x with cfg := { x.cfg with rangeOwner := tset x.cfg.rangeOwner j o hm } }

def Probe.setOwners (vs : List Nat) (x : Probe) : Probe :=
  let x := ((x.setFixed (vs.getD 0 31)).setSamplerOwner (vs.getD 1 31)).setCmdOwner (vs.getD 2 31) |>.setEdgeOwner (vs.getD 3 31)
  let x := (List.range 8).foldl (fun x i => x.setPmcOwner i (vs.getD (4 + i) 31)) x
  (List.range 4).foldl (fun x j => x.setRangeOwner j (vs.getD (12 + j) 31)) x

def specProbeOwners : OpSpec := { op := 0x10, priv := .hmOnly, len := exactly 7 }

/-- PROBE_OWNERS (R145, R396). Each charter assigned must be ACTIVE (R385, log 19). -/
def bodyProbeOwners (pk : Pkt) (_ : Nat) (s : State) : Verdict :=
  let fs := ownerFields pk
  match fs.find? (fun f => decide (f.2 < 16) && !s.active f.2) with
  | some f => .reject .noCharter f.1 0
  | none =>
    checkSet pk s (fun _ => true) fun ps =>
      match fs.find? (fun f => ownerBad f.2) with
      | some f => .reject .badParam f.1 0
      | none => .done .ok [] (onProbes ps (fun _ x => x.setOwners (fs.map Prod.snd)) s)

def execProbeOwners (pk : Pkt) (s : State) : Res := .next (launch specProbeOwners bodyProbeOwners pk s)

def specRangeSet : OpSpec := { op := 0x11, priv := .own, len := exactly 9 }

/-- RANGE_SET (R146): base and limit with their low 6 bits 0. -/
def bodyRangeSet (pk : Pkt) (_ : Nat) (s : State) : Verdict :=
  let j := fld (pk.p 5) 0 2
  checkSet pk s (fun p => decide (tget (s.probe p).cfg.rangeOwner j hm = pk.o)) fun ps =>
    chk (decide (pk.addr 6 % 64 ≠ 0)) .badParam 6 <| chk (decide (pk.addr 8 % 64 ≠ 0)) .badParam 8 <|
    .done .ok [] (onProbes ps (fun _ x => { x with cfg := { x.cfg with ranges := tset x.cfg.ranges j (pk.addr 6, pk.addr 8) (0, 0) } }) s)

def execRangeSet (pk : Pkt) (s : State) : Res := .next (launch specRangeSet bodyRangeSet pk s)

/-- A filter's fields: those of word P5 from bit `lo` for priv, charter_en and charter, range_sel and range_inv as given,
and P6. -/
def readFilter (priv charterEn charter rangeSel rangeInv : Nat) (p6 : W32) : Filter :=
  { priv := BitVec.ofNat 2 priv, charterEn := decide (charterEn = 1), charter := BitVec.ofNat 4 charter,
    midMatch := BitVec.ofNat 8 (fld p6 0 8), midMask := BitVec.ofNat 8 (fld p6 8 8), classMask := BitVec.ofNat 16 (fld p6 16 16),
    rangeSel := BitVec.ofNat 3 rangeSel, rangeInv := decide (rangeInv = 1) }

/-- A range selected must have the same owner or be the harbourmaster's (R143). -/
def rangeDenied (ps : List Nat) (sel o : Nat) (s : State) : Bool :=
  decide (sel < 4) && ps.any (fun p => let r := tget (s.probe p).cfg.rangeOwner sel hm; decide (r ≠ o) && decide (r ≠ hm))

/-- Enables change: the slot invariant re-bases when one of its five counters is among them (R152). -/
def Probe.setEnable (m : BitVec 13) (on : Bool) (x : Probe) : Probe :=
  let y := { x with cfg := { x.cfg with enable := if on then x.cfg.enable ||| m else x.cfg.enable &&& ~~~m } }
  if y.cfg.enable.toNat % 32 = x.cfg.enable.toNat % 32 then y else y.rebase

def specPmcConfig : OpSpec := { op := 0x12, priv := .own, len := exactly 9, force := true, instant := some 6 }

/-- PMC_CONFIG (R144, R146, R149). -/
def bodyPmcConfig (pk : Pkt) (_ : Nat) (s : State) : Verdict :=
  let w := pk.p 5
  let i := fld w 0 3
  let sel := fld w 21 3
  let f := (readFilter (fld w 14 2) (fld w 16 1) (fld w 17 4) sel (fld w 24 1) (pk.p 6)).forced pk.o
  let m : Pmc := ⟨BitVec.ofNat 10 (fld w 3 10), f, flag w 25, flag w 26⟩
  checkSet pk s (fun p => decide (tget (s.probe p).cfg.pmcOwner i hm = pk.o)) fun ps =>
    chk (rangeDenied ps sel pk.o s) .denied 5 <|
    chk (!eventOk (fld w 3 10) || decide (4 < sel)) .badParam 5 <|
    .done .ok [] (onProbes ps (fun _ x =>
      ({ x with cfg := { x.cfg with pmc := tset x.cfg.pmc i m Pmc.zero } }).setEnable (BitVec.ofNat 13 (2 ^ (5 + i))) (flag w 13)) s)

def execPmcConfig (pk : Pkt) (s : State) : Res := .next (launch specPmcConfig bodyPmcConfig pk s)

def specCounterEnable : OpSpec := { op := 0x13, priv := .own, len := exactly 8, force := true, instant := some 5 }

/-- COUNTER_ENABLE (R140): every counter named is owned. -/
def bodyCounterEnable (pk : Pkt) (_ : Nat) (s : State) : Verdict :=
  let m := BitVec.ofNat 13 (fld (pk.p 5) 0 13)
  checkSet pk s (fun p => decide ((s.probe p).cfg.owned pk.o &&& m = m)) fun ps =>
    .done .ok [] (onProbes ps (fun _ x => x.setEnable m (flag (pk.p 5) 13)) s)

def execCounterEnable (pk : Pkt) (s : State) : Res := .next (launch specCounterEnable bodyCounterEnable pk s)

/-- A write lands at the next edge, or at once while HCLK is halted; none while the probe is in HRST_N or off (R140). -/
def Probe.write (i v : Nat) (x : Probe) : Probe :=
  if x.hrst || !x.up then x
  else if x.haltTs.isSome then
    let y := { x with cnt := tset x.cnt i v 0, was := x.was.filter (fun e => e.1 ≠ i) }
    if i < 5 then y.rebase else y
  else { x with wr := tset x.wr i (v + 1) 0 }

def specCounterWrite : OpSpec := { op := 0x14, priv := .own, len := exactly 10, force := true, instant := some 7 }

/-- COUNTER_WRITE (R160, R396). -/
def bodyCounterWrite (pk : Pkt) (_ : Nat) (s : State) : Verdict :=
  let i := fld (pk.p 5) 0 4
  let v := (pk.p 6).toNat + (pk.p 7).toNat * 2 ^ 32
  checkSet pk s (fun p => decide (12 < i) || (s.probe p).cfg.ownerOf i = pk.o) fun ps =>
    chk (decide (12 < i)) .badParam 5 <| chk (decide (2 ^ ctrWidth i ≤ v)) .badParam 7 <|
    .done .ok [] (onProbes ps (fun _ x => x.write i v) s)

def execCounterWrite (pk : Pkt) (s : State) : Res := .next (launch specCounterWrite bodyCounterWrite pk s)

/-- OVF clears land at the next edge, or at once while HCLK is halted (R160). -/
def Probe.clearOvf (m : BitVec 13) (x : Probe) : Probe :=
  if x.haltTs.isSome then { x with ovf := x.ovf &&& ~~~m } else { x with clr := x.clr ||| m }

def specOvfClear : OpSpec := { op := 0x15, priv := .own, len := exactly 5 }

/-- OVF_CLEAR (R159). -/
def bodyOvfClear (pk : Pkt) (_ : Nat) (s : State) : Verdict :=
  let m := BitVec.ofNat 13 (fld (pk.p 5) 0 13)
  checkSet pk s (fun p => decide ((s.probe p).cfg.owned pk.o &&& m = m)) fun ps =>
    .done .ok [] (onProbes ps (fun _ x => x.clearOvf m) s)

def execOvfClear (pk : Pkt) (s : State) : Res := .next (launch specOvfClear bodyOvfClear pk s)

/-- The probe takes snapshots: powered and out of HRST_N (R140). -/
def Probe.snaps (x : Probe) : Bool := x.up && !x.hrst && !x.disabled

def Probe.request (r : Nat → SnapReq) (x : Probe) : Probe := if x.snaps then { x with snapReq := x.snapReq ++ [r x.edge] } else x

def specSnapshot : OpSpec := { op := 0x16, priv := .own, len := exactly 8, force := true, instant := some 5 }

/-- SNAPSHOT (R157): the group is the requester's own; A1 the number of the lowest probe (log 20). -/
def bodySnapshot (pk : Pkt) (_ : Nat) (s : State) : Verdict :=
  checkSet pk s (fun p => decide ((s.probe p).cfg.owned pk.o ≠ 0)) fun ps =>
    let no := match ps with
      | [] => 0
      | p :: _ => let x := s.probe p; (if x.snaps then x.snapNoNext else x.shadow.snapNo).toNat
    .done .ok [no] (onProbes ps (fun _ x => x.request (fun e => ⟨1, flag (pk.p 5) 0, flag (pk.p 5) 1, some pk.o, none, e⟩)) s)

def execSnapshot (pk : Pkt) (s : State) : Res := .next (launch specSnapshot bodySnapshot pk s)

def specProbeTiming : OpSpec := { op := 0x17, priv := .hmOnly, len := exactly 7 }

/-- PROBE_TIMING (R150, R157, R539). -/
def bodyProbeTiming (pk : Pkt) (_ : Nat) (s : State) : Verdict :=
  checkSet pk s (fun _ => true) fun ps =>
    chk (decide (1000000 < (pk.p 5).toNat)) .badParam 5 <|
    .done .ok [] (onProbes ps (fun p x =>
      { x with cfg := { x.cfg with period := (pk.p 5).toNat, frame := flag (pk.p 6) 0, cswitch := flag (pk.p 6) 1,
                                   latThr := fld (pk.p 6) 2 20, seed := pk.p 7 },
               lastPeriodic := if (pk.p 5).toNat = 0 then 0 else s.probeTs p / (4000 * (pk.p 5).toNat) }) s)

def execProbeTiming (pk : Pkt) (s : State) : Res := .next (launch specProbeTiming bodyProbeTiming pk s)

def specTallySet : OpSpec := { op := 0x18, priv := .own, len := exactly 5 }

/-- TALLY_SET (R154): takes effect at the end of the interval in progress. -/
def bodyTallySet (pk : Pkt) (_ : Nat) (s : State) : Verdict :=
  let k := fld (pk.p 5) 0 5
  checkSet pk s (fun p => decide ((s.probe p).cfg.fixedOwner = pk.o)) fun ps =>
    chk (decide (k < 10) || decide (23 < k)) .badParam 5 <|
    .done .ok [] (onProbes ps (fun _ x => { x with cfg := { x.cfg with tallyK := k } }) s)

def execTallySet (pk : Pkt) (s : State) : Res := .next (launch specTallySet bodyTallySet pk s)

/-- The LFSR at an enable of the sampler (R539). -/
def lfsrSeed (seed : BitVec 32) (p : Nat) : BitVec 32 := let v := seed ^^^ BitVec.ofNat 32 p; if v = 0 then 1 else v

/-- New sampler settings; an enable loads the LFSR and starts an interval (R163, R539). Whether enable = 1 at a sampler
already enabled is an enable is open: it is one (DESIGN CHOICE, log 81). -/
def Probe.setSampler (p : Nat) (sm : Sampler) (x : Probe) : Probe :=
  let y := { x with cfg := { x.cfg with sampler := sm } }
  if sm.enable then let z := { y with lfsr := lfsrSeed x.cfg.seed p }; { z with countdown := z.interval } else y

def specSamplerConfig : OpSpec := { op := 0x19, priv := .own, len := exactly 7 }

/-- SAMPLER_CONFIG (R163, R164). -/
def bodySamplerConfig (pk : Pkt) (_ : Nat) (s : State) : Verdict :=
  let w := pk.p 5
  let sel := fld w 8 3
  let n := fld (pk.p 7) 0 21
  let k := fld w 13 5
  let f := (readFilter (fld w 1 2) (fld w 3 1) (fld w 4 4) sel (fld w 11 1) (pk.p 6)).forced pk.o
  checkSet pk s (fun p => decide ((s.probe p).cfg.samplerOwner = pk.o)) fun ps =>
    chk (rangeDenied ps sel pk.o s) .denied 5 <|
    chk (decide (4 < sel) || decide (k < 4) || decide (20 < k)) .badParam 5 <|
    chk (decide (n = 0) || decide (2 ^ 20 < n)) .badParam 7 <|
    .done .ok [] (onProbes ps (fun p x => x.setSampler p ⟨flag w 0, f, flag w 12, n, k⟩) s)

def execSamplerConfig (pk : Pkt) (s : State) : Res := .next (launch specSamplerConfig bodySamplerConfig pk s)

def specCmdStream : OpSpec := { op := 0x1A, priv := .own, len := exactly 6 }

/-- CMD_STREAM (R168). -/
def bodyCmdStream (pk : Pkt) (_ : Nat) (s : State) : Verdict :=
  let w := pk.p 5
  let sel := fld w 8 3
  let f := (readFilter (fld w 1 2) (fld w 3 1) (fld w 4 4) sel (fld w 11 1) (pk.p 6)).forced pk.o
  checkSet pk s (fun p => decide ((s.probe p).cfg.cmdOwner = pk.o)) fun ps =>
    chk (rangeDenied ps sel pk.o s) .denied 5 <| chk (decide (4 < sel)) .badParam 5 <|
    .done .ok [] (onProbes ps (fun _ x => { x with cfg := { x.cfg with cmdOn := flag w 0, cmdFlt := f } }) s)

def execCmdStream (pk : Pkt) (s : State) : Res := .next (launch specCmdStream bodyCmdStream pk s)

def specEdgeStream : OpSpec := { op := 0x1B, priv := .own, len := exactly 8 }

/-- EDGE_STREAM (R170). -/
def bodyEdgeStream (pk : Pkt) (_ : Nat) (s : State) : Verdict :=
  checkSet pk s (fun p => decide ((s.probe p).cfg.edgeOwner = pk.o)) fun ps =>
    .done .ok [] (onProbes ps (fun _ x => { x with cfg := { x.cfg with rise := (pk.p 6 ++ pk.p 5), fall := (pk.p 8 ++ pk.p 7) } }) s)

def execEdgeStream (pk : Pkt) (s : State) : Res := .next (launch specEdgeStream bodyEdgeStream pk s)

/-- A charter leaves ID mode: its layers are no longer tracked. -/
def Probe.dropLayers (c : Nat) (x : Probe) : Probe :=
  { x with layers := x.layers.filter (fun l => l.charter.toNat ≠ c), curLayer := tset x.curLayer c 0 0 }

def specTieMode : OpSpec := { op := 0x1C, priv := .any, len := exactly 1 }

/-- TIE_MODE (R169, R396): the requester's own. -/
def bodyTieMode (pk : Pkt) (_ : Nat) (s : State) : Verdict :=
  let id := flag (pk.p 1) 0
  let s := { s with esl := { s.esl with idMode := setBit s.esl.idMode pk.o id, marker := setBit s.esl.marker pk.o (flag (pk.p 1) 1) } }
  .done .ok [] (if id || pk.o = hm then s else onProbes (s.probes.map Prod.fst) (fun _ x => x.dropLayers pk.o) s)

def execTieMode (pk : Pkt) (s : State) : Res := .next (launch specTieMode bodyTieMode pk s)

def specProbeStatus : OpSpec := { op := 0x1D, priv := .any, len := exactly 1 }

/-- PROBE_STATUS (R396): a probe at or above N reads as not present. -/
def bodyProbeStatus (pk : Pkt) (_ : Nat) (s : State) : Verdict :=
  let p := fld (pk.p 1) 0 7
  if p < s.ident.nProbes then
    let x := s.probe p
    let rg := (List.range 4).foldl (fun a j => a + b2n (decide (tget x.cfg.rangeOwner j hm = pk.o)) * 2 ^ j) 0
    .done .ok [1 + b2n x.disabled * 2 + b2n x.invariant * 4 + b2n (s.armed p) * 8 + b2n (s.probePowered p) * 16,
      (x.cfg.owned pk.o).toNat + b2n (decide (x.cfg.samplerOwner = pk.o)) * 2 ^ 13 + b2n (decide (x.cfg.cmdOwner = pk.o)) * 2 ^ 14
        + b2n (decide (x.cfg.edgeOwner = pk.o)) * 2 ^ 15 + rg * 2 ^ 16] s
  else .done .ok [0, 0] s

def execProbeStatus (pk : Pkt) (s : State) : Res := .next (launch specProbeStatus bodyProbeStatus pk s)

/-! ## The snapshot trigger of the register window (R529) -/

/-- The requests of an owner's earlier trigger no longer report to SNAP_STATUS. -/
def State.winForget (s : State) (o : Nat) : State :=
  let f := fun (r : SnapReq) => if r.win = some o then { r with win := none } else r
  (s.probes.map Prod.fst).foldl (fun s p => s.modProbe p (fun x => { x with snapReq := x.snapReq.map f, copying := x.copying.map f })) s

/-- A trigger is rejected as a whole: the set is empty, names a probe at or above N, or one on which the owner owns no
counter and no tally. -/
def State.snapRejects (s : State) (o : Nat) (set : BitVec 128) : Bool :=
  decide (set = 0) || (probeList set).any (fun p => decide (s.ident.nProbes ≤ p) || decide ((s.probe p).cfg.owned o = 0))

/-- A trigger that passed its check: the snapshots of its probes. -/
def State.snapStart (s : State) (o : Nat) (set : BitVec 128) (w : W32) : State :=
  let s := s.winForget o
  let ps := probeList set
  let on := ps.filter (fun p => (s.probe p).snaps && s.probePowered p)
  let low := ps.headD 0
  let mask := on.foldl (fun (m : BitVec 128) p => setBit m p true) 0
  let x := s.probe low
  let v : SnapWin := {
    set := (s.snapWin o).set, pendingP := mask, pending := decide (mask ≠ 0), rejected := false, merged := false,
    skipped := decide (on.length < ps.length), snapNo := if on.contains low then x.snapNoNext else x.shadow.snapNo, lowest := low }
  let s := s.setSnapWin o v
  let s := onProbes on (fun _ x => x.request (fun e => ⟨0, flag w 1, flag w 2, some o, some o, e⟩)) s
  if mask = 0 then s.setIrq o 4 else s

/-- A packet that names a probe set, and whose set meets this one. -/
def meetsSet (set : BitVec 128) (op : Nat) (pk : Pkt) : Bool :=
  decide (0x10 ≤ op) && decide (op ≤ 0x1B) && decide (pk.probes &&& set ≠ 0)

/-- An earlier packet on one of the probes has not had its immediate reply (R516). -/
def State.snapHeld (s : State) (set : BitVec 128) : Bool :=
  s.esl.waiting.any (fun e => meetsSet set e.1 e.2) || s.esl.held.any (fun h => decide (h.slot = 0) && meetsSet set h.op h.pk)

/-- The writes that waited take effect once the packets have their replies. -/
def State.runDeferred (s : State) : State :=
  s.esl.deferred.foldl (fun s e =>
    if s.snapHeld e.2.1 then { s with esl := { s.esl with deferred := s.esl.deferred ++ [e] } } else s.snapStart e.1 e.2.1 e.2.2)
    { s with esl := { s.esl with deferred := [] } }

/-- A write of SNAP_TRIGGER with go = 1: checked at acceptance, against the set as it stands then. -/
def State.snapWrite (s : State) (o : Nat) (w : W32) : State :=
  let v := s.snapWin o
  if s.snapRejects o v.set then
    (s.winForget o).setSnapWin o { SnapWin.zero with set := v.set, rejected := true }
  else if s.snapHeld v.set then { s with esl := { s.esl with deferred := s.esl.deferred ++ [(o, v.set, w)] } }
  else s.snapStart o v.set w

end Sys2Proof.Machine
end

