-- ==== Sys2Proof/Machine/Float.lean ====
section
/-! DEFINITION. Floating-point formats as exact values: decoding, and rounding a rational to a format (R298 to R301). -/

namespace Sys2Proof.Machine

/-- 2 to an integer power. -/
def pow2 (e : Int) : Rat := if 0 ≤ e then ((2 ^ e.toNat : Nat) : Rat) else 1 / ((2 ^ (-e).toNat : Nat) : Rat)

def ratAbs (q : Rat) : Rat := if q < 0 then -q else q

/-- The rounding rules of the spec: to nearest with ties to even, ties away from zero, and towards zero. -/
inductive Rnd where
  | rne | rna | rtz
  deriving DecidableEq, Repr

/-- A rational rounded to an integer. -/
def roundInt (r : Rnd) (q : Rat) : Int :=
  let a := ratAbs q
  let n := a.floor
  let d := a - (n : Rat)
  let up := match r with
    | .rtz => false
    | .rna => decide ((1 / 2 : Rat) ≤ d)
    | .rne => decide ((1 / 2 : Rat) < d) || (decide (d = 1 / 2) && decide (n % 2 = 1))
  let m := if up then n + 1 else n
  if q < 0 then -m else m

/-- floor of log2 of a positive rational. -/
def ilog2 (q : Rat) : Int :=
  if q ≤ 0 then 0
  else
    let g : Int := (Nat.log2 q.num.toNat : Int) - (Nat.log2 q.den : Int)
    if pow2 (g + 1) ≤ q then g + 1 else if pow2 g ≤ q then g else g - 1

/-- A binary format: exponent and fraction bits; whether it has infinities and NaN in the IEEE way. -/
structure Fmt where
  eb : Nat
  mb : Nat
  ieee : Bool
  deriving DecidableEq, Repr

def Fmt.bias (f : Fmt) : Int := ((2 ^ (f.eb - 1) : Nat) : Int) - 1

def fmt32 : Fmt := ⟨8, 23, true⟩
def fmt64 : Fmt := ⟨11, 52, true⟩
def fmt16 : Fmt := ⟨5, 10, true⟩
def fmtBf : Fmt := ⟨8, 7, true⟩
/-- E5M2: as FP16, truncated. -/
def fmtE5 : Fmt := ⟨5, 2, true⟩
/-- E4M3: no infinities; NaN is all ones below the sign. -/
def fmtE4 : Fmt := ⟨4, 3, false⟩
/-- E2M1: no infinities and no NaN. -/
def fmtE2 : Fmt := ⟨2, 1, false⟩

def Fmt.bits (f : Fmt) : Nat := 1 + f.eb + f.mb

/-- The value of a pattern. -/
def Fmt.decode (f : Fmt) (x : Nat) : FVal :=
  let neg := x.testBit (f.eb + f.mb)
  let e := Machine.bits x f.mb f.eb
  let m := x % 2 ^ f.mb
  let top := 2 ^ f.eb - 1
  if f.ieee && decide (e = top) then (if m = 0 then .inf neg else .nan)
  else if !f.ieee && decide (f.eb = 4) && decide (e = top) && decide (m = 2 ^ f.mb - 1) then .nan
  else
    let v : Rat := if e = 0 then (m : Rat) * pow2 (1 - f.bias - f.mb) else ((2 ^ f.mb + m : Nat) : Rat) * pow2 ((e : Int) - f.bias - f.mb)
    if v = 0 then .fin 0 neg else .fin (if neg then -v else v) false

/-- The largest finite magnitude. -/
def Fmt.max (f : Fmt) : Rat :=
  let top : Int := (2 ^ f.eb : Nat)
  if f.ieee then ((2 ^ (f.mb + 1) - 1 : Nat) : Rat) * pow2 (top - 2 - f.bias - f.mb)
  else if f.eb = 4 then ((2 ^ (f.mb + 1) - 2 : Nat) : Rat) * pow2 (top - 1 - f.bias - f.mb)
  else ((2 ^ (f.mb + 1) - 1 : Nat) : Rat) * pow2 (top - 1 - f.bias - f.mb)

/-- A magnitude rounded to the format's grid with an unbounded exponent range above. -/
def Fmt.grid (f : Fmt) (r : Rnd) (q : Rat) : Rat :=
  if q = 0 then 0
  else
    let e0 := ilog2 (ratAbs q)
    let e := if e0 < 1 - f.bias then 1 - f.bias else e0
    let u := pow2 (e - f.mb)
    (roundInt r (q / u) : Rat) * u

/-- The pattern of a finite value of the grid. -/
def Fmt.pack (f : Fmt) (q : Rat) (negZero : Bool) : Nat :=
  let s := 2 ^ (f.eb + f.mb)
  if q = 0 then (if negZero then s else 0)
  else
    let a := ratAbs q
    let e0 := ilog2 a
    let sub := decide (e0 < 1 - f.bias)
    let e := if sub then 1 - f.bias else e0
    let m := (a / pow2 (e - f.mb)).floor.toNat
    (if q < 0 then s else 0) + (if sub then m else ((e + f.bias).toNat) * 2 ^ f.mb + (m - 2 ^ f.mb))

/-- The infinity of an IEEE format. -/
def Fmt.infBits (f : Fmt) (neg : Bool) : Nat := b2n neg * 2 ^ (f.eb + f.mb) + (2 ^ f.eb - 1) * 2 ^ f.mb

def fp32 (w : Nat) : FVal := fmt32.decode w

/-- The rational of an FP32 field, none for NaN and infinities. -/
def fp32Rat? (w : W32) : Option Rat := match fp32 w.toNat with | .fin q _ => some q | _ => none

def fp32Rat (w : W32) : Rat := (fp32Rat? w).getD 0

/-- Round to FP32 or FP64, to nearest even; overflow gives the infinity (R299, R301). -/
def Fmt.ofRat (f : Fmt) (q : Rat) : Nat :=
  let g := f.grid .rne q
  if f.max < ratAbs g then f.infBits (decide (q < 0)) else f.pack g false

end Sys2Proof.Machine
end

