-- ==== Sys2Proof/Machine/Weir.lean ====
section
/-! DEFINITION. Weir accumulators and weir marks (R187 to R190, R217 to R220). -/

namespace Sys2Proof.Machine

/-- A loss as a mark of its own. -/
def Weir.of (cause lost : Nat) (now : Nat) (l : Loss) : Weir :=
  { owner := l.owner, lost := lost, cause := cause, first := l.ts, last := l.ts, words := l.words,
    n1 := b2n (l.cls = 1), n2 := b2n (l.cls = 2), n3 := b2n (l.cls = 3), epoch := l.epoch, part := l.part, lseq := 0,
    flags := 0, lastAt := now }

/-- The loss falls inside the span of the accumulator (R218). -/
def Weir.covers (w : Weir) (span : Nat) (l : Loss) : Bool :=
  decide (l.epoch = w.epoch) && decide (l.part = w.part) && decide (w.first ≤ l.ts) && decide (l.ts < w.first + span)

def Weir.count (w : Weir) (now : Nat) (l : Loss) : Weir :=
  { w with last := max w.last l.ts, words := w.words + l.words, n1 := w.n1 + b2n (l.cls = 1), n2 := w.n2 + b2n (l.cls = 2),
           n3 := w.n3 + b2n (l.cls = 3), lastAt := now }

def Rec.loss (r : Rec) : Loss := ⟨r.owner, r.cls, r.len, r.ts, r.epoch, r.part, r.inAt⟩

def Weir.key (w : Weir) (o lost cause : Nat) : Bool := decide (w.owner = o) && decide (w.lost = lost) && decide (w.cause = cause)

/-- The open accumulator of a key counts a loss inside its span; the accumulator of a loss outside it is closed (R218). -/
def Canal.addOpen (c : Canal) (cause lost now : Nat) (l : Loss) : Option Canal :=
  match c.acc.find? (fun w => w.key l.owner lost cause) with
  | some w => if w.covers (2 ^ 18) l then
      some { c with acc := c.acc.map (fun (x : Weir) => if x.key l.owner lost cause then x.count now l else x) } else none
  | none => none

def Canal.closeKey (c : Canal) (o cause lost : Nat) : Canal :=
  { c with acc := c.acc.filter (fun x => !x.key o lost cause), closed := c.closed ++ c.acc.filter (fun x => x.key o lost cause) }

/-- The overflow accumulator of an owner and cause is one entry of the weir table (R217): while its closed mark waits for
the engine, a further loss is counted in that mark, whose span stays within 2^19 qt (R189; log 70). -/
def Canal.addOverflow (c : Canal) (cause now : Nat) (l : Loss) : Canal :=
  match c.addOpen cause 255 now l with
  | some d => d
  | none =>
    let d := c.closeKey l.owner cause 255
    if d.closed.any (fun w => w.key l.owner 255 cause) then
      { d with closed := d.closed.map (fun (w : Weir) => if w.key l.owner 255 cause then
          { w.count now l with last := min (max w.last l.ts) (w.first + 2 ^ 19) } else w) }
    else { d with acc := d.acc ++ [Weir.of cause 255 now l] }

/-- Entries of the weir table in use: 512 for the causes BASIN_FULL and SOURCE_BUFFER (R217). -/
def Canal.tableUsed (c : Canal) : Nat := (c.acc ++ c.closed).countP (fun w => decide (w.lost ≠ 255) && decide (w.cause < 2))

/-- A loss opens an accumulator while the table has a free entry, and goes to the overflow accumulator otherwise (R217). -/
def Canal.addLoss (c : Canal) (cause src now : Nat) (l : Loss) : Canal :=
  match c.addOpen cause src now l with
  | some d => d
  | none =>
    let d := c.closeKey l.owner cause src
    if d.tableUsed < 512 then { d with acc := d.acc ++ [Weir.of cause src now l] } else d.addOverflow cause now l

/-- Count a loss of cause BASIN_FULL or SOURCE_BUFFER (R217, R218). Losses of a charter that is not ACTIVE are not reported
(R431). -/
def State.lose (s : State) (cause src : Nat) (l : Loss) : State :=
  if !s.active l.owner then s else { s with canal := s.canal.addLoss cause src s.now l }

/-- A stream's latest loss went to the overflow accumulator: it has no accumulator and no closed mark of its own. -/
def State.inOverflow (s : State) (cause src o : Nat) : Bool := !(s.canal.acc ++ s.canal.closed).any (fun w => w.key o src cause)

/-- The marks that a held stream waits for (R216): of its own key, of cause BASIN_FULL or DISCARDED, or of the owner's
overflow accumulator. -/
def Weir.holds (w : Weir) (src : Nat) (ov : Bool) (o : Nat) : Bool :=
  (w.key o src 0 && !ov) || w.key o src 6 || (w.key o 255 0 && ov)

/-- A record of a held stream is counted in its mark, also in one that is closed and not yet written (R216), as long as the
mark's span stays within 2^19 qt (R189). -/
def State.loseHeld (s : State) (src : Nat) (ov : Bool) (l : Loss) : State :=
  let c := s.canal
  let lost := if ov then 255 else src
  if !s.active l.owner then s
  else if (c.addOpen 0 lost s.now l).isSome then { s with canal := (c.addOpen 0 lost s.now l).getD c }
  else match findIdx? (fun w => w.holds src ov l.owner && w.covers (2 ^ 19) l) c.closed with
    | some i => { s with canal := { c with closed := lset c.closed i (fun w => w.count s.now l) } }
    | none => s.lose 0 src l

/-- Marks that are closed from the start (R220): they wait for the weir engine. -/
def State.addMarks (s : State) (ws : List Weir) : State := { s with canal := { s.canal with closed := s.canal.closed ++ ws } }

def insertLoss (l : Loss) : List Loss → List Loss
  | [] => [l]
  | x :: xs => if l.epoch.toNat < x.epoch.toNat || (decide (l.epoch = x.epoch) && decide (l.ts < x.ts)) then l :: x :: xs else x :: insertLoss l xs

/-- Known losses as marks, in the order of time, divided at the span (R189). -/
def lossMarks (cause lost span lseq now : Nat) (ls : List Loss) : List Weir :=
  ((ls.foldl (fun a l => insertLoss l a) []).foldl (fun (a : List Weir) l =>
    match a.getLast? with
    | some w => if w.covers span l then a.dropLast ++ [w.count now l] else a ++ [{ Weir.of cause lost now l with lseq := lseq }]
    | none => [{ Weir.of cause lost now l with lseq := lseq }]) [])

/-- Marks of known records, one stream each. -/
def recMarks (cause span now : Nat) (rs : List Rec) : List Weir :=
  (List.range 139).flatMap (fun src => lossMarks cause src span 0 now ((rs.filter (fun r => r.src.toNat = src)).map Rec.loss))

/-- Marks with UNKNOWN set and counts all ones, from one instant to another in pieces of at most 2^19 qt (R189). -/
def unknownMarks (o lost cause flags now : Nat) (epoch : BitVec 16) (part : BitVec 2) : Nat → Nat → Nat → List Weir
  | 0, _, _ => []
  | n + 1, a, b =>
    let e := min b (a + 2 ^ 19)
    let m : Weir := ⟨o, lost, cause, a, e, 2 ^ 32 - 1, 2 ^ 32 - 1, 2 ^ 32 - 1, 2 ^ 32 - 1, epoch, part, 0, BitVec.ofNat 8 flags, now⟩
    if b ≤ e then [m] else m :: unknownMarks o lost cause flags now epoch part n e b

/-- The pieces of a span from a to b. -/
def State.unknown (s : State) (o lost cause flags a b : Nat) : List Weir :=
  unknownMarks o lost cause flags s.now s.time.epoch s.time.part ((b - a) / 2 ^ 19 + 1) a b

def sat32 (n : Nat) : Nat := min (2 ^ 32 - 1) n

/-- The WEIR record of a mark (R187). -/
def State.emitMark (s : State) (w : Weir) : State :=
  let wide := decide (2 ^ 32 - 1 < w.words) || decide (2 ^ 32 - 1 < w.n1) || decide (2 ^ 32 - 1 < w.n2) || decide (2 ^ 32 - 1 < w.n3)
  s.emit 137 w.owner 3 0 w.first (w.flags.toNat + b2n wide * 4 + w.lost * 2 ^ 8 + w.cause * 2 ^ 16)
    [w.last % 2 ^ 21 + sat32 w.words * 2 ^ 32, sat32 w.n1 + sat32 w.n2 * 2 ^ 32, sat32 w.n3 + w.lseq % 2 ^ 32 * 2 ^ 32]

/-- The first mark of a disabled probe spans from the disable; marks follow every 2^19 qt (R190), to the harbourmaster and
every owner that had an enabled stream. -/
def execStandingWeirMark (p : Fin 128) (s : State) : Res :=
  let x := s.probe p.val
  if !x.disabled || s.ts ≤ x.markTs || (decide (x.markTs ≠ x.disabledTs) && s.ts < x.markTs + 2 ^ 19) then .next s
  else
    let s := (x.disabledFor.filter s.active).foldl (fun s o => s.addMarks (s.unknown o p.val 3 3 x.markTs s.ts)) s
    .next (s.setProbe p.val { x with markTs := s.ts })

/-- SOURCE_SILENT (R188, R190, R220): a stream seen active that delivers neither a record nor a loss token for 2^20 qt
without an explanation; the marks cover the span since its last delivered record. -/
def execSourceSilent (src : BitVec 8) (o : Fin 17) (s : State) : Res :=
  let x := s.stream src.toNat o.val
  if !x.seen || x.explained || s.ts < x.lastDeliv + 2 ^ 20 || !s.active o.val then .next s
  else .next ((s.addMarks (s.unknown o.val src.toNat 5 2 x.lastTs s.ts)).setStream src.toNat o.val { x with seen := false })

/-- LOSS_TOKEN (R219): the source's drops reach the weir accumulators with cause SOURCE_BUFFER. -/
def State.takeToken (s : State) (src : Nat) : State :=
  let ls := tget s.canal.losses src []
  let s := ls.foldl (fun s l =>
    (s.lose 1 src l).setStream src l.owner { s.stream src l.owner with lastDeliv := s.ts }) s
  { s with canal := { s.canal with losses := tset s.canal.losses src [] [] } }

def execLossToken (src : BitVec 8) (s : State) : Res := .next (if s.fastClocks then s.takeToken src.toNat else s)

/-- SOURCE_RECORD_TIMEOUT (R184): records of classes 1 to 3 that waited 2^19 qt (131,072 ns) at their source are dropped. -/
def execSourceRecordTimeout (src : BitVec 8) (s : State) : Res :=
  let q := s.queue src.toNat
  let old := fun (r : Rec) => decide (r.cls ≠ 0) && decide (r.inAt + 131072 ≤ s.now)
  .next ((q.filter old).foldl (fun s r => s.noteLoss src.toNat r) (s.setQueue src.toNat (q.filter (fun r => !old r))))

end Sys2Proof.Machine
end

