-- ==== Sys2Proof/Machine/Ledger.lean ====
section
/-! DEFINITION. Sealed pages (R191, R194) and the ledger (R231 to R241). A byte of the ledger lies at its count of written
bytes modulo the capacity, and byte a of the capacity in the (a / 2^20)th online bank from 8 (log 23). -/

namespace Sys2Proof.Machine

/-! ## Pages of 4,096 bytes -/

/-- A page is encrypted for an owner: always for a charter, for the harbourmaster with a memory key (R194). -/
def State.encrypts (s : State) (o : Nat) : Bool := decide (o < 16) || (s.memKey o).isSome

/-- The keygen field of a header (R192). -/
def State.genField (s : State) (o : Nat) : Nat := if s.encrypts o then s.keygen o else 0

/-- Word 0 of a page header, its magic and common fields. -/
def State.pageWord0 (s : State) (magic o : Nat) : Nat :=
  magic + 2 ^ 32 + o * 2 ^ 40 + s.genField o * 2 ^ 48 + b2n (s.encrypts o) * 2 ^ 58 + s.chip * 2 ^ 62

/-- Fill to n words. -/
def fillWords (n : Nat) (ws : List W64) : List W64 := (List.range n).map (fun i => ws.getD i 0)

/-- A page: header of six words, body of 504, trailer of two (R191, R194). -/
def State.sealPage (s : State) (o : Nat) (nonce : List Byte) (h : List Nat) (body : List W64) : List W64 :=
  let h := fillWords 6 (h.map (BitVec.ofNat 64))
  let body := fillWords 504 body
  if s.encrypts o then
    let key := ((s.memKey o).map (fun e => e.2.key)).getD 0
    let aad := bytes64 h
    let text := bytes64 body
    h ++ fillWords 504 (words64 (gcmText key nonce text)) ++ fillWords 2 (words64 (beBytes 16 (gcmTag key nonce aad text).toNat))
  else h ++ body ++ [BitVec.ofNat 64 (crc32c (bytes64 (h ++ body))).toNat, 0]

/-! ## Manager requests -/

/-- A write of a whole page at an address. -/
def pageReq (o addr : Nat) (why : Purpose) (ws : List W64) : MReq := ⟨true, 0, addr / 64, 63, o, 0, why, ws, [], [], []⟩

def State.mgrPush (s : State) (r : MReq) : State := { s with mgr := { s.mgr with wait := s.mgr.wait ++ [r] } }

/-! ## Contents -/

def LRec.bytes (r : LRec) : Nat := r.words.length * 8

/-- The capacity: the online banks, less 1 KiB while the seal block has failed (R453). -/
def State.ledgerBanks (s : State) : List Nat := [8, 9, 10, 11].filter (fun b => !(s.bank (bankKey b false)).failed)

/-- The capacity in bytes that is left. -/
def State.ledgerRoom (s : State) : Nat := s.ledgerBanks.length * 1048576 - (if (s.bank (bankKey 33 false)).failed then 1024 else 0)

/-- Oldest records leave the circular store until the rest fits. -/
def trimLedger (cap : Nat) : List LRec → Nat → List LRec
  | [], _ => []
  | r :: rs, n => if n ≤ cap then r :: rs else trimLedger cap rs (n - r.bytes)

/-- Where n bytes at a count of written bytes lie: in the online banks in turn, a record across the end of one in two pieces. -/
def State.ledgerPlaces (s : State) (at_ n : Nat) : List (Nat × Nat × Nat) :=
  let cap := max 1 s.ledger.capacity
  let piece := fun (a n : Nat) => match s.ledgerBanks[a / 2 ^ 20]? with
    | some b => if n = 0 then [] else [(b, a % 2 ^ 20, n)]
    | none => []
  let a := at_ % cap
  let first := min n (min (2 ^ 20 - a % 2 ^ 20) (cap - a))
  piece a first ++ piece ((a + first) % cap) (n - first)

/-- Write a record. -/
def State.ledgerPut (s : State) (r : Rec) : State :=
  let l := s.ledger
  let n := r.len * 8
  let post := decide (l.st = .post) && decide (l.t0 ≤ r.ts)
  let at_ := s.ledgerPlaces l.bytes n
  let rs := l.recs ++ [⟨r.owner, r.cls, r.ts, r.words, false, post, at_⟩]
  let rs := trimLedger l.capacity rs (rs.foldl (fun a x => a + x.bytes) 0)
  let s := at_.foldl (fun (s : State) e => s.mergeBytes e.1 e.2.1 e.2.2) s
  { s with ledger := { l with recs := rs, bytes := l.bytes + n, postBytes := if l.st = .post && l.trigIn then l.postBytes + n else l.postBytes } }

/-- The post-trigger size in bytes, clamped to half the capacity when banks have failed (R232, R453). -/
def Ledger.post (l : Ledger) : Nat := if l.capacity < 4194304 then min (l.cfg.post * 262144) (l.capacity / 2) else l.cfg.post * 262144

/-- The ledger selects the record (R231). -/
def Ledger.selects (l : Ledger) (r : Rec) : Bool :=
  let m := tget l.cfg.cmask r.owner 0
  decide (m ≠ 0) && (m.getLsbD r.cls || decide (r.cls = 0) || decide (r.ty = 1) || decide (r.ty = 2))

/-- The LEDGER_TRIGGER record of the trigger instant (R182, R235): ignored = 0, at T0. -/
def Ledger.fixes (l : Ledger) (r : Rec) : Bool := decide (r.ty = 5) && !r.payload.getLsbD 4 && decide (r.ts = l.t0) && decide (r.epoch = l.epoch0)

/-- A record the spine delivers (R231, R232): the LEDGER_TRIGGER of the trigger instant is always written, and after it
at most the post-trigger size. -/
def State.ledgerTake (s : State) (r : Rec) : State :=
  let l := s.ledger
  match l.st with
  | .armed => if l.selects r then s.ledgerPut r else s
  | .post =>
    if l.fixes r && !l.trigIn then
      let t := s.ledgerPut r
      { t with ledger := { t.ledger with trigIn := true, postBytes := 0 } }
    else if l.selects r && (!l.trigIn || decide (l.postBytes < l.post)) then s.ledgerPut r
    else s
  | _ => s

/-- The ledger freezes (R235, R236). -/
def State.freeze (s : State) : State :=
  { s with ledger := { s.ledger with st := .frozen, freezeNo := s.ledger.freezeNo + 1, readNext := [] } }

/-- LEDGER_FREEZE (R232): the post-trigger size is written. -/
def execLedgerFreeze (s : State) : Res :=
  let l := s.ledger
  .next (if l.st = .post && l.trigIn && decide (l.post ≤ l.postBytes) then s.freeze else s)

/-- LEDGER_POST_TIMEOUT (R232): the post time limit has passed, and the canal has its clock (R31). -/
def execLedgerPostTimeout (s : State) : Res :=
  .next (if s.fastClocks && decide (s.ledger.st = .post) && decide (s.ledger.t0At + s.ledger.cfg.limit * 1000 ≤ s.now) then s.freeze else s)

/-! ## Read-out (R236, R238, R239) -/

/-- A piece of a record is read: whether a word of it is poisoned, as every word of a failed bank is (R453); a word found
uncorrectable raises LEDGER_INTEGRITY (R239). -/
def State.readPiece (s : State) (e : Nat × Nat × Nat) : Bool × State :=
  let b := e.1
  let w := e.2.1 / 16
  let ue := (s.bank (bankKey b false)).ue
  let t := s.fetch b w ((e.2.1 + e.2.2 - 1) / 16 + 1 - w)
  (t.1, if ue = (t.2.bank (bankKey b false)).ue then t.2 else t.2.raise 0x501 b 0)

/-- Read the words of a record: whether any is poisoned (R239). -/
def State.readLedger (s : State) (r : LRec) : Bool × State :=
  r.at_.foldl (fun (a : Bool × State) e => let t := a.2.readPiece e; (a.1 || t.1, t.2)) (false, s)

/-- An owner's records in ledger order with their poison; erased ones are PAD (R241). -/
def State.ownRecs (s : State) (o : Nat) : List (LRec × Bool) × State :=
  (s.ledger.recs.filter (fun e => e.owner = o && !e.erased)).foldl (fun (a : List (LRec × Bool) × State) e =>
    let r := a.2.readLedger e
    (a.1 ++ [(e, r.1)], r.2)) ([], s)

/-- The WEIR of cause POISON in place of lost records (R239). -/
def lostWords (r : LRec) : List W64 :=
  [BitVec.ofNat 64 (3 * 2 ^ 58 + 3 * 2 ^ 56 + 137 * 2 ^ 48 + r.owner * 2 ^ 43 + r.ts % 2 ^ 21 * 2 ^ 20 + 2 * 2 ^ 16
     + (r.words.headD 0).toNat / 2 ^ 48 % 256 * 2 ^ 8),
   BitVec.ofNat 64 (r.ts % 2 ^ 21 + r.words.length * 2 ^ 32), BitVec.ofNat 64 (b2n (r.cls = 1) + b2n (r.cls = 2) * 2 ^ 32),
   BitVec.ofNat 64 (b2n (r.cls = 3))]

/-- A page being filled: its words, its number of records, the first post-trigger word, its poison. -/
structure PageFill where
  words : List W64
  recs : Nat
  firstPost : Nat
  bad : Bool
  deriving DecidableEq, Repr

def PageFill.zero : PageFill := ⟨[], 0, 0x3FF, false⟩

/-- Pack records by R193. -/
def packPages (rs : List (LRec × Bool)) : List PageFill :=
  let r := rs.foldl (fun (a : List PageFill × PageFill) e =>
    let ws := if e.2 then lostWords e.1 else e.1.words
    let a := if 504 < a.2.words.length + ws.length then (a.1 ++ [a.2], PageFill.zero) else a
    let p := a.2
    (a.1, { words := p.words ++ ws, recs := p.recs + 1, bad := p.bad || e.2,
            firstPost := if e.1.post && p.firstPost = 0x3FF then p.words.length else p.firstPost })) ([], PageFill.zero)
  if r.2.recs = 0 then r.1 else r.1 ++ [r.2]

/-- Page i of n of an owner's read-out (R238). -/
def State.ledgerPage (s : State) (o readout n i : Nat) (p : PageFill) : List W64 :=
  let l := s.ledger
  let h := [s.pageWord0 0x1D3E5A7D o, i + n * 2 ^ 16 + l.freezeNo.toNat * 2 ^ 32, cvtLo l.t0,
    cvtHi l.t0 + l.epoch0.toNat * 2 ^ 32 + l.trig * 2 ^ 48 + p.words.length * 2 ^ 52 + b2n p.bad * 2 ^ 62,
    p.recs + p.firstPost * 2 ^ 10 + readout * 2 ^ 20]
  let nonce := leBytes 1 2 ++ leBytes 1 o ++ leBytes 1 (s.keygen o) ++ leBytes 1 s.chip ++ leBytes 4 l.freezeNo.toNat ++
    leBytes 2 i ++ leBytes 2 readout
  s.sealPage o nonce h p.words

def specLedgerRead : OpSpec := { op := 0x37, priv := .own, len := exactly 3, long := true }

/-- LEDGER_READ (R238, R397): the owner's pages go to the manager port; LEDGER_READ_DONE completes it. -/
def bodyLedgerRead (pk : Pkt) (slot : Nat) (s : State) : Verdict :=
  let o := pk.o
  let l := s.ledger
  let no := tget l.readNext o 0
  chk (l.st = .armed || l.st = .post) .badParam 0 (
  chk (decide (o < 16) && (s.memKey o).isNone) .badParam 0 (
  chk (decide (pk.addr 1 % 4096 ≠ 0)) .badParam 1 (
  chk (decide (65535 < no)) .exhausted 0 (
    let r := s.ownRecs o
    let ps := packPages r.1
    let ws := (ps.mapIdx (fun i p => (i, p))).take (fld (pk.p 3) 0 16)
    let t := ws.foldl (fun t e => t.mgrPush (pageReq o (pk.addr 1 + 4096 * e.1) (.ledger o) (r.2.ledgerPage o no ps.length e.1 e.2))) r.2
    .accept [] { t with ledger := { t.ledger with
      readNext := tset l.readNext o (no + 1) 0,
      jobs := l.jobs ++ [(o, pk.seq, slot, ps.length, ws.length, l.freezeNo.toNat)] } }))))

def execLedgerRead (pk : Pkt) (s : State) : Res := .next (launch specLedgerRead bodyLedgerRead pk s)

/-- LEDGER_READ_DONE (R238): no page of the owner waits any more. -/
def execLedgerReadDone (o : Fin 17) (s : State) : Res :=
  match s.ledger.jobs.find? (fun j => j.1 = o.val) with
  | none => .next s
  | some j =>
    if (s.mgr.wait ++ s.mgr.out).any (fun r => r.why = .ledger o.val) then .next s
    else
      let t := { s with ledger := { s.ledger with jobs := s.ledger.jobs.filter (fun x => x.1 ≠ o.val) } }
      .next (t.complete 0x37 o.val j.2.1 j.2.2.1 .ok [j.2.2.2.2.1 + j.2.2.2.1 * 2 ^ 16, j.2.2.2.2.2])

/-! ## Seal and summary (R235, R236, R240) -/

/-- The fields of the seal block in the order of R236. -/
def Seal.bytes (b : Seal) : List Byte :=
  leBytes 4 b.freeze.toNat ++ leBytes 1 b.trig ++ leBytes 12 (cvt96 b.t0) ++ leBytes 2 b.epoch.toNat ++ leBytes 4 b.before ++ leBytes 4 b.after ++
  (List.range 17).flatMap (fun o => beBytes 32 (tget b.digests o 0).toNat) ++ leBytes 4 b.erased.toNat

/-- A seal block with its HMAC. -/
def Seal.signed (b : Seal) : Seal := { b with mac := Config.hmac (Config.keyStore 2) b.bytes }

/-- LEDGER_SEAL (R235, R236): the seal block, its interrupt, and the summary to write; without the key (R411) it is not
sealed yet. -/
def execLedgerSeal (s : State) : Res :=
  let l := s.ledger
  if l.st ≠ .frozen || !s.fastClocks then .next s
  else if s.io.ksErr then .next (s.askKey 2)
  else
    let total := l.recs.foldl (fun a r => a + r.bytes) 0
    let after := (l.recs.filter (fun r => r.post)).foldl (fun a r => a + r.bytes) 0
    let ds := (List.range 17).foldl (fun (t : Tab W256) o =>
      tset t o (Config.sha256 ((l.recs.filter (fun r => r.owner = o)).flatMap (fun r => bytes64 r.words))) 0) []
    let er := match l.sealBlk with | some b => if b.freeze = l.freezeNo then b.erased else 0 | none => 0
    let b : Seal := ⟨l.freezeNo, l.trig, l.t0, l.epoch0, total - after, after, ds, er, 0⟩
    let b := b.signed
    let s := (s.askKey 2).writeRange 33 0 64
    .next ({ s with ledger := { l with st := .seald, sealBlk := some b, summaryPending := true } }.setIrq hm 8)

/-- The first words of at most 16 KiB of records. -/
def firstBytes (n : Nat) : List (LRec × Bool) → List (LRec × Bool)
  | [] => []
  | r :: rs => if r.1.bytes ≤ n then r :: firstBytes (n - r.1.bytes) rs else []

/-- An owner's pages of a summary: its last 16 KiB before T0 and first 16 KiB after. -/
def State.summaryPart (no : Nat) (a : List Byte × State) (o : Nat) : List Byte × State :=
  let r := a.2.ownRecs o
  let pre := (firstBytes 16384 ((r.1.filter (fun e => !e.1.post)).reverse)).reverse
  let post := firstBytes 16384 (r.1.filter (fun e => e.1.post))
  let ps := packPages (pre ++ post)
  (a.1 ++ (ps.mapIdx (fun i p => bytes64 (r.2.ledgerPage o no ps.length i p))).flatten, r.2)

/-- A summary: the seal block and each owner's pages; their read-out number is a free value (log 24). -/
def State.summary (s : State) : List Byte × State :=
  let f := s.fresh
  (List.range 17).foldl (State.summaryPart (f.1 % 2 ^ 16))
    ((match s.ledger.sealBlk with | some b => b.bytes ++ beBytes 32 b.mac.toNat | none => []) |> putBytes (List.replicate 1024 0) 0, f.2)

/-- LEDGER_SUMMARY_WRITE (R240, R25): to the Logbook's ring of 8; deferred while the Logbook is unavailable. A summary
beyond its slot of 256 KiB keeps the seal block and whole pages (R494). -/
def execLedgerSummaryWrite (s : State) : Res :=
  if !s.ledger.summaryPending then .next s
  else
    let r := s.lbAccess
    if !r.1 then .next r.2
    else
      let m := r.2.summary
      let t := m.2
      .next { t with
        lb := { t.lb with summaries := tset t.lb.summaries (t.lb.summaryNext % 8) (m.1.take 259072) [], summaryNext := t.lb.summaryNext + 1 }
        ledger := { t.ledger with summaryPending := false, truncated := decide (259072 < m.1.length) } }

/-! ## Erasure, release (R237, R241) -/

/-- An ending charter's records become PAD; in a frozen ledger its bit of the erased mask is set, and a seal block already
written carries the HMAC over the new mask (R236, R241). -/
def State.ledgerErase (s : State) (o : Nat) : State :=
  let l := s.ledger
  let froz := decide (l.st = .frozen) || decide (l.st = .seald)
  let mark := fun (b : Seal) =>
    let b := { b with erased := setBit b.erased o true }
    if l.st = .seald then b.signed else b
  { s with ledger := { l with
      recs := l.recs.map (fun (r : LRec) => if r.owner = o then { r with words := r.words.map (fun _ => 0), erased := true } else r)
      sealBlk := if froz then (match l.sealBlk with
        | some b => some (mark (if b.freeze = l.freezeNo then b else ⟨l.freezeNo, l.trig, l.t0, l.epoch0, 0, 0, [], 0, 0⟩))
        | none => some (mark ⟨l.freezeNo, l.trig, l.t0, l.epoch0, 0, 0, [], 0, 0⟩)) else l.sealBlk } }

/-- Release: contents cleared, re-armed, waiting settings in force (R237, R397). -/
def State.ledgerRelease (s : State) : State :=
  let l := s.ledger
  let s := s.clearBanks [8, 9, 10, 11]
  { s with ledger := { l with
      capacity := s.ledgerRoom
      st := .armed, cfg := l.next.getD l.cfg, next := none, recs := [], bytes := 0, postBytes := 0, trig := 0, n := 0,
      t0 := 0, epoch0 := 0, trigIn := false, owed := none, summaryLost := l.summaryLost || l.summaryPending, summaryPending := false } }

def specLedgerSet : OpSpec := { op := 0x34, priv := .hmOnly, len := exactly 6 }

/-- LEDGER_SET (R231, R232, R397): at once while armed, otherwise at the release. -/
def bodyLedgerSet (pk : Pkt) (_ : Nat) (s : State) : Verdict :=
  let m := (List.range 17).foldl (fun (t : Tab (BitVec 4)) o => tset t o (BitVec.ofNat 4 (fld (pk.p (1 + o / 8)) (4 * (o % 8)) 4)) 0) []
  let post := fld (pk.p 4) 0 5
  let lim := (pk.p 5).toNat
  chk (decide (16 < post)) .badParam 4 (chk (decide (lim < 100) || decide (1000000 < lim)) .badParam 5 (
    let c : LedgerCfg := ⟨m, post, lim, BitVec.ofNat 16 (fld (pk.p 6) 0 16)⟩
    .done .ok [] { s with ledger := if s.ledger.st = .armed then { s.ledger with cfg := c, next := none } else { s.ledger with next := some c } }))

def execLedgerSet (pk : Pkt) (s : State) : Res := .next (launch specLedgerSet bodyLedgerSet pk s)

def specLedgerTrigger : OpSpec :=
  { op := 0x35, priv := .any, len := exactly 0, permit := fun o s => decide (o = hm) || s.ledger.cfg.permit.getLsbD o }

/-- A trigger of now would be ignored (R234): the ledger has left ARMED, and not by a trigger of this instant with a higher
code. -/
def State.ignoresTrigger (s : State) (trig : Nat) : Bool :=
  decide (s.ledger.st ≠ .armed) && !(decide (s.ledger.st = .post) && decide (s.ledger.t0At = s.now) && decide (trig < s.ledger.trig))

/-- LEDGER_TRIGGER (R233, R234, R397). -/
def bodyLedgerTrigger (_ : Pkt) (_ : Nat) (s : State) : Verdict :=
  .done .ok [b2n (s.ignoresTrigger 0)] (s.fireTrigger 0 0)

def execLedgerTrigger (pk : Pkt) (s : State) : Res := .next (launch specLedgerTrigger bodyLedgerTrigger pk s)

def specLedgerRelease : OpSpec := { op := 0x36, priv := .hmOnly, len := exactly 0 }

/-- LEDGER_RELEASE (R237, R397): BUSY while a LEDGER_READ runs. -/
def bodyLedgerRelease (_ : Pkt) (_ : Nat) (s : State) : Verdict :=
  chk (!s.ledger.jobs.isEmpty) .busy 0 (.done .ok [] s.ledgerRelease)

def execLedgerRelease (pk : Pkt) (s : State) : Res := .next (launch specLedgerRelease bodyLedgerRelease pk s)

def specLedgerStatus : OpSpec := { op := 0x38, priv := .any, len := exactly 0 }

/-- LEDGER_STATUS (R397). -/
def bodyLedgerStatus (_ : Pkt) (_ : Nat) (s : State) : Verdict :=
  let l := s.ledger
  .done .ok ([l.st.code + l.trig * 4 + b2n l.summaryPending * 64, l.freezeNo.toNat] ++ cvtWords (cvt96 l.t0) ++
    [l.epoch0.toNat + l.n * 2 ^ 16]) s

def execLedgerStatus (pk : Pkt) (s : State) : Res := .next (launch specLedgerStatus bodyLedgerStatus pk s)

end Sys2Proof.Machine
end

