-- ==== Sys2Proof/Machine/Table.lean ====
section
/-! DEFINITION. Scale tables (07): entries (R260), forecasts (R261) and the table engine (R262, R263). -/

namespace Sys2Proof.Machine

/-- Round to FP32 with a rounding rule; overflow gives the infinity, or the largest value towards zero. -/
def f32r (r : Rnd) (q : Rat) : FVal :=
  let g := fmt32.grid r q
  if fmt32.max < ratAbs g then
    (if r = .rtz then .fin (if q < 0 then -fmt32.max else fmt32.max) false else .inf (decide (q < 0)))
  else .fin g false

/-- The FP32 pattern of a value; the NaN is the quiet one. -/
def FVal.bits32 : FVal → Nat
  | .nan => 0x7FC00000
  | .inf n => fmt32.infBits n
  | .fin q z => fmt32.pack q z

/-- The tap's rounding rule (R248). -/
def rndOf (rtz : Bool) : Rnd := if rtz then .rtz else .rna

/-- qmin and qmax of a target code (R252). -/
def targetRange (code : Nat) : Option (Rat × Rat) :=
  match code with
  | 3 => some (-448, 448) | 4 => some (-57344, 57344) | 5 => some (-28, 28) | 6 => some (-(15 / 2), 15 / 2) | 7 => some (-6, 6)
  | 10 => some (-128, 127) | 11 => some (0, 255) | 12 => some (-8, 7) | 13 => some (0, 15) | _ => none

/-- Whether a target allows asymmetric quantisation: 0 no, 1 yes, 2 only (R252). -/
def targetAsym (code : Nat) : Nat := if code = 10 || code = 12 then 1 else if code = 11 || code = 13 then 2 else 0

/-- The largest value of a history (R261), none without one or where one is no number. -/
def histMax (hist : List (BitVec 32)) (count : Nat) : Option Rat :=
  let hs := (hist.take count).map fp32Rat?
  if hs.isEmpty || hs.any Option.isNone then none
  else
    let vs := hs.filterMap id
    some (vs.foldl (fun a b => if a < b then b else a) (vs.headD 0))

/-- fc_absmax (R261): the history's maximum times 2^m, in FP32. -/
def fcAbsmax (hist : List (BitVec 32)) (count margin : Nat) (r : Rnd) : Option FVal := (histMax hist count).map (fun m => f32r r (m * pow2 margin))

/-- fc_scale (R261): 1.0 where fc_absmax is 0, else fc_absmax / qmax; none without a target. -/
def fcScale (a : FVal) (target : Nat) (r : Rnd) : Option FVal :=
  match a, targetRange target with
  | .fin q _, t => if q = 0 then some (.fin 1 false) else t.map (fun x => f32r r (q / x.2))
  | _, none => none
  | v, some _ => some v

/-- fc_absmax and fc_scale (R261), as FP32; each is none where the rule gives it no value: no history, a value that is no
number, or no target for the scale. -/
def forecast (hist : List (BitVec 32)) (count margin : Nat) (target : Nat) (r : Rnd) : Option (BitVec 32) × Option (BitVec 32) :=
  let a := fcAbsmax hist count margin r
  (a.map (fun v => BitVec.ofNat 32 v.bits32), (a.bind (fun v => fcScale v target r)).map (fun v => BitVec.ofNat 32 v.bits32))

/-- A forecast with free values where the rule gives none. -/
def orFree (f : Option (BitVec 32) × Option (BitVec 32)) (free : Nat) : BitVec 32 × BitVec 32 :=
  (f.1.getD (BitVec.ofNat 32 free), f.2.getD (BitVec.ofNat 32 (free / 2 ^ 32)))

/-- An entry's 16 words (R260), without its CRC. -/
def Entry.words15 (e : Entry) : List Nat :=
  [e.tid.toNat + b2n e.valid * 2 ^ 16 + b2n e.delayed * 2 ^ 17 + e.hlen * 2 ^ 18 + e.margin * 2 ^ 21 + e.count * 2 ^ 23, e.upd.toNat,
   e.fcScale.toNat, e.prevScale.toNat, e.fcAbsmax.toNat, e.lastAbsmax.toNat] ++
  (List.range 8).map (fun i => (e.hist.getD i 0).toNat) ++ [e.upd.toNat]

def Entry.bytes (e : Entry) : List Byte :=
  let b := e.words15.flatMap (leBytes 4)
  b ++ leBytes 4 (crc32c b).toNat

/-- What 64 bytes hold: whether the CRC verifies, and the entry. -/
def parseEntry (b : List Byte) : Bool × Entry :=
  let w := fun i => ofLe (slice b (4 * i) 4)
  let w0 := w 0
  (decide (w 15 = (crc32c (b.take 60)).toNat),
   { tid := BitVec.ofNat 16 w0, valid := w0.testBit 16, delayed := w0.testBit 17, hlen := bits w0 18 3, margin := bits w0 21 2,
     count := bits w0 23 4, upd := BitVec.ofNat 32 (w 1), fcScale := BitVec.ofNat 32 (w 2), prevScale := BitVec.ofNat 32 (w 3),
     fcAbsmax := BitVec.ofNat 32 (w 4), lastAbsmax := BitVec.ofNat 32 (w 5),
     hist := (List.range 8).map (fun i => BitVec.ofNat 32 (w (6 + i))) })

def TabOp.owner : TabOp → Nat
  | .fetch _ o _ => o
  | .back _ o _ _ _ _ => o
  | .entry o _ => o

/-- The address of an entry. -/
def State.entryAt (s : State) (o : Nat) (tid : BitVec 16) : Nat := tget s.assay.base o 0 + 64 * (tid.toNat % 1024)

/-- The write of an entry: one request of 64 bytes (R260). -/
def State.writeEntry (s : State) (o tap : Nat) (e : Entry) : State :=
  let s := { s with assay := { s.assay with writing := true } }
  s.mgrPush ⟨true, 0, s.entryAt o e.tid / 64, 0, o, 0, .tableWr o tap, words64 e.bytes, [], [], []⟩

/-- The engine takes the head of its queue, one operation at a time (R262). -/
def State.engineStart (s : State) : State :=
  if s.assay.busy || s.assay.writing then s
  else match s.assay.engine with
    | [] => s
    | .fetch t o tid :: _ => ({ s with assay := { s.assay with busy := true } }).mgrPush ⟨false, 0, s.entryAt o tid / 64, 0, o, 0, .tableRd o t, [], [], [], []⟩
    | .back t o tid _ _ _ :: _ => ({ s with assay := { s.assay with busy := true } }).mgrPush ⟨false, 0, s.entryAt o tid / 64, 0, o, 0, .tableRd o t, [], [], [], []⟩
    | .entry o e :: _ => s.writeEntry o 0 e

/-- The head operation is over. -/
def State.engineNext (s : State) : State :=
  ({ s with assay := { s.assay with engine := s.assay.engine.drop 1, busy := false, writing := false } }).engineStart

/-- Assay counter k of R259 of a tap and owner. -/
def State.assayCount (s : State) (t o k : Nat) : State :=
  let i := (t * 32 + o) * 8 + k
  { s with assay := { s.assay with cnt := tset s.assay.cnt i (satAdd (2 ^ 32 - 1) (tget s.assay.cnt i 0) 1) 0 } }

/-- Queue an operation; with 32 queued it is lost (R263). -/
def State.engineAdd (s : State) (op : TabOp) : Bool × State :=
  if 32 ≤ s.assay.engine.length then (false, s)
  else (true, ({ s with assay := { s.assay with engine := s.assay.engine ++ [op] } }).engineStart)

/-- A write of the engine is done. -/
def State.tableWritten (s : State) (o : Nat) : State :=
  match s.assay.engine with
  | op :: _ => if s.assay.writing && decide (op.owner = o) then s.engineNext else s
  | [] => s

end Sys2Proof.Machine
end

