-- ==== Sys2Proof/Machine/Assay.lean ====
section
/-! DEFINITION. The assay's values, rows and checks (07 R242 to R258, R264 to R267). -/

namespace Sys2Proof.Machine

/-! ## Elements -/

/-- The element width of a TAP_FMT code (R242). -/
def tapWidth (code : Nat) : Nat :=
  match code with
  | 0 | 8 => 32 | 1 | 2 | 9 => 16 | 5 | 6 => 6 | 7 | 12 | 13 => 4 | _ => 8

/-- The bytes of a full beat (R242). -/
def fullBeat (code : Nat) : Nat := if tapWidth code = 6 then 240 else 256

/-- TAP_MX counts with these codes only (R60). -/
def mxAllowed (code : Nat) : Bool := (decide (3 ≤ code) && decide (code ≤ 7)) || decide (code = 10)

def intVal (x : Int) : FVal := .fin (x : Rat) false

/-- An element's value before its block scale (R244). -/
def tapElem (code x : Nat) : FVal :=
  match code with
  | 0 => fmt32.decode x | 1 => fmt16.decode x | 2 => fmtBf.decode x | 3 => fmtE4.decode x | 4 => fmtE5.decode x
  | 5 => (⟨3, 2, false⟩ : Fmt).decode x | 6 => (⟨2, 3, false⟩ : Fmt).decode x | 7 => fmtE2.decode x
  | 8 => intVal (sgn 32 x) | 9 => intVal (sgn 16 x) | 10 => intVal (sgn 8 x) | 11 => intVal x | 12 => intVal (sgn 4 x)
  | 13 => intVal x | _ => .nan

/-- An element under its block scale (R244). -/
def scaled (b : Nat) (v : FVal) : FVal :=
  if b = 0xFF then .nan
  else match v with
    | .fin q z => .fin (q * pow2 ((b : Int) - 127)) z
    | v => v

/-- The elements of a beat: `n` valid bytes, at most a full beat of a 6-bit format. -/
def beatElems (code : Nat) (mx : Bool) (b : TapBeat) : List FVal :=
  let w := tapWidth code
  let n := (min (b.bytes.toNat + 1) (fullBeat code)) * 8 / w
  (List.range n).map (fun i =>
    let v := tapElem code (bits b.data.toNat (w * i) w)
    if mx then scaled (bits b.bscale.toNat (8 * (i / 32)) 8) v else v)

/-! ## Statistics -/

def finites (es : List FVal) : List Rat := es.filterMap (fun e => match e with | .fin q _ => some q | _ => none)

def ratMax (l : List Rat) : Option Rat := match l with | [] => none | x :: xs => some (xs.foldl (fun a b => if a < b then b else a) x)
def ratMin (l : List Rat) : Option Rat := match l with | [] => none | x :: xs => some (xs.foldl (fun a b => if b < a then b else a) x)

/-- The histogram bin of an element (R250). -/
def histBin (lo : Int) (e : FVal) : Nat :=
  match e with
  | .fin q _ => if q = 0 then 0 else (max 1 (min 62 (ilog2 (ratAbs q) - lo + 1))).toNat
  | _ => 63

/-- y = x / h in FP32 (R255). -/
def quotient (r : Rnd) (x : FVal) (h : FVal) : FVal :=
  match x, h with
  | .fin q _, .fin d _ => if d = 0 then (if q = 0 then .nan else .inf (decide (q < 0))) else f32r r (q / d)
  | .fin _ _, .inf _ => .fin 0 false
  | _, _ => .nan

/-- A value on the target's grid, the range unbounded above (R255). -/
def onTarget (code : Nat) (r : Rnd) (v : FVal) : FVal :=
  match v with
  | .fin q _ =>
    let f : Option Fmt := match code with
      | 3 => some fmtE4 | 4 => some fmtE5 | 5 => some ⟨3, 2, false⟩ | 6 => some ⟨2, 3, false⟩ | 7 => some fmtE2 | _ => none
    match f with
    | some f => .fin (f.grid r q) false
    | none => .fin (roundInt r q : Rat) false
  | v => v

/-- Whether an element is saturated, and whether it is quantised to zero, under a host scale (R250, R255): an element that is
no number is saturated whatever the target. DESIGN CHOICE (log 85): where the host scale makes y a NaN or an infinity (it is
0, or itself a NaN), the element is saturated; where the scale is an infinity, y is 0, so it is quantised to zero. -/
def quantised (saf : Safety) (wgt : Bool) (h : FVal) (zh : Int) (e : FVal) : Bool × Bool :=
  match targetRange saf.qfmt.toNat, e with
  | none, .fin _ _ => (false, false)
  | some (lo, hi), .fin q _ =>
    let r := rndOf saf.rtz
    match onTarget saf.qfmt.toNat r (quotient r e h) with
    | .fin y _ =>
      let v := if saf.asym && !wgt then y + (zh : Rat) else y
      (decide (v < lo) || decide (hi < v), decide (q ≠ 0) && decide (y = 0))
    | _ => (true, false)
  | _, _ => (true, false)

/-! ## Shadow scale (R252 to R254) -/

/-- The row is scaled asymmetrically (R253). -/
def Safety.asymRow (f : Safety) (wgt : Bool) : Bool := f.asym && !wgt

/-- s and z of a checked row (R254); none where no case applies or z has no value. A row without a finite element has max
and min 0 (R250) and is not flat: asymmetric, its s is 0 and its z, from 0 / 0, has no value. -/
def shadowOf (f : Safety) (wgt : Bool) (fs : List Rat) : Option FVal × Option Int :=
  match ratMin fs, ratMax fs, targetRange f.qfmt.toNat with
  | some lo, some hi, some (qmin, qmax) =>
    let r := rndOf f.rtz
    let val := fun (q : Rat) => match f32r r q with | .fin v _ => v | _ => q
    let amax := val (max (ratAbs lo) (ratAbs hi))
    if lo = hi && lo = 0 then (some (.fin 1 false), some 0)
    else if !f.asymRow wgt || lo = hi then (some (f32r r (amax / qmax)), some 0)
    else
      let s : FVal := match f32r r (val hi - val lo) with | .fin d _ => f32r r (d / (qmax - qmin)) | v => v
      let clamp16 := fun (z : Int) => max (-32768) (min 32767 z)
      let z : Option Int := match s with
        | .fin d _ =>
          if d = 0 then (if lo = 0 then none else some (if lo < 0 then 32767 else -32768))
          else match f32r r (val lo / d) with
            | .fin m _ => (match f32r r (qmin - m) with | .fin v _ => some (clamp16 (roundInt r v)) | _ => none)
            | .inf n => some (if n then 32767 else -32768)
            | .nan => none
        | _ => some (clamp16 (roundInt r qmin))
      (some s, z)
  | none, none, some _ => if f.asymRow wgt then (some (.fin 0 false), none) else (none, none)
  | _, _, _ => (none, none)

/-- A positive finite FP32 pattern. -/
def posFinite (x : BitVec 32) : Bool := decide (0 < x.toNat) && decide (x.toNat < 0x7F800000)

/-- The difference in ULP, 0xFFFFFFFF when a side is no positive finite value (R256). -/
def ulpDiff (a b : BitVec 32) : Nat :=
  if posFinite a && posFinite b then max a.toNat b.toNat - min a.toNat b.toNat else 0xFFFFFFFF

/-! ## Tap settings -/

def State.safety (s : State) (t o : Nat) : Safety := tget s.assay.safety (t * 32 + o) Safety.zero
def State.measure (s : State) (t o : Nat) : Measure := tget s.assay.measure (t * 32 + o) Measure.zero

/-- The tap is enabled for an owner at all (R247), or an op takes statistics from it (R282, log 28). -/
def State.tapEnabled (s : State) (t : Nat) : Bool :=
  s.ident.taps.getLsbD t && !(s.tap t).off && !s.frame.gated.getLsbD t && ((List.range 17).any (fun o => (s.safety t o).enable) || s.assayTap t)

/-! ## Checks (R256, R257, R264) -/

/-- The verdict on a row: the scale's and the zero point's. -/
structure RowCheck where
  scaleOk : Bool
  zpOk : Bool
  ref : BitVec 32
  refZ : Int
  deriving DecidableEq, Repr

/-- The check of a row, as CURRENT or against the entry of a DELAYED tensor. -/
def checkRow (i : Inst) (w : RowWait) : RowCheck :=
  let zh := sgn 16 w.hzp.toNat
  let near := fun (r : BitVec 32) => decide (ulpDiff w.hscale r ≤ i.saf.tol)
  let current : RowCheck :=
    ⟨posFinite w.hscale && posFinite w.shadow && near w.shadow,
     !i.saf.asymRow i.wgt || decide ((zh - w.zp).natAbs ≤ i.saf.zpTol), w.shadow, w.zp⟩
  match i.fetch with
  | .found e =>
    if !e.delayed then current
    else match i.firstScale with
      | none => ⟨posFinite w.hscale && ((posFinite e.fcScale && near e.fcScale) || (posFinite e.prevScale && near e.prevScale)),
                 decide (zh = 0), e.fcScale, 0⟩
      | some f => ⟨decide (w.hscale = f), decide (zh = 0), f, 0⟩
  | _ => current

/-- A failed row (R257). -/
def State.rowFails (s : State) (t : Nat) (i : Inst) (w : RowWait) (c : RowCheck) (ts : Nat) : State × Inst :=
  let s := s.assayCount t i.owner 1
  let s := { s with assay := { s.assay with gmm := tset s.assay.gmm t (satAdd (2 ^ 32 - 1) (tget s.assay.gmm t 0) 1) 0 } }
  let x := s.tap t
  let quiet := match x.lastMm with | some l => decide (s.now < l + 16000) | none => false
  let s := if quiet then s.assayCount t i.owner 2
    else
      let s := s.setTap t { x with lastMm := some s.now }
      s.emit (128 + t) i.owner 0x23 0 ts
        (i.tid.toNat + b2n (!c.scaleOk) * 2 ^ 16 + b2n (!c.zpOk) * 2 ^ 17 + b2n i.saf.rtz * 2 ^ 18 + b2n w.flat * 2 ^ 19)
        [w.idx.toNat + i.fmt.toNat * 2 ^ 24 + w.hscale.toNat * 2 ^ 32,
         c.ref.toNat + w.hzp.toNat * 2 ^ 32 + unsgn 16 c.refZ * 2 ^ 48, ulpDiff w.hscale c.ref]
  if i.mmRaised then (s, i)
  else
    (s.raiseAs 0x601 t (i.tid.toNat + i.owner * 2 ^ 16 + w.idx.toNat % 2 ^ 11 * 2 ^ 21) (some i.saf.mmClass) ts, { i with mmRaised := true })

/-- One checked row is decided: whether it fails. -/
def State.decideRow (s : State) (t : Nat) (i : Inst) (w : RowWait) (ts : Nat) : Bool × State × Inst :=
  let c := checkRow i w
  let s := s.assayCount t i.owner 0
  let i := { i with firstScale := some (i.firstScale.getD w.hscale) }
  if c.scaleOk && c.zpOk then (false, s, i)
  else let r := s.rowFails t i w c ts; (true, r.1, r.2)

/-! ## Excursions (R265 to R267) -/

/-- floor(abs(log2(observed / forecast))), 255 without a ratio. -/
def excMag (obs fc : Rat) : Nat :=
  if obs ≤ 0 || fc ≤ 0 then 255
  else let r := obs / fc; min 255 (if 1 ≤ r then ilog2 r else ilog2 (1 / r)).toNat

def fraction (n d : Nat) : Nat := if d = 0 then 0 else n * 65536 / d

/-- A magnitude as the FP32 field of a record. -/
def Inst.fp (i : Inst) (q : Rat) : Nat := (f32r (rndOf i.saf.rtz) q).bits32

/-- The forecast of an instance's entry, none without one. -/
def Inst.forecast? (i : Inst) : Option Rat :=
  match i.fetch with
  | .found e => if e.count = 0 then none else fp32Rat? e.fcAbsmax
  | _ => none

/-- A kind is reported (R266, R267). -/
def State.excursion (s : State) (t : Nat) (i : Inst) (kind : Nat) (up : Bool) (ts : Nat) : State × Inst :=
  let m := i.mea
  let req := m.actions.getLsbD 3 && !i.rescaled
  let x := s.tap t
  let acts := m.actions.toNat % 8 + b2n req * 8
  let fc := i.forecast?
  let fcBits := match i.fetch, fc with | .found e, some _ => e.fcAbsmax.toNat | _, _ => 0
  let s := if m.actions.getLsbD 0 || m.actions.getLsbD 2 || m.actions.getLsbD 3 then
      s.emit (128 + t) i.owner 0x24 1 ts (i.tid.toNat + b2n up * 2 ^ 16 + kind * 2 ^ 17)
        [fcBits + i.fp i.absmax * 2 ^ 32,
         (match fc with | some f => excMag i.absmax f | none => 255) + acts * 2 ^ 8 + (if m.actions.getLsbD 2 then m.fclass else 0) * 2 ^ 12 + b2n (req && x.req) * 2 ^ 14
           + m.k * 2 ^ 16 + i.lastRow.toNat * 2 ^ 24,
         min 65535 (fraction i.nSat i.elems) + min 65535 (fraction i.nZero i.elems) * 2 ^ 16]
    else s
  let s := if m.actions.getLsbD 1 then s.setIrq i.owner 2 else s
  let s := if m.actions.getLsbD 2 then s.raiseAs 0x604 t (i.tid.toNat + i.owner * 2 ^ 16 + kind * 2 ^ 21) (some m.fclass) ts else s
  let s := if req then s.modTap t (fun x => { x with req := true, reqTid := i.tid }) else s
  let s := if i.saf.ledger then s.fireTrigger 2 0 else s
  let hits := s.assay.slots.filterMap (fun e =>
    if e.2.armed && decide (e.2.cfg.trigger = 3) && decide (e.2.owner = i.owner) && e.2.cfg.taps.getLsbD t &&
        decide (i.tid &&& e.2.cfg.mask = e.2.cfg.tid &&& e.2.cfg.mask) && !s.assay.excursed.contains (e.1, i.tid, t)
    then some (e.1, i.tid, t) else none)
  ({ s with assay := { s.assay with excursed := s.assay.excursed ++ hits } },
   { i with kinds := setBit i.kinds kind true, rescaled := i.rescaled || req })

/-- The tests of R265 at a row close, at the arrival of the entry, or at the close (`final`). -/
def State.testExcursions (s : State) (t : Nat) (i : Inst) (final complete : Bool) (ts : Nat) : State × Inst :=
  let fc := match i.forecast? with | some f => if f = 0 then none else some f | none => none
  let kUp := match fc with | some f => decide (f * pow2 i.mea.k < i.absmax) | none => false
  let kDown := match fc with | some f => final && complete && decide (i.absmax < f / pow2 i.mea.k) | none => false
  let r := if (kUp || kDown) && !i.kinds.getLsbD 0 then s.excursion t i 0 kUp ts else (s, i)
  let due := (final || decide (i.mea.nMin ≤ i.elems)) && decide (i.elems ≠ 0)
  let sat := due && decide (i.mea.tSat ≠ 0) && decide (i.mea.tSat < fraction i.nSat i.elems)
  let r := if sat && !i.kinds.getLsbD 1 then r.1.excursion t r.2 1 true ts else r
  let zer := due && decide (i.mea.tZero ≠ 0) && decide (i.mea.tZero < fraction i.nZero i.elems)
  if zer && !i.kinds.getLsbD 2 then r.1.excursion t r.2 2 false ts else r

/-! ## Row close (R254, R257, R258) -/

def isSomeD (o : Option Rat) : Rat := o.getD 0

/-- TAP_PROTOCOL, at most once per instance (R246). -/
def State.protocol (s : State) (t : Nat) (i : Inst) : State × Inst :=
  if i.proto || !i.measured || !i.saf.enable then (s, i) else (s.raise 0x600 t 0, { i with proto := true })

/-- ASSAY_PATH_MISMATCH, and TAP_FAILED at the third within 1 s (R258). -/
def State.pathFails (s : State) (t : Nat) : State :=
  let s := s.raise 0x602 t 0
  let x := s.tap t
  let fs := (x.pathFails ++ [s.now]).filter (fun a => decide (s.now < a + 1000000000))
  let s := s.setTap t { x with pathFails := fs, off := x.off || decide (3 ≤ fs.length) }
  if 3 ≤ fs.length && !x.off then s.raise 0x603 t 0 else s

/-- A row of a measured instance closes. -/
def State.closeRow (s : State) (t : Nat) (i : Inst) (r : RowSt) (ts : Nat) : State × Inst :=
  let i := { i with row := none, rows := satAdd (2 ^ 24 - 1) i.rows 1, lastRow := r.idx }
  if !i.measured then (s, i)
  else
    let fs := finites r.elems
    let lo := ratMin fs
    let hi := ratMax fs
    let amax := isSomeD (ratMax (fs.map ratAbs))
    let flat := decide (lo = hi) && lo.isSome
    let counts := match r.hs with
      | none => (0, 0)
      | some (h, z) => r.elems.foldl (fun (a : Nat × Nat) e =>
          let q := quantised i.saf i.wgt (fp32 h.toNat) (sgn 16 z.toNat) e
          (a.1 + b2n q.1, a.2 + b2n q.2)) (0, 0)
    let code := i.fmt.toNat
    let could := i.saf.enable && r.hs.isSome && (targetRange i.saf.qfmt.toNat).isSome && !r.partRow &&
      (decide (code < 3) || decide (code = 8) || decide (code = 9)) && !(i.wgt && decide (targetAsym i.saf.qfmt.toNat = 2))
    let s := if could && r.upset then s.pathFails t else s
    let checked := could && !r.upset
    let sh := shadowOf i.saf i.wgt fs
    let f1 := s.fresh
    let s := if checked && sh.1.isSome && sh.2.isSome then s else f1.2
    let shadow := BitVec.ofNat 32 (match sh.1 with | some v => v.bits32 | none => f1.1)
    let z := match sh.2 with | some z => z | none => sgn 16 f1.1
    let i := { i with
      absmax := max i.absmax amax
      lo := match i.lo, lo with | some a, some b => some (min a b) | a, b => a.or b
      hi := match i.hi, hi with | some a, some b => some (max a b) | a, b => a.or b
      hist := r.elems.foldl (fun h e => let b := histBin i.mea.histLo e; tset h b (tget h b 0 + 1) 0) i.hist
      nSat := i.nSat + counts.1
      nZero := i.nZero + counts.2
      elems := i.elems + r.elems.length }
    let w : RowWait := ⟨r.idx, (r.hs.getD (0, 0)).1, if i.wgt then 0 else (r.hs.getD (0, 0)).2, shadow, z, flat⟩
    let ref0 := (checkRow i w).ref.toNat
    let d : Bool × State × Inst := if !checked then (false, s, i)
      else if i.fetch = .asked then (false, s, { i with waits := i.waits ++ [w] })
      else s.decideRow t i w ts
    let s := d.2.1
    let i := d.2.2
    let s := if flat && i.saf.enable then s.assayCount t i.owner 3 else s
    let s := if !checked && !r.partRow && i.saf.enable then s.assayCount t i.owner 4 else s
    let f2 := s.fresh
    let ref := if !checked then f2.1 % 2 ^ 32 else ref0
    let s := if checked then s else f2.2
    let row := s.mkRec (128 + t) i.owner 0x20 3 ts
      (i.tid.toNat + b2n flat * 2 ^ 16 + b2n (!checked) * 2 ^ 17 + b2n d.1 * 2 ^ 18 + b2n r.partRow * 2 ^ 19)
      [r.idx.toNat + code * 2 ^ 24 + i.fp amax * 2 ^ 32, i.fp (isSomeD lo) + i.fp (isSomeD hi) * 2 ^ 32,
       ref + min 65535 counts.1 * 2 ^ 32 + min 65535 counts.2 * 2 ^ 48]
    let s := s.assayIn t i.owner i.tid row
    let s := if i.mea.rowRec && i.saf.enable then s.emitRec row else s
    if i.saf.enable then s.testExcursions t i false false ts else (s, i)

end Sys2Proof.Machine
end

