-- ==== Sys2Proof/Machine/Tap.lean ====
section
/-! DEFINITION. Tap beats, tensor instances, the table engine's replies and dumps (07 R245, R251, R262, R268 to R274). -/

namespace Sys2Proof.Machine

/-! ## Dumps (R268 to R272) -/

/-- Open blocks of a dump: those with bytes not yet staged. -/
def Dump.open_ (d : Dump) : Nat := b2n (!d.b0.isEmpty) + b2n (!d.b1.isEmpty) + b2n (!d.b2.isEmpty)

/-- Blocks of the staging buffer in use (R272). -/
def State.stagingUsed (s : State) : Nat :=
  s.assay.staging.length + s.assay.slots.foldl (fun a e => a + (match e.2.run with | some d => d.open_ | none => 0)) 0

/-- The lowest free place of the staging buffer. -/
def State.stagingPos (s : State) : Nat := ((List.range 8).find? (fun p => !(s.assay.staging.any (fun b => b.pos = p)))).getD 0

def Dump.part_ (d : Dump) (k : Nat) : List Byte := match k with | 0 => d.b0 | 1 => d.b1 | _ => d.b2
def Dump.off_ (d : Dump) (k : Nat) : Nat := match k with | 0 => d.o0 | 1 => d.o1 | _ => d.o2
def Dump.set (d : Dump) (k : Nat) (b : List Byte) (o : Nat) : Dump :=
  match k with | 0 => { d with b0 := b, o0 := o } | 1 => { d with b1 := b, o1 := o } | _ => { d with b2 := b, o2 := o }

/-- Words of the staging buffer are written (R446). -/
def State.writeStage (s : State) (pos n : Nat) : State := (List.range n).foldl (fun s i => s.writeWord 31 (pos * 256 + i)) s

/-- A composed block enters the staging buffer. -/
def State.putBlock (s : State) (j : Nat) (d : Dump) (blk : Staged) : State × Dump :=
  let w := s.slot j
  (({ s with assay := { s.assay with staging := s.assay.staging ++ [blk] } }).setSlot j { w with blocks := w.blocks + 1, run := some d }, d)

/-- A block of stream k of a slot's dump (R269, R270): its bytes, and whether it is marked incomplete and last. -/
def State.blockOf (s : State) (j : Nat) (d : Dump) (k : Nat) (body : List Byte) (incomplete last : Bool) : Staged :=
  let w := s.slot j
  { pos := s.stagingPos, slot := j, owner := w.owner, addr := w.cfg.base + w.blocks % 2 ^ w.cfg.log2 * 4096
    h := [BitVec.ofNat 64 (s.pageWord0 0x1D3E5A7E w.owner + k * 2 ^ 56 + b2n incomplete * 2 ^ 60 + b2n last * 2 ^ 61),
      BitVec.ofNat 64 (d.no + j * 2 ^ 24 + d.tap * 2 ^ 28 + d.index * 2 ^ 32), BitVec.ofNat 64 (cvtLo d.anchor),
      BitVec.ofNat 64 (cvtHi d.anchor + d.epoch.toNat * 2 ^ 32 + d.tid.toNat * 2 ^ 48),
      BitVec.ofNat 64 (d.off_ k % 2 ^ 40 + d.fmt.toNat * 2 ^ 40 + b2n d.mx * 2 ^ 44 + d.part.toNat * 2 ^ 45 + body.length * 2 ^ 47)]
    dumpNo := d.no, block := d.index, body := body }

/-- Stage a block; its stream's next offset and the dump's next block follow. -/
def State.stageBlock (s : State) (j : Nat) (d : Dump) (k : Nat) (body : List Byte) (incomplete last : Bool) : State × Dump :=
  (s.writeStage s.stagingPos 252).putBlock j { (d.set k [] (d.off_ k + body.length)) with index := d.index + 1 }
    (s.blockOf j d k body incomplete last)

/-- TENSOR_DUMP of an ended dump (R272). -/
def State.emitDump (s : State) (e : DumpEnd) : State :=
  s.emit (128 + e.tap) e.owner 0x25 2 s.ts (e.tid.toNat + e.slot * 2 ^ 16)
    [e.addr % 2 ^ 48 + b2n e.incomplete * 2 ^ 48 + b2n e.poisoned * 2 ^ 49, min (2 ^ 32 - 1) e.bytes + min (2 ^ 32 - 1) e.rows * 2 ^ 32]

/-- Records of dumps none of whose blocks is staged any more. -/
def State.settleDumps (s : State) : State :=
  let live := fun (e : DumpEnd) => s.assay.staging.any (fun b => decide (b.slot = e.slot) && decide (b.owner = e.owner) && decide (b.dumpNo = e.no))
  let done := s.assay.ending.filter (fun e => !live e)
  done.foldl State.emitDump { s with assay := { s.assay with ending := s.assay.ending.filter live } }

/-- A dump ends (R272): its open blocks are written, the last of them marked, or the mark goes to its last staged block. -/
def State.endDump (s : State) (j : Nat) (incomplete : Bool) : State :=
  match (s.slot j).run with
  | none => s
  | some d =>
    let w := s.slot j
    let ks := [0, 1, 2].filter (fun k => !(d.part_ k).isEmpty)
    let r := (ks.mapIdx (fun i k => (i, k))).foldl (fun (a : State × Dump) e =>
      a.1.stageBlock j a.2 e.2 (a.2.part_ e.2) incomplete (decide (e.1 + 1 = ks.length))) (s, d)
    let s := r.1
    let mark := fun (b : Staged) => { b with h := b.h.mapIdx (fun i (x : W64) =>
      if i = 0 then x ||| BitVec.ofNat 64 (b2n incomplete * 2 ^ 60 + 2 ^ 61) else x) }
    let s := if ks.isEmpty then { s with assay := { s.assay with staging := s.assay.staging.map (fun (b : Staged) =>
        if b.slot = j && b.dumpNo = d.no && b.block + 1 = d.index then mark b else b) } } else s
    let s := s.setSlot j { s.slot j with run := none }
    let s := if incomplete then s.assayCount d.tap w.owner 7 else s
    let e : DumpEnd := ⟨j, w.owner, d.no, d.tid, d.tap, w.cfg.base + d.firstBlock % 2 ^ w.cfg.log2 * 4096, incomplete, false, d.bytes, d.rows⟩
    ({ s with assay := { s.assay with ending := s.assay.ending ++ [e] } }).settleDumps

/-- Bytes into stream k of a dump. It ends incomplete at a byte that finds the staging buffer full, or that would pass the
region (R272). -/
def State.dumpBytes (s : State) (j k : Nat) : Nat → List Byte → State
  | 0, _ => s
  | n + 1, bs =>
    if bs.isEmpty then s
    else match (s.slot j).run with
      | none => s
      | some d =>
        let open_ := d.part_ k
        if open_.isEmpty && (decide (8 ≤ s.stagingUsed) || decide (2 ^ (s.slot j).cfg.log2 ≤ d.index + d.open_)) then s.endDump j true
        else
          let m := min bs.length (4032 - open_.length)
          let body := open_ ++ bs.take m
          let d := if k = 0 then { d with bytes := d.bytes + m } else d
          let s := if body.length = 4032 then (s.stageBlock j d k body false false).1
            else s.setSlot j { s.slot j with run := some (d.set k body (d.off_ k)) }
          s.dumpBytes j k n (bs.drop m)

/-- The slots dumping the tap's instance. -/
def State.dumping (s : State) (t : Nat) : List Nat :=
  s.assay.slots.filterMap (fun e => match e.2.run with | some d => if d.tap = t then some e.1 else none | none => none)

def Watch.copies (w : Watch) (row : BitVec 24) : Bool := decide (w.cfg.first.toNat ≤ row.toNat) && decide (row.toNat ≤ w.cfg.last.toNat)

/-- The beat's bytes and block scales into the dumps of its tap. -/
def State.dumpBeat (s : State) (t : Nat) (row : BitVec 24) (mx : Bool) (n elems : Nat) (b : TapBeat) : State :=
  (s.dumping t).foldl (fun s j =>
    if !(s.slot j).copies row then s
    else
      let s := s.dumpBytes j 0 4 (leBytes n b.data.toNat)
      if mx then s.dumpBytes j 1 4 (leBytes ((elems + 31) / 32) b.bscale.toNat) else s) s

/-- A row's record into a slot's row table, and the complete rows of kind 0. -/
def State.dumpRowTo (r : RowSt) (s : State) (j : Nat) : State :=
  let w := s.slot j
  if !w.copies r.idx then s
  else
    let s := match w.run with
      | some d => s.setSlot j { w with run := some { d with rows := d.rows + b2n (!r.partRow) } }
      | none => s
    let h := r.hs.getD (0, 0)
    if w.cfg.rowtab then
      s.dumpBytes j 2 4 (leBytes 4 (r.idx.toNat + b2n r.partRow * 2 ^ 24 + b2n r.hs.isSome * 2 ^ 25) ++ leBytes 4 h.1.toNat ++
        leBytes 4 h.2.toNat ++ leBytes 4 r.bytes.length)
    else s

def State.dumpRow (s : State) (t : Nat) (r : RowSt) : State := (s.dumping t).foldl (State.dumpRowTo r) s

/-- Whether an instance that opens is dumped by a slot, and the slot after it (R268). -/
def State.takesDump (s : State) (j t : Nat) (tid : BitVec 16) : Bool × State :=
  let w := s.slot j
  match w.cfg.trigger with
  | 0 => (true, s)
  | 1 => (decide (0 < w.left), s.setSlot j { w with left := w.left - 1, armed := decide (1 < w.left) })
  | 2 => (decide ((w.seen + 1) % w.cfg.n = 0), s.setSlot j { w with seen := w.seen + 1 })
  | 3 => (s.assay.excursed.contains (j, tid, t),
          { s with assay := { s.assay with excursed := s.assay.excursed.filter (fun e => e ≠ (j, tid, t)) } })
  | _ => (true, s.setSlot j { w with armed := false })

/-- A dump of an instance starts in a slot; after 2^24 the slot is used up (R271). -/
def State.startDump (s : State) (t : Nat) (i : Inst) (j : Nat) : State :=
  let w := s.slot j
  let no := tget s.assay.dumpNo (j * 32 + w.owner) 0
  if 2 ^ 24 ≤ no then (s.setSlot j { w with armed := false }).raise 0x605 j 0
  else
    let d : Dump := ⟨no, t, i.tid, i.fmt, i.mx, i.anchor, i.epoch, i.part, [], [], [], 0, 0, 0, 0, w.blocks, 0, 0⟩
    ({ s with assay := { s.assay with dumpNo := tset s.assay.dumpNo (j * 32 + w.owner) (no + 1) 0 } }).setSlot j { w with run := some d }

/-- A slot at an instance that opens (R268, R271). -/
def State.openDump (t : Nat) (i : Inst) (s : State) (j : Nat) : State :=
  let w := s.slot j
  if !(w.armed && decide (w.owner = i.owner) && s.active i.owner && w.cfg.taps.getLsbD t &&
      decide (i.tid &&& w.cfg.mask = w.cfg.tid &&& w.cfg.mask)) then s
  else if w.run.isSome then (if w.cfg.trigger = 2 then s.setSlot j { w with seen := w.seen + 1 } else s)
  else
    let r := s.takesDump j t i.tid
    if r.1 then r.2.startDump t i j else r.2

def State.openDumps (s : State) (t : Nat) (i : Inst) : State := (s.assay.slots.map Prod.fst).foldl (State.openDump t i) s

/-! ## Instances (R245, R246, R251, R262) -/

/-- The row left open ends as a partial row. -/
def State.cutRow (s : State) (t : Nat) (i : Inst) (ts : Nat) : State × Inst :=
  match i.row with
  | some r => (s.dumpRow t { r with partRow := true }).closeRow t i { r with partRow := true } ts
  | none => (s, i)

/-- INSTANCE_STATS and the histogram of an instance that closes (R251). -/
def State.instStats (s : State) (t : Nat) (i : Inst) (complete : Bool) (ts : Nat) : State :=
  if i.measured then
    let inst := s.mkRec (128 + t) i.owner 0x21 2 ts (i.tid.toNat + b2n (!complete) * 2 ^ 16 + b2n i.wgt * 2 ^ 17 + b2n i.mx * 2 ^ 18)
      [i.rows + i.fmt.toNat * 2 ^ 24 + i.fp i.absmax * 2 ^ 32, i.fp (isSomeD i.lo) + i.fp (isSomeD i.hi) * 2 ^ 32,
       min (2 ^ 32 - 1) i.nSat + min (2 ^ 32 - 1) i.nZero * 2 ^ 32]
    let s := s.assayIn t i.owner i.tid inst
    let s := if i.saf.enable then s.emitRec inst else s
    if i.saf.enable && i.mea.hist then (List.range 8).foldl (fun s p => s.emit (128 + t) i.owner 0x22 2 ts (i.tid.toNat + p * 2 ^ 16)
      (pack24 (fun k => min (2 ^ 24 - 1) (tget i.hist (8 * p + k) 0)))) s else s
  else s

/-- The write-back of an instance that closes complete (R262): whether it is queued. -/
def State.queueBack (s : State) (t : Nat) (i : Inst) (complete : Bool) : Bool × State :=
  if complete && (match i.fetch with | .asked => true | .found _ => true | _ => false) then
    let q := s.engineAdd (.back t i.owner i.tid (BitVec.ofNat 32 (i.fp i.absmax)) i.saf.qfmt i.saf.rtz)
    if q.1 then q else (false, q.2.assayCount t i.owner 6)
  else (false, s)

/-- An instance closes: the open row as partial, the last tests, the statistics records, the write-back, the dumps. -/
def State.closeInst (s : State) (t : Nat) (i : Inst) (cut : Bool) : State :=
  let ts := s.ts
  let complete := !cut && !i.headless
  let r := s.cutRow t i ts
  let i := { r.2 with closed := some complete }
  let r : State × Inst := if i.measured && i.saf.enable then r.1.testExcursions t i true complete ts else (r.1, i)
  let i := r.2
  let s := r.1.instStats t i complete ts
  let s := if 0 < i.reserved then s.raise 0x600 t i.reserved else s
  let q := s.queueBack t i complete
  let s := q.2.modTap t (fun x => { x with
    inst := none, late := if i.fetch = .asked then x.late ++ [{ i with backQ := q.1 }] else x.late })
  (s.dumping t).foldl (fun s j => s.endDump j (!complete)) s

/-- An instance opens with the beat's sideband values. -/
def State.openInst (s : State) (t : Nat) (headless : Bool) (b : TapBeat) : State × Inst :=
  let o := if b.priv then hm else b.charter.toNat
  let saf := s.safety t o
  let mea := s.measure t o
  let bad := decide (14 ≤ b.fmt.toNat)
  let on := (saf.enable || s.assayWants t o b.tid) && s.active o
  let i : Inst := {
    tid := b.tid, owner := o, fmt := b.fmt, wgt := b.wgt, mx := b.mx && mxAllowed b.fmt.toNat, saf := saf, mea := mea,
    measured := on && !bad, headless := headless, anchor := s.ts, epoch := s.time.epoch, part := s.time.part, rows := 0,
    lastRow := 0, absmax := 0, lo := none, hi := none, hist := [], nSat := 0, nZero := 0, elems := 0, row := none,
    fetch := .notAsked, waits := [], firstScale := none, kinds := 0, rescaled := false, mmRaised := false, proto := false,
    reserved := 0, closed := none, backQ := false }
  let ask := i.measured && saf.enable && mea.table
  let q : Bool × State := if ask then s.engineAdd (.fetch t o b.tid) else (false, s)
  let s := if ask && !q.1 then (q.2.assayCount t o 5).assayCount t o 6 else q.2
  let i := { i with fetch := if !ask then .notAsked else if q.1 then .asked else .missing }
  let s := s.openDumps t i
  if headless then s.protocol t i else (s, i)

/-- The sideband values of an open tensor have changed (R62). -/
def Inst.changed (i : Inst) (b : TapBeat) : Bool :=
  decide (i.tid ≠ b.tid) || decide (i.owner ≠ if b.priv then hm else b.charter.toNat) || decide (i.fmt ≠ b.fmt) ||
  (i.wgt != b.wgt) || (i.mx != (b.mx && mxAllowed b.fmt.toNat))

/-- The row that a beat continues, or a new one; a beat outside a row starts one that is partial. -/
def rowAt (i : Inst) (b : TapBeat) : RowSt := (if b.sor then none else i.row).getD ⟨b.row, !b.sor, [], [], none, false, false⟩

/-- The bytes of a beat do not fit the format (R246). -/
def beatBreach (row : RowSt) (i : Inst) (b : TapBeat) : Bool :=
  let n := b.bytes.toNat + 1
  row.short || (decide (tapWidth i.fmt.toNat = 6) && (decide (n % 3 ≠ 0) || decide (240 < n)))

/-- A row's host scale comes again, or outside a row. -/
def scaleAgain (row : RowSt) (i : Inst) (b : TapBeat) : Bool :=
  b.hsVld && (((if b.sor then none else i.row).isNone && !b.sor) || row.hs.isSome)

/-- A row with a beat's elements (R243, R245). -/
def RowSt.take (row : RowSt) (i : Inst) (b : TapBeat) (breach again : Bool) : RowSt :=
  let n := b.bytes.toNat + 1
  { row with
    partRow := row.partRow || breach
    elems := row.elems ++ beatElems i.fmt.toNat i.mx b
    bytes := row.bytes ++ leBytes n b.data.toNat
    hs := if b.hsVld && !again then some (b.hscale, b.hzp) else row.hs
    upset := row.upset || b.upset
    short := decide (n ≠ fullBeat i.fmt.toNat) }

/-- A beat within its instance: the row, its elements, TAP_EOR and TAP_EOT (R243, R245, R246). -/
def State.beat (s : State) (t : Nat) (i : Inst) (b : TapBeat) : State :=
  let ts := s.ts
  let row := rowAt i b
  let again := scaleAgain row i b
  let breach := beatBreach row i b
  let r : State × Inst := if b.sor then s.cutRow t i ts else (s, i)
  let r : State × Inst := if breach || again then r.1.protocol t r.2 else r
  let i := r.2
  let row := row.take i b breach again
  let s := r.1.dumpBeat t row.idx i.mx (b.bytes.toNat + 1) (beatElems i.fmt.toNat i.mx b).length b
  let r : State × Inst := if b.eor then (s.dumpRow t row).closeRow t i row ts else (s, { i with row := some row })
  if b.eot then r.1.closeInst t r.2 false else r.1.modTap t (fun x => { x with inst := some r.2 })

/-- TAP_BEAT (R245): the open tensor closes first at TAP_SOT or a change of its values; a beat outside a tensor opens one
that closes incomplete. A reserved format is only counted (R246). -/
def execTapBeat (t : Fin 4) (b : TapBeat) (s : State) : Res :=
  let old := (s.tap t.val).inst
  if decide (2 ≤ s.lk.st.code) || (old.isNone && !s.tapEnabled t.val) then .next s
  else
    let s := s.wake .tapBeat
    let renew := match old with | some i => b.sot || i.changed b | none => true
    let s := match old with | some i => if renew then s.closeInst t.val i true else s | none => s
    if renew && !s.tapEnabled t.val then .next s
    else
      let r : State × Inst := match old with
        | some i => if renew then s.openInst t.val false b else (s, i)
        | none => s.openInst t.val (!b.sot) b
      let i := r.2
      if 14 ≤ i.fmt.toNat then
        let i := { i with reserved := if i.saf.enable && s.active i.owner then i.reserved + 1 else 0 }
        .next (if b.eot then r.1.closeInst t.val i false else r.1.modTap t.val (fun x => { x with inst := some i }))
      else
        let s := r.1.beat t.val i b
        .next (match (s.tap t.val).off, (s.tap t.val).inst with
          | true, some i => s.closeInst t.val i true
          | _, _ => s)

/-! ## The table engine's replies (R262 to R265) -/

/-- The rows that waited for the entry are decided, and the absmax is tested once (R264, R265). -/
def State.arrive (s : State) (t : Nat) (i : Inst) : State × Inst :=
  let r := i.waits.foldl (fun (a : State × Inst) w => let d := a.1.decideRow t a.2 w a.1.ts; (d.2.1, d.2.2)) (s, { i with waits := [] })
  let f := r.2
  match f.closed with
  | some c => r.1.testExcursions t { f with mea := { f.mea with tSat := 0, tZero := 0 } } true c r.1.ts
  | none => if 0 < f.rows then r.1.testExcursions t { f with mea := { f.mea with tSat := 0, tZero := 0 } } false false r.1.ts else r

/-- The fetch's result goes to the instance that asked: the oldest that waits. -/
def State.giveEntry (s : State) (t o : Nat) (tid : BitVec 16) (f : Fetch) : State :=
  let x := s.tap t
  match findIdx? (fun (i : Inst) => decide (i.owner = o) && decide (i.tid = tid)) x.late with
  | some k =>
    match x.late[k]? with
    | none => s
    | some i =>
      let s := s.setTap t { x with late := removeAt x.late k }
      let s := if i.backQ && f = .missing then
          { s with assay := { s.assay with engine := s.assay.engine.eraseP (fun op => match op with
            | .back t' o' d _ _ _ => decide (t' = t) && decide (o' = o) && decide (d = tid) | _ => false) } }
        else s
      (s.arrive t { i with fetch := f }).1
  | none =>
    match x.inst with
    | none => s
    | some i =>
      if i.owner = o && i.tid = tid && i.fetch = .asked then
        let mea := i.mea
        let r := s.arrive t { i with fetch := f }
        r.1.modTap t (fun x => { x with inst := some { r.2 with mea := mea } })
      else s

/-- The read of the head operation, when its line has come: its bytes and whether they are bad. -/
def State.tableRead (s : State) (o t : Nat) : Option (List Byte × Bool × State) :=
  match s.mgr.ready.find? (fun r => decide (r.why = .tableRd o t)) with
  | none => none
  | some r =>
    let s := { s with mgr := { s.mgr with ready := s.mgr.ready.erase r } }
    match r.got with
    | g :: _ => some (leBytes 64 g.1.toNat, g.2, s)
    | [] => some ([], true, s)

/-- TABLE_FETCH_DONE (R262, R263). -/
def execTableFetchDone (s : State) : Res :=
  match s.assay.engine with
  | .fetch t o tid :: _ =>
    match s.tableRead o t with
    | none => .next s
    | some (bs, bad, s) =>
      let p := parseEntry bs
      let found := !bad && p.1 && p.2.valid && decide (p.2.tid = tid)
      let s := if bad || !p.1 then s.assayCount t o 6 else s
      let s := if found then s else s.assayCount t o 5
      .next (s.giveEntry t o tid (if found then .found p.2 else .missing)).engineNext
  | _ => .next s

/-- The entry after a write-back (R262). -/
def Entry.after (e : Entry) (absmax : BitVec 32) (target : Nat) (rtz : Bool) (free : Nat) : Entry :=
  let h := (absmax :: e.hist).take 8
  let n := min (e.count + 1) (e.hlen + 1)
  let f := orFree (forecast h n e.margin target (rndOf rtz)) free
  { e with hist := h, count := n, lastAbsmax := absmax, prevScale := e.fcScale, fcAbsmax := f.1, fcScale := f.2, upd := e.upd + 1 }

/-- TABLE_WRITEBACK_DONE (R262): the entry read again is written with the new history and forecast. -/
def execTableWritebackDone (s : State) : Res :=
  match s.assay.engine with
  | .back t o tid absmax q rtz :: _ =>
    match s.tableRead o t with
    | none => .next s
    | some (bs, bad, s) =>
      let p := parseEntry bs
      if bad || !p.1 then .next ((s.assayCount t o 6).engineNext)
      else if !p.2.valid || decide (p.2.tid ≠ tid) then .next s.engineNext
      else
        let f := s.fresh
        .next (({ f.2 with assay := { f.2.assay with busy := false } }).writeEntry o t (p.2.after absmax q.toNat rtz f.1))
  | _ => .next s

/-- RESCALE_ACK (R64); the tap does not sample it while D23 is off or unclocked (R43). -/
def execRescaleAck (t : Fin 4) (s : State) : Res :=
  .next (if 2 ≤ s.lk.st.code then s else s.modTap t.val (fun x => { x with req := false }))

/-- The words of a range that deliver poison, by index, and the state after reading them (R445, R446). -/
def State.fetchBad (s : State) (b w n : Nat) : List Nat × State :=
  let s := s.settle b w n
  (s.ecc.word.filter (fun e => decide (eccKey b false w ≤ e.1) && decide (e.1 < eccKey b false w + n))).foldl
    (fun (a : List Nat × State) e =>
      let r := a.2.readWord b false (e.1 - eccKey b false 0)
      (if r.1 then a.1 ++ [e.1 - eccKey b false w] else a.1, r.2)) ([], s)

/-- DUMP_BLOCK_WRITE (R270, R272, R446): the oldest staged block is encrypted and goes to the manager port. Words read
uncorrectable are written as zero, of an unencrypted block with MWD_PSN on their lines. -/
def execDumpBlockWrite (s : State) : Res :=
  match s.assay.staging with
  | [] => .next s
  | b :: rest =>
    if s.lk.st ≠ .underway then .next s
    else
      let r := s.fetchBad 31 (b.pos * 256) 252
      let s := { r.2 with assay := { r.2.assay with staging := rest } }
      let bad := !r.1.isEmpty
      let body := r.1.foldl (fun l i => l.mapIdx (fun n (x : W64) => if n / 2 = i then 0 else x)) (fillWords 504 (words64 b.body))
      let h := b.h.mapIdx (fun n (x : W64) => if n = 0 && bad then x ||| BitVec.ofNat 64 (2 ^ 59) else x)
      let s := if bad then { s with assay := { s.assay with ending := s.assay.ending.map (fun (e : DumpEnd) =>
          if e.slot = b.slot && e.owner = b.owner && e.no = b.dumpNo then { e with poisoned := true } else e) } } else s
      let nonce := leBytes 1 3 ++ leBytes 1 b.owner ++ leBytes 1 (s.keygen b.owner) ++ leBytes 1 s.chip ++ leBytes 1 b.slot ++
        leBytes 3 b.dumpNo ++ leBytes 4 b.block
      let s := if decide (b.owner < 16) && (s.memKey b.owner).isNone then s
        else
          let q := pageReq b.owner b.addr (.dump b.slot) (s.sealPage b.owner nonce (h.map (·.toNat)) body)
          s.mgrPush { q with psn := if s.encrypts b.owner then [] else (r.1.map (fun i => (48 + 16 * i) / 64)).eraseDups }
      .next s.settleDumps

/-- D23 goes off or its taps are gated (R273, R373): every open instance of a tap closes as incomplete. -/
def State.cutTap (s : State) (t : Nat) : State :=
  match (s.tap t).inst with
  | some i => s.closeInst t i true
  | none => s

def State.assayOff (s : State) : State := (List.range 4).foldl State.cutTap s

/-- CHARTER_END in the assay (R274): instances close without records, dumps end and slots return, staged blocks and table
operations of the charter go, and its measurement settings are the defaults. -/
def State.assayEnd (s : State) (o : Nat) : State :=
  let s := (List.range 4).foldl (fun s t => s.modTap t (fun x => { x with
    inst := match x.inst with | some i => if i.owner = o then none else some i | none => none
    late := x.late.filter (fun i => i.owner ≠ o) })) s
  let a := s.assay
  let head := match a.engine with | op :: _ => decide (op.owner = o) | [] => false
  let mine := fun (r : MReq) => match r.why with
    | .tableRd w _ => decide (w = o) | .tableWr w _ => decide (w = o) | _ => false
  let s := { s with
    mgr := { s.mgr with wait := s.mgr.wait.filter (fun r => !mine r), ready := s.mgr.ready.filter (fun r => !mine r) }
    assay := { a with
      slots := a.slots.filter (fun e => e.2.owner ≠ o)
      staging := a.staging.filter (fun b => b.owner ≠ o)
      ending := a.ending.filter (fun e => e.owner ≠ o)
      engine := a.engine.filter (fun op => op.owner ≠ o)
      busy := a.busy && !head
      writing := a.writing && !head
      measure := a.measure.filter (fun e => e.1 % 32 ≠ o)
      base := tset a.base o 0 0
      excursed := a.excursed.filter (fun e => decide ((s.slot e.1).owner ≠ o)) } }
  s.engineStart

end Sys2Proof.Machine
end

