-- ==== Sys2Proof/Machine/AssayPackets.lean ====
section
/-! DEFINITION. The assay's packets 0x40 to 0x48 (R398). -/

namespace Sys2Proof.Machine

def specTapSafety : OpSpec := { op := 0x40, priv := .hmOnly, len := exactly 1 }

/-- TAP_SAFETY (R248, R252); in force from the tap's next TAP_SOT (R249). -/
def bodyTapSafety (pk : Pkt) (_ : Nat) (s : State) : Verdict :=
  let w := pk.p 1
  let t := fld w 0 2
  let o := fld w 2 5
  let q := fld w 8 4
  let asym := flag w 12
  concern o 1 s <|
  chk (decide (q ≠ 15) && (targetRange q).isNone) .badParam 1 <|
  chk (asym && decide (q ≠ 15) && decide (targetAsym q = 0)) .badParam 1 <|
  chk (!asym && decide (targetAsym q = 2)) .badParam 1 <|
  let f : Safety := ⟨flag w 7, BitVec.ofNat 4 q, asym, flag w 13, fld w 14 8, fld w 22 3, fld w 25 2, fld w 27 2, flag w 29⟩
  .done .ok [] { s with assay := { s.assay with safety := tset s.assay.safety (t * 32 + o) f Safety.zero } }

def execTapSafety (pk : Pkt) (s : State) : Res := .next (launch specTapSafety bodyTapSafety pk s)

def specTapMeasure : OpSpec := { op := 0x41, priv := .own, len := exactly 4 }

/-- TAP_MEASURE (R249): by an owner enabled on the tap. -/
def bodyTapMeasure (pk : Pkt) (_ : Nat) (s : State) : Verdict :=
  let w := pk.p 1
  let t := fld w 0 2
  let f := s.safety t pk.o
  let k := fld w 5 4
  let n := fld (pk.p 3) 0 25
  let lo := sgn 9 (fld (pk.p 4) 0 9)
  chk (!f.enable) .denied 1 <|
  chk (decide (k = 0) || decide (8 < k) || decide (f.excMax < fld w 13 2)) .badParam 1 <|
  chk (decide (2 ^ 24 < n)) .badParam 3 <|
  chk (decide (lo < -150) || decide (127 < lo)) .badParam 4 <|
  let m : Measure := ⟨flag w 2, flag w 3, lo, flag w 4, k, fld (pk.p 2) 0 16, fld (pk.p 2) 16 16, n, BitVec.ofNat 4 (fld w 9 4), fld w 13 2⟩
  .done .ok [] { s with assay := { s.assay with measure := tset s.assay.measure (t * 32 + pk.o) m Measure.zero } }

def execTapMeasure (pk : Pkt) (s : State) : Res := .next (launch specTapMeasure bodyTapMeasure pk s)

def specTableBase : OpSpec := { op := 0x42, priv := .own, len := exactly 2 }

/-- TABLE_BASE (R260). -/
def bodyTableBase (pk : Pkt) (_ : Nat) (s : State) : Verdict :=
  chk (decide (pk.addr 1 % 4096 ≠ 0)) .badParam 1 <|
  .done .ok [] { s with assay := { s.assay with base := tset s.assay.base pk.o (pk.addr 1) 0 } }

def execTableBase (pk : Pkt) (s : State) : Res := .next (launch specTableBase bodyTableBase pk s)

def specTableEntry : OpSpec := { op := 0x43, priv := .own, len := exactly 10 }

/-- A value the owner's enabled taps agree on. -/
def State.tapsAgree (s : State) (o : Nat) (f : Safety → Nat) : Option Nat :=
  match (((List.range 4).map (fun t => s.safety t o)).filter (fun g => g.enable)).map f with
  | [] => none
  | v :: rest => if rest.all (fun w => decide (w = v)) then some v else none

/-- The target and the rounding that the owner's enabled taps agree on: the forecast of a commanded entry is computed with
them (R261, log 27); none means no target. -/
def State.ownTarget (s : State) (o : Nat) : Nat := (s.tapsAgree o (fun f => f.qfmt.toNat)).getD 15

/-- fc_absmax and fc_scale of a commanded entry; where the taps agree on no rounding, what both give alike (R261, log 27). -/
def State.ownForecast (s : State) (o : Nat) (hist : List (BitVec 32)) (count margin : Nat) : Option (BitVec 32) × Option (BitVec 32) :=
  let f := fun (r : Rnd) => forecast hist count margin (s.ownTarget o) r
  match s.tapsAgree o (fun g => b2n g.rtz) with
  | some r => f (rndOf (decide (r = 1)))
  | none =>
    let a := f .rna
    let b := f .rtz
    (if a.1 = b.1 then a.1 else none, if a.2 = b.2 then a.2 else none)

/-- TABLE_ENTRY (R261): queued as one table operation; the write-back count starts again (log 27). -/
def bodyTableEntry (pk : Pkt) (_ : Nat) (s : State) : Verdict :=
  let w := pk.p 1
  let tid := fld w 10 16
  let count := fld (pk.p 2) 2 4
  let margin := fld (pk.p 2) 0 2
  let hist := (List.range 8).map (fun i => pk.p (3 + i))
  chk (decide (tid % 1024 ≠ fld w 0 10)) .badParam 1 <|
  chk (decide (8 < count)) .badParam 2 <|
  chk (decide (32 ≤ s.assay.engine.length)) .busy 0 <|
  let fc := s.ownForecast pk.o hist count margin
  let fr := s.fresh
  let s := if fc.1.isSome && fc.2.isSome then s else fr.2
  let v := orFree fc fr.1
  let e : Entry := { tid := BitVec.ofNat 16 tid, valid := flag w 26, delayed := flag w 27, hlen := fld w 28 3, margin := margin, count := count,
                     upd := 0, fcScale := v.2, prevScale := v.2, fcAbsmax := v.1, lastAbsmax := 0, hist := hist }
  .done .ok [0] (s.engineAdd (.entry pk.o e)).2

def execTableEntry (pk : Pkt) (s : State) : Res := .next (launch specTableEntry bodyTableEntry pk s)

def specWatchAssign : OpSpec := { op := 0x44, priv := .hmOnly, len := exactly 1 }

/-- Disarm a slot; a running dump ends incomplete (R272, R398). -/
def State.disarm (s : State) (j : Nat) : State :=
  let s := s.endDump j true
  let s := s.setSlot j { s.slot j with armed := false }
  { s with assay := { s.assay with excursed := s.assay.excursed.filter (fun e => e.1 ≠ j) } }

/-- WATCH_ASSIGN (R268). -/
def bodyWatchAssign (pk : Pkt) (_ : Nat) (s : State) : Verdict :=
  let j := fld (pk.p 1) 0 4
  let o := fld (pk.p 1) 4 5
  concern o 1 s <|
  let s := s.disarm j
  .done .ok [] (s.setSlot j { Watch.zero with owner := o })

def execWatchAssign (pk : Pkt) (s : State) : Res := .next (launch specWatchAssign bodyWatchAssign pk s)

def specWatchConfig : OpSpec := { op := 0x45, priv := .own, len := exactly 7 }

/-- WATCH_CONFIG (R268): the slot is disarmed, and its region begins again. -/
def bodyWatchConfig (pk : Pkt) (_ : Nat) (s : State) : Verdict :=
  let w := pk.p 1
  let j := fld w 0 4
  let tr := fld w 8 3
  let n := fld (pk.p 3) 0 16
  chk (decide ((s.slot j).owner ≠ pk.o)) .denied 1 <|
  chk (decide (4 < tr) || decide (16 < fld w 12 5)) .badParam 1 <|
  chk (decide (n = 0) && (decide (tr = 1) || decide (tr = 2))) .badParam 3 <|
  chk (decide (pk.addr 6 % 4096 ≠ 0)) .badParam 6 <|
  let s := s.disarm j
  let c : WatchCfg := ⟨BitVec.ofNat 4 (fld w 4 4), tr, flag w 11, fld w 12 5, BitVec.ofNat 16 (fld (pk.p 2) 0 16),
    BitVec.ofNat 16 (fld (pk.p 2) 16 16), n, BitVec.ofNat 24 (fld (pk.p 4) 0 24), BitVec.ofNat 24 (fld (pk.p 5) 0 24), pk.addr 6⟩
  .done .ok [] (s.setSlot j { s.slot j with cfg := c, blocks := 0 })

def execWatchConfig (pk : Pkt) (s : State) : Res := .next (launch specWatchConfig bodyWatchConfig pk s)

def specWatchArm : OpSpec := { op := 0x46, priv := .own, len := exactly 1 }

/-- WATCH_ARM (R268, R420). -/
def bodyWatchArm (pk : Pkt) (_ : Nat) (s : State) : Verdict :=
  let j := fld (pk.p 1) 0 4
  let arm := flag (pk.p 1) 4
  chk (decide ((s.slot j).owner ≠ pk.o)) .denied 1 <|
  chk (arm && decide (pk.o < 16) && (s.memKey pk.o).isNone) .badParam 1 <|
  .done .ok [] (if arm then s.setSlot j { s.slot j with armed := true, left := (s.slot j).cfg.n, seen := 0 } else s.disarm j)

def execWatchArm (pk : Pkt) (s : State) : Res := .next (launch specWatchArm bodyWatchArm pk s)

def specAssayCounters : OpSpec := { op := 0x47, priv := .own, len := exactly 1 }

/-- ASSAY_COUNTERS (R259): read, then clear. -/
def bodyAssayCounters (pk : Pkt) (_ : Nat) (s : State) : Verdict :=
  let t := fld (pk.p 1) 0 2
  let clear := flag (pk.p 1) 2
  let glob := flag (pk.p 1) 3
  chk (glob && decide (pk.o ≠ hm)) .denied 1 <|
  if glob then
    .done .ok [tget s.assay.gmm t 0] (if clear then { s with assay := { s.assay with gmm := tset s.assay.gmm t 0 0 } } else s)
  else
    let b := (t * 32 + pk.o) * 8
    .done .ok ((List.range 8).map (fun k => tget s.assay.cnt (b + k) 0))
      (if clear then { s with assay := { s.assay with cnt := s.assay.cnt.filter (fun e => decide (e.1 < b) || decide (b + 8 ≤ e.1)) } } else s)

def execAssayCounters (pk : Pkt) (s : State) : Res := .next (launch specAssayCounters bodyAssayCounters pk s)

def specTapReenable : OpSpec := { op := 0x48, priv := .hmOnly, len := exactly 1 }

/-- TAP_REENABLE (R258). -/
def bodyTapReenable (pk : Pkt) (_ : Nat) (s : State) : Verdict :=
  .done .ok [] (s.modTap (fld (pk.p 1) 0 2) (fun x => { x with off := false, pathFails := [] }))

def execTapReenable (pk : Pkt) (s : State) : Res := .next (launch specTapReenable bodyTapReenable pk s)

end Sys2Proof.Machine
end

