-- ==== Sys2Proof/Machine/Basins.lean ====
section
/-! DEFINITION. The basins: units, cells, queues, admission and drain (R210 to R216, R220, R230). Unit u lies in bank
u mod 8 and holds its cells 1,024 (u / 8) to 1,024 (u / 8) + 1,023 (log 23). -/

namespace Sys2Proof.Machine

def State.charterQ (s : State) (o : Nat) : List Cell := tget s.basins.charterQ o []
def State.setCharterQ (s : State) (o : Nat) (q : List Cell) : State :=
  { s with basins := { s.basins with charterQ := tset s.basins.charterQ o q [] } }
def State.setPrioQ (s : State) (o : Nat) (q : List Cell) : State :=
  { s with basins := { s.basins with prioQ := tset s.basins.prioQ o q [] } }

/-- A cell's number plus 1. -/
def Cell.no (c : Cell) : Nat := c.bank * 16384 + c.idx + 1

def State.unitOwner (s : State) (u : Nat) : Nat := tget s.basins.owner u hm
def State.setUnitOwner (s : State) (u o : Nat) : State :=
  { s with basins := { s.basins with owner := tset s.basins.owner u o hm } }

/-- The units a partition holds, leaving ones apart. -/
def State.units (s : State) (o : Nat) : List Nat :=
  (List.range 128).filter (fun u => decide (s.unitOwner u = o) && !s.basins.leaving.contains u && !s.basins.head.contains u)

def State.leavingOf (s : State) (o : Nat) : List Nat := s.basins.leaving.filter (fun u => s.unitOwner u = o)

def State.quotaOf (s : State) (o : Nat) : Nat := tget s.basins.quota o 0

/-- Cells the fill is reckoned against (R211): the quota, or the units held where they are fewer. -/
def State.baseCells (s : State) (o : Nat) : Nat := min (s.quotaOf o) (s.units o).length * 1024

/-- Partition cells in use: order-headroom cells apart, cells a BASIN op has still to read included (R212, R214, R285). -/
def State.used (s : State) (o : Nat) : Nat :=
  (s.charterQ o).countP (fun c => !c.order) + 
    s.basins.kept.countP (fun e => decide (e.1 = o) && !e.2.order && !s.basins.head.contains e.2.unit)

/-- A partition's units in turn after the bank of its last cell. -/
def State.unitsInTurn (s : State) (o : Nat) : List Nat :=
  let us := s.units o
  match (s.charterQ o).getLast? with
  | none => us
  | some c => us.filter (fun u => decide (c.unit < u)) ++ us.filter (fun u => decide (u ≤ c.unit))

/-- The descriptor word of a cell in bank 32 (log 23). -/
def Cell.desc (c : Cell) : Nat := (c.bank * 16384 + c.idx) % 4096

/-- A record is written into a cell after `used` words, its descriptor into both copies (R212, R439). -/
def State.writeCell (s : State) (c : Cell) (r : Rec) : State :=
  let s := s.mergeBytes c.bank ((c.idx * 8 + c.used) * 8) (r.len * 8)
  (s.dropWord 32 false c.desc).dropWord 32 true c.desc

/-- A queue with a record in its tail cell. -/
def intoTail (q : List Cell) (r : Rec) : List Cell :=
  match q.getLast? with
  | some c => q.dropLast ++ [{ c with recs := c.recs ++ [r], used := c.used + r.len }]
  | none => q

/-- A queue with a record in a new cell. -/
def newCell (q : List Cell) (at_ : Nat × Nat) (order : Bool) (r : Rec) : List Cell := q ++ [⟨at_.1, at_.2, [r], r.len, order⟩]

/-- The priority queue of the owner takes the record, or nothing changes for want of room (R213, R222). -/
def State.putPrio (s : State) (r : Rec) : State :=
  let q := s.prioQ r.owner
  if s.fitsTail q r then
    match q.getLast? with
    | some c => (s.writeCell c r).setPrioQ r.owner (intoTail q r)
    | none => s
  else match s.freeCell s.prioUnits with
    | some a => (s.writeCell ⟨a.1, a.2, [], 0, false⟩ r).setPrioQ r.owner (newCell q a false r)
    | none => s

/-- Admission to a charter queue (R214, R215): the queue after it, or none when the record is not admitted. -/
def State.admitTo (s : State) (r : Rec) : Option (Cell × List Cell) :=
  let q := s.charterQ r.owner
  let tail := s.fitsTail q r
  let order := q.any (fun c => c.order)
  let after := if tail && !(q.getLast?.any (fun c => c.order)) then s.used r.owner else s.used r.owner + 1
  let base := s.baseCells r.owner
  let room := match r.cls with
    | 3 => decide (after * 8 ≤ base * 7)
    | 2 => decide (after * 16 ≤ base * 15)
    | _ => decide (after ≤ base)
  let norm : Option (Cell × List Cell) :=
    if (r.cls = 0 || !order) && room then
      if tail then q.getLast?.map (fun c => (c, intoTail q r))
      else (s.freeCell (s.unitsInTurn r.owner)).map (fun a => (⟨a.1, a.2, [], 0, false⟩, newCell q a false r))
    else none
  if norm.isSome || r.cls ≠ 0 then norm
  else if tail && q.getLast?.any (fun c => c.order) then q.getLast?.map (fun c => (c, intoTail q r))
  else (s.freeCell s.orderUnits).map (fun a => (⟨a.1, a.2, [], 0, true⟩, newCell q a true r))

/-- A record the spine delivers enters its basin, or is dropped with cause BASIN_FULL; a class 1 drop holds the stream, of
which only records of class 0 are then admitted (R177, R213 to R216). BASIN inputs see the records of the priority queues
too (R284). -/
def State.letIn (s : State) (r : Rec) : State :=
  let src := r.src.toNat
  if src = 136 || src = 137 then
    let t := s.putPrio r
    match (t.prioQ r.owner).getLast? with
    | some c => t.basinIn c.no r
    | none => t
  else
    let x := s.stream src r.owner
    if x.held && decide (r.cls ≠ 0) then s.loseHeld src x.heldOv r.loss
    else match s.admitTo r with
      | some (c, q) => ((s.writeCell c r).setCharterQ r.owner q).basinIn c.no r
      | none =>
        let s := s.lose 0 src r.loss
        if r.cls = 1 then s.setStream src r.owner { x with held := true, heldOv := s.inOverflow 0 src r.owner } else s

/-- The partition's fill is at or below 7/8 (R218). -/
def State.low (s : State) (o : Nat) : Bool := decide (s.used o * 8 ≤ s.baseCells o * 7)

/-- Accumulators of held streams close when the partition's fill is at or below 7/8 (R218). -/
def State.closeHeld (s : State) (o : Nat) : State :=
  if s.low o then
    let h := fun (w : Weir) => decide (w.owner = o) && decide (w.cause = 0) &&
      (if w.lost = 255 then (List.range 139).any (fun src => (s.stream src o).held && (s.stream src o).heldOv)
       else (s.stream w.lost o).held)
    { s with canal := { s.canal with acc := s.canal.acc.filter (fun w => !h w), closed := s.canal.closed ++ s.canal.acc.filter h } }
  else s

/-! ## Drain (R220, R223) -/

/-- The descriptor of a cell is uncorrectable in both copies (R439). -/
def State.descLost (s : State) (c : Cell) : Bool :=
  let bad := fun (copy : Bool) => (s.bank (bankKey 32 copy)).failed ||
    (match s.word? 32 copy c.desc with | some x => decide (2 ≤ x.result 32 c.desc) | none => false)
  bad false && bad true

/-- The first cell of an owner's queues, the priority queue's first (R223). -/
def State.headCell (s : State) (o : Nat) : Option (Bool × Cell) :=
  match s.prioQ o with
  | c :: _ => some (true, c)
  | [] => match s.charterQ o with
    | c :: _ => some (false, c)
    | [] => none

/-- The head cell may be read: its bank migrates no row (R230). -/
def State.headReady (s : State) (o : Nat) : Bool :=
  match s.headCell o with
  | some (_, c) => (s.bank (bankKey c.bank false)).migrating.isNone
  | none => false

/-- The head cell leaves its queue; it stays allocated while a BASIN op has still to read it (R285). -/
def State.popCell (s : State) (o : Nat) (prio : Bool) : State :=
  let q := if prio then s.prioQ o else s.charterQ o
  let t := if prio then s.setPrioQ o (q.drop 1) else s.setCharterQ o (q.drop 1)
  match q with
  | c :: _ => if s.opWants o c.no then { t with basins := { t.basins with kept := t.basins.kept ++ [(o, { c with recs := [] })] } } else t
  | [] => t

/-- Cells that the op has read, or that no op wants any more, are freed (R285). -/
def State.releaseKept (s : State) : State :=
  { s with basins := { s.basins with kept := s.basins.kept.filter (fun e => s.opWants e.1 e.2.no) } }

/-- Marks of a cell read as poison (R189, R220): every record from its descriptor, or UNKNOWN when that is lost; the source,
epoch and span of that mark (DESIGN CHOICE, log 90). -/
def State.poisonMarks (s : State) (c : Cell) : List Weir :=
  if s.descLost c then
    match c.recs with
    | [] => []
    | r :: _ =>
      let l := c.recs.foldl (fun a x => max a x.ts) r.ts
      let f := c.recs.foldl (fun a x => min a x.ts) r.ts
      unknownMarks r.owner r.src.toNat 2 2 s.now r.epoch r.part ((l - f) / 2 ^ 19 + 1) f l
  else recMarks 2 (2 ^ 19) s.now c.recs

/-- Take the next record of an owner: cells read as poison are freed and counted; a cell whose records are all taken is
freed (R212). -/
def State.takeRec (s : State) (o : Nat) : Nat → Option Rec × State
  | 0 => (none, s)
  | n + 1 =>
    if !s.headReady o then (none, s)
    else match s.headCell o with
      | none => (none, s)
      | some (prio, c) =>
        let r := s.fetch c.bank (c.idx * 4) 4
        if r.1 then ((r.2.addMarks (r.2.poisonMarks c)).popCell o prio).takeRec o n
        else match c.recs with
          | [] => (r.2.popCell o prio).takeRec o n
          | [x] => (some x, (r.2.popCell o prio).closeHeld o)
          | x :: xs =>
            let c' : Cell := { c with recs := xs }
            (some x, if prio then r.2.setPrioQ o (c' :: (r.2.prioQ o).drop 1) else r.2.setCharterQ o (c' :: (r.2.charterQ o).drop 1))

/-! ## Units (R211) -/

/-- Units given to partitions: the basin banks' 124 less 16 for each failed bank (R230). -/
def State.allocatable (s : State) : Nat := 124 - 16 * (List.range 8).countP (fun b => (s.bank (bankKey b false)).failed)

/-- The free unit a partition takes next: of the online bank in which it holds the fewest, the lowest number. -/
def State.nextUnit (s : State) (o : Nat) : Option Nat :=
  let free := (s.units 31).filter (fun u => !(s.bank (bankKey (u % 8) false)).failed)
  let mine := s.units o
  let n := fun (u : Nat) => mine.countP (fun v => v % 8 = u % 8)
  free.foldl (fun (a : Option Nat) u => match a with | none => some u | some b => if n u < n b then some u else some b) none

/-- Partitions below their quota take free units, lowest owner first. -/
def State.grant (s : State) : Nat → State
  | 0 => s
  | n + 1 =>
    match (List.range 17).find? (fun o => decide ((s.units o).length < s.quotaOf o)) with
    | none => s
    | some o => match s.nextUnit o with
      | none => s
      | some u => (s.setUnitOwner u o).grant n

/-- Position of a unit's newest cell in its owner's queue plus 1; 0 without cells in use. -/
def State.newest (s : State) (o u : Nat) : Nat :=
  ((s.charterQ o).mapIdx (fun i c => if c.unit = u then i + 1 else 0)).foldl max 0

/-- A partition gives up n units: those without cells first, then those whose newest cell is the oldest. -/
def State.giveUp (s : State) (o : Nat) : Nat → State
  | 0 => s
  | n + 1 =>
    match (s.units o).foldl (fun (a : Option Nat) u => match a with
        | none => some u | some b => if s.newest o u < s.newest o b then some u else some b) none with
    | none => s
    | some u =>
      (if s.newest o u = 0 then s.setUnitOwner u 31
       else { s with basins := { s.basins with leaving := s.basins.leaving ++ [u] } }).giveUp o n

/-- Set a partition's quota (R211). -/
def State.setQuota (s : State) (o n : Nat) : State :=
  let s := { s with basins := { s.basins with quota := tset s.basins.quota o n 0 } }
  ((s.giveUp o ((s.units o).length - n)).grant 124)

/-- UNIT_LEAVE (R211): a drained unit leaves its partition and joins the free units. -/
def execUnitLeave (u : Fin 124) (s : State) : Res :=
  if s.basins.leaving.contains u.val && !(s.allCells.any (fun c => c.unit = u.val)) then
    let s := { s with basins := { s.basins with leaving := s.basins.leaving.filter (fun v => v ≠ u.val) } }
    .next ((s.setUnitOwner u.val 31).grant 124)
  else .next s

/-- An owner's queues are emptied without export (R432). -/
def State.dropQueues (s : State) (o : Nat) : State :=
  let s := (s.setCharterQ o []).setPrioQ o []
  { s with canal := { s.canal with acc := s.canal.acc.filter (fun w => w.owner ≠ o), closed := s.canal.closed.filter (fun w => w.owner ≠ o) } }

/-- Every stream of an owner stops (R224): it begins with a TIME_SYNC when it has a destination again (R101). -/
def State.silence (s : State) (o : Nat) : State :=
  (List.range 139).foldl (fun s src =>
    let x := s.stream src o
    if x.active then s.setStream src o { x with active := false, explained := true } else s) s

def specPartitionSet : OpSpec := { op := 0x30, priv := .hmOnly, len := exactly 1 }

/-- PARTITION_SET (R211, R397). -/
def bodyPartitionSet (pk : Pkt) (_ : Nat) (s : State) : Verdict :=
  let o := fld (pk.p 1) 0 5
  let n := fld (pk.p 1) 8 7
  concern o 1 s (chk (decide (124 < n)) .badParam 1 (
    let sum := (List.range 17).foldl (fun a x => a + s.quotaOf x) 0 - s.quotaOf o + n
    chk (decide (s.allocatable < sum)) .exhausted 1 (
      let t := s.setQuota o n
      let d := (t.leavingOf o).length
      let t := (List.range 17).foldl State.closeHeld t
      .done .ok [(t.units o).length + d + d * 2 ^ 8] t)))

def execPartitionSet (pk : Pkt) (s : State) : Res := .next (launch specPartitionSet bodyPartitionSet pk s)

end Sys2Proof.Machine
end

