-- ==== Sys2Proof/Machine/Faults.lean ====
section
/-! DEFINITION. The fault collector (14): classification, HEARTBEAT, self-tests, the Keeper's faults, the packets 0xA0 to
0xA3, and the health report. -/

namespace Sys2Proof.Machine

def Pend.tableClass (p : Pend) : Nat := p.cls.getD (classOf p.code)

/-- The pending raise the Keeper handles next: the highest class, then the order of detection (R467). -/
def nextPend (ps : List Pend) : Option Pend :=
  ps.foldl (fun (a : Option Pend) p => match a with
    | none => some p
    | some b => if b.tableClass < p.tableClass then some p else some b) none

/-- Every pending raise that satisfies a test is given its class, in order. -/
def State.classify (s : State) (ok : Pend → Bool) : Nat → State
  | 0 => s
  | n + 1 =>
    match nextPend (s.fc.pend.filter ok) with
    | none => s
    | some p => (({ s with fc := { s.fc with pend := s.fc.pend.erase p } }).takeRaise p).classify ok n

/-- FAULT_RAISE (R465 to R469): the raise reported, if any, then the raises that wait. A code of the fatal or the
hardware-classified path has its class in logic; a reserved code is none of the block's (R476). -/
def execFaultRaise (r : Option FaultRaise) (s : State) : Res :=
  let s := match r with
    | none => s
    | some r => match faultEntry r.code.toNat with
      | none => s
      | some (_, 0) => s.raiseAs r.code.toNat r.unit.toNat r.detail.toNat none s.ts
      | some (_, 1) => s.raiseFixed r.code.toNat r.unit.toNat r.detail.toNat
      | some (_, _) => s.raiseFatal r.code.toNat r.unit.toNat
  .next (((s.classify (fun _ => true) (s.fc.pend.length + 8)).payFaults.payTrigger).settleWrites)

/-- CLASS_TABLE_FALLBACK (R466): raises 800 ns old, or any while the Keeper is stopped, take the class table's class. -/
def execClassTableFallback (s : State) : Res :=
  let stopped := s.dev.restarting || s.asleep
  .next (((s.classify (fun p => stopped || decide (p.rAt + 800 ≤ s.now)) (s.fc.pend.length + 8)).payFaults.payTrigger).settleWrites)

/-- The Keeper stops on a fault of R20: every aperture replies BUSY until it has restarted (R475). -/
def State.stopKeeper (s : State) (code detail : Nat) (reload : Bool) : State :=
  let s := s.raiseFixed code 0 detail
  { s with dev := { s.dev with restarting := true, down := true, reload := s.dev.reload || reload } }

/-- The Keeper runs: out of BOOT and not restarting. -/
def State.keeperUp (s : State) : Bool := s.dev.mode ≠ .boot && !s.dev.restarting

/-- KEEPER_LOCKSTEP_MISMATCH (R20, R475). -/
def execKeeperLockstepMismatch (s : State) : Res := .next (if s.dev.phase = .held then s else s.stopKeeper 0x200 0 false)

/-- KEEPER_WATCHDOG_EXPIRY (R20, R475). -/
def execKeeperWatchdogExpiry (s : State) : Res := .next (if s.dev.phase = .held then s else s.stopKeeper 0x201 0 false)

/-- KEEPER_MEM_UE (R20, R445, R475): the word is poisoned in place and counted; the image is reloaded. -/
def execKeeperMemUe (word : BitVec 32) (s : State) : Res :=
  let w := word.toNat % bankWords 30
  .next (if s.dev.phase = .held then s
    else (((s.countUe 30 false w).poisonWord 30 false w).raise 0xB00 30 w).stopKeeper 0x202 w true)

/-- The digest check of the image in Keeper memory fails (R475): the memory holds a poisoned word (DEDUCED, log 97). -/
def State.imageBad (s : State) : Bool := s.ecc.word.any (fun e => decide (e.1 / 2 ^ 25 = 30) && e.2.poison)

/-- KEEPER_RESTART (R475): the Keeper restarts from its image, reloaded from the Logbook after a memory fault or a failed
digest check; after a lockstep
or watchdog fault within the second of a trial it restarts into the old image (R501). Where the reload cannot read the Logbook
the Keeper stays down (DESIGN CHOICE, log 97). -/
def execKeeperRestart (s : State) : Res :=
  let d := s.dev
  let reload := d.reload || s.imageBad
  let trial := match d.trialUntil with | some t => decide (s.now < t) | none => false
  if !d.down then .next s
  else if reload && !s.lb.present then .next s.lbAccess.2
  else
    let s := if reload then s.lbAccess.2.clearBank 30 else s
    match trial && !reload, d.oldImage with
    | true, some old => .next { s with dev := { d with down := false, reload := false, image := old, codeBank := !d.codeBank, oldImage := none, trialUntil := none } }
    | _, _ => .next { s with dev := { d with down := false, reload := false } }

/-- HEARTBEAT_TOGGLE (R78, R80): every 500 us while the collector is healthy. -/
def execHeartbeatToggle (s : State) : Res :=
  .next (if s.startupFault || s.now < s.fc.hbAt + 500000 then s
    else { s with fc := { s.fc with hb := !s.fc.hb, hbAt := s.now } })

/-- The collector's self-check fails: HEARTBEAT stops, the lines show class 3 (R472). -/
def State.fcFail (s : State) (unit : Nat) : State :=
  (({ s with fc := { s.fc with selfFail := true } }).raiseFixed 0x103 unit 0).setPersist 0x103 unit true

/-- FC_SELF_TEST (R472, R482): the first pass after PORST_N ends the start-up state; a failure names channel N, channel P or
the logic. -/
def execFcSelfTest (failing : Option (BitVec 16)) (s : State) : Res :=
  if s.dev.phase = .held then .next s
  else match failing with
    | some u => .next (s.fcFail u.toNat)
    | none =>
      let s := (((s.setPersist 0x103 0 false).setPersist 0x103 1 false).setPersist 0x103 2 false)
      .next { s with fc := { s.fc with tested := true, selfFail := false, hbAt := if s.fc.tested then s.fc.hbAt else s.now } }

/-- LOCKSTEP_SELF_TEST (R482): in Keeper run time; a failure is KEEPER_LOCKSTEP. -/
def execLockstepSelfTest (pass : Bool) (s : State) : Res :=
  .next (if !s.keeperUp || s.asleep || pass then s else s.stopKeeper 0x200 0 false)

/-- AON_MONITOR_TEST (R482): in Keeper run time; a failure is FC_SELF_TEST of the logic. -/
def execAonMonitorTest (pass : Bool) (s : State) : Res :=
  .next (if !s.keeperUp || s.asleep || pass then s else s.fcFail 2)

/-- AON_REF_LOSS (R80, R472): the monitor sees AON_REF lost, or back. -/
def execAonRefLoss (lost : Bool) (s : State) : Res :=
  if lost then
    .next (if s.fc.refLost then s
      else (({ s with fc := { s.fc with refLost := true } }).raiseFixed 0x104 0 0).setPersist 0x104 0 true)
  else .next (({ s with fc := { s.fc with refLost := false } }).setPersist 0x104 0 false)

/-! ## Packets (R405) -/

def insertEntry (e : FEntry) : List FEntry → List FEntry
  | [] => [e]
  | x :: xs => if x.cls < e.cls || (decide (x.cls = e.cls) && decide (e.order < x.order)) then e :: x :: xs else x :: insertEntry e xs

/-- Open entries, the highest class first, then in their order of opening. -/
def State.entriesByClass (s : State) : List FEntry := s.openEntries.foldl (fun a e => insertEntry e a) []

def specFaultRead : OpSpec := { op := 0xA0, priv := .hmOnly, len := exactly 0 }

/-- FAULT_READ (R405). -/
def bodyFaultRead (_ : Pkt) (_ : Nat) (s : State) : Verdict :=
  .done .ok (s.openCount :: s.entriesByClass.flatMap (fun e =>
    [e.code + e.cls * 2 ^ 16 + b2n e.escalated * 2 ^ 18 + b2n e.fatal * 2 ^ 19, e.unit + tget s.fc.counts (fKey e.code e.unit) 0 * 2 ^ 16, e.detail.toNat])) s

def execFaultRead (pk : Pkt) (s : State) : Res := .next (launch specFaultRead bodyFaultRead pk s)

def specFaultRelease : OpSpec := { op := 0xA1, priv := .hmOnly, len := exactly 1 }

/-- FAULT_RELEASE (R470): BUSY while the condition of the entry lasts. -/
def bodyFaultRelease (pk : Pkt) (_ : Nat) (s : State) : Verdict :=
  let code := fld (pk.p 1) 0 16
  let unit := fld (pk.p 1) 16 16
  if code = 0x102 then
    if s.fc.ninth.isNone then .done .ok [s.openCount] s
    else chk (decide (s.openCount = 8)) .busy 1 (.done .ok [s.openCount] { s with fc := { s.fc with ninth := none } })
  else match s.fc.slots.find? (fun e => e.2.code = code && e.2.unit = unit) with
    | none => .done .ok [s.openCount] s
    | some (i, _) => chk (s.persisting code unit) .busy 1 (
        let t := { s with fc := { s.fc with slots := s.fc.slots.filter (fun e => e.1 ≠ i) } }
        .done .ok [t.openCount] t)

def execFaultRelease (pk : Pkt) (s : State) : Res := .next (launch specFaultRelease bodyFaultRelease pk s)

def specFaultPolicy : OpSpec := { op := 0xA2, priv := .hmOnly, len := exactly 1 }

def withCode (l : List Nat) (c : Nat) (on : Bool) : List Nat := if on then (if l.contains c then l else l ++ [c]) else l.filter (· ≠ c)

/-- FAULT_POLICY (R19, R464): ledger trigger and interrupt of a code. -/
def bodyFaultPolicy (pk : Pkt) (_ : Nat) (s : State) : Verdict :=
  let code := fld (pk.p 1) 0 16
  chk (faultEntry code).isNone .badParam 1 (
    .done .ok [] { s with fc := { s.fc with ledgerOn := withCode s.fc.ledgerOn code (flag (pk.p 1) 16), irqOn := withCode s.fc.irqOn code (flag (pk.p 1) 17) } })

def execFaultPolicy (pk : Pkt) (s : State) : Res := .next (launch specFaultPolicy bodyFaultPolicy pk s)

def specFaultInject : OpSpec := { op := 0xA3, priv := .hmOnly, len := exactly 1, mode := some .test }

/-- FAULT_INJECT (R483): a raise on the classified path with the class table's class. -/
def bodyFaultInject (pk : Pkt) (_ : Nat) (s : State) : Verdict :=
  let code := fld (pk.p 1) 0 16
  chk (faultEntry code).isNone .badParam 1 (.done .ok [] (s.raiseAs code (fld (pk.p 1) 16 16) 0 (some (classOf code)) s.ts))

def execFaultInject (pk : Pkt) (s : State) : Res := .next (launch specFaultInject bodyFaultInject pk s)

/-! ## The health report (R478, R479) -/

def State.mismatchSum (s : State) : Nat := s.assay.gmm.foldl (fun a e => a + e.2) 0

/-- Bytes 0 to 59 of the report of the frame that ends now. -/
def State.healthBytes (s : State) : List Byte :=
  leBytes 4 0x1D3E5A82 ++ leBytes 1 1 ++ leBytes 1 s.chip ++
  leBytes 1 (s.errClass + b2n s.faultNLow * 4 + b2n s.fc.ninth.isSome * 8) ++ leBytes 1 s.openCount ++ leBytes 4 s.fc.healthNo ++
  leBytes 12 s.cvt96 ++ leBytes 2 s.time.epoch.toNat ++ leBytes 1 (s.tstate.code + s.time.part.toNat * 8) ++ leBytes 1 (popcount s.ch.online) ++
  leBytes 2 s.fc.r1 ++ leBytes 2 s.fc.r2 ++ leBytes 2 s.fc.r3 ++ leBytes 2 (s.probes.countP (fun e => e.2.disabled)) ++
  leBytes 4 (s.mismatchSum - s.fc.healthMm) ++ leBytes 1 s.env.thrMax ++
  leBytes 1 ((List.range 34).countP (fun b => (s.bank (bankKey b false)).failed || (s.bank (bankKey b true)).failed)) ++ leBytes 2 s.topCode ++ List.replicate 16 0

/-- A frame ends: its report is written when enabled, and the counts of the next frame begin. -/
def State.frameStart (s : State) : State :=
  let b := s.healthBytes
  let s := if s.fc.healthOn then
      let addr := s.fc.healthAddr + 64 * (s.fc.healthNo % 16)
      let t := s.mgrPush ⟨true, 0, addr / 64, 0, hm, 0, .health, words64 (b ++ leBytes 4 (crc32c b).toNat), [], [], []⟩
      { t with fc := { t.fc with healthNo := (t.fc.healthNo + 1) % 2 ^ 32 } }
    else s
  { s with fc := { s.fc with r1 := 0, r2 := 0, r3 := 0, healthMm := s.mismatchSum }, env := { s.env with thrMax := s.env.thr } }

end Sys2Proof.Machine
end

