-- ==== Sys2Proof/Machine/ProbeEvents.lean ====
section
/-! DEFINITION. The PAI of a probe (02 R46 to R55, 04). The events of one HCLK edge come before its HCLK_EDGE and belong to
the edge that is one above the probe's count (log 8). An event at a probe that takes no part in capture changes nothing
(log 2). -/

namespace Sys2Proof.Machine

/-- Random tagging is the way of STARTUP and TEST, precise sampling that of SERVICE (R162). -/
def State.randomTagging (s : State) : Bool := s.dev.mode = .startup || s.dev.mode = .test || s.dev.mode = .recovery

/-- One advance of the LFSR (R539). -/
def lfsrNext (l : BitVec 32) : BitVec 32 := if l.getLsbD 31 then (l <<< 1) ^^^ 0x00400007 else l <<< 1

/-- The CMD_ISSUE and CMD_RETIRE words (R179). -/
def cmdWords (c : PaiCmd) (lat : Nat) : List Nat :=
  [c.addr.toNat + c.layer.toNat * 2 ^ 48, c.tag.toNat + c.op.toNat * 2 ^ 24 + clamp 0xFFFFF lat * 2 ^ 40]

def cmdPayload (c : PaiCmd) (flushed : Bool) : Nat := c.cls.toNat + c.mid.toNat * 16 + b2n flushed * 2 ^ 12

/-- LAYER_ENTER and LAYER_EXIT (R178): the tag and operator of the command at which they are emitted. -/
def State.emitLayer (s : State) (p ty ts : Nat) (layer : BitVec 16) (early : Bool) (c : PaiCmd) : State :=
  s.emit p c.charter.toNat ty 1 ts (layer.toNat + b2n early * 2 ^ 16) [c.tag.toNat + c.op.toNat * 2 ^ 24]

/-- Commands of a charter's layer in flight. -/
def Probe.layerLive (x : Probe) (ch : BitVec 4) (l : BitVec 16) : Bool :=
  x.inflight.any (fun f => !f.cmd.priv && decide (f.cmd.charter = ch) && decide (f.cmd.layer = l))

def State.idCharter (s : State) (c : PaiCmd) : Bool :=
  !c.priv && s.esl.idMode.getLsbD c.charter.toNat && s.active c.charter.toNat

/-- A change of layer at an issue (R169); the issuing command is already in flight. -/
def State.layerIssue (s : State) (p ts : Nat) (c : PaiCmd) : State :=
  let x := s.probe p
  let ch := c.charter.toNat
  if !s.idCharter c || tget x.curLayer ch 0 = c.layer.toNat + 1 then s
  else
    let s := s.emitLayer p 0x0C ts c.layer false c
    let mine := x.layers.filter (fun l => l.charter = c.charter && l.layer ≠ c.layer)
    let gone := mine.filter (fun l => !x.layerLive c.charter l.layer)
    let live := mine.filter (fun l => x.layerLive c.charter l.layer)
    let early := live.take (live.length - 1)
    let s := gone.foldl (fun s l => s.emitLayer p 0x0D ts l.layer false c) s
    let s := early.foldl (fun s l => s.emitLayer p 0x0D ts l.layer true c) s
    s.modProbe p (fun y =>
      { y with curLayer := tset y.curLayer ch (c.layer.toNat + 1) 0,
               layers := y.layers.filter (fun l => l.charter ≠ c.charter) ++
                 ((live.drop (live.length - 1)).map (fun l => { l with superseded := true })) ++ [⟨c.charter, c.layer, c.op, false⟩] })

/-- The last command in flight of a superseded layer retires (R169). -/
def State.layerRetire (s : State) (p ts : Nat) (c : PaiCmd) : State :=
  let x := s.probe p
  if s.idCharter c && !x.layerLive c.charter c.layer &&
      x.layers.any (fun l => l.charter = c.charter && l.layer = c.layer && l.superseded) then
    (s.emitLayer p 0x0D ts c.layer false c).modProbe p (fun y =>
      { y with layers := y.layers.filter (fun l => !(l.charter = c.charter && l.layer = c.layer)) })
  else s

/-- COMMAND_ISSUE (R164, R168, R169, R539). -/
def execCommandIssue (p : Fin 128) (c : PaiCmd) (s : State) : Res :=
  if !s.probeRuns p.val then .next s
  else
    let x := s.probe p.val
    let ts := s.probeTs p.val
    let lfsr := lfsrNext x.lfsr
    let sel := s.randomTagging && x.cfg.sampler.enable && x.cfg.sampler.flt.cmd x.cfg c && decide (lfsr.toNat % 2 ^ x.cfg.sampler.k = 0)
    let tag := sel && decide (x.tagged.length < 4)
    let x := { x with
      lfsr := lfsr
      inflight := x.inflight.filter (fun f => f.cmd.tag.toNat % 256 ≠ c.tag.toNat % 256) ++ [⟨c, x.edge + 1, ts, false⟩]
      tagged := if tag then x.tagged ++ [⟨c.tag, x.edge + 1, ts, x.cfg.sampler.flt.sampleOwner⟩] else x.tagged
      ev := { x.ev with iss := some c, issTagged := tag, issSkipped := sel && !tag } }
    let s := (s.setProbe p.val x).layerIssue p.val ts c
    .next (if x.cfg.cmdOn && x.cfg.cmdFlt.cmd x.cfg c then s.emit p.val x.cfg.cmdOwner 0x10 3 ts (cmdPayload c false) (cmdWords c 0) else s)

/-- COMMAND_RETIRE (R150, R163, R165, R168). A command whose issue the probe did not see has no stated latency: a free
value (log 15). -/
def execCommandRetire (p : Fin 128) (c : PaiCmd) (flushed : Bool) (s : State) : Res :=
  if !s.probeRuns p.val then .next s
  else
    let ts := s.probeTs p.val
    let fl := (s.probe p.val).inflight.find? (fun f => f.cmd.tag.toNat % 256 = c.tag.toNat % 256)
    let fr := s.freshIf fl.isNone
    let s := fr.2
    let x := s.probe p.val
    let lat := match fl with | some f => x.edge + 1 - f.edge | none => fr.1
    let latQt := match fl with | some f => ts - f.ts | none => fr.1
    let str := match fl with | some f => f.stretched | none => x.stretch
    let pass := x.cfg.sampler.enable && s.dev.mode = .service && !flushed && x.cfg.sampler.flt.cmd x.cfg c
    let done := pass && decide (x.countdown ≤ 1)
    let tg := x.tagged.find? (fun t => t.tag = c.tag)
    let y := { x with
      inflight := x.inflight.filter (fun f => f.cmd.tag.toNat % 256 ≠ c.tag.toNat % 256)
      tagged := x.tagged.filter (fun t => t.tag ≠ c.tag)
      countdown := if done then x.interval else if pass then x.countdown - 1 else x.countdown
      due := if done then some (c, lat, latQt, ts, str) else x.due
      ev := { x.ev with ret := some c, retFlushed := flushed, retLat := lat } }
    let s := (s.setProbe p.val y).layerRetire p.val ts c
    let s := if x.cfg.cmdOn && x.cfg.cmdFlt.cmd x.cfg c then
        s.emit p.val x.cfg.cmdOwner 0x11 3 ts (cmdPayload c flushed) (cmdWords c lat) else s
    .next (match tg with
      | none => s
      | some t =>
        let r := s.emitSample p.val t.owner 0x12 ts (clamp 0xFFFFF lat) (sampleWords c lat latQt true flushed str)
        if r.1 then r.2 else r.2.modProbe p.val (fun z => { z with ev := { z.ev with lost := true } }))

/-- PRECISE_SAMPLE (R163, R166): the sample that the retire of this edge completes. -/
def execPreciseSample (p : Fin 128) (s : State) : Res :=
  let x := s.probe p.val
  match x.due with
  | none => .next s
  | some (c, lat, latQt, ts, str) =>
    let s := s.setProbe p.val { x with due := none }
    let r := s.emitSample p.val x.cfg.sampler.flt.sampleOwner 0x12 ts (clamp 0xFFFFF lat) (sampleWords c lat latQt false false str)
    .next (r.2.modProbe p.val (fun z => { z with ev := { z.ev with sampled := true, lost := z.ev.lost || !r.1 } }))

/-- STAGE_ENTRY (R52, R165). -/
def execStageEntry (p : Fin 128) (stage : Fin 8) (tid : BitVec 8) (s : State) : Res :=
  if !s.probeRuns p.val then .next s
  else
    let x := s.probe p.val
    let ts := s.probeTs p.val
    let s := s.setProbe p.val { x with ev := { x.ev with stages := setBit x.ev.stages stage.val true } }
    .next ((x.tagged.filter (fun t => t.tag.toNat % 256 = tid.toNat)).foldl (fun s t =>
      let r := s.emitSample p.val t.owner 0x13 ts (clamp 0xFFFFF (x.edge + 1 - t.edge)) [t.tag.toNat + stage.val * 2 ^ 24]
      if r.1 then r.2 else r.2.modProbe p.val (fun z => { z with ev := { z.ev with stageLost := true } })) s)

/-- The RATE_EXCEEDED record of a window with suppressed edges (R170, R179). -/
def State.closeWindow (s : State) (p line : Nat) : State :=
  let x := s.probe p
  let w := tget x.windows line ⟨0, 0, 0⟩
  if w.count = 0 then s
  else (s.setProbe p { x with windows := tset x.windows line { w with count := 0, first := 0 } ⟨0, 0, 0⟩ }).emit
    p x.cfg.edgeOwner 0x0B 1 w.first (line + min 63 w.count * 64) []

/-- EVT_EDGE (R170): an enabled edge is emitted, or suppressed within 63 edges of the last one of its line. -/
def execEvtEdge (p : Fin 128) (line : Fin 64) (rising : Bool) (levels : W64) (s : State) : Res :=
  let x := s.probe p.val
  if !s.probeRuns p.val || x.evt.getLsbD line.val = rising || levels.getLsbD line.val ≠ rising
      || !(if rising then x.cfg.rise else x.cfg.fall).getLsbD line.val then .next s
  else
    let ts := s.probeTs p.val
    let w := tget x.windows line.val ⟨0, 0, 0⟩
    if decide (w.start ≠ 0) && decide (x.edge + 1 ≤ w.start + 63) then
      let w' := { w with count := w.count + 1, first := if w.count = 0 then ts else w.first }
      .next (s.setProbe p.val { x with windows := tset x.windows line.val w' ⟨0, 0, 0⟩, ev := { x.ev with suppressed := x.ev.suppressed + 1 } })
    else
      let s := s.closeWindow p.val line.val
      let s := s.modProbe p.val (fun y => { y with windows := tset y.windows line.val ⟨y.edge + 1, 0, 0⟩ ⟨0, 0, 0⟩ })
      .next (s.emit p.val x.cfg.edgeOwner 0x16 2 ts (line.val + b2n rising * 64) [levels.toNat])

/-- RATE_EXCEEDED (R170): the 64-edge window of a line has ended with suppressed edges. -/
def execRateExceeded (p : Fin 128) (line : Fin 64) (s : State) : Res :=
  let x := s.probe p.val
  let w := tget x.windows line.val ⟨0, 0, 0⟩
  .next (if s.probeLive p.val && decide (w.start + 63 ≤ x.edge) then s.closeWindow p.val line.val else s)

/-- CHARTER_SWITCH (R167, R178): a change of CUR_CHARTER or CUR_PRIV, recorded where enabled. -/
def execCharterSwitch (p : Fin 128) (charter : BitVec 4) (priv : Bool) (s : State) : Res :=
  let x := s.probe p.val
  let new := if priv then 16 else charter.toNat
  let prev := if x.curPriv then 16 else x.curCharter.toNat
  if !s.probeRuns p.val || new = prev then .next s
  else
    let s := s.setProbe p.val { x with curCharter := charter, curPriv := priv }
    .next (if x.cfg.cswitch then s.emit p.val hm 0x07 1 (s.probeTs p.val) (new + prev * 32) [] else s)

/-- One HCLK edge (R138, R139, R147, R154, R160): every enabled counter takes its increment, carries are left for
COUNTER_WRAP, waiting writes and clears land, and the tallies and intervals advance. -/
def Probe.clock (x : Probe) (e : PaiEdge) (units w ts : Nat) : Probe :=
  let incs := (List.range 13).map (fun i => (i, ctrInc x e units w i))
  let raw := fun i => tget x.cnt i 0 + ((incs.find? (fun q => q.1 = i)).map Prod.snd).getD 0
  let wraps := (List.range 13).foldl (fun (a : BitVec 13) i => setBit a i (decide (2 ^ ctrWidth i ≤ raw i))) 0
  let wrote := fun i => decide (tget x.wr i 0 ≠ 0)
  let cnt := (List.range 13).foldl (fun t i =>
    tset t i (if wrote i then tget x.wr i 0 - 1 else raw i % 2 ^ ctrWidth i) 0) []
  let was := (List.range 13).filterMap (fun i => if wrote i then some (i, raw i % 2 ^ ctrWidth i) else none)
  let counts := x.cfg.fixedOwner = hm || (!e.curPriv && decide (e.curCharter.toNat = x.cfg.fixedOwner))
  let tally := fun (t : Tab Nat) (v : BitVec 64) =>
    if x.cfg.enable.getLsbD 0 && counts then
      (List.range 64).foldl (fun t u => if v.getLsbD u then tset t u ((tget t u 0 + 1) % 2 ^ 24) 0 else t) t else t
  let y := { x with
    edge := x.edge + 1, prevEdgeTs := x.lastEdgeTs, lastEdgeTs := ts
    edgeEpoch := x.replica.epoch, edgePart := x.replica.part, edgeSt := x.replica.st, evt := e.evt, curCharter := e.curCharter, curPriv := e.curPriv
    cnt := cnt, carry := x.carry ||| wraps, ovf := x.ovf &&& ~~~x.clr, wasOvf := x.ovf &&& x.clr, was := was, wr := [], clr := 0
    busy := tally x.busy e.busy, stall := tally x.stall e.stall
    tallyEdges := if x.cfg.enable.getLsbD 0 then x.tallyEdges + 1 else x.tallyEdges
    invEdges := x.invEdges + 1, stretch := e.stretch
    inflight := if e.stretch then x.inflight.map (fun f => { f with stretched := true }) else x.inflight
    ev := EdgeEv.zero }
  if (List.range 5).any wrote then y.rebase else y

/-- HCLK_EDGE (R46, R139): the counters advance, the streams show a change of epoch, partition or time state at the edge
(R185), and the counter writes that land answer (R140). -/
def execHclkEdge (p : Fin 128) (e : PaiEdge) (s : State) : Res :=
  .next (if s.probeRuns p.val then
      ((s.modProbe p.val (fun x => x.clock e (s.probeUnits p.val) (s.probeW p.val) (s.probeTs p.val))).paySync p.val (s.probeTs p.val)).settleWrites
    else s)

/-- COUNTER_WRAP (R159): OVF is set, and the record and the interrupt status follow the counter's settings. -/
def execCounterWrap (p : Fin 128) (i : Fin 13) (s : State) : Res :=
  let x := s.probe p.val
  if !x.carry.getLsbD i.val then .next s
  else
    let m := tget x.cfg.pmc (i.val - 5) Pmc.zero
    let o := x.cfg.ownerOf i.val
    let s := s.setProbe p.val { x with carry := setBit x.carry i.val false, ovf := setBit x.ovf i.val true }
    if i.val < 5 then .next s
    else
      let s := if m.ovfRec then s.emit p.val o 0x15 2 x.lastEdgeTs i.val [] else s
      .next (if m.ovfIrq then
          { s with win := { s.win with ovfProbe := tset s.win.ovfProbe o (setBit (tget s.win.ovfProbe o 0) p.val true) 0 } }
        else s)

/-- TALLY_DUMP (R153, R154): the end of a tally interval. -/
def execTallyDump (d : TallyRead) (s : State) : Res :=
  let p := d.p
  let x := s.probe p.val
  if !s.probeLive p.val || !x.cfg.enable.getLsbD 0 || x.tallyEdges < 2 ^ x.tallyCur then .next s
  else
    let s := (s.raiseParity p.val 0 d.bad).emitTallies p.val x.cfg.fixedOwner x.lastEdgeTs 16 x.busy x.stall
    .next (s.modProbe p.val (fun y => { y with busy := [], stall := [], tallyEdges := 0, tallyCur := y.cfg.tallyK }))

/-- SLOT_INVARIANT_CHECK (R152): every 65,536 HCLK edges. -/
def execSlotInvariantCheck (p : Fin 128) (s : State) : Res :=
  let x := s.probe p.val
  if !s.probeLive p.val || x.invEdges < 65536 then .next s
  else .next ((s.setProbe p.val { x with invEdges := 0 }).checkInvariant p.val)

/-- SNAPSHOT_TAKE (R156 to R158): the requests whose edge has come are taken, or merged into the copy in progress. `bad`
names the counters and tallies whose parity is wrong (R153). -/
def execSnapshotTake (p : Fin 128) (bad : ParityBad) (s : State) : Res :=
  let x := s.probe p.val
  let rs := x.snapReq.filter (fun r => x.haltTs.isSome || decide (r.edge < x.edge))
  if !s.probeLive p.val || rs.isEmpty then .next s
  else if !x.copying.isEmpty then
    let old := x.copying
    let s := s.setProbe p.val { x with
      copying := old ++ rs, snapReq := x.snapReq.filter (fun r => !rs.contains r)
      shadow := { x.shadow with merged := true, invariant := x.shadow.invariant || rs.any (fun r => decide (r.trigger = 6)) } }
    let s := rs.foldl (fun s r => match r.win with
      | some o => let v := s.snapWin o; s.setSnapWin o { v with merged := true, snapNo := if v.lowest = p.val then x.shadow.snapNo else v.snapNo }
      | none => s) s
    .next (s.emitGroups p.val old rs)
  else .next ((s.takeSnap p.val rs bad.ctr bad.tal false).checkInvariant p.val)

/-- The copy of a snapshot is out: the owners that triggered it in the window see it (R529). -/
def State.winDone (s : State) (p : Nat) (o : Nat) (no : BitVec 16) : State :=
  let v := s.snapWin o
  if !v.pendingP.getLsbD p then s
  else
    let q := setBit v.pendingP p false
    let s := s.setSnapWin o { v with pendingP := q, pending := decide (q ≠ 0), snapNo := if v.lowest = p then no else v.snapNo }
    if q = 0 then s.setIrq o 4 else s

/-- A copy in progress ends: the probe needs at most 64 CCLK cycles for it, and its shadow stands (R158). -/
def State.endCopy (s : State) (p : Nat) : State :=
  let x := s.probe p
  let s := s.setProbe p { x with copying := [], shadow := { x.shadow with busy := false } }
  x.copying.foldl (fun s r => match r.win with | some o => s.winDone p o x.shadow.snapNo | none => s) s

/-- SNAPSHOT_COPY_DONE (R158, R529, R533). -/
def execSnapshotCopyDone (p : Fin 128) (s : State) : Res :=
  let x := s.probe p.val
  if x.copying.isEmpty then .next s
  else .next (s.endCopy p.val)

/-- PERIODIC_SNAPSHOT (R157): each multiple of the period in CVT. -/
def execPeriodicSnapshot (p : Fin 128) (s : State) : Res :=
  let x := s.probe p.val
  let n := s.probeTs p.val / (4000 * x.cfg.period)
  if !s.probeLive p.val || x.cfg.period = 0 || n = x.lastPeriodic then .next s
  else .next (s.setProbe p.val (({ x with lastPeriodic := n }).request (fun e => ⟨2, false, true, none, none, e⟩)))

/-- FRAME_SYNC_SNAPSHOT (R157): 1 us after the FRAME_SYNC timestamp. -/
def execFrameSyncSnapshot (p : Fin 128) (s : State) : Res :=
  let x := s.probe p.val
  match x.frameSnapAt with
  | none => .next s
  | some t =>
    if !s.probeLive p.val || s.probeTs p.val < t then .next s
    else .next (s.setProbe p.val (({ x with frameSnapAt := none }).request (fun e => ⟨3, false, true, none, none, e⟩)))

/-- CLK_STRETCH_REPORT (R136): the first interval, or one that differs by more than 1/8 from the last report, 64 edges
after it. -/
def execClkStretchReport (p : Fin 128) (s : State) : Res :=
  let x := s.probe p.val
  let d := x.lastEdgeTs - x.prevEdgeTs
  let differs := decide (x.stretchReported < 8 * (max d x.stretchReported - min d x.stretchReported))
  if !s.probeRuns p.val || !x.stretch || d = 0 || (x.stretchReported ≠ 0 && (!differs || x.edge < x.stretchEdge + 64)) then .next s
  else
    let s := s.setProbe p.val { x with stretchReported := d, stretchEdge := x.edge }
    .next ((s.probeOwnersList p.val).foldl (fun s o => s.emit p.val o 0x08 1 x.lastEdgeTs (clamp 0xFFFFF d) []) s)

/-- CLK_STRETCH_END (R136): at deassertion a period of 0. -/
def execClkStretchEnd (p : Fin 128) (s : State) : Res :=
  let x := s.probe p.val
  if !s.probeLive p.val || x.stretch || x.stretchReported = 0 then .next s
  else
    let s := s.setProbe p.val { x with stretchReported := 0 }
    .next ((s.probeOwnersList p.val).foldl (fun s o => s.emit p.val o 0x08 1 (s.probeTs p.val) 0 []) s)

/-- Words 1 and 2 of a record that carries a full CVT (R178). -/
def State.fullTime (s : State) (src ts : Nat) : List Nat := [cvtLo ts, cvtHi ts + (s.stampAt src ts).1.toNat * 2 ^ 32]

/-- CLK_HALT (R53, R137): the full CVT of the last HCLK edge; the probe's streams stop (R101). Writes, clears and snapshots
that wait for an edge apply on TCLK. -/
def execClkHalt (p : Fin 128) (s : State) : Res :=
  let x := s.probe p.val
  if !s.probeRuns p.val then .next s
  else
    let s := (s.probeOwnersList p.val).foldl (fun s o => s.emit p.val o 0x09 1 x.lastEdgeTs 0 (s.fullTime p.val x.lastEdgeTs)) s
    let y := { s.probe p.val with haltTs := some x.lastEdgeTs, wr := [], clr := 0, was := [], wasOvf := 0, ovf := (s.probe p.val).ovf &&& ~~~x.clr }
    let y := x.wr.foldl (fun y e => y.write e.1 (e.2 - 1)) y
    .next ((s.setProbe p.val y).stopStreams p.val).settleWrites

/-- CLK_RESUME (R53, R137): the full CVT of the first HCLK edge after the halt. -/
def execClkResume (p : Fin 128) (s : State) : Res :=
  if !s.probeLive p.val || (s.probe p.val).haltTs.isNone then .next s
  else
    let ts := s.probeTs p.val
    let s := s.modProbe p.val (fun x => { x with haltTs := none })
    .next ((s.probeOwnersList p.val).foldl (fun s o => s.emitBare p.val o 0x0A 1 ts 0 (s.fullTime p.val ts)) s)

/-- What HRST_N and a loss of power clear: every counter, tally, OVF bit, sample and command in flight (R141). -/
def Probe.cleared (x : Probe) : Probe :=
  let y := { x with
    cnt := [], ovf := 0, carry := 0, busy := [], stall := [], tallyEdges := 0, tallyCur := x.cfg.tallyK, inflight := [], tagged := [],
    due := none, layers := [], curLayer := [], wr := [], clr := 0, was := [], wasOvf := 0, windows := [], ev := EdgeEv.zero,
    stretch := false, stretchReported := 0, haltTs := none, refCyc := 0, refSlots := 0, invEdges := 0, snapReq := [] }
  { y with countdown := y.interval }

/-- Samples of a probe's buffer go with its counters. -/
def State.dropSamples (s : State) (p : Nat) : State := s.setQueue p ((s.queue p).filter (fun r => !r.inBuffer p))

/-- HRST_N_ASSERT (R141): the copy in progress is out when the probe leaves HRST_N (log 83). -/
def execHrstNAssert (p : Fin 128) (s : State) : Res :=
  if s.ident.nProbes ≤ p.val || (s.probe p.val).hrst then .next s
  else
    let s := ((s.endCopy p.val).dropSamples p.val).stopStreams p.val
    .next ((s.winSkip p.val (s.probe p.val).snapReq).modProbe p.val (fun x => { x.cleared with hrst := true })).settleWrites

/-- HRST_N_RELEASE (R141): a TIME_SYNC and a group with RESET and all values 0 for each owner of an enabled counter. -/
def execHrstNRelease (p : Fin 128) (s : State) : Res :=
  let x := s.probe p.val
  if s.ident.nProbes ≤ p.val || !x.hrst then .next s
  else
    let ts := s.probeTs p.val
    let r := x.replica
    let s := s.setProbe p.val { x with hrst := false, lastEdgeTs := ts, edgeEpoch := r.epoch, edgePart := r.part, edgeSt := r.st }
    .next (if s.probeLive p.val then s.takeSnap p.val [⟨5, false, true, none, none, 0⟩] 0 0 true else s)

/-- The gap that a switch by the host left shows as a SOURCE_SILENT mark for each stream that was active (R97, R538), at the
latest when the probe reports its power-up (log 84). -/
def State.markCut (s : State) (p : Nat) : State :=
  if (s.probe p).cut then
    ((List.range 17).filter (fun o => (s.stream p o).seen && !(s.stream p o).explained && s.active o)).foldl (fun s o =>
      (s.addMarks (s.unknown o p 5 2 (s.stream p o).lastTs s.ts)).setStream p o { s.stream p o with seen := false }) s
  else s

/-- PROBE_POWER_UP (R23, R538): the probe starts cleared with the restored configuration, and a LOAD is owed (R124); where it
is armed, TCLK runs in SLACK. -/
def execProbePowerUp (p : Fin 128) (s : State) : Res :=
  let x := s.probe p.val
  if s.ident.nProbes ≤ p.val || x.up || !s.probePowered p.val then .next s
  else
    let s := s.markCut p.val
    let y := { x.cleared with up := true, cut := false, lfsr := lfsrSeed x.cfg.seed p.val, replica := { x.replica with loaded := false } }
    let s := s.setProbe p.val y
    let run := decide (s.lk.st = .slack) && s.armed p.val
    .next { s with
      time := { s.time with oweLoad := true }
      clk := { s.clk with tclk := s.clk.tclk || run, stop := s.clk.stop && !run } }

/-- FATAL_IN (R54): the pair reports a fatal input while it asserts. -/
def execFatalIn (p : Fin 128) (pos neg : Bool) (s : State) : Res :=
  let x := s.probe p.val
  if s.ident.nProbes ≤ p.val || pos = neg || !x.up then .next s
  else
    let s := (s.setProbe p.val { x with fatalSeen := pos, railSeen := false }).setPersist 0x101 p.val false
    if pos then .next (if x.fatalSeen then s else (s.raiseFatal 0x100 p.val).setPersist 0x100 p.val true)
    else .next (s.setPersist 0x100 p.val false)

/-- FATAL_RAIL (R54): equal values on the pair for more than 2 ns; `v` is the common level. The pair reports no fatal input
meanwhile, and a later pair 1, 0 is a new one. -/
def execFatalRail (p : Fin 128) (_v : Bool) (s : State) : Res :=
  let x := s.probe p.val
  if s.ident.nProbes ≤ p.val || x.railSeen || !x.up then .next s
  else
    let s := (s.setProbe p.val { x with railSeen := true, fatalSeen := false }).setPersist 0x100 p.val false
    .next ((s.raiseFatal 0x101 p.val).setPersist 0x101 p.val true)

/-- TCLK_LOSS (R476): no TCLK edge for 8 ns at an armed probe. -/
def execTclkLoss (p : Fin 128) (absent : Bool) (s : State) : Res :=
  let x := s.probe p.val
  if s.ident.nProbes ≤ p.val then .next s
  else if absent then
    if x.tclkLost || !s.armed p.val || !x.up then .next s
    else .next (((s.setProbe p.val { x with tclkLost := true }).raiseFixed 0x309 p.val 0).setPersist 0x309 p.val true)
  else .next ((s.setProbe p.val { x with tclkLost := false }).setPersist 0x309 p.val false)

/-- PROBE_OUTPUT_LINK_ERROR (R171): PROBE_FAILED, and the probe is disabled. -/
def execProbeOutputLinkError (p : Fin 128) (s : State) : Res :=
  if s.ident.nProbes ≤ p.val || (s.probe p.val).disabled then .next s
  else .next ((s.disableProbe p.val).raise 0x402 p.val 0).settleWrites

end Sys2Proof.Machine
end

