-- ==== Sys2Proof/Machine/Tick.lean ====
section
/-! DEFINITION. What time does when no command waits (log 1): one TCLK cycle, or one AON_REF cycle while TCLK is
stopped. -/

namespace Sys2Proof.Machine

def clampRat (lo hi x : Rat) : Rat := if x < lo then lo else if hi < x then hi else x

/-- f and s as the hardware clamps them (R105). -/
def TimeU.fHw (t : TimeU) : Rat := clampRat (-(500 / 1000000)) (500 / 1000000) t.f
def TimeU.sHw (t : TimeU) : Rat := clampRat (-(200 / 1000000)) (200 / 1000000) t.sl

def roundRat (x : Rat) : Int := (x + 1 / 2).floor

/-- The increment per TCLK cycle in 2^-40 ns (R105). -/
def TimeU.inc (t : TimeU) : Nat := (roundRat ((2 : Rat) ^ 40 * (1 + t.fHw + t.sHw))).toNat

/-- The coarse increment per AON_REF cycle, with s = 0 (03, Sleep states). -/
def TimeU.coarseInc (t : TimeU) : Nat := (roundRat ((40 : Rat) * 2 ^ 40 * (1 + t.fHw))).toNat

/-- Residency of the block state (R521), one AON_REF cycle. -/
def Clk.aonCycle (c : Clk) (p : Power) : Clk :=
  { c with powered := c.powered + 1, phase := 0, resTime := tset c.resTime p.code (tget c.resTime p.code 0 + 1) 0 }

/-- A replica whose increment is wrong drifts from the master (R122). -/
def driftReplicas (ps : Tab Probe) : Tab Probe :=
  ps.map (fun e => (e.1, { e.2 with replica := { e.2.replica with skew := e.2.replica.skew + e.2.replica.rate } }))

/-- THR_LEVEL moves one level towards the one the envelope asks for, at most once in two AON_REF cycles (R83). -/
def Io.thrStep (io : Io) (level now : Nat) : Io :=
  if io.thr = level || now < io.thrAt + 2 then io
  else { io with thr := if io.thr < level then io.thr + 1 else io.thr - 1, thrAt := now }

/-- The ports as a cycle passes, `edge` saying that it ends at an AON_REF edge: the response of the host target port is over
(R66), and THR_LEVEL may step (R83). -/
def Io.cycle (io : Io) (edge : Bool) (level now : Nat) : Io :=
  let io := { io with rspVld := false }
  if edge then io.thrStep level now else io

/-- The block with no command waiting: nothing runs while PORST_N is low. At an AON_REF edge TCLK stops where the block has
gone to sleep (R126). -/
def tick (s : State) : State :=
  if s.dev.phase = .held then s
  else if s.clk.tclk then
    let t := { s.time with cvt := s.time.cvt + s.time.incOn, slewed := s.time.slewed + s.time.slOn, sinceCheck := s.time.sinceCheck + 1 }
    { s with time := t, probes := driftReplicas s.probes, io := s.io.cycle (40 ≤ s.clk.phase + 1) s.env.thr s.clk.powered,
             clk := if s.clk.phase + 1 < 40 then { s.clk with phase := s.clk.phase + 1 }
                    else if s.clk.stop then { s.clk.aonCycle s.lk.st with tclk := false, stop := false }
                    else s.clk.aonCycle s.lk.st }
  else
    { s with io := s.io.cycle true s.env.thr s.clk.powered, time := { s.time with cvt := s.time.cvt + s.time.coarseInc }, clk := s.clk.aonCycle s.lk.st }

end Sys2Proof.Machine
end

