-- ==== Sys2Proof/Machine/Time.lean ====
section
/-! DEFINITION. Convoy Time (03): the time packets 0x60 to 0x63, the time input and its servo, step edges, and the TSYNC
frames. Offsets are in qt (0.25 ns). -/

namespace Sys2Proof.Machine

/-! ## States -/

/-- The state the chip reports, its partition or its epoch has changed: a STATUS is owed (R124) and block streams show it
(R185). -/
def State.showState (s : State) : State := ({ s with time := { s.time with oweStatus := true } }).syncOf blockSources

/-- The time state changes: the change shows where the reported state changes with it (R119), and DETACHED is raised
(R113). -/
def State.setTState (s : State) (st : TState) : State :=
  if s.time.st = st then s
  else
    let old := s.tstate
    let s := { s with time := { s.time with st := st, agree := [], lockRun := 0, farRuns := 0 } }
    let s := if st = .detached then (s.raise 0x301 0 0).setPersist 0x301 0 true else s.setPersist 0x301 0 false
    if s.tstate = old then s else s.showState

/-- f or s changes: a RATE is owed when the increment does (R124). -/
def State.setRate (s : State) (f sl : Rat) : State :=
  let t := { s.time with f := f, sl := sl }
  { s with time := { t with oweRate := decide (t.inc ≠ t.incOn) || decide (t.sHw ≠ t.slOn) } }

/-- HOLDOVER: f held, s = 0, the bound grows from the bound at entry (R118, R120). -/
def State.enterHoldover (s : State) : State :=
  let s := { s with time := { s.time with holdBound := s.boundNow, holdAt := s.now } }
  (s.setRate s.time.f 0).setTState .holdover

/-! ## The servo (R108 to R118) -/

def qtNs (n : Nat) : Int := 4 * n
def qMs1 : Int := 4000000
def qMs10 : Int := 40000000

/-- The mean of offsets in qt, to the nearest with ties away from zero (R110). -/
def meanQt (ds : List Int) : Int := roundInt .rna ((ds.sum : Rat) / ((ds.length : Nat) : Rat))

/-- All within 1 us of one another. -/
def agreeing (ds : List Int) : Bool := ds.all (fun a => ds.all (fun b => decide (a - b ≤ qtNs 1000)))

/-- The bound of an offset in qt, rounded up (R120). -/
def boundOf (d : Rat) : BitVec 22 := BitVec.ofNat 22 (min 0x3FFFFF (ratAbs d).ceil.toNat)

/-- Samples of at most 100 ns (400 qt) in a row, with one more (R118). -/
def TimeU.lockNext (t : TimeU) (d : Rat) : Nat := if ratAbs d ≤ 400 then t.lockRun + 1 else 0

/-- The PI loop on one accepted offset in qt: `ns` the servo period in ns (R108, R109). -/
def State.pi (s : State) (d : Rat) (slew : Rat) (ns : Rat) : State :=
  let t := s.time
  let dn : Rat := d / 4
  let i := t.integral + fp32Rat t.ki * dn
  let f := t.f + i / ns
  let s := { s with time := { t with integral := i, dLast := some (d, slew), bound := boundOf d } }
  let s := s.setRate (clampRat (-(500 / 1000000)) (500 / 1000000) f) (fp32Rat t.kp * dn / ns)
  if s.time.st = .slewing then
    let n := s.time.lockNext d
    let s := { s with time := { s.time with lockRun := n } }
    if 16 ≤ n then s.setTState .locked else s
  else s

/-- The servo asked for an f outside the clamp (R105). -/
def State.piClamps (s : State) (d : Rat) (ns : Rat) : Bool :=
  let f := s.time.f + (s.time.integral + fp32Rat s.time.ki * (d / 4)) / ns
  decide (f < -(500 / 1000000)) || decide (500 / 1000000 < f)

/-- A slew by an offset (R111): the state is SLEWING; the PI loop closes the rest. -/
def State.slewBy (s : State) (d : Rat) (slew ns : Rat) : State :=
  let s := s.setRate s.time.f (fp32Rat s.time.kp * (d / 4) / ns)
  let s := { s with time := { s.time with dLast := some (d, slew), agree := [], bound := boundOf d, lockRun := s.time.lockNext d } }
  s.setTState .slewing

/-- No epoch can start any more: EPOCH_EXHAUSTED (R104). -/
def State.exhaust (s : State) : State :=
  if s.time.exhausted then s
  else (({ s with time := { s.time with exhausted := true } }).raise 0x308 0 0).setPersist 0x308 0 true

/-- CVT runs free on f with s = 0 in the state DETACHED (R111); at epoch 0xFFFF until the next PORST_N (R104). -/
def State.detach (s : State) : State :=
  let s := if s.time.epoch = 0xFFFF then ({ s with time := { s.time with stuck := true } }).exhaust else s
  let s := s.setRate s.time.f 0
  ({ s with time := { s.time with dLast := none } }).setTState .detached

/-- A step decided (R116): a second one before the edge adds to the first (R117). No epoch starts at 0xFFFF: a forward jump
is slewed, a backward one beyond the slew limit leaves DETACHED (R104). -/
def State.decideStep (s : State) (d : Int) (slew : Rat) (cause : Nat) (re : Bool) (ns : Rat) : State :=
  if s.time.epoch = 0xFFFF then
    let s := s.exhaust
    let s := if re then
        match s.time.reanchor with
        | some (slot, seq) => ({ s with time := { s.time with reanchor := none, reanchorLatched := false } }).complete 0x62 hm seq slot .exhausted [0, 0]
        | none => s
      else s
    if -qMs10 ≤ d then s.slewBy d slew ns else s.detach
  else
    let req := match s.time.step with
      | some r => { r with d := r.d + d }
      | none => ⟨d, cause, s.time.epoch.toNat + 1, s.now⟩
    let s := { s with time := { s.time with
      step := some req, reanchorStep := s.time.reanchorStep || s.time.reanchor.isSome, dLast := some (0, slew), agree := [],
      lockRun := 0, bound := boundOf d } }
    s.setTState .slewing

/-- A jump of offset d (R111, R118). -/
def State.jump (s : State) (d : Int) (slew ns : Rat) : State :=
  if qMs1 < d then s.decideStep d slew 0 false ns
  else if -qMs10 ≤ d then s.slewBy d slew ns
  else s.detach

/-- One sample of a servo run in DETACHED (R112, R114). The offset of a slew or step on three agreeing samples is open: it is
their mean, as for the jump of R110 (DEDUCED, log 73). -/
def State.detachedSample (s : State) (x : Sample) (d : Int) (ns : Rat) : State :=
  if s.time.stuck then s
  else if s.time.epoch = 0 && s.time.step.isNone then s.decideStep d x.slew 2 false ns
  else if x.step && decide (qMs1 < d) then s.decideStep d x.slew 0 false ns
  else
    let l := s.time.agree ++ [d]
    let l := l.drop (l.length - 3)
    let s := { s with time := { s.time with agree := l } }
    if l.length < 3 || !agreeing l then s
    else if l.all (fun a => decide (qMs1 < a)) then s.decideStep (meanQt l) x.slew 0 false ns
    else if l.all (fun a => decide (-qMs10 ≤ a) && decide (a ≤ qMs1)) then s.slewBy (meanQt l) x.slew ns
    else s

/-- One sample of a servo run: `re` the sample latched for a re-anchor, `adj` the step already decided in this run (R109).
The flag tells whether f was held at the clamp. -/
def State.servoSample (a : State × Bool) (x : Sample) (re : Bool) (ns : Rat) : State × Bool :=
  let s := a.1
  let adj := match s.time.step with | some r => r.d | none => 0
  let d : Int := ((x.sec.toNat * 1000000000 + x.ns.toNat : Nat) : Int) * 4 - x.cap - adj
  if re then (s.decideStep d x.slew 1 true ns, a.2)
  else match s.time.st with
  | .detached => (s.detachedSample x d ns, a.2)
  | .holdover => ((({ s with time := { s.time with inputLost := false } }).setPersist 0x303 0 false).jump d x.slew ns, a.2)
  | st =>
    if x.step then (s.jump d x.slew ns, a.2)
    else
      let out : Bool := match s.time.dLast with
        | some (dl, sl) => st = .locked && decide ((400000 : Rat) < ratAbs ((d : Rat) - (dl - 4 * (x.slew - sl))))
        | none => false
      if out then
        let l := s.time.agree ++ [d]
        let l := l.drop (l.length - 3)
        if l.length = 3 && agreeing l then (s.jump (meanQt l) x.slew ns, a.2)
        else ({ s with time := { s.time with agree := l } }, a.2)
      else (({ s with time := { s.time with agree := [] } }).pi d x.slew ns, a.2 || s.piClamps d ns)

/-- The mapping record of the latest sample (R113, R178). -/
def State.emitMapping (s : State) (x : Sample) : State :=
  let ts := x.cap.toNat
  s.emit 134 hm 1 1 ts (s.tstate.code + s.time.part.toNat * 8 + 32)
    [cvtLo ts, cvtHi ts + s.time.epoch.toNat * 2 ^ 32, x.ns.toNat + x.sec.toNat % 2 ^ 34 * 2 ^ 30]

/-- The samples of a servo run in their order: the latch first, then the ring without what precedes it (R109). -/
def TimeU.batch (t : TimeU) : List (Sample × Bool) :=
  match t.latch with
  | some l => (l, t.reanchorLatched) :: (t.ring.filter (fun x => decide (l.no < x.no))).map (fun x => (x, false))
  | none => t.ring.map (fun x => (x, false))

/-- The Keeper runs the servo: not asleep, and its firmware is running. -/
def State.keeperRuns (s : State) : Bool := s.dev.ready && !s.dev.restarting && !s.asleep

/-- While DETACHED the mapping of the latest sample leaves at every servo run (R113). -/
def State.mapDetached (s : State) : State :=
  if s.time.st = .detached then (match s.time.lastSample with | some x => s.emitMapping x | none => s) else s

/-- The samples of a servo period; a clamp of f raises TIME_FREQ_RANGE once per run (R105). -/
def State.servoBatch (s : State) (b : List (Sample × Bool)) (ns : Rat) : State :=
  let r := b.foldl (fun a x => State.servoSample a x.1 x.2 ns) (s, false)
  if r.2 then r.1.raise 0x300 0 0 else r.1

/-- Two servo runs in a row with an offset beyond 1 us end LOCKED (R118). -/
def State.servoFar (s : State) (b : List (Sample × Bool)) : State :=
  if b.isEmpty || s.time.st ≠ .locked then s
  else
    let far : Bool := match s.time.dLast with | some (d, _) => decide (4000 < ratAbs d) | none => false
    let n : Nat := if far || !s.time.agree.isEmpty then s.time.farRuns + 1 else 0
    let s := { s with time := { s.time with farRuns := n } }
    if 2 ≤ n then s.setTState .slewing else s

/-- No chip with a lead to follow is heard of (R113). -/
def State.leadGone (s : State) : Bool := match s.leadSlot with | some j => decide ((s.peer j).active = 0) | none => true

/-- SERVO_RUN (R108 to R118), once per servo period. -/
def execServoRun (s : State) : Res :=
  if !s.keeperRuns || s.now < s.time.lastServoAt + s.time.period * 1000 then .next s
  else
    let b := s.time.batch
    let s := { s with time := { s.time with lastServoAt := s.now, ring := [], latch := none } }
    if s.ident.chip ≠ (0 : BitVec 2) then .next (if s.leadGone then s.mapDetached else s)
    else .next ((s.servoBatch b ((s.time.period * 1000 : Nat) : Rat)).servoFar b).mapDetached

/-- TIN_SAMPLE (R75, R106, R109): capture, the ring of 8, and the step latch. -/
def execTinSample (sec : BitVec 48) (ns : BitVec 30) (step : Bool) (phase : BitVec 2) (s : State) : Res :=
  let t := s.time
  let x : Sample := ⟨(s.capture phase : Nat), sec, ns, step, t.edges + 1, t.slewed⟩
  let ring := t.ring ++ [x]
  let re := t.latch.isNone && t.reanchor.isSome && !t.reanchorLatched && !t.reanchorStep
  .next { s with time := { t with
    ring := ring.drop (ring.length - 8), edges := t.edges + 1, lastTinAt := s.now, lastSample := some x
    latch := match t.latch with | some l => some l | none => if re || step then some x else none
    reanchorLatched := t.reanchorLatched || re } }

/-- PPS_EDGE (R115): compared with the nearest whole second of CVT while LOCKED. -/
def execPpsEdge (phase : BitVec 2) (s : State) : Res :=
  let r := s.capture phase % 4000000000
  let d := if r ≤ 2000000000 then r else 4000000000 - r
  .next (if s.time.st = .locked && decide (4000 < d) then s.raise 0x302 0 (d / 4) else s)

/-- TIME_INPUT_LOST (R118, R126): 250 ms without a valid edge on the lead; asleep, the state changes at the next wake. -/
def execTimeInputLost (s : State) : Res :=
  if s.ident.chip ≠ 0 || s.time.inputLost || s.now < s.time.lastTinAt + 250000000
      || !(s.time.st = .locked || s.time.st = .slewing) then .next s
  else
    let s := (({ s with time := { s.time with inputLost := true } }).raise 0x303 0 0).setPersist 0x303 0 true
    .next (if s.asleep then s else s.enterHoldover)

/-! ## The step edge (R116) -/

/-- CVT moves by d qt at a step edge: the epoch advances, s := 0, captures of the old CVT are read against the new, the
offset that the step removes is 0 (R120), every active stream of the block emits its TIME_SYNC (R116 step 6), and the time
unit emits EPOCH, a record of the new epoch, behind its own. The increment without the slew term needs a RATE (R124). -/
def State.stepCvt (s : State) (d : Int) (epoch : BitVec 16) (cause : Nat) : State :=
  let was := s.ts
  let old := s.time.epoch
  let t : TimeU := s.time
  let t : TimeU := { t with
    cvt := ((t.cvt : Int) + d * (qtUnit : Int)).toNat, epoch := epoch, sl := 0, slOn := 0, step := none, oweLoad := true, oweStatus := false
    bound := if t.st = .slewing then 0 else t.bound
    ring := t.ring.map (fun x => { x with cap := x.cap + d }), latch := t.latch.map (fun x => { x with cap := x.cap + d })
    lastSample := t.lastSample.map (fun x => { x with cap := x.cap + d }) }
  let gap : Int := (t.incOn : Int) - (t.inc : Int)
  let t : TimeU := { t with oweRate := decide (t.inc ≠ t.incOn), incOn := t.inc }
  let lag := fun (r : Replica) => { r with skew := r.skew - d * (qtUnit : Int), rate := r.rate + gap }
  let s : State := { s with time := t, probes := s.probes.map (fun (e : Nat × Probe) => (e.1, { e.2 with replica := lag e.2.replica })) }
  let s := (List.range s.ident.nProbes).foldl (fun s p =>
    if (s.probes.any (fun e => e.1 = p)) then s else s.modProbe p (fun x => { x with replica := lag x.replica })) s
  let ts := s.ts
  ((s.retime was).syncOf blockSources).emit 134 hm 2 1 ts (cause + s.time.part.toNat * 8)
    [cvtLo ts, cvtHi ts + s.time.epoch.toNat * 2 ^ 32 + old.toNat * 2 ^ 48, unsgn 64 d]

/-- STEP_EDGE (R116): 200 ns after the request. A pending re-anchor completes with the step (R109, R401); held actions of
the old epoch fall due (R391, INSTANT_ACTION_DUE). -/
def execStepEdge (s : State) : Res :=
  match s.time.step with
  | none => .next s
  | some r =>
    if s.now < r.reqAt + 200 then .next s
    else
      let s := s.stepCvt r.d (s.time.epoch + 1) r.cause
      .next (match s.time.reanchor with
        | some (slot, seq) =>
          if s.time.reanchorStep then
            ({ s with time := { s.time with reanchor := none, reanchorLatched := false, reanchorStep := false } }).complete 0x62 hm seq slot .ok
              (cvtWords s.cvt96 ++ [s.time.epoch.toNat])
          else s
        | none => s)

/-! ## TSYNC frames (R122 to R125) -/

/-- The bits of a frame before its CRC field, as a number, bit 0 sent first (R122): LOAD and CHECK, RATE, STATUS. -/
def State.loadBits (s : State) (type : Nat) : Nat :=
  type + s.time.epoch.toNat * 2 ^ 8 + s.time.part.toNat * 2 ^ 24 + s.tstate.code * 2 ^ 26 + s.cvt96 * 2 ^ 32

def State.rateBits (s : State) : Nat := 2 + s.time.incOn * 2 ^ 8

def State.statusBits (s : State) : Nat :=
  3 + s.time.epoch.toNat * 2 ^ 8 + s.time.part.toNat * 2 ^ 24 + s.tstate.code * 2 ^ 26

/-- A frame as sent: n bits and its CRC. -/
def frameOf (n body : Nat) : Nat := body + crc16 n body * 2 ^ n

/-- The bits before the CRC field as a replica takes them, or none when the frame, n + 16 bits, fails its CRC (R122, R125).
`flip` are the bits that the route inverted. -/
def received (n body flip : Nat) : Option Nat :=
  let flip := flip % 2 ^ (n + 16)
  if flip = 0 then some body
  else
    let rx := frameOf n body ^^^ flip
    if crc16 n (rx % 2 ^ n) = rx / 2 ^ n then some (rx % 2 ^ n) else none

/-- Probes that a frame reaches. -/
def State.replicas (s : State) : List Nat := (List.range s.ident.nProbes).filter (fun p => (s.probe p).up)

/-- A frame with a CRC error is discarded; the third in a row raises TSYNC_ERROR (R125). -/
def State.badFrame (s : State) (p : Nat) : State :=
  let x := s.probe p
  if 2 ≤ x.replica.crcRun then (s.setProbe p { x with replica := { x.replica with crcRun := 0 } }).raise 0x304 p 0
  else s.setProbe p { x with replica := { x.replica with crcRun := x.replica.crcRun + 1 } }

/-- A frame goes to every replica: what each does with the bits it takes. -/
def State.broadcast (s : State) (n body : Nat) (flips : Tab Nat) (take : State → Nat → Nat → State) : State :=
  s.replicas.foldl (fun s p => match received n body (tget flips p 0) with
    | some rx => take (s.modProbe p (fun x => { x with replica := { x.replica with crcRun := 0 } })) p rx
    | none => s.badFrame p) s

/-- The epoch, partition and state fields of a frame enter a replica; a change shows in its streams (R185). -/
def State.takeFields (s : State) (p rx : Nat) : State :=
  let x := s.probe p
  let r := x.replica
  let n := { r with epoch := BitVec.ofNat 16 (bits rx 8 16), part := BitVec.ofNat 2 (bits rx 24 2), st := TState.ofCode (bits rx 26 3) }
  let s := s.setProbe p { x with replica := n }
  if r.epoch = n.epoch && r.part = n.part && r.st = n.st then s else s.oweSync p

/-- The CVT field of a LOAD or CHECK enters a replica; the bits below 2^-16 ns, which the frame does not carry, are the
master's (DESIGN CHOICE, log 75). -/
def State.takeCvt (s : State) (p rx : Nat) : State :=
  s.modProbe p (fun x => { x with replica := { x.replica with skew := (fineOf96 (bits rx 32 96) : Int) - (fineOf96 s.cvt96 : Int) } })

/-- TSYNC_LOAD (R123, R124): every replica takes CVT, epoch, partition and state at the apply edge; a probe captures from its
first LOAD on. -/
def execTsyncLoad (flips : Tab Nat) (s : State) : Res :=
  if !s.time.oweLoad || !s.clk.tclk then .next s
  else
    let s := { s with time := { s.time with oweLoad := false } }
    .next (s.broadcast 128 (s.loadBits 1) flips (fun s p rx =>
      ((s.takeCvt p rx).takeFields p rx).modProbe p (fun x => { x with replica := { x.replica with loaded := true } })))

/-- TSYNC_RATE (R124): the increment changes at the apply edge, in the master and in every replica that takes the frame; at
most one a us. -/
def execTsyncRate (flips : Tab Nat) (s : State) : Res :=
  if !s.time.oweRate || !s.clk.tclk || s.time.lastRateAt.any (fun t => decide (s.now < t + 1000)) then .next s
  else
    let gap : Int := (s.time.incOn : Int) - (s.time.inc : Int)
    let s := { s with time := { s.time with oweRate := false, incOn := s.time.inc, slOn := s.time.sHw, lastRateAt := some s.now }
                      probes := s.probes.map (fun (e : Nat × Probe) => (e.1, { e.2 with replica := { e.2.replica with rate := e.2.replica.rate + gap } })) }
    let s := s.replicas.foldl (fun s p =>
      if s.probes.any (fun e => e.1 = p) then s else s.modProbe p (fun x => { x with replica := { x.replica with rate := gap } })) s
    .next (s.broadcast 64 s.rateBits flips (fun s p rx =>
      s.modProbe p (fun x => { x with replica := { x.replica with rate := (bits rx 8 48 : Int) - (s.time.incOn : Int) } })))

/-- TSYNC_STATUS (R124): epoch, partition and state. -/
def execTsyncStatus (flips : Tab Nat) (s : State) : Res :=
  if !s.time.oweStatus || !s.clk.tclk then .next s
  else
    let s := { s with time := { s.time with oweStatus := false } }
    .next (s.broadcast 32 s.statusBits flips State.takeFields)

/-- A replica's CVT as a 96-bit value of R98. -/
def State.replicaCvt (s : State) (p : Nat) : Nat :=
  ({ s with time := { s.time with cvt := ((s.time.cvt : Int) + (s.probe p).replica.skew).toNat } } : State).cvt96

/-- A CHECK agrees with a replica in every bit of cvt, epoch, partition and state (R125). -/
def State.agrees (s : State) (p rx : Nat) : Bool :=
  let r := (s.probe p).replica
  decide (s.replicaCvt p = bits rx 32 96) && decide (r.epoch.toNat = bits rx 8 16) && decide (r.part.toNat = bits rx 24 2)
    && decide (r.st.code = bits rx 26 3)

/-- TSYNC_CHECK (R124, R125): every 65,536 TCLK cycles; a replica that differs loads the values and is raised. -/
def execTsyncCheck (flips : Tab Nat) (s : State) : Res :=
  if s.time.sinceCheck < 65536 || !s.clk.tclk then .next s
  else
    let s := { s with time := { s.time with sinceCheck := 0 } }
    .next (s.broadcast 128 (s.loadBits 4) flips (fun s p rx =>
      if s.agrees p rx then s else ((s.takeCvt p rx).takeFields p rx).raise 0x305 p 0))

/-- TIME_SYNC_DUE (R101): every 262 us (1,048,000 qt) of an active stream; a stream with no record since goes idle. -/
def execTimeSyncDue (s : State) : Res :=
  .next ((List.range 139).foldl (fun s src =>
    let ts := if src < 128 then s.probeTs src else s.ts
    if src < 128 && ((s.probe src).haltTs.isSome || !s.probeLive src) then s
    else (s.activeOwners src).foldl (fun s o =>
      let x := s.stream src o
      if x.lastSync + 1048000 ≤ ts then s.emitSync src o ts x.resync (decide (x.since = 0)) else s) s) s)

/-! ## Packets -/

def specTimeStatus : OpSpec := { op := 0x60, priv := .any, len := exactly 0 }

/-- Active lanes as 2-bit fields (R401, R520). -/
def State.laneBits (s : State) : Nat := (List.range 3).foldl (fun a j => a + (s.peer j).active * 4 ^ j) 0

/-- TIME_STATUS (R401). -/
def bodyTimeStatus (_ : Pkt) (_ : Nat) (s : State) : Verdict :=
  .done .ok ([s.tstate.code + s.time.part.toNat * 8 + s.time.epoch.toNat * 2 ^ 16, s.boundNow] ++ cvtWords s.cvt96 ++
    [unsgn 32 (roundInt .rne (s.time.f * 1000000000000)), s.laneBits]) s

def execTimeStatus (pk : Pkt) (s : State) : Res := .next (launch specTimeStatus bodyTimeStatus pk s)

def specServoSet : OpSpec := { op := 0x61, priv := .hmOnly, len := exactly 3 }

/-- An FP32 gain above 0 and at most m. -/
def gainOk (w : W32) (m : Rat) : Bool := match fp32Rat? w with | some q => decide (0 < q) && decide (q ≤ m) | none => false

/-- SERVO_SET (R108, R401). -/
def bodyServoSet (pk : Pkt) (_ : Nat) (s : State) : Verdict :=
  let per := (pk.p 1).toNat
  chk (decide (per < 1000) || decide (1000000 < per)) .badParam 1 <| chk (!gainOk (pk.p 2) 1) .badParam 2 <|
  chk (!gainOk (pk.p 3) (1 / 2)) .badParam 3 <|
  .done .ok [] { s with time := { s.time with period := per, kp := pk.p 2, ki := pk.p 3 } }

def execServoSet (pk : Pkt) (s : State) : Res := .next (launch specServoSet bodyServoSet pk s)

def specReanchor : OpSpec := { op := 0x62, priv := .hmOnly, len := exactly 0, long := true }

/-- REANCHOR (R112, R401): pending until a sample is latched for it; a second one while one is pending is BUSY (log 21). -/
def bodyReanchor (pk : Pkt) (slot : Nat) (s : State) : Verdict :=
  chk (decide (s.ident.chip ≠ 0) || decide (s.time.st ≠ .detached)) .badParam 0 <|
  chk (decide (s.time.epoch = 0xFFFF)) .exhausted 0 <|
  chk s.time.reanchor.isSome .busy 0 <|
  .accept [] { s with time := { s.time with reanchor := some (slot, pk.seq), reanchorLatched := false, reanchorStep := s.time.step.isSome } }

def execReanchor (pk : Pkt) (s : State) : Res := .next (launch specReanchor bodyReanchor pk s)

def State.modLane (s : State) (j : Nat) (b : Bool) (f : Lane → Lane) : State :=
  s.modPeer j (fun p => if b then { p with b := f p.b } else { p with a := f p.a })

def specLaneAsym : OpSpec := { op := 0x63, priv := .hmOnly, len := exactly 2 }

/-- LANE_ASYM (R130, R401). -/
def bodyLaneAsym (pk : Pkt) (_ : Nat) (s : State) : Verdict :=
  let w := pk.p 1
  let j := fld w 0 2
  let b := flag w 2
  let v := if flag w 5 then none else some (sgn 32 (pk.p 2).toNat)
  chk (decide (2 < j)) .badParam 1 <|
  let s := { s with convoy := { s.convoy with noAuto := flag w 4 } }
  let s := s.modLane j b (fun l => { l with asym := v, sum := 0, count := 0, measFrom := none })
  .done .ok [] (if flag w 3 then s.lbWrite (fun l => { l with asym := tset l.asym (2 * j + b2n b) v none }) else s)

def execLaneAsym (pk : Pkt) (s : State) : Res := .next (launch specLaneAsym bodyLaneAsym pk s)

end Sys2Proof.Machine
end

