-- ==== Sys2Proof/Machine/Convoy.lean ====
section
/-! DEFINITION. The Convoy link (03 R127 to R134, 12 R423 to R430). In each pair the chip with the lower index sends SYNC
and SYNC_RSP and the other answers SYNC_ACK; a message row is its sending at one end and its reception at the other
(log 22). The link hardware stands in the switched island of D0 and works in UNDERWAY only (R43, R44, R345). -/

namespace Sys2Proof.Machine

def Peer.lane (p : Peer) (b : Bool) : Lane := if b then p.b else p.a

/-- The chip index of a peer slot (R77). -/
def State.peerChip (s : State) (j : Nat) : Nat := if j < s.ident.chip.toNat then j else j + 1

/-- This chip sends SYNC to the peer. -/
def State.sender (s : State) (j : Nat) : Bool := decide (s.ident.chip.toNat < s.peerChip j)

/-- The lane is wired (R518). -/
def State.connected (s : State) (j : Nat) (b : Bool) : Bool := s.ident.lanes.getLsbD (2 * j + b2n b)

/-- The lane carries protected frames: SEALED, or GUARDED with a CURRENT key (R424). -/
def State.linkOpen (s : State) (j : Nat) : Bool := (s.peer j).sealMode || (s.linkKey j false).isSome

/-! ## Lanes going up and down (R129, R132) -/

/-- The active lane of a pair: 0 none, 1 A, 2 B; a measurement in progress ends with the change (R130). -/
def State.setActive (s : State) (j a : Nat) : State :=
  s.modPeer j (fun p => { p with active := a, a := { p.a with sum := 0, count := 0, measFrom := none },
                                 b := { p.b with sum := 0, count := 0, measFrom := none } })

/-- UNCERTAIN with a bound of half the round trip (R120, R129). -/
def State.beUncertain (s : State) (rtt : Rat) : State :=
  ({ s with time := { s.time with bound := boundOf (rtt * 2) } }).setTState .uncertain

/-- After a change of the active lane, a follower is UNCERTAIN on a lane without a constant, and leaves UNCERTAIN on one
with a constant (R118, R129, R130). -/
def State.checkLane (s : State) (j : Nat) : State :=
  let p := s.peer j
  if s.leadSlot ≠ some j || p.active = 0 then s
  else if (p.lane (decide (p.active = 2))).asym.isNone then
    if s.time.st = .detached || s.time.st = .holdover then s else s.beUncertain (p.lane (decide (p.active = 2))).rtt
  else if s.time.st = .uncertain then s.setTState .slewing else s

/-- Both lanes of a pair are down: CONVOY_SPLIT, and a follower that lost its lead holds over (R118, R132). A peer announced
asleep is not lost (R131). -/
def State.loseLink (s : State) (j : Nat) : State :=
  let p := s.peer j
  if p.asleep.isSome || !(p.a.everUp || p.b.everUp) then s
  else
    let s := (s.raise 0x307 j 0).setPersist 0x307 j true
    if s.leadSlot = some j then
      ({ s with convoy := { s.convoy with split := true } }).enterHoldover
    else s

/-- A lane goes down (R129). CONVOY_LANE_SWITCH is raised when lane B takes over from lane A; its unit names the lane that
becomes active (log 22). -/
def State.laneDown (s : State) (j : Nat) (b : Bool) : State :=
  let s := s.modLane j b (fun l => { l with up := false, fails := 0, opened := false })
  let p := s.peer j
  let me := if b then 2 else 1
  if p.active ≠ me then s
  else if (p.lane !b).up then
    let s := s.setActive j (if b then 1 else 2)
    (if b then s else s.raise 0x306 (2 * j + 1) 0).checkLane j
  else (s.setActive j 0).loseLink j

/-- An exchange of a lane fails; the third in a row takes it down (R129). The silence of a peer announced asleep is no
failure (R131). -/
def State.failExchange (s : State) (j : Nat) (b : Bool) : State :=
  let l := (s.peer j).lane b
  if !l.up || (s.peer j).asleep.isSome then s
  else if 2 ≤ l.fails then s.laneDown j b
  else s.modLane j b (fun l => { l with fails := l.fails + 1, opened := false })

/-- CONVOY_EXCHANGE_FAIL (R129). -/
def execConvoyExchangeFail (peer : Fin 3) (lane : Bool) (s : State) : Res :=
  .next (if s.fastClocks then s.failExchange peer.val lane else s)

/-- LANE_A_RESTORE (R129): lane A has stayed up for 1 s while lane B is active. -/
def execLaneARestore (peer : Fin 3) (s : State) : Res :=
  let p := s.peer peer.val
  .next (if s.fastClocks && p.active = 2 && p.a.up && decide (p.a.upAt + 1000000000 ≤ s.now) then
      (s.setActive peer.val 1).checkLane peer.val else s)

/-- A lane that came up becomes active where none is, or where lane A comes up in the same exchange as lane B (R129). -/
def State.takeLane (s : State) (j : Nat) (lane : Bool) : State :=
  let q := s.peer j
  if q.active = 0 then s.setActive j (if lane then 2 else 1)
  else if !lane && q.active = 2 && decide (q.b.upAt / 125000 = s.now / 125000) then s.setActive j 1
  else s

/-- HELLO (R424, R428): the lane comes up when both ends name the same mode and, for SEALED, the same housing ID. -/
def execHello (peer : Fin 3) (lane : Bool) (chip : BitVec 2) (sealedMode : Bool) (housing : BitVec 32) (s : State) : Res :=
  let j := peer.val
  let mine := setHousing s.dev.settings
  if !s.fastClocks || !s.connected j lane || chip.toNat ≠ s.peerChip j then .next s
  else
    let p := { s.peer j with hello := some (sealedMode, housing) }
    let s := s.setPeer j p
    let same := p.sealMode == sealedMode && (!sealedMode || (decide (mine ≠ 0) && decide (housing.toNat = mine)))
    let unit := 2 * j + b2n lane
    if !same then
      let s := if (p.lane lane).up then s.laneDown j lane else s
      .next ((s.raise 0xA04 unit 0).setPersist 0xA04 unit true)
    else
      let s := s.setPersist 0xA04 unit false
      if !s.linkOpen j || (p.lane lane).up || (p.lane lane).stopped then .next s
      else
        let s := s.modLane j lane (fun l => { l with up := true, everUp := true, fails := 0, upAt := s.now, sum := 0, count := 0, measFrom := none })
        let s := s.takeLane j lane
        .next (if s.leadSlot = some j then s.checkLane j
          else if s.persisting 0x307 j then s.setPersist 0x307 j false else s)

/-! ## Frames (R425, R426, R429) -/

/-- NEXT becomes CURRENT when a frame was both sent and accepted under it; the old key is zeroised and the counters restart
(R429). -/
def State.switchKey (s : State) (j : Nat) : State :=
  let p := s.peer j
  if !(p.sentNext && p.gotNext) then s
  else
    let s := match s.linkKey j false with | some (i, _) => s.setKeySlot i KeySlot.zero | none => s
    let s := match s.linkKey j true with | some (i, k) => s.setKeySlot i { k with st := .current } | none => s
    s.setPeer j { p with sentNext := false, gotNext := false,
                         a := { p.a with tx := p.a.txNext, rx := p.a.rxNext, txNext := 0, rxNext := 0 },
                         b := { p.b with tx := p.b.txNext, rx := p.b.rxNext, txNext := 0, rxNext := 0 } }

/-- The smallest full counter not below `rx` with these low bits (R426); `rx` is one more than the highest accepted. -/
def fullCounter (rx : Nat) (c : BitVec 32) : Nat :=
  let v := rx / 2 ^ 32 * 2 ^ 32 + c.toNat
  if v < rx then v + 2 ^ 32 else v

/-- A frame of a peer is accepted: after a silence of two exchanges or more, a peer announced asleep is awake again
(R131). -/
def State.hear (s : State) (j : Nat) : State :=
  s.modPeer j (fun p => { p with heard := s.now, asleep := if p.heard + 250000 < s.now then none else p.asleep })

/-- A protected frame arrives (R426): none when it is discarded, with the failed exchange and LINK_AUTH in the state. -/
def State.acceptFrame (s : State) (fr : LinkFrame) : Bool × State :=
  let j := fr.peer.val
  let p := s.peer j
  let l := p.lane fr.lane
  if !s.fastClocks || !s.connected j fr.lane || !s.linkOpen j || !l.up then (false, s)
  else if !p.sealMode && fr.phase && (s.linkKey j true).isNone || !fr.auth then
    let s := s.modLane j fr.lane (fun l => { l with armed := false })
    let s := if l.armed then s.raise 0xA03 j 0 else s
    (false, s.failExchange j fr.lane)
  else
    let n := fullCounter (if fr.phase then l.rxNext else l.rx) fr.ctr
    let s := s.modLane j fr.lane (fun l => if fr.phase then { l with armed := true, rxNext := n + 1 } else { l with armed := true, rx := n + 1 })
    let s := if fr.phase then s.modPeer j (fun p => { p with gotNext := true }) else s
    (true, (s.switchKey j).hear j)

/-- The GCM nonce of a Convoy frame (R425). -/
def convoyNonce (me dest : Nat) (lane : Bool) (ctr : Nat) : List Byte :=
  leBytes 1 6 ++ leBytes 1 me ++ leBytes 1 dest ++ leBytes 1 (b2n lane) ++ leBytes 8 ctr

/-- A frame is sent (R425, R429): the lower-indexed chip uses NEXT from its first exchange after the install, the other one
after accepting a frame under NEXT. A counter that would wrap stops the link (R426). -/
def State.sendFrame (s : State) (j : Nat) (b : Bool) : State :=
  let p := s.peer j
  let next := !p.sealMode && (s.linkKey j true).isSome && (s.sender j || p.gotNext)
  let l := p.lane b
  let n := if next then l.txNext else l.tx
  if 2 ^ 64 ≤ n + 1 then (s.modLane j b (fun l => { l with stopped := true })).laneDown j b
  else
    let non := if p.sealMode then [] else convoyNonce s.chip (s.peerChip j) b n
    let s := s.modLane j b (fun l =>
      let l := { l with sent := some ⟨next, s.chip, s.peerChip j, b, n, non⟩ }
      if next then { l with txNext := n + 1 } else { l with tx := n + 1 })
    if next then (s.modPeer j (fun p => { p with sentNext := true })).switchKey j else s

/-- CVT in 2^-40 ns at the 16-bit fraction a message carries. -/
def State.cvtFine (s : State) : Nat := fineOf96 s.cvt96

/-- SYNC (R128): the sender transmits; the receiver takes t1 and t2 and answers SYNC_ACK at t3. -/
def execSync (fr : LinkFrame) (t1 : BitVec 96) (s : State) : Res :=
  let j := fr.peer.val
  if s.sender j then
    if !s.fastClocks || !((s.peer j).lane fr.lane).up then .next s
    else .next ((s.sendFrame j fr.lane).modLane j fr.lane (fun l => { l with opened := true, t1 := fineOf96 t1.toNat }))
  else
    let r := s.acceptFrame fr
    if !r.1 then .next r.2
    else
      let s := r.2
      let t := s.cvtFine
      .next ((s.modLane j fr.lane (fun l => { l with t1 := fineOf96 t1.toNat, t2 := t, t3 := t, opened := true })).sendFrame j fr.lane)

/-- SYNC_ACK (R128): the sender of SYNC answers with t4 in SYNC_RSP; its exchange has succeeded. -/
def execSyncAck (fr : LinkFrame) (t2 t3 : BitVec 96) (s : State) : Res :=
  let j := fr.peer.val
  if !s.sender j then .next s
  else
    let r := s.acceptFrame fr
    if !r.1 then .next r.2
    else .next ((r.2.modLane j fr.lane (fun l => { l with opened := false, fails := 0, t2 := fineOf96 t2.toNat, t3 := fineOf96 t3.toNat })).sendFrame j fr.lane)

/-! ## The follower (R127, R128, R134) -/

/-- A mapping record against the lead's CVT (R127, R178): its reference is the own CVT less θ. -/
def State.emitLeadMapping (s : State) (theta : Rat) : State :=
  let ts := s.ts
  let l := ((s.time.cvt : Rat) / ((2 ^ 40 : Nat) : Rat) - theta).floor.toNat
  s.emit 134 hm 1 1 ts (s.tstate.code + s.time.part.toNat * 8 + 32 + 64)
    [cvtLo ts, cvtHi ts + s.time.epoch.toNat * 2 ^ 32, l % 1000000000 + l / 1000000000 % 2 ^ 34 * 2 ^ 30]

/-- The link to the lead is back after a loss (R134): with the lead's epoch unchanged the chip slews, keeps its partition and
HOLDOVER until |θ| is at most 1 us, and then takes partition 0. In epoch 0 of the lead it is DETACHED (R127). -/
def State.rejoin (s : State) (j : Nat) (theta : Rat) : State :=
  let d : Rat := -theta * 4
  let back := fun (s : State) => ({ s with time := { s.time with part := 0 }, convoy := { s.convoy with split := false, acting := false } }).setPersist 0x307 j false
  if s.time.epoch = 0 then
    let s := back (s.setRate s.time.f 0)
    (s.setTState .detached).showState
  else
    let s := s.setRate s.time.f (fp32Rat s.time.kp * (d / 4) / 125000)
    if ratAbs d ≤ 4000 then
      let s := { back s with time := { (back s).time with bound := boundOf d, dLast := some (d, s.time.slewed) } }
      ((s.setTState .slewing).showState).checkLane j
    else s

/-- The follower's state after a run on a difference of d quarters of a ns (R118, R129). -/
def State.followState (s : State) (d rtt : Rat) (cal : Bool) : State :=
  if !cal then s.beUncertain rtt
  else match s.time.st with
  | .uncertain => s.setTState .slewing
  | .locked =>
    let n := if 4000 < ratAbs d then s.time.farRuns + 1 else 0
    let s := { s with time := { s.time with farRuns := n } }
    if 2 ≤ n then s.setTState .slewing else s
  | _ => s

/-- One run of the follower's servo on θ in ns, per exchange of 125 us with the chip it follows (R127, R128, R134). A member
of a split partition keeps f and HOLDOVER (R132). -/
def State.follow (s : State) (j : Nat) (theta rtt : Rat) (cal : Bool) : State :=
  let d : Rat := -theta * 4
  let per : Rat := 125000
  if s.convoy.pend.isSome || s.time.part ≠ 0 || !s.keeperRuns then s
  else if s.convoy.split then s.rejoin j theta
  else match s.time.st with
  | .detached => if s.time.epoch = 0 then s.emitLeadMapping theta else s.slewBy d s.time.slewed per
  | .holdover => s.setTState (if cal then .slewing else .uncertain)
  | _ =>
    let u := s.pi d s.time.slewed per
    (if s.piClamps d per then u.raise 0x300 0 0 else u).followState d rtt cal

/-- SYNC_RSP (R128): the follower has t4, computes θ and RTT, and its servo runs on the active lane to its lead. The other
lane's differences feed the measurement of R130. -/
def execSyncRsp (fr : LinkFrame) (t4 : BitVec 96) (s : State) : Res :=
  let j := fr.peer.val
  if s.sender j then .next s
  else
    let r := s.acceptFrame fr
    if !r.1 then .next r.2
    else
      let s := r.2
      let l := (s.peer j).lane fr.lane
      if !l.opened then .next s
      else
        let u : Rat := ((2 ^ 40 : Nat) : Rat)
        let ab : Rat := (((l.t2 : Int) - (l.t1 : Int) : Int) : Rat) / u
        let ba : Rat := (((fineOf96 t4.toNat : Int) - (l.t3 : Int) : Int) : Rat) / u
        let asym : Rat := (((l.asym.getD 0 : Int)) : Rat) / 100
        let theta := (ab - ba - asym) / 2
        let rtt := ab + ba
        let s := s.modLane j fr.lane (fun l => { l with opened := false, fails := 0, theta := theta, rtt := rtt })
        let p := s.peer j
        let act := decide (p.active = (if fr.lane then 2 else 1))
        let o := p.lane !fr.lane
        let s := if !act && l.asym.isNone && o.up && o.asym.isSome then
            s.modLane j fr.lane (fun l => { l with sum := l.sum + 2 * (theta - o.theta), count := l.count + 1,
                                                   measFrom := some (l.measFrom.getD s.now) }) else s
        .next (if !act then s
          else if s.leadSlot = some j then s.follow j theta rtt l.asym.isSome
          else if s.time.part ≠ 0 && s.peerChip j = 0 then s.rejoin j theta
          else s)

/-- ASYM_MEASURE_DONE (R130): 1 s of simultaneous exchanges gives the constant of the other lane, stored unless automatic
storage is disabled. -/
def execAsymMeasureDone (peer : Fin 3) (s : State) : Res :=
  let j := peer.val
  let p := s.peer j
  let b := decide (p.active = 1)
  let l := p.lane b
  if !s.fastClocks || p.active = 0 || !l.up || l.asym.isSome || s.now < l.measFrom.getD s.now + 1000000000 || s.convoy.noAuto then .next s
  else
    let v := roundInt .rna (l.sum / ((l.count : Nat) : Rat) * 100)
    let s := s.modLane j b (fun l => { l with asym := some v, sum := 0, count := 0, measFrom := none })
    .next (s.lbWrite (fun x => { x with asym := tset x.asym (2 * j + b2n b) (some v) none }))

/-- EPOCH_MSG (R127): the new epoch, the step in qt and the lead's CVT of E, held until FOLLOWER_STEP. The lead only sends
it. -/
def execEpochMsg (fr : LinkFrame) (epoch : BitVec 16) (step : BitVec 64) (cvt : BitVec 96) (s : State) : Res :=
  let j := fr.peer.val
  if s.sender j then .next (if !s.fastClocks || (s.peer j).active = 0 then s else s.sendFrame j fr.lane)
  else
    let r := s.acceptFrame fr
    .next (if !r.1 || epoch.toNat ≤ r.2.time.epoch.toNat || s.peerChip j ≠ 0 then r.2
      else { r.2 with convoy := { r.2.convoy with pend := some (epoch, sgn 64 step.toNat, fineOf96 cvt.toNat) } })

/-- θ was measured before the lead's step: its exchange began before the lead's CVT of E, and within the exchanges that
precede it. -/
def Lane.before (l : Lane) (e : Nat) : Bool := decide (l.t1 ≤ e) && decide (e ≤ l.t1 + 2 ^ 40 * 1000000)

/-- FOLLOWER_STEP (R127, R134): a chip in step with the lead applies the same step at the instant its own CVT equals the lead's
CVT of E minus its measured offset θ (R128; log 76); a chip that is not loads the lead's CVT at once. -/
def execFollowerStep (s : State) : Res :=
  match s.convoy.pend with
  | none => .next s
  | some (epoch, d, e) =>
    let p := s.peer 0
    let l := p.lane (decide (p.active = 2))
    let t := (e : Int) - roundInt .rne (l.theta * ((2 ^ 40 : Nat) : Rat))
    let inStep := decide (s.time.epoch.toNat + 1 = epoch.toNat) && s.time.st ≠ .detached && s.time.part = 0
    if !s.fastClocks || (inStep && decide ((s.time.cvt : Int) < t)) then .next s
    else
      let dd := if inStep then d else (if l.before e then d else 0) - roundInt .rna (l.theta * 4)
      let s := { s with convoy := { s.convoy with pend := none, split := false, acting := false }, time := { s.time with part := 0 } }
      .next ((((s.setTState .slewing).stepCvt dd epoch 3).setPersist 0x307 0 false).checkLane 0)

/-- STATE (R119, R131): the peer's time state, partition and announced sleep. -/
def execState (fr : LinkFrame) (tstate : BitVec 3) (part : BitVec 2) (sleep : Option (BitVec 96)) (s : State) : Res :=
  let j := fr.peer.val
  let r := s.acceptFrame fr
  if !r.1 then .next r.2
  else
    let s := r.2
    let wake := sleep.map (fun w => s.now + (fineOf96 w.toNat - s.time.cvt) / 2 ^ 40)
    let old := s.tstate
    let grows := wake.isSome || (decide (TState.ofCode tstate.toNat = .holdover) && decide (s.convoy.leadState ≠ .holdover))
    let s := if grows && s.leadSlot = some j then { s with time := { s.time with holdBound := s.boundNow, holdAt := s.now } } else s
    let s := s.modPeer j (fun p => { p with pst := TState.ofCode tstate.toNat, part := part, asleep := wake })
    let s := if s.leadSlot = some j then { s with convoy := { s.convoy with leadState := TState.ofCode tstate.toNat } } else s
    .next (if s.tstate = old then s else s.showState)

/-- A chip about to sleep sends STATE with its announced sleep to every peer on its active lane (R131). -/
def State.announceSleep (s : State) (wake : Option Nat) : State :=
  (List.range 3).foldl (fun s j =>
    let p := s.peer j
    if p.active = 0 then s
    else (s.modPeer j (fun p => { p with told := some (s.tstate, s.time.part, wake) })).sendFrame j (decide (p.active = 2))) s

/-- PEER_SLEEP_TIMEOUT (R131): 1 s after the expected wake the silence is a link loss; with exchanges resumed there is
none. -/
def execPeerSleepTimeout (peer : Fin 3) (s : State) : Res :=
  let j := peer.val
  match (s.peer j).asleep with
  | none => .next s
  | some w =>
    if !s.fastClocks || s.now < w + 1000000000 then .next s
    else
      let s := s.modPeer j (fun p => { p with asleep := none })
      let p := s.peer j
      .next (if s.now ≤ p.heard + 375000 then s
        else ((s.modPeer j (fun p => { p with a := { p.a with up := false }, b := { p.b with up := false } })).setActive j 0).loseLink j)

/-- PARTITION_SPLIT (R132): the chips that still reach one another elect the lowest-indexed but chip 0 as acting lead, again
when the acting lead is lost; every chip of the partition is in HOLDOVER. -/
def execPartitionSplit (reach : BitVec 4) (s : State) : Res :=
  let c := s.ident.chip.toNat
  if !s.fastClocks || c = 0 || !s.convoy.split then .next s
  else
    let l := ([1, 2, 3].find? (fun i => decide (i = c) || reach.getLsbD i)).getD c
    let change := decide (s.time.part.toNat ≠ l)
    let s := { s with time := { s.time with part := BitVec.ofNat 2 l }, convoy := { s.convoy with acting := decide (l = c) } }
    let s := if s.time.st = .holdover then s else s.enterHoldover
    .next (if change then s.showState else s)

end Sys2Proof.Machine
end

