-- ==== Sys2Proof/Machine/Sluice.lean ====
section
/-! DEFINITION. The sluice (R191 to R199, R223 to R229), the manager port (R71 to R73, R227, R228) and their packets. -/

namespace Sys2Proof.Machine

/-- A record that poisons its lighter (R198): a WEIR of cause POISON, an ANALYSIS_RESULT with POISON, a poisoned
TENSOR_DUMP. -/
def Rec.poisons (r : Rec) : Bool :=
  (r.ty = 3 && decide (bits r.payload.toNat 16 4 = 2)) || (r.ty = 0x28 && r.payload.getLsbD 16) ||
  (r.ty = 0x25 && (r.extra.headD 0).getLsbD 49)

/-- The 4,096 bytes of an open lighter (R191 to R195). -/
def State.lighterWords (s : State) (o seq close : Nat) (l : OpenL) : List W64 :=
  let h := [s.pageWord0 0x1D3E5A7C o + l.part.toNat * 2 ^ 56 + l.st.code * 2 ^ 59, seq + l.epoch.toNat * 2 ^ 48, cvtLo l.anchor,
    cvtHi l.anchor + l.count * 2 ^ 32 + l.body.length * 2 ^ 42 + b2n l.poisoned * 2 ^ 52 + b2n (close ≠ 0) * 2 ^ 53 + close * 2 ^ 54]
  let nonce := leBytes 1 1 ++ leBytes 1 o ++ leBytes 1 (s.keygen o) ++ leBytes 1 s.chip ++ leBytes 6 seq ++ leBytes 2 0
  s.sealPage o nonce h l.body

/-- A lane of the STP is UP, and link 3 holds a CURRENT key (R424, R510). -/
def State.stpLane (s : State) (lane : Bool) : Bool :=
  decide ((if lane then s.svc.lane1 else s.svc.lane0).st = 3) && (s.linkKey 3 false).isSome

/-- The STP takes a lighter, or misses it when its buffer is full or no lane is UP (R199, R226). -/
def State.toStp (s : State) (o : Nat) (ws : List W64) : State :=
  if (s.stpLane false || s.stpLane true) && decide (s.svc.buf.length < 16) then { s with svc := { s.svc with buf := s.svc.buf ++ [(o, ws)] } }
  else { s with svc := { s.svc with missed := satAdd (2 ^ 32 - 1) s.svc.missed 1 } }

/-- Close an owner's open lighter (R196, R197): it takes its sequence and goes to its destinations. Close codes: 0 FULL,
1 TIMEOUT, 2 SLEEP, 3 FLUSH. -/
def State.closeLighter (s : State) (o close : Nat) : State :=
  let x := s.export_ o
  match x.openL with
  | none => s
  | some l =>
    let ws := s.lighterWords o x.seq close l
    let s := s.setExport o { x with openL := none, seq := (x.seq + 1) % 2 ^ 48, ring := if x.dram then x.ring ++ [x.seq] else x.ring }
    let s := if x.dram then
        s.mgrPush (pageReq o (l.base + x.seq % 2 ^ l.log2 * 4096) (.lighter o x.seq (s.keygen o) l.recs) ws) else s
    if x.stp then s.toStp o ws else s

/-- A record into the open lighter; the first one opens it and is its anchor (R192, R193). -/
def State.intoLighter (s : State) (o ch : Nat) (r : Rec) : State :=
  let x := s.export_ o
  let l : OpenL := x.openL.getD ⟨ch, [], 0, s.ts, s.now, s.time.epoch, s.time.part, s.tstate, false, x.base, x.log2, []⟩
  s.setExport o { x with openL := some { l with body := l.body ++ r.words, count := l.count + 1, poisoned := l.poisoned || r.poisons, recs := l.recs ++ [r.loss] } }

/-- The length of the next record of an owner. -/
def State.nextLen (s : State) (o : Nat) : Nat :=
  match s.headCell o with
  | some (_, c) => match c.recs with | r :: _ => r.len | [] => 1
  | none => 0

/-- Fill the owner's lighter until its next record does not fit (FULL) or none is left (R193, R197). A body filled to its
last word closes at once. -/
def State.fill (s : State) (o ch : Nat) : Nat → State
  | 0 => s
  | n + 1 =>
    let used := ((s.export_ o).openL.map (fun l => l.body.length)).getD 0
    if decide (504 < used + s.nextLen o) || decide (used = 504) then s.closeLighter o 0
    else
      let r := s.takeRec o ((s.charterQ o).length + (s.prioQ o).length + 1)
      match r.1 with
      | none => r.2
      | some x =>
        if 504 < used + x.len then (r.2.closeLighter o 0).intoLighter o ch x
        else (r.2.intoLighter o ch x).fill o ch n

/-- Weighted round robin over n requesters, the last served (plus 1, 0 none) and the credit it has left. -/
def wrrPick (cands : List Nat) (n last credit : Nat) (weight : Nat → Nat) : Option (Nat × Nat) :=
  if decide (0 < last) && cands.contains (last - 1) && decide (0 < credit) then some (last - 1, credit - 1)
  else ((List.range n).map (fun i => (last + i) % n)).find? (fun i => cands.contains i) |>.map (fun i => (i, weight i - 1))

def State.rr (s : State) (k : Nat) : Nat := tget s.canal.rr k 0
def State.setRr (s : State) (k v : Nat) : State := { s with canal := { s.canal with rr := tset s.canal.rr k v 0 } }
def State.credit (s : State) (k : Nat) : Nat := tget s.canal.credit k 0
def State.setCredit (s : State) (k v : Nat) : State := { s with canal := { s.canal with credit := tset s.canal.credit k v 0 } }

/-- The owner a free channel serves next (R223): one with an order-headroom cell first, then one whose head cell lies in
the channel's bank, in weighted round robin. -/
def State.nextOwner (s : State) (ch : Nat) : Option (Nat × Nat) :=
  let cands := (List.range 17).filter (fun o => s.headReady o && (s.export_ o).openL.isNone && s.hasDest o)
  let urgent := cands.filter (fun o => (s.charterQ o).any (fun c => c.order))
  let cands := if urgent.isEmpty then cands else urgent
  let home := cands.filter (fun o => match s.headCell o with | some (_, c) => decide (c.bank = ch) | none => false)
  let cands := if home.isEmpty then cands else home
  wrrPick cands 17 (s.rr 12) (s.credit 12) (fun o => (s.export_ o).weight)

/-- LIGHTER_OPEN (R223): the channel goes on with the lighter it fills, or opens one for the next owner. -/
def execLighterOpen (channel : Fin 8) (s : State) : Res :=
  if s.lk.st ≠ .underway then .next s
  else match (List.range 17).find? (fun o => (s.export_ o).openL.any (fun l => l.channel = channel.val)) with
    | some o => .next (if s.hasDest o then s.fill o channel.val 505 else s)
    | none => match s.nextOwner channel.val with
      | none => .next s
      | some (o, c) => .next (((s.setRr 12 (o + 1)).setCredit 12 c).fill o channel.val 505)

/-- LIGHTER_FLUSH_TIMEOUT (R197, R224): the flush timeout has passed since the anchor, and the sluice has its clock (R31). -/
def execLighterFlushTimeout (o : Fin 17) (s : State) : Res :=
  if !s.fastClocks then .next s
  else match (s.export_ o.val).openL with
  | none => .next s
  | some l => .next (if l.openAt + s.mgr.flush * 1000 ≤ s.now then s.closeLighter o.val 1 else s)

/-- Every open lighter closes (R197, R229). -/
def State.closeAll (s : State) (close : Nat) : State := (List.range 17).foldl (fun s o => s.closeLighter o close) s

/-- The sluice drains every cell it can export and closes the lighters with SLEEP (R229). -/
def State.drainAll (s : State) : State :=
  ((List.range 17).foldl (fun s o =>
    if s.hasDest o then
      (List.range ((s.charterQ o).length + (s.prioQ o).length)).foldl (fun s _ => if (s.headCell o).isSome then s.fill o (o % 8) 505 else s) s
    else s) s).closeAll 2

/-! ## Manager port -/

def MReq.size (r : MReq) : Nat := (r.nl + 1) * 64

def MReq.sluice (r : MReq) : Bool := match r.why with | .lighter .. => true | _ => false

/-- The lines of a write request (R71): each with its byte enables and its poison mark, the last one with MWD_END. -/
def MReq.lines (r : MReq) : List WBeat :=
  (List.range (r.nl + 1)).map (fun i =>
    ⟨r.tag, BitVec.ofNat 512 (((r.data.drop (8 * i)).take 8).foldr (fun w a => a * 2 ^ 64 + w.toNat) 0),
     r.mask.getD i (BitVec.allOnes 64), decide (i = r.nl), r.psn.contains i⟩)

/-- Write-data beats leave in the order of their requests, one credit each (R71, R72); the channel shows the last. -/
def State.beats (s : State) : State :=
  let n := s.mgr.wdCredits
  let b := s.mgr.beats
  { s with
    mgr := { s.mgr with beats := b.drop n, wdCredits := n - b.length }
    io := { s.io with mwd := match (b.take n).getLast? with | some x => some x | none => s.io.mwd } }

/-- The subwindow of 156.25 ns (R227). -/
def State.subwindow (s : State) : Nat := s.now * 4 / 625

/-- The lowest free tag of a kind (R72). -/
def State.freeTag (s : State) (write : Bool) : Option Nat :=
  (List.range 64).find? (fun t => !(s.mgr.out.any (fun r => decide (r.write = write) && decide (r.tag = t))))

/-- Step 3 of R431 is over for an owner: no request is issued for it any more (R433). -/
def State.portClosed (s : State) (o : Nat) : Bool :=
  s.chart.turnover.any (fun t => t.begun && decide (t.charter = o) && decide (t.t0At + 10000 ≤ s.now))

/-- MANAGER_REQUEST_ISSUE (R71, R72, R227, R228): the oldest waiting request that has a tag, fits under the cap and leaves
the sluice its share. -/
def execManagerRequestIssue (s : State) : Res :=
  let m := s.mgr
  let now := s.subwindow
  let win := m.window.filter (fun w => decide (now < w.1 + 64))
  let used := win.foldl (fun a w => a + w.2.1) 0
  let other := (win.filter (fun w => !w.2.2)).foldl (fun a w => a + w.2.1) 0
  let cap := m.cap * 5000
  let lighters := m.wait.any MReq.sluice
  let ok := fun (r : MReq) => !s.portClosed r.owner && (s.freeTag r.write).isSome && decide (used + r.size ≤ cap) &&
    (r.sluice || !lighters || decide ((other + r.size) * 16 ≤ cap * (16 - m.share)))
  if m.reqCredits = 0 || s.lk.st ≠ .underway then .next s
  else match m.wait.find? ok with
    | none => .next s
    | some r =>
      let t := (s.freeTag r.write).getD 0
      let r' := { r with tag := t, prio := if r.sluice then m.prioS else m.prioO }
      .next ({ s with mgr := { m with
        reqCredits := m.reqCredits - 1, wait := m.wait.erase r, out := m.out ++ [r'], window := win ++ [(now, r.size, r.sluice)],
        beats := if r.write then m.beats ++ r'.lines else m.beats } }).beats

/-- MANAGER_CREDIT (R71): one credit of the request or the write-data channel, at most 64. In MOORED and LAID_UP the port's
domain does not run and ignores its inputs (R43, R344). -/
def execManagerCredit (wd : Bool) (s : State) : Res :=
  .next (if decide (s.lk.st = .moored) || decide (s.lk.st = .laidUp) then s
    else if wd then ({ s with mgr := { s.mgr with wdCredits := satAdd 64 s.mgr.wdCredits 1 } }).beats
    else { s with mgr := { s.mgr with reqCredits := satAdd 64 s.mgr.reqCredits 1 } })

/-- The write index: 1 plus the highest sequence up to which every lighter of the ring is done (R225). `ring` lists the
lighters of the ring from the index on, oldest first; a lighter that did not go to the ring is not waited for. -/
def advanceIdx : List Nat → Nat → List Nat → Nat × List Nat × List Nat
  | [], w, ds => (w, [], ds)
  | q :: ring, w, ds => if ds.contains q then advanceIdx ring (q + 1) (ds.filter (fun d => d ≠ q)) else (w, q :: ring, ds)

/-- A lighter of the owner's generation has its write-done completion. -/
def State.lighterDone (s : State) (o seq gen : Nat) (field : BitVec 8) : State :=
  if gen ≠ s.keygen o then s
  else
    let x := s.export_ o
    let r := advanceIdx x.ring x.widx (x.doneSeqs ++ [seq])
    s.setExport o { x with widx := r.1, ring := r.2.1, doneSeqs := r.2.2, lastGen := field }

/-- MGR_WRITE_DONE (R72, R73, R225): the write is over; an error loses it, and a lost lighter is counted in LIGHTER_LOST
marks (R190). -/
def execMgrWriteDone (tag : Fin 64) (st : BitVec 2) (s : State) : Res :=
  match s.mgr.out.find? (fun r => r.write && decide (r.tag = tag.val)) with
  | none => .next s
  | some r =>
    if s.mgr.beats.any (fun b => b.tag = tag.val) then .next s
    else
      let s := { s with mgr := { s.mgr with out := s.mgr.out.erase r } }
      let s := match r.why with
        | .lighter o seq gen recs =>
          let s := s.lighterDone o seq gen (BitVec.ofNat 8 ((r.data.headD 0).toNat / 2 ^ 48))
          if st = 0 || !s.active o then s else s.addMarks (lossMarks 4 255 (2 ^ 19) seq s.now recs)
        | .tableWr o _ => s.tableWritten o
        | .health => if st = 0 && s.fc.healthIrq then s.setIrq hm 6 else s
        | _ => s
      .next (if st = 0 then s else s.raise 0x500 0 r.owner)

/-! ## Packets -/

def specOwnerExport : OpSpec := { op := 0x31, priv := .hmOnly, len := exactly 3 }

/-- OWNER_EXPORT (R224, R225, R397). An owner left without a destination emits no more (R224). -/
def bodyOwnerExport (pk : Pkt) (_ : Nat) (s : State) : Verdict :=
  let o := fld (pk.p 1) 0 5
  let l := fld (pk.p 1) 12 5
  concern o 1 s (chk (decide (l < 4) || decide (20 < l)) .badParam 1 (chk (decide (pk.addr 2 % 4096 ≠ 0)) .badParam 2 (
    let x := s.export_ o
    let t := s.setExport o { x with dram := flag (pk.p 1) 5, stp := flag (pk.p 1) 6, weight := fld (pk.p 1) 8 4 + 1, log2 := l, base := pk.addr 2 }
    .done .ok [] (if t.hasDest o then t else t.silence o))))

def execOwnerExport (pk : Pkt) (s : State) : Res := .next (launch specOwnerExport bodyOwnerExport pk s)

def specExportSet : OpSpec := { op := 0x32, priv := .hmOnly, len := exactly 4 }

/-- EXPORT_SET (R206, R227, R228, R397). The 7-bit cap holds 128 as 0, the 4-bit share
16 as 0 (log 25). -/
def bodyExportSet (pk : Pkt) (_ : Nat) (s : State) : Verdict :=
  let cap := fld (pk.p 1) 0 7
  let cap := if cap = 0 then 128 else cap
  let share := fld (pk.p 1) 8 4
  let share := if share = 0 then 16 else share
  chk (decide (cap < 2)) .badParam 1 (chk (decide (share < 8)) .badParam 1 (
  chk (decide ((pk.p 2).toNat < 1) || decide (1000 < (pk.p 2).toNat)) .badParam 2 (
    let w := (List.range 8).foldl (fun (t : Tab Nat) k => tset t k (fld (pk.p 3) (4 * k) 4 + 1) 1) []
    let w := tset (tset w 8 (fld (pk.p 4) 0 4 + 1) 1) 9 (fld (pk.p 4) 4 4 + 1) 1
    .done .ok [] { s with
      mgr := { s.mgr with cap := cap, share := share, prioS := fld (pk.p 1) 12 4, prioO := fld (pk.p 1) 16 4, flush := (pk.p 2).toNat }
      canal := { s.canal with weights := w } })))

def execExportSet (pk : Pkt) (s : State) : Res := .next (launch specExportSet bodyExportSet pk s)

/-- The canal composes a resync TIME_SYNC of a stream and admits it as a record of class 1 (R186, R216); one that is not
admitted is lost again. -/
def State.resyncBy (s : State) (src o : Nat) : State :=
  let x := s.stream src o
  (s.setStream src o { x with held := false, heldOv := false }).letIn { s.syncRec src o s.ts true false with inAt := s.now }

/-- The records of classes 1 to 3 leave a charter queue with cause DISCARDED; those of class 0 are kept (R220). A stream that
loses a record of class 1 is held until the marks are written (R186, R216). -/
def State.discard0 (s : State) (o : Nat) : State :=
  let q := s.charterQ o
  let gone := q.flatMap (fun c => c.recs.filter (fun r => r.cls ≠ 0))
  let s := s.setCharterQ o ((q.map (fun (c : Cell) => { c with recs := c.recs.filter (fun r => r.cls = 0) })).filter (fun c => !c.recs.isEmpty))
  let s := s.addMarks (recMarks 6 (2 ^ 18) s.now gone)
  let s := (List.range 139).foldl (fun s src =>
    if gone.any (fun r => decide (r.src.toNat = src) && decide (r.cls = 1)) then s.setStream src o { s.stream src o with held := true } else s) s
  s.closeHeld o

def specFlush : OpSpec := { op := 0x33, priv := .own, len := exactly 1 }

/-- FLUSH (R197, R220, R397): a charter flushes its own queue, the harbourmaster any. -/
def bodyFlush (pk : Pkt) (_ : Nat) (s : State) : Verdict :=
  let o := fld (pk.p 1) 0 5
  concern o 1 s (chk (decide (pk.o ≠ hm) && decide (o ≠ pk.o)) .denied 1 (
    let t := s.closeLighter o 3
    .done .ok [] (if flag (pk.p 1) 5 then t.discard0 o else t)))

def execFlush (pk : Pkt) (s : State) : Res := .next (launch specFlush bodyFlush pk s)

end Sys2Proof.Machine
end

