-- ==== Sys2Proof/Machine/Stp.lean ====
section
/-! DEFINITION. The service port (15): presence, the button, the Service Trace Port (R504 to R512) and its packets. -/

namespace Sys2Proof.Machine

def Svc.lane (v : Svc) (l : Bool) : StpLane := if l then v.lane1 else v.lane0
def Svc.setLane (v : Svc) (l : Bool) (x : StpLane) : Svc := if l then { v with lane1 := x } else { v with lane0 := x }

/-- Both lanes, each through a function of its number. -/
def Svc.lanes (v : Svc) (f : Bool → StpLane → StpLane) : Svc := { v with lane0 := f false v.lane0, lane1 := f true v.lane1 }

def idleWord : W64 := 0x01
def abortWord : W64 := 0x03

/-- TRAIN (R509): the chip, the lane and the high half of the lane's next frame counter. -/
def trainWord (chip : Nat) (lane : Bool) (ctr : Nat) : W64 :=
  BitVec.ofNat 64 (0x10 + chip * 2 ^ 8 + b2n lane * 2 ^ 10 + ctr / 2 ^ 32 % 2 ^ 32 * 2 ^ 32)

/-- Link training starts on every lane whose STP_LANE_UP is 1 (R510). -/
def State.stpTrain (s : State) : State :=
  { s with svc := s.svc.lanes (fun _ x => if x.up then { x with st := 1, since := s.now, pauseUntil := none, word := idleWord } else x) }

def State.stpKey (s : State) : Bool := (s.linkKey 3 false).isSome

/-- What a plug-in starts (R504): training, and streaming with stp_auto. -/
def State.stpPlug (s : State) : State :=
  let s := s.stpTrain
  if s.svc.stpAuto then
    { s with svc := { s.svc with streaming := s.svc.streaming || s.stpKey, autoOn := !s.stpKey } }
  else s

/-- A new STP key is CURRENT (R429, R504, R510): frame counters from 0, training again, and the streaming that waited. -/
def State.stpKeyed (s : State) : State :=
  let s := { s with svc := { s.svc.lanes (fun _ x => { x with ctr := 0 }) with
    streaming := s.svc.streaming || (s.svc.autoOn && s.svc.present), autoOn := false } }
  if s.svc.present then s.stpTrain else s

/-- SVC_PLUG_IN (R504). -/
def execSvcPlugIn (s : State) : Res :=
  if s.svc.present then .next s
  else .next (({ s with svc := { s.svc with present := true } }.wake .service).stpPlug)

/-- SVC_UNPLUG (R504, R505, R506). -/
def execSvcUnplug (s : State) : Res :=
  if !s.svc.present then .next s
  else
    let v := { s.svc.lanes (fun _ x => { x with st := 0, since := s.now, pauseUntil := none, word := if x.st = 3 then abortWord else idleWord }) with
      present := false, streaming := false, autoOn := false, button := .released, shortDue := none, stuck := false,
      missed := satAdd (2 ^ 32 - 1) s.svc.missed s.svc.buf.length, buf := [] }
    .next ({ s with svc := v }.setPersist 0xC00 0 false)

/-! ## The attention button -/

/-- BUTTON_PRESS (R505): recognised 10 ms after the fall, whose instant the timestamp gives at 40 ns resolution. -/
def execButtonPress (s : State) : Res :=
  if !s.svc.present || s.svc.button ≠ .released then .next s
  else .next ({ s with svc := { s.svc with
    button := .pressed, pressAt := s.now - 10000000, pressTs := s.ts - 4 * s.clk.phase - 40000000 } }.wake .service)

/-- BUTTON_RELEASE (R505): a short press acts 50 ms later. -/
def execButtonRelease (s : State) : Res :=
  let v := s.svc
  match v.button with
  | .released => .next s
  | .pressed => .next { s with svc := { v with
      button := .released
      shortDue := if s.now - 10000000 < v.pressAt + 2000000000 then some (s.now + 50000000) else v.shortDue } }
  | .held => .next { s with svc := { v with button := .released } }
  | .stuck => .next ({ s with svc := { v with button := .released, stuck := false } }.setPersist 0xC00 0 false)

/-- The modes in which the button acts (R508). -/
def State.buttonActs (s : State) : Bool := s.dev.mode = .startup || s.dev.mode = .service || s.dev.mode = .test

/-- One action per second while the button is noisy (R507). -/
def Svc.mayAct (v : Svc) (now : Nat) : Bool :=
  !v.limiting || (match v.lastAct with | none => true | some t => decide (t + 1000000000 ≤ now))

/-- STP streaming on or off (R427, R504). -/
def State.setStreaming (s : State) (on : Bool) : State :=
  { s with svc := { s.svc with streaming := on, autoOn := s.svc.autoOn && on } }

/-- BUTTON_HOLD (R505, R508): the hold reaches 2 s and toggles streaming. -/
def execButtonHold (s : State) : Res :=
  let v := s.svc
  if v.button ≠ .pressed || decide (s.now < v.pressAt + 2000000000) then .next s
  else
    let s := { s with svc := { v with button := .held } }.wake .service
    if !s.buttonActs then .next s
    else if !v.mayAct s.now then .next { s with svc := { s.svc with dropped := s.svc.dropped + 1 } }
    else
      let s := { s with svc := { s.svc with lastAct := some s.now } }
      .next (if !v.streaming && !s.stpKey then s else s.setStreaming (!v.streaming))

/-- BUTTON_STUCK (R505). -/
def execButtonStuck (s : State) : Res :=
  let v := s.svc
  if v.button ≠ .held || decide (s.now < v.pressAt + 20000000000) then .next s
  else .next (({ s with svc := { v with button := .stuck, stuck := true } }.raise 0xC00 0 0).setPersist 0xC00 0 true)

/-- SHORT_PRESS (R506): the marker to the harbourmaster and to every ACTIVE charter with marker mode, then the ledger
trigger SERVICE_MARK. -/
def execShortPress (s : State) : Res :=
  match s.svc.shortDue with
  | none => .next s
  | some t =>
    if s.now < t then .next s
    else
      let v := s.svc
      let s := { s with svc := { v with shortDue := none, presses := (v.presses + 1) % 2 ^ 16 } }.wake .service
      if !s.buttonActs then .next s
      else if !v.mayAct s.now then .next { s with svc := { s.svc with dropped := s.svc.dropped + 1 } }
      else
        let s := { s with svc := { s.svc with lastAct := some s.now } }
        let os := hm :: (List.range 16).filter (fun c => s.active c && s.esl.marker.getLsbD c)
        let s := os.foldl (fun s o => s.emit 138 o 0x0E 1 v.pressTs (s.svc.presses + 2 ^ 16) [0]) s
        .next (s.fireTrigger 3 0)

/-- BUTTON_NOISE_WINDOW (R507): the end of a window of 100 ms with this many falling edges. -/
def execButtonNoiseWindow (edges : Nat) (s : State) : Res :=
  let v := s.svc
  if 5 < edges then
    let s := { s with svc := { v with noisyRun := v.noisyRun + 1, quietRun := 0, limiting := true } }
    .next (if v.noisyRun + 1 = 100 then { s with svc := { s.svc with noise := true } }.raise 0xC01 0 0 else s)
  else
    let quiet := decide (10 ≤ v.quietRun + 1)
    .next { s with svc := { v with noisyRun := 0, quietRun := v.quietRun + 1, limiting := v.limiting && !quiet, noise := v.noise && !quiet } }

/-! ## Service Trace Port -/

/-- STP_LANE_UP (R510): the signal's new value; a rising lane trains while the pod is present, a falling one is down. -/
def execStpLaneUp (lanes : BitVec 2) (s : State) : Res :=
  .next { s with svc := s.svc.lanes (fun l x =>
    let up := lanes.getLsbD (b2n l)
    if up && !x.up then { x with up := true, st := if s.svc.present then 1 else 0, since := s.now, pauseUntil := none }
    else if !up && x.up then { x with up := false, st := 0, since := s.now, pauseUntil := none, word := idleWord }
    else x) }

/-- STP_TRAIN (R510): TRAIN on each lane in training. -/
def execStpTrain (s : State) : Res :=
  .next { s with svc := s.svc.lanes (fun l x => if x.st = 1 then { x with word := trainWord s.chip l x.ctr } else x) }

/-- TRAIN_ACK (R510), received on lane 0. -/
def execTrainAck (ok : BitVec 2) (s : State) : Res :=
  .next (if !s.svc.present || !s.svc.lane0.up then s
    else { s with svc := s.svc.lanes (fun l x => if x.st = 1 && ok.getLsbD (b2n l) then { x with st := 3, since := s.now, word := idleWord } else x) })

/-- STP_TRAIN_TIMEOUT (R510): 10 ms without TRAIN_ACK. -/
def execStpTrainTimeout (s : State) : Res :=
  .next { s with svc := s.svc.lanes (fun _ x =>
    if x.st = 1 && decide (x.since + 10000000 ≤ s.now) then { x with st := 2, since := s.now, word := idleWord } else x) }

/-- STP_TRAIN_RETRY (R510): after 90 ms of IDLE. -/
def execStpTrainRetry (s : State) : Res :=
  .next { s with svc := s.svc.lanes (fun _ x =>
    if x.st = 2 && decide (x.since + 90000000 ≤ s.now) then { x with st := 1, since := s.now } else x) }

/-- The header word of an STP frame (R511). -/
def stpHeader (kind chip : Nat) (lane : Bool) (ctr : Nat) : Nat :=
  kind + chip * 2 ^ 8 + 0xFF * 2 ^ 16 + b2n lane * 2 ^ 24 + ctr % 2 ^ 32 * 2 ^ 32

/-- The nonce of an STP frame (R425). -/
def stpNonce (chip : Nat) (lane : Bool) (ctr : Nat) : List Byte :=
  leBytes 1 7 ++ leBytes 1 chip ++ leBytes 1 0xFF ++ leBytes 1 (b2n lane) ++ leBytes 8 ctr

/-- The next frame of an UP lane that is not paused. -/
def Svc.sends (v : Svc) (l : Bool) : Bool := let x := v.lane l; decide (x.st = 3) && x.pauseUntil.isNone

/-- STP_FRAME (R427, R511): whole frames alternate between two UP lanes; the frame carries a lighter while streaming, and
4,096 zero bytes otherwise. A counter that would wrap stops the lane (R426). -/
def execStpFrame (lane : Bool) (s : State) : Res :=
  let v := s.svc
  let x := v.lane lane
  match s.linkKey 3 false with
  | none => .next s
  | some (_, k) =>
    if !v.sends lane || (v.sends (!lane) && v.next ≠ lane) || decide (2 ^ 64 ≤ x.ctr + 1) then .next s
    else
      let lighter := if v.streaming then v.buf.head? else none
      let data : List W64 := match lighter with | some b => b.2 | none => List.replicate 512 0
      let h := stpHeader (if lighter.isSome then 1 else 2) s.chip lane x.ctr
      let non := stpNonce s.chip lane x.ctr
      let body := words64 (gcmText k.key non (bytes64 data))
      let tag := (gcmTag k.key non (leBytes 8 h) (bytes64 data)).toNat
      let v := v.setLane lane { x with ctr := x.ctr + 1, word := BitVec.ofNat 64 (0x02 + 515 * 2 ^ 8) }
      .next { s with svc := { v with
        buf := if lighter.isSome then v.buf.drop 1 else v.buf
        next := !lane
        sent := some (lane, (true, BitVec.ofNat 64 (0x02 + 515 * 2 ^ 8)) ::
          (BitVec.ofNat 64 h :: (fillWords 512 body ++ [BitVec.ofNat 64 (tag % 2 ^ 64), BitVec.ofNat 64 (tag / 2 ^ 64)])).map (fun w => (false, w))) } }

/-- PAUSE (R512): 0 resumes; a duration above 1,000 is no PAUSE of R509 and is ignored. -/
def execPause (lanes : BitVec 2) (dur : BitVec 10) (s : State) : Res :=
  .next (if decide (1000 < dur.toNat) || !s.svc.lane0.up then s
    else { s with svc := s.svc.lanes (fun l x =>
      if lanes.getLsbD (b2n l) && x.st = 3 then
        if dur = 0 then { x with pauseUntil := none } else { x with pauseUntil := some (s.now + dur.toNat * 1000), word := idleWord }
      else x) })

/-- PAUSE_END (R512). -/
def execPauseEnd (lane : Bool) (s : State) : Res :=
  let x := s.svc.lane lane
  match x.pauseUntil with
  | none => .next s
  | some t => .next (if s.now < t then s else { s with svc := s.svc.setLane lane { x with pauseUntil := none } })

def specStpControl : OpSpec := { op := 0xB5, priv := .hmOnly, len := exactly 1 }

/-- STP_CONTROL (R427, R406). -/
def bodyStpControl (pk : Pkt) (_ : Nat) (s : State) : Verdict :=
  let on := flag (pk.p 1) 0
  chk (on && !s.stpKey) .badParam 1 (.done .ok [] (s.setStreaming on))

def execStpControl (pk : Pkt) (s : State) : Res := .next (launch specStpControl bodyStpControl pk s)

def specServiceStatus : OpSpec := { op := 0xB6, priv := .hmOnly, len := exactly 0 }

/-- SERVICE_STATUS (R406). -/
def bodyServiceStatus (_ : Pkt) (_ : Nat) (s : State) : Verdict :=
  let v := s.svc
  .done .ok [b2n v.present + b2n v.streaming * 2 + b2n v.lane0.up * 4 + b2n v.lane1.up * 8 + b2n v.stuck * 16 + b2n v.noise * 32,
    v.missed] s

def execServiceStatus (pk : Pkt) (s : State) : Res := .next (launch specServiceStatus bodyServiceStatus pk s)

end Sys2Proof.Machine
end

