-- ==== Sys2Proof/Machine/Keys.lean ====
section
/-! DEFINITION. Charters and keys (12): the charter table, attestation, key agreement and installation, zeroising, the link
modes, and the packets 0x80 and 0x82 to 0x87 (R403). -/

namespace Sys2Proof.Machine

/-! ## Identity (R412) -/

/-- The order of the P-256 group. -/
def p256Order : Nat := 0xFFFFFFFF00000000FFFFFFFFFFFFFFFFBCE6FAADA7179E84F3B9CAC2FC632551

/-- The device identity private scalar, from label 0x01. -/
def identityKey : W256 := BitVec.ofNat 256 ((Config.keyStore 1).toNat % (p256Order - 1) + 1)

/-- Packet words as bytes, most significant byte first. -/
def beOfWords (ws : List Nat) : List Byte := ws.flatMap (beBytes 4)

/-- A 512-bit pair as sixteen words, most significant first. -/
def pairWords (v : BitVec 512) : List Nat := (beWords 16 v.toNat).map (·.toNat)

def digestWords (v : W256) : List Nat := (beWords 8 v.toNat).map (·.toNat)

/-! ## Key slots (R417 to R419) -/

/-- Zeroise the slot of a key that a rule gives up; the read-back is all zeros (log 5). -/
def State.dropKey (s : State) (k : Option (Nat × KeySlot)) : State :=
  match k with
  | some (i, _) => s.zeroise i 0
  | none => s

/-- The FREE slot with the lowest number. -/
def State.freeKeySlot (s : State) : Option Nat := (List.range 64).find? (fun i => decide ((s.keySlot i).st = .free))

/-- The running op uses a slot. -/
def State.slotRuns (s : State) (o i : Nat) : Bool :=
  match s.ch.run with
  | none => false
  | some r => decide (r.op.owner = o) && ((flag (r.op.desc.getD 1 0) 5 && decide (dfld r.op.desc 1 0 5 = i)) ||
      (decide (dfld r.op.desc 0 0 8 = 0xFF) && decide (dfld r.op.desc 1 8 5 = i)))

/-- The sequences of R196, R238, R271, R294 and R319 restart, and STREAMED models are unloaded (R320, R418),
one that the running op uses when that op ends (R317). -/
def State.restartSeqs (s : State) (o : Nat) : State :=
  let s := s.setExport o { s.export_ o with seq := 0, widx := 0, doneSeqs := [], ring := [] }
  { s with
    ledger := { s.ledger with readNext := tset s.ledger.readNext o 0 0 }
    assay := { s.assay with dumpNo := s.assay.dumpNo.filter (fun e => e.1 % 32 ≠ o) }
    ch := { s.ch with
      seq := tset s.ch.seq o 0 0
      seqOut := tset s.ch.seqOut o false false
      loadNo := tset s.ch.loadNo o 0 0
      slots := s.ch.slots.filterMap (fun e =>
        if decide (e.1 / 32 = o) && e.2.streamed then (if s.slotRuns o (e.1 % 32) then some (e.1, { e.2 with going := true }) else none)
        else some e) } }

/-- The old memory key is given up and keygen rises (R418 steps 1 to 3 and 5). -/
def State.newGen (s : State) (o : Nat) : State :=
  let s := s.closeLighter o 3
  let s := s.dropKey (s.memKey o)
  let s := { s with chart := { s.chart with keygen := tset s.chart.keygen o (min 255 (s.keygen o + 1)) 0 } }
  s.restartSeqs o

/-! ## Packets -/

def specCharterBegin : OpSpec := { op := 0x80, priv := .hmOnly, len := exactly 1 }

/-- CHARTER_BEGIN (R407): the charter owns nothing and holds no key; its KEK goes (R415). -/
def bodyCharterBegin (pk : Pkt) (_ : Nat) (s : State) : Verdict :=
  let c := fld (pk.p 1) 0 4
  chk (decide (s.chState c ≠ .inactive)) .badParam 1 <|
  .done .ok [] { s with chart := { s.chart with st := tset s.chart.st c .active .inactive, kek := tset s.chart.kek c none none } }

def execCharterBegin (pk : Pkt) (s : State) : Res := .next (launch specCharterBegin bodyCharterBegin pk s)

def specAttest : OpSpec := { op := 0x82, priv := .any, len := exactly 8, inRecovery := true, free := true }

/-- The fuse state of A26 (R414). -/
def State.fuseState (s : State) : Nat :=
  b2n s.ident.secureBoot + b2n s.ident.debugLock * 2 + b2n s.ident.testLock * 4 + min 65535 s.ident.sparesFused * 2 ^ 16

/-- The occupied slots of an owner, by slot number. -/
def State.ownSlots (s : State) (o : Nat) : List (Nat × Loaded) :=
  s.ch.slots.filterMap (fun e => if e.1 / 32 = o then some (e.1 % 32, e.2) else none)

/-- The evidence A1 to A34 (R413). -/
def State.evidence (s : State) (o : Nat) (nonce : List Nat) : List Nat :=
  let fw := if s.dev.mode = .recovery then Config.recoveryDigest else s.dev.image.digest
  let images := Config.sha256 ((s.ownSlots o).flatMap (fun e => leBytes 1 e.1 ++ beBytes 32 e.2.digest.toNat))
  [s.dev.mode.code + o * 8] ++ digestWords fw ++ digestWords s.dev.settingsDigest ++ digestWords images ++ [s.fuseState] ++ nonce

/-- ATTEST (R413); without the identity key it is INTERNAL (R411). -/
def bodyAttest (pk : Pkt) (_ : Nat) (s : State) : Verdict :=
  let s := s.askKey 1
  if s.io.ksErr then .done .internal [0, 0] s else
  let ev := s.evidence pk.o (pk.ps.map (·.toNat))
  let fr := s.fresh
  .done .ok (ev ++ pairWords (Config.ecSign fr.1 identityKey (Config.sha256 (beOfWords ev))) ++ pairWords (Config.ecPublic identityKey)) fr.2

def execAttest (pk : Pkt) (s : State) : Res := .next (launch specAttest bodyAttest pk s)

def specKeyAgree : OpSpec := { op := 0x83, priv := .own, len := exactly 24, free := true }

/-- The info string of R415: "IDERUSK KEK", the owner, the chip index. -/
def kekInfo (o chip : Nat) : List Byte :=
  ([0x49, 0x44, 0x45, 0x52, 0x55, 0x53, 0x4B, 0x20, 0x4B, 0x45, 0x4B] : List Byte) ++ leBytes 1 o ++ leBytes 1 chip

/-- KEY_AGREE (R415); without the identity key it is INTERNAL (R411). -/
def bodyKeyAgree (pk : Pkt) (_ : Nat) (s : State) : Verdict :=
  let host : BitVec 512 := BitVec.ofNat 512 (ofBeWords (pk.ps.take 16))
  let nonce := pk.ps.drop 16
  chk (!Config.ecValid host) .badParam 1 <|
  let s := s.askKey 1
  if s.io.ksErr then .done .internal [0, 0] s else
  let eph := Config.ephemeral s.free
  let s := s.fresh.2
  let pub := Config.ecPublic eph
  let kek := Config.hkdf (BitVec.ofNat 256 (ofBeWords nonce)) (Config.ecdh eph host) (kekInfo pk.o s.chip)
  let msg := beOfWords ((pk.ps.take 16).map (·.toNat) ++ pairWords pub ++ nonce.map (·.toNat))
  let fr := s.fresh
  .done .ok (pairWords pub ++ pairWords (Config.ecSign fr.1 identityKey (Config.sha256 msg)))
    { fr.2 with chart := { fr.2.chart with kek := tset fr.2.chart.kek pk.o (some kek) none } }

def execKeyAgree (pk : Pkt) (s : State) : Res := .next (launch specKeyAgree bodyKeyAgree pk s)

/-- The descriptor's dram bit (R286). -/
def descDram (d : List W32) : Bool := flag (d.getD 0 0) 18

/-- What keeps a memory key from being replaced (R416); a dump runs until its last block has left the staging buffer. -/
def State.keyBusy (s : State) (o : Nat) : Bool :=
  s.ch.queue.any (fun x => decide (x.owner = o) && descDram x.desc) ||
  s.ch.standing.any (fun x => decide (x.owner = o) && descDram x.desc) ||
  (match s.ch.run with | some r => decide (r.op.owner = o) && descDram r.op.desc | none => false) ||
  s.assay.slots.any (fun e => decide (e.2.owner = o) && e.2.run.isSome) || s.assay.staging.any (fun b => decide (b.owner = o)) ||
  s.ledger.jobs.any (fun j => decide (j.1 = o)) ||
  s.ch.loads.any (fun l => decide (l.owner = o) && l.streamed)

def specKeyInstall : OpSpec := { op := 0x84, priv := .own, len := exactly 11 }

/-- Place a link key: NEXT beside a CURRENT key of a Convoy link; CURRENT at once on the STP, or where the link has no key
(R429, log 26). -/
def State.placeLink (s : State) (i link : Nat) (key : W256) : State :=
  if link = 3 then
    let s := s.dropKey (s.linkKey 3 false)
    (s.setKeySlot i ⟨.current, key, hm, 2, 3⟩).stpKeyed
  else if (s.linkKey link false).isNone then
    (s.setKeySlot i ⟨.current, key, hm, 2, link⟩).modPeer link (fun p => { p with
      sentNext := false, gotNext := false, a := { p.a with tx := 0, rx := 0, stopped := false }, b := { p.b with tx := 0, rx := 0, stopped := false } })
  else
    let s := s.dropKey (s.linkKey link true)
    (s.setKeySlot i ⟨.next, key, hm, 2, link⟩).modPeer link (fun p => { p with
      sentNext := false, gotNext := false, a := { p.a with txNext := 0, rxNext := 0 }, b := { p.b with txNext := 0, rxNext := 0 } })

/-- KEY_INSTALL (R416 to R418). -/
def bodyKeyInstall (pk : Pkt) (_ : Nat) (s : State) : Verdict :=
  let kind := fld (pk.p 1) 0 2
  let link := fld (pk.p 1) 2 2
  let o := pk.o
  chk (decide (kind = 2) && decide (o ≠ hm)) .denied 1 <|
  chk (decide (kind = 3)) .badParam 1 <|
  match tget s.chart.kek o none with
  | none => .reject .badParam 0 0
  | some kek =>
    match Config.keyUnwrap kek (BitVec.ofNat 320 (ofBeWords (pk.ps.drop 1))) with
    | none => .reject .integrity 2 0
    | some key =>
      chk (decide (kind = 0) && decide (s.keygen o = 255)) .exhausted 1 <|
      chk (decide (kind = 0) && s.keyBusy o) .busy 1 <|
      match s.freeKeySlot with
      | none => .reject .exhausted 1 0
      | some i =>
        let s := match kind with
          | 0 => (s.newGen o).setKeySlot i ⟨.current, key, o, 0, 0⟩
          | 1 => (s.dropKey (s.modelKey o)).setKeySlot i ⟨.current, key, o, 1, 0⟩
          | _ => s.placeLink i link key
        .done .ok [i + s.keygen o * 2 ^ 6] s

def execKeyInstall (pk : Pkt) (s : State) : Res := .next (launch specKeyInstall bodyKeyInstall pk s)

def specKeyZeroise : OpSpec := { op := 0x85, priv := .own, len := exactly 1 }

/-- KEY_ZEROISE (R419): a memory key's open lighter closes first; a link without its CURRENT key is down (R424). -/
def bodyKeyZeroise (readback : W256) (pk : Pkt) (_ : Nat) (s : State) : Verdict :=
  let i := fld (pk.p 1) 0 6
  let k := s.keySlot i
  chk (decide (k.st = .free) || decide (k.st = .dead) || decide (k.owner ≠ pk.o)) .denied 1 <|
  let s := if k.kind = 0 then s.closeLighter pk.o 3 else s
  let s := s.zeroise i readback
  let s := if k.kind = 2 && k.st = .current && decide (k.link < 3) && !(s.linkOpen k.link) then
      [false, true].foldl (fun s b => if ((s.peer k.link).lane b).up then s.laneDown k.link b else s) s
    else s
  .done .ok [] s

def execKeyZeroise (pk : Pkt) (readback : W256) (s : State) : Res := .next (launch specKeyZeroise (bodyKeyZeroise readback) pk s)

def specLinkMode : OpSpec := { op := 0x86, priv := .hmOnly, len := exactly 1 }

/-- LINK_MODE (R423, R428): a lane that is up starts again with a HELLO of the new mode. -/
def bodyLinkMode (pk : Pkt) (_ : Nat) (s : State) : Verdict :=
  let j := fld (pk.p 1) 0 2
  let m := flag (pk.p 1) 2
  let mine := setHousing s.dev.settings
  let same := match (s.peer j).hello with | some (_, h) => decide (h.toNat = mine) && decide (mine ≠ 0) | none => false
  chk (m && (decide (j = 3) || !same)) .denied 1 <|
  if j = 3 || (s.peer j).sealMode == m then .done .ok [] s
  else
    let s := s.modPeer j (fun p => { p with sealMode := m })
    .done .ok [] ([false, true].foldl (fun s b => if ((s.peer j).lane b).up then s.laneDown j b else s) s)

def execLinkMode (pk : Pkt) (s : State) : Res := .next (launch specLinkMode bodyLinkMode pk s)

def specCharterStatus : OpSpec := { op := 0x87, priv := .any, len := exactly 0 }

/-- CHARTER_STATUS (R403, R410). -/
def bodyCharterStatus (pk : Pkt) (_ : Nat) (s : State) : Verdict :=
  let o := pk.o
  let used := s.chart.slots.countP (fun e => decide (e.2.owner = o) && decide (e.2.st ≠ .free) && decide (e.2.st ≠ .dead))
  .done .ok [s.activeMask, s.keygen o + used * 2 ^ 8 + (s.units o).length * 2 ^ 14] s

def execCharterStatus (pk : Pkt) (s : State) : Res := .next (launch specCharterStatus bodyCharterStatus pk s)

end Sys2Proof.Machine
end

