-- ==== Sys2Proof/Machine/Lanes.lean ====
section
/-! DEFINITION. Lane arithmetic of the Counting House: formats, conversions, rounding, vectors, masks and accumulators
(R277, R298 to R301, R303). A vector is its 2,048 bits; the lanes of a format fill it from bit 0. -/

namespace Sys2Proof.Machine

/-! ## Formats (R298) -/

/-- The floating-point format of a code; none for integers. -/
def fmtOf (code : Nat) : Option Fmt :=
  match code with
  | 0 => some fmt32 | 1 => some fmt16 | 2 => some fmtBf | 3 => some fmtE4 | 4 => some fmtE5 | 5 => some ⟨3, 2, false⟩
  | 6 => some ⟨2, 3, false⟩ | 7 => some fmtE2 | 14 => some fmt64 | _ => none

def isFloat (code : Nat) : Bool := (fmtOf code).isSome

/-- INT32, INT16, INT8, UINT8, INT4, UINT4. -/
def isInt (code : Nat) : Bool := decide (8 ≤ code) && decide (code ≤ 13)

/-- Formats of 8 bits and fewer: the narrow formats of R305. -/
def isNarrow (code : Nat) : Bool := (decide (3 ≤ code) && decide (code ≤ 7)) || (decide (10 ≤ code) && decide (code ≤ 13))

def intRange (code : Nat) : Int × Int :=
  match code with
  | 8 => (-2147483648, 2147483647) | 9 => (-32768, 32767) | 10 => (-128, 127) | 11 => (0, 255) | 12 => (-8, 7) | _ => (0, 15)

/-- The width of a lane (R303); E is FP64. -/
def laneWidth (code : Nat) : Nat := if code = 14 then 64 else tapWidth code

/-- The lanes of a vector (R303): 320 of 6 bits in 240 bytes. -/
def laneCount (code : Nat) : Nat := if laneWidth code = 6 then 320 else 2048 / laneWidth code

/-- The value of a lane. -/
def laneVal (code x : Nat) : FVal := if code = 14 then fmt64.decode x else tapElem code x

/-- The canonical NaN, or for a format without one its largest finite value (R300). -/
def nanBits (code : Nat) : Nat :=
  match code with
  | 0 => 0x7FC00000 | 1 => 0x7E00 | 2 => 0x7FC0 | 3 => 0x7F | 4 => 0x7E | 5 => 0x1F | 6 => 0x1F | 7 => 0x7
  | 14 => 0x7FF8000000000000 | c => (intRange c).2.toNat

/-- A value beyond the range of its target, or an infinity (R301). -/
def overBits (code : Nat) (sat neg : Bool) : Nat :=
  match fmtOf code with
  | none => unsgn (laneWidth code) (if neg then (intRange code).1 else (intRange code).2)
  | some f =>
    if f.ieee && !sat then f.infBits neg
    else if code = 3 && !sat then nanBits 3
    else f.pack (if neg then -f.max else f.max) false

/-- The pattern of a value converted to a format (R299 to R301). -/
def encode (code : Nat) (r : Rnd) (sat : Bool) (v : FVal) : Nat :=
  match v with
  | .nan => nanBits code
  | .inf neg => overBits code sat neg
  | .fin q z =>
    match fmtOf code with
    | some f =>
      let g := f.grid r q
      if f.max < ratAbs g then overBits code sat (decide (q < 0)) else f.pack g (z || decide (q < 0))
    | none =>
      let n := roundInt r q
      let lim := intRange code
      unsgn (laneWidth code) (max lim.1 (min lim.2 n))

/-- An arithmetic result rounded in the operand format, to nearest even (R299). -/
def roundTo (code : Nat) (v : FVal) : Nat := encode code .rne false v

/-! ## Operations on values -/

def FVal.neg? : FVal → Bool
  | .nan => false
  | .inf n => n
  | .fin q z => decide (q < 0) || z

def FVal.isNan : FVal → Bool
  | .nan => true
  | _ => false

def addV (a b : FVal) : FVal :=
  match a, b with
  | .nan, _ => .nan
  | _, .nan => .nan
  | .inf m, .inf n => if m = n then .inf m else .nan
  | .inf m, _ => .inf m
  | _, .inf n => .inf n
  | .fin p y, .fin q z => .fin (p + q) (y && z)

def negV (a : FVal) : FVal :=
  match a with
  | .nan => .nan
  | .inf n => .inf (!n)
  | .fin q z => .fin (-q) (decide (q = 0) && !z)

def mulV (a b : FVal) : FVal :=
  let s := a.neg? != b.neg?
  match a, b with
  | .nan, _ => .nan
  | _, .nan => .nan
  | .inf _, .fin q _ => if q = 0 then .nan else .inf s
  | .fin q _, .inf _ => if q = 0 then .nan else .inf s
  | .inf _, .inf _ => .inf s
  | .fin p _, .fin q _ => .fin (p * q) (decide (p * q = 0) && s)

def divV (a b : FVal) : FVal :=
  let s := a.neg? != b.neg?
  match a, b with
  | .nan, _ => .nan
  | _, .nan => .nan
  | .inf _, .inf _ => .nan
  | .inf _, .fin _ _ => .inf s
  | .fin _ _, .inf _ => .fin 0 s
  | .fin p _, .fin q _ => if q = 0 then (if p = 0 then .nan else .inf s) else .fin (p / q) (decide (p = 0) && s)

/-- floor of the square root, bit by bit from 2^n. -/
def isqrtFrom : Nat → Nat → Nat → Nat
  | 0, _, a => a
  | n + 1, x, a => let b := a + 2 ^ n; isqrtFrom n x (if b * b ≤ x then b else a)

def isqrt (x : Nat) : Nat := isqrtFrom (Nat.log2 x / 2 + 1) x 0

/-- The square root, with a sticky half unit far below the precision of every format, so that it rounds as the exact one
does. -/
def sqrtV (a : FVal) : FVal :=
  match a with
  | .nan => .nan
  | .inf n => if n then .nan else .inf false
  | .fin q z =>
    if q = 0 then .fin 0 z
    else if q < 0 then .nan
    else
      let x := (q * pow2 1280).floor.toNat
      let r := isqrt x
      .fin (((2 * r + (if r * r = x then 0 else 1) : Nat) : Rat) * pow2 (-641)) false

/-- The exact sum of a list of values. -/
def sumV (l : List FVal) : FVal :=
  match l with
  | [] => .fin 0 false
  | x :: xs => xs.foldl addV x

/-- Less than, less or equal, equal (R305, CMP): none with a NaN. -/
def ltV (a b : FVal) : Bool :=
  match a, b with
  | .nan, _ => false
  | _, .nan => false
  | .inf m, .inf n => m && !n
  | .inf m, _ => m
  | _, .inf n => !n
  | .fin p _, .fin q _ => decide (p < q)

def eqV (a b : FVal) : Bool :=
  match a, b with
  | .inf m, .inf n => m == n
  | .fin p _, .fin q _ => decide (p = q)
  | _, _ => false

def absV (a : FVal) : FVal :=
  match a with
  | .nan => .nan
  | .inf _ => .inf false
  | .fin q _ => .fin (ratAbs q) false

/-! ## 2^x and log2 x (R305) -/

/-- ln 2 to 256 bits. -/
def ln2 : Rat := (80260960185991308862233904206310070533990667611589946606122867505419956976171 : Rat) / pow2 256

/-- A value on the grid of 2^-256: the intermediate values below are kept short on it. -/
def onGrid (q : Rat) : Rat := ((q * pow2 256).floor : Rat) / pow2 256

/-- The terms x^k / k! of the exponential, n of them from the k-th, `t` the k-th. -/
def expTerms : Nat → Nat → Rat → Rat → Rat
  | 0, _, _, a => a
  | n + 1, k, x, t => t + expTerms n (k + 1) x (onGrid (t * x / ((k + 1 : Nat) : Rat)))

/-- e^x for 0 ≤ x < 1, to more than 180 bits. -/
def expUnit (x : Rat) : Rat := expTerms 48 0 (onGrid x) 1

/-- 2^x, to more than 170 bits; beyond 2^±2000 the power is taken at that bound, outside every format. -/
def exp2Near (x : Rat) : Rat :=
  if 2000 ≤ x then pow2 2000
  else if x ≤ -2000 then pow2 (-2000)
  else pow2 x.floor * expUnit ((x - (x.floor : Rat)) * ln2)

/-- The terms z^(2k+1) / (2k+1), n of them from the k-th, `t` = z^(2k+1). -/
def atanhTerms : Nat → Nat → Rat → Rat → Rat
  | 0, _, _, _ => 0
  | n + 1, k, y, t => t / ((2 * k + 1 : Nat) : Rat) + atanhTerms n (k + 1) y (onGrid (t * y))

/-- ln q of a positive q, to more than 170 bits. -/
def lnNear (q : Rat) : Rat :=
  let e := ilog2 q
  let m := q / pow2 e
  let z := onGrid ((m - 1) / (m + 1))
  (e : Rat) * ln2 + 2 * atanhTerms 56 0 (z * z) z

def log2Near (q : Rat) : Rat := lnNear q / ln2

/-- One unit in the last place at a value. -/
def Fmt.ulp (f : Fmt) (q : Rat) : Rat :=
  let e := ilog2 (ratAbs q)
  pow2 ((if q = 0 || decide (e < 1 - f.bias) then 1 - f.bias else e) - f.mb)

/-- A pattern whose value lies within 1 ULP of an exact value; an infinity counts where the value is past the largest. -/
def Fmt.within (f : Fmt) (c : Nat) (q : Rat) : Bool :=
  match f.decode c with
  | .fin v _ => decide (ratAbs (v - q) < f.ulp q * (1 - pow2 (-20)))
  | .inf n => decide (f.max ≤ ratAbs q) && (n == decide (q < 0))
  | .nan => false

/-- A result that the spec bounds to 1 ULP: a candidate where it meets the bound, else the value rounded to nearest even
(log 6). -/
def Fmt.oneUlp (f : Fmt) (c : Nat) (q : Rat) : Nat := if f.within (c % 2 ^ f.bits) q then c % 2 ^ f.bits else f.ofRat q

/-- A pattern with the canonical NaN in the place of any other (R300). -/
def canonNan (code x : Nat) : Nat := if (laneVal code x).isNan then nanBits code else x

/-- 2^x in a format (R305). An infinite x gives what IEEE 754 gives (log 6). -/
def exp2Lane (code cand : Nat) (v : FVal) : Nat :=
  match v, fmtOf code with
  | .fin q _, some f => f.oneUlp cand (exp2Near q)
  | .inf n, _ => roundTo code (if n then .fin 0 false else .inf false)
  | _, _ => nanBits code

/-- log2 x in a format (R305). The logarithm of 0 and of a negative number has no stated value (log 6). -/
def log2Lane (code cand : Nat) (v : FVal) : Nat :=
  match v, fmtOf code with
  | .fin q _, some f => if 0 < q then f.oneUlp cand (log2Near q) else canonNan code (cand % 2 ^ f.bits)
  | .inf false, _ => roundTo code (.inf false)
  | .inf true, some f => canonNan code (cand % 2 ^ f.bits)
  | _, _ => nanBits code

/-! ## Vectors -/

/-- Lane i of a vector. -/
def lane (code v i : Nat) : Nat := bits v (laneWidth code * i) (laneWidth code)

def lanes (code v : Nat) : List Nat := (List.range (laneCount code)).map (lane code v)

def vals (code v : Nat) : List FVal := (lanes code v).map (laneVal code)

/-- A number from its lanes, lane 0 least significant. -/
def ofLanes (w : Nat) : List Nat → Nat
  | [] => 0
  | x :: xs => x % 2 ^ w + 2 ^ w * ofLanes w xs

/-- The lanes written into a vector: a lane that has no value here, or that the mask leaves out, keeps `old`. -/
def putLanes (code : Nat) (old : BitVec 2048) (mask : Option (BitVec 256)) (xs : List (Option Nat)) : BitVec 2048 :=
  let w := laneWidth code
  let n := laneCount code
  let new := (List.range n).map (fun i =>
    match xs.getD i none with
    | some x => if (match mask with | some m => decide (i < 256) && m.getLsbD i | none => true) then x else lane code old.toNat i
    | none => lane code old.toNat i)
  BitVec.ofNat 2048 (ofLanes w new + old.toNat / 2 ^ (w * n) * 2 ^ (w * n))

/-! ## Accumulators (R299) -/

/-- What the accumulator of a format holds: FP32, FP64 or a 32-bit integer. -/
inductive AccKind where
  | f32 | f64 | i32
  deriving DecidableEq, Repr

def accKind (code : Nat) : AccKind :=
  if code = 0 || code = 8 || code = 14 then .f64 else if isInt code then .i32 else .f32

/-- Lanes of an accumulator register: two adjacent lanes hold one FP64 (R303). -/
def AccKind.lanes : AccKind → Nat
  | .f64 => 128
  | _ => 256

def AccKind.code : AccKind → Nat
  | .f32 => 0
  | .f64 => 14
  | .i32 => 8

/-- The pattern of lane i of accumulator k. -/
def accGet (acc : Tab (BitVec 32)) (k : Nat) (kind : AccKind) (i : Nat) : Nat :=
  match kind with
  | .f64 => (tget acc (k * 256 + 2 * i) 0).toNat + (tget acc (k * 256 + 2 * i + 1) 0).toNat * 2 ^ 32
  | _ => (tget acc (k * 256 + i) 0).toNat

def accSet (acc : Tab (BitVec 32)) (k : Nat) (kind : AccKind) (i x : Nat) : Tab (BitVec 32) :=
  match kind with
  | .f64 => tset (tset acc (k * 256 + 2 * i) (BitVec.ofNat 32 x) 0) (k * 256 + 2 * i + 1) (BitVec.ofNat 32 (x / 2 ^ 32)) 0
  | _ => tset acc (k * 256 + i) (BitVec.ofNat 32 x) 0

/-- Add an exact value into an accumulator pattern, rounding once; the flag is an integer saturation. -/
def accAdd (kind : AccKind) (x : Nat) (v : FVal) : Nat × Bool :=
  let r := addV (laneVal kind.code x) v
  let beyond := match kind, r with
    | .i32, .fin q _ => decide (q < -2147483648) || decide (2147483647 < q)
    | _, _ => false
  (roundTo kind.code r, beyond)

/-- The sum of the lanes of a vector, rounded once (R299): the accumulator's pattern, and a saturation. -/
def sumLanes (code : Nat) (l : List FVal) : Nat × Bool := accAdd (accKind code) 0 (sumV l)

/-- An accumulator's pattern as a scalar: an FP value as FP64, an integer sign-extended. -/
def AccKind.scalar (k : AccKind) (x : Nat) : Nat :=
  match k with
  | .f64 => x
  | .f32 => encode 14 .rne false (laneVal 0 x)
  | .i32 => unsgn 64 (sgn 32 x)

/-- A lane as a scalar: integer sign-extended, floating point to FP64 (R305, XLANE). -/
def laneScalar (code x : Nat) : Nat :=
  match laneVal code x with
  | .fin q z => if isInt code then unsgn 64 (roundInt .rtz q) else encode 14 .rne false (.fin q z)
  | v => encode 14 .rne false v

/-- A scalar as the value of a format: FP64 for a floating-point format, a 64-bit integer otherwise. -/
def scalarVal (code x : Nat) : FVal := if isInt code then intVal (sgn 64 x) else fmt64.decode x

end Sys2Proof.Machine
end

