-- ==== Sys2Proof/Machine/Wear.lean ====
section
/-! DEFINITION. The wear physics of Survey (R330, R334 to R337), turning points and rainflow counting, what WEAR_PREDICT
reports (R338, R339) and the journal (R340 to R342). Every arithmetic step is in FP64. -/

namespace Sys2Proof.Machine

/-! ## FP64 -/

def f64 (q : Rat) : W64 := BitVec.ofNat 64 (roundTo 14 (.fin q false))
def v64 (x : W64) : FVal := fmt64.decode x.toNat
def add64 (a b : W64) : W64 := BitVec.ofNat 64 (roundTo 14 (addV (v64 a) (v64 b)))
def sub64 (a b : W64) : W64 := BitVec.ofNat 64 (roundTo 14 (addV (v64 a) (negV (v64 b))))
def mul64 (a b : W64) : W64 := BitVec.ofNat 64 (roundTo 14 (mulV (v64 a) (v64 b)))
def div64 (a b : W64) : W64 := BitVec.ofNat 64 (roundTo 14 (divV (v64 a) (v64 b)))
def sqrt64 (a : W64) : W64 := BitVec.ofNat 64 (roundTo 14 (sqrtV (v64 a)))
def to32 (a : W64) : W32 := BitVec.ofNat 32 (encode 0 .rne false (v64 a))
def le64 (a b : W64) : Bool := ltV (v64 a) (v64 b) || eqV (v64 a) (v64 b)
def of32 (a : W32) : W64 := BitVec.ofNat 64 (encode 14 .rne false (fp32 a.toNat))
def inf64 : W64 := 0x7FF0000000000000
def nan64 : W64 := 0x7FF8000000000000

/-- exp x, within 1 ULP (log 6). -/
def exp64 (x : W64) : W64 :=
  match v64 x with
  | .fin q _ => BitVec.ofNat 64 (fmt64.oneUlp (Config.exp64 x).toNat (exp2Near (q / ln2)))
  | .inf n => if n then 0 else inf64
  | .nan => nan64

/-- a^b, within 1 ULP for a positive a; 0 for a = 0 and a positive b; elsewhere the rules use no value (log 6). -/
def pow64 (a b : W64) : W64 :=
  match v64 a, v64 b with
  | .fin p _, .fin q _ =>
    if 0 < p then BitVec.ofNat 64 (fmt64.oneUlp (Config.pow64 a b).toNat (exp2Near (q * log2Near p)))
    else if p = 0 && decide (0 < q) then 0 else Config.pow64 a b
  | _, _ => Config.pow64 a b

/-! ## Units and slots of the Counting House (R279, R317) -/

def State.loaded? (s : State) (o i : Nat) : Option Loaded := (s.ch.slots.find? (fun e => e.1 = o * 32 + i)).map Prod.snd

/-- State units of an owner, ascending (R279). -/
def State.stUnits (s : State) (o : Nat) : List Nat := (List.range 32).filter (fun u => decide (tget s.ch.stUnit u 31 = o))

/-- Model-store units of an owner. -/
def State.mdUnits (s : State) (o : Nat) : List Nat := (List.range 32).filter (fun u => decide (tget s.ch.mdUnit u 31 = o))

/-- The harbourmaster keeps the units that Survey needs (R332). -/
def State.surveyUnits (s : State) : Bool := decide (2 ≤ (s.stUnits hm).length) && decide (2 ≤ (s.mdUnits hm).length)

/-- The words of the model that a WEAR_PREDICT op uses, its digest first; none without a loaded model, or without the units
of R332. -/
def State.wearModel (s : State) (d : List W32) : List W64 :=
  if s.surveyUnits && flag (d.getD 1 0) 5 then
    match s.loaded? hm (fld (d.getD 1 0) 0 5) with
    | some l => words64 (beBytes 32 l.digest.toNat ++ l.plain)
    | none => []
  else []

/-! ## The calibration set (R334) -/

/-- The defaults of R334: t_ref, v_ref, ea_bti, gamma, L_S, ea_em, L_EM, q, dt_ref, N_ref of the die and of the package,
sigma_p, sigma_none. -/
def calibDefault : List Rat := [105, 3 / 4, 1 / 2, 4, 20000, 9 / 10, 50000, 5 / 2, 100, 20000, 6000, 3 / 10, 1 / 2]

/-- The payload of the calibration item, where it verifies (R496). -/
def State.calibItem (s : State) : List Byte := if itemOk 2 s.lb.calibration then itemPayload s.lb.calibration else []

/-- The calibration set in use: a new item takes effect at the next survey tick (R502). -/
def State.calibSet (s : State) : List Byte := s.survey.consts

/-- The Survey takes the constants of the calibration item (R487 step 10, R502). -/
def State.takeConsts (s : State) : State := { s with survey := { s.survey with consts := s.calibItem } }

def State.con (s : State) (i : Nat) : W64 :=
  if s.calibSet.isEmpty then f64 (calibDefault.getD i 0) else (Config.calib s.calibSet i).getD (f64 (calibDefault.getD i 0))

/-- i_ref of a rail in 4 mA units: of the calibration set, else the integration value (R334). -/
def State.iRef (s : State) (r : Nat) : W64 :=
  let d := f64 (((tget s.ident.iref r 0).toNat : Nat) : Rat)
  if s.calibSet.isEmpty then d else (Config.calib s.calibSet (13 + r)).getD d

/-- exp((ea / k) * (1 / t_ref - 1 / t)), t in degrees Celsius (R330). -/
def State.afT (s : State) (t : Rat) (ea : W64) : W64 :=
  let k := f64 (8617333 / 100000000000)
  let z := f64 (27315 / 100)
  let ref := add64 (s.con 0) z
  let tk := add64 (f64 t) z
  exp64 (mul64 (div64 ea k) (sub64 (div64 (f64 1) ref) (div64 (f64 1) tk)))

/-! ## Sites (R322) -/

def State.zoneRailOf (s : State) (z : Nat) : Nat := tget s.ident.zoneRail z (z % 8)
def State.monZoneOf (s : State) (m : Nat) : Nat := tget s.ident.monZone m (m % 32)

def State.sensorFailed (s : State) (addr : Nat) : Bool := s.survey.failed.getLsbD addr

def State.zoneTemp (s : State) (z : Nat) : Int := sgn 16 (tget s.survey.temp z 0).toNat

/-- The hottest of some zones. -/
def State.hottest (s : State) (zs : List Nat) : Option Int :=
  zs.foldl (fun (a : Option Int) z => let t := s.zoneTemp z; match a with | none => some t | some b => some (max b t)) none

/-! ## Increments (R330) -/

/-- The mean voltage of a rail over an interval (R325). -/
def State.railVolt (s : State) (a : Accum) (r : Nat) : W64 :=
  let i := tget a.railI r 0
  if i = 0 then s.con 1 else f64 (((tget a.railP r 0 : Nat) : Rat) / (2 * ((i : Nat) : Rat)))

def State.dStress (s : State) (a : Accum) (z : Nat) : W64 :=
  let v := pow64 (div64 (s.railVolt a (s.zoneRailOf z)) (s.con 1)) (s.con 3)
  (List.range 48).foldl (fun acc j =>
    let n := tget a.hist (z * 64 + j) 0
    if n = 0 then acc
    else
      let t := div64 (mul64 (f64 n) (f64 (1 / 100))) (f64 3600)
      add64 acc (mul64 (mul64 t (s.afT (-38 + 4 * (j : Rat)) (s.con 2))) v)) 0

def State.dEm (s : State) (a : Accum) (r : Nat) : W64 :=
  let i := s.iRef r
  (List.range 16).foldl (fun acc b =>
    let n := tget a.em (r * 16 + b) 0
    if n = 0 then acc
    else
      let t := div64 (mul64 (f64 n) (f64 (4 / 100000000))) (f64 3600)
      add64 acc (mul64 (div64 t (mul64 i i)) (s.afT (-34 + 12 * (b : Rat)) (s.con 5)))) 0

/-! ## Turning points (R327) and rainflow (ASTM E1049) -/

/-- One reading against the turning direction (0 none yet, 1 unknown, 2 up, 3 down) and the extreme: the new pair and a
reversal to queue, with a hysteresis of 2 degrees. -/
def turn (d : Nat × Int) (t : Int) : (Nat × Int) × Option Int :=
  match d.1 with
  | 0 => ((1, t), none)
  | 1 => if d.2 + 256 ≤ t then ((2, t), none) else if t + 256 ≤ d.2 then ((3, t), none) else (d, none)
  | 2 => if d.2 < t then ((2, t), none) else if t + 256 ≤ d.2 then ((3, t), some d.2) else (d, none)
  | _ => if t < d.2 then ((3, t), none) else if d.2 + 256 ≤ t then ((2, t), some d.2) else (d, none)

/-- A reading of a series (32 the coolant): a reversal joins its queue, which holds 64. -/
def State.turnOf (s : State) (k : Nat) (t : Int) : State :=
  let r := turn (tget s.survey.dir k (0, 0)) t
  let q := tget s.survey.live.tp k []
  let q := match r.2 with | some e => if q.length < 64 then q ++ [BitVec.ofInt 16 e] else q | none => q
  { s with survey := { s.survey with
      dir := tset s.survey.dir k r.1 (0, 0), live := { s.survey.live with tp := tset s.survey.live.tp k q [] } } }

/-- Reduce a stack of points, newest first: ranges counted with weight 1 or one half, and what stays. -/
def reduceRf : Nat → List Int → List (Rat × Int) → List Int × List (Rat × Int)
  | 0, st, out => (st, out)
  | n + 1, st, out =>
    match st with
    | c :: b :: a :: rest =>
      let x := (c - b).natAbs
      let y := (b - a).natAbs
      if x < y then (st, out)
      else if rest.isEmpty then reduceRf n [c, b] (out ++ [(1 / 2, (y : Int))])
      else reduceRf n (c :: rest) (out ++ [(1, (y : Int))])
    | _ => (st, out)

/-- Rainflow over a queue: the cycles counted, and the points left unpaired. -/
def rainflow (ps : List Int) : List (Rat × Int) × List Int :=
  let r := ps.foldl (fun (a : List Int × List (Rat × Int)) p => reduceRf 64 (p :: a.1) a.2) ([], [])
  (r.2, r.1.reverse)

/-- dC of a queue (R330): cycles below 4 degrees are ignored. -/
def State.dCyc (s : State) (cs : List (Rat × Int)) : W64 :=
  cs.foldl (fun acc c =>
    if c.2 < 512 then acc
    else add64 acc (mul64 (f64 c.1) (pow64 (div64 (f64 ((c.2 : Rat) / 128)) (s.con 8)) (s.con 7)))) 0

/-! ## The totals (R329, R333) -/

/-- Both copies of the totals are written. -/
def State.setTotals (s : State) (t : Totals) : State := { s with survey := { s.survey with totals := t, mirror := t } }

/-- Page p of a copy of the totals taken from another: S of the zones, C of the zones, and the rest (R333). -/
def Totals.takePage (t u : Totals) (p : Nat) : Totals :=
  let cyc := fun (k : Nat → Bool) (a b : Tab W64) => (List.range 41).foldl (fun (x : Tab W64) i => tset x i (tget (if k i then b else a) i 0) 0) []
  match p with
  | 0 => { t with sHours := u.sHours }
  | 1 => { t with cyc := cyc (fun i => decide (i < 32)) t.cyc u.cyc }
  | _ => { t with eHours := u.eHours, cyc := cyc (fun i => decide (32 ≤ i)) t.cyc u.cyc, h := u.h }

def addTo (t : Tab W64) (k : Nat) (d : W64) : Tab W64 := tset t k (add64 (tget t k 0) d) 0

/-- The sites whose cycles are counted, with their queues: zones 0 to 31, and the coolant for site 40. -/
def tcSites : List (Nat × Nat) := (List.range 32).map (fun z => (z, z)) ++ [(40, 32)]

/-- The shadow bank's increments of one kind are added: 1 stress, 2 EM, 3 cycles; turning points left unpaired go back to
the head of their queue. -/
def State.addIncrement (s : State) (a : Accum) (kind : Nat) : State :=
  let t := s.survey.totals
  match kind with
  | 1 => s.setTotals { t with sHours := (List.range 32).foldl (fun x z => addTo x z (s.dStress a z)) t.sHours }
  | 2 => s.setTotals { t with eHours := (List.range 8).foldl (fun x r => addTo x r (s.dEm a r)) t.eHours }
  | _ =>
    let rs := tcSites.map (fun e => (e.1, e.2, rainflow ((tget a.tp e.2 []).map (fun p => sgn 16 p.toNat))))
    let cyc := rs.foldl (fun x e => addTo x e.1 (s.dCyc e.2.2.1)) t.cyc
    let tp := rs.foldl (fun (q : Tab (List (BitVec 16))) e =>
      tset q e.2.1 ((e.2.2.2.map (fun p => BitVec.ofInt 16 p) ++ tget q e.2.1 []).take 64) []) s.survey.live.tp
    let s := s.setTotals { t with cyc := cyc }
    { s with survey := { s.survey with live := { s.survey.live with tp := tp } } }

/-! ## What WEAR_PREDICT reports (R334 to R338) -/

/-- A mechanism's outputs at a site: mechanism 0 BTI, 1 EM, 2 TC. -/
structure Mech where
  site : Nat
  mech : Nat
  wPhys : W64
  r : W64
  sr : W64
  w : W64
  sigma : W64
  lower : W64
  upper : W64
  rul : W64
  rulLow : W64
  rulHigh : W64
  eol : Nat
  years : Option W64
  deriving DecidableEq, Repr

def siteMechs : List (Nat × Nat) :=
  (List.range 32).flatMap (fun z => [(z, 0), (z, 2)]) ++ (List.range 8).map (fun r => (32 + r, 1)) ++ [(40, 2)]

def State.wPhys (s : State) (site mech : Nat) : W64 :=
  let t := s.survey.totals
  match mech with
  | 0 => div64 (tget t.sHours site 0) (s.con 4)
  | 1 => div64 (tget t.eHours (site - 32) 0) (s.con 6)
  | _ => div64 (tget t.cyc site 0) (if site = 40 then s.con 10 else s.con 9)

def State.cvtSec (s : State) : Nat := s.time.cvt / 2 ^ 40 / 1000000000

/-- The entry serves for duty (R337). -/
def State.dutyNow (s : State) : Bool := decide (s.tstate ≠ .detached) && decide (s.time.epoch ≠ 0)

/-- The entry RUL is counted from, and the one duty is counted from. -/
def State.oldEntry (s : State) (journal : Bool) : Option Past :=
  let p := s.survey.past
  if p.length < (if journal then 1 else 2) then none else p[min 29 (p.length - 1)]?

def State.dutyEntry (s : State) : Option Past :=
  if s.dutyNow then (s.survey.past.drop (min 29 (s.survey.past.length - 1))).find? (fun p => p.duty) else none

/-- Calendar duty of R337. -/
def State.duty (s : State) : Option W64 :=
  match s.dutyEntry with
  | some p => if p.sec < s.cvtSec then
      some (div64 (sub64 s.survey.totals.h p.h) (div64 (f64 ((s.cvtSec - p.sec : Nat) : Rat)) (f64 3600))) else none
  | none => none

/-- The seconds of an eol, 0 for none, saturating at 48 bits. -/
def eolSec (x : W64) : Nat := match v64 x with | .fin q _ => min (2 ^ 48 - 1) q.floor.toNat | _ => 0

/-- The mean deficit of a monitor since the last journal entry, rounded to its unit (R340); before a reading, the last one
(log 98). -/
def State.monMean (s : State) (m : Nat) : Nat :=
  let a := tget s.survey.monSum m (0, 0)
  if a.2 = 0 then (tget s.survey.monitors m 0).toNat else (2 * a.1 + a.2) / (2 * a.2)

/-- The measured drift of a zone in ppm: the mean deficit of its monitors (R336). -/
def State.zoneDrift (s : State) (z : Nat) : W64 :=
  let ms := (List.range 72).filter (fun m => decide (s.monZoneOf m = z) && !s.sensorFailed m)
  if ms.isEmpty then 0
  else
    let sum := ms.foldl (fun a m => a + s.monMean m) 0
    f64 ((sum : Rat) * 1000000 / 1048576 / (ms.length : Rat))

/-- The points (S, d) of a zone with d > 0: now, and the last entries, 30 in all (R336). -/
def State.driftPoints (s : State) (z : Nat) : List (Rat × Rat) :=
  let ps := (tget s.survey.totals.sHours z 0, s.zoneDrift z) :: (s.survey.past.take 29).map (fun q => (tget q.s z 0, tget q.d z 0))
  ps.filterMap (fun p => match v64 p.1, v64 p.2 with
    | .fin x _, .fin d _ => if 0 < x ∧ 0 < d then some (x, d) else none
    | _, _ => none)

/-- The exponent n of d = a S^n by least squares on log d against log S; none with fewer than 3 points, or all of one S
(R336, log 6). -/
def State.driftExp (s : State) (z : Nat) : Option W64 :=
  let ps := (s.driftPoints z).map (fun p => (lnNear p.1, lnNear p.2))
  let n : Rat := ((ps.length : Nat) : Rat)
  let sx := (ps.map Prod.fst).sum
  let sy := (ps.map Prod.snd).sum
  let sxx := (ps.map (fun p => p.1 * p.1)).sum
  let sxy := (ps.map (fun p => p.1 * p.2)).sum
  let den := n * sxx - sx * sx
  if ps.length < 3 || den = 0 then none else some (f64 ((n * sxy - sx * sy) / den))

/-- d and n of every zone, which RO_DRIFT reports (R336). -/
def State.driftArgs (s : State) : List W64 := (List.range 32).flatMap (fun z => [s.zoneDrift z, (s.driftExp z).getD 0])

/-! ## The model's features (R335) -/

/-- The zone that stands for a site: its own, or the hottest of its rail or of the chip (log 87). -/
def State.siteZone (s : State) (site : Nat) : Nat :=
  if site < 32 then site
  else
    let zs := (List.range 32).filter (fun z => decide (site = 40) || decide (s.zoneRailOf z = site - 32))
    zs.foldl (fun a z => if s.zoneTemp a < s.zoneTemp z then z else a) (zs.headD 0)

/-- The readings of a zone in the interval in progress by bin, the last temperature where there is none yet. -/
def State.binCounts (s : State) (z : Nat) : List (Rat × Nat) :=
  let bs := (List.range 48).map (fun (j : Nat) => (-38 + 4 * (j : Rat), tget s.survey.live.hist (z * 64 + j) 0))
  if bs.all (fun b => decide (b.2 = 0)) then [((s.zoneTemp z : Rat) / 128, 1)] else bs

/-- Mean and 95th-percentile temperature of a zone. -/
def State.tempStats (s : State) (z : Nat) : Rat × Rat :=
  let bs := s.binCounts z
  let n := bs.foldl (fun a b => a + b.2) 0
  let sum := bs.foldl (fun (a : Rat) b => a + b.1 * ((b.2 : Nat) : Rat)) 0
  let top := bs.foldl (fun (a : Nat × Option Rat) b =>
    let m := a.1 + b.2
    (m, if a.2.isSome || decide (m * 100 < n * 95) then a.2 else some b.1)) (0, none)
  (sum / ((max 1 n : Nat) : Rat), top.2.getD 0)

/-- The 16 features of a site and mechanism, FP32 (R335). -/
def State.features (s : State) (site : Nat) (wPhys growth : W64) : List W32 :=
  let z := s.siteZone site
  let t := s.tempStats z
  [to32 wPhys, to32 growth, to32 (f64 t.1), to32 (f64 t.2), to32 (s.railVolt s.survey.live (s.zoneRailOf z)), to32 (s.zoneDrift z),
   to32 ((s.driftExp z).getD 0)] ++ List.replicate 9 0

/-! ## What a run reports -/

def k1645 : W64 := f64 (1645 / 1000)

/-- A mechanism at a site; `model` are the words of the WEAR_PREDICT model, none while none is loaded. -/
def State.mechAt (s : State) (journal : Bool) (model : List W64) (site mech : Nat) : Mech :=
  let wp := s.wPhys site mech
  let one := f64 1
  let old := s.oldEntry journal
  let growth := match old with | some p => sub64 wp (tget p.w (mech * 64 + site) 0) | none => 0
  let m := if model.isEmpty then (0, s.con 12) else Config.residual model site mech (s.features site wp growth)
  let sp := if s.survey.subst.getLsbD site then mul64 (f64 2) (s.con 11) else s.con 11
  let sigma := sqrt64 (add64 (mul64 sp sp) (mul64 m.2 m.2))
  let ks := mul64 k1645 sigma
  let w := mul64 wp (exp64 m.1)
  let lower := mul64 w (exp64 (sub64 0 ks))
  let upper := mul64 w (exp64 ks)
  let base : Mech := ⟨site, mech, wp, m.1, m.2, w, sigma, lower, upper, inf64, inf64, inf64, 0, none⟩
  match old with
  | none => base
  | some p =>
    let rho := mul64 (div64 growth (sub64 s.survey.totals.h p.h)) (exp64 m.1)
    if ltV (.fin 0 false) (v64 rho) then
      let rul := div64 (sub64 one w) rho
      let d := sub64 one upper
      let low := div64 (if ltV (v64 d) (.fin 0 false) then 0 else d) (mul64 rho (exp64 ks))
      let high := div64 (sub64 one lower) (mul64 rho (exp64 (sub64 0 ks)))
      let eol := match s.duty with
        | some q => eolSec (add64 (f64 (s.cvtSec : Rat)) (div64 (mul64 rul (f64 3600)) q))
        | none => 0
      { base with rul := rul, rulLow := low, rulHigh := high, eol := eol, years := s.duty.map (fun q => div64 (div64 low q) (f64 8766)) }
    else base

/-- Of some mechanisms the one with the largest index. -/
def largest (ms : List Mech) : Option Mech :=
  ms.foldl (fun (a : Option Mech) m => match a with | none => some m | some b => if ltV (v64 b.w) (v64 m.w) then some m else some b) none

/-- The mechanisms of a run, and each site's largest, site 255 last. -/
def State.predict (s : State) (journal : Bool) (model : List W64) : List Mech × List (Nat × Mech) :=
  let ms := siteMechs.map (fun e => s.mechAt journal model e.1 e.2)
  let sites := (List.range 41).filterMap (fun site => (largest (ms.filter (fun m => m.site = site))).map (fun m => (site, m)))
  (ms, sites ++ ((largest (sites.map Prod.snd)).map (fun m => (255, m))).toList)

/-- A SURVEY record's values. -/
structure Out where
  site : Nat
  kind : Nat
  value : W32
  lower : W32
  upper : W32
  eol : Nat
  deriving DecidableEq, Repr

def Mech.out (m : Mech) (site kind : Nat) : Out := ⟨site, kind, to32 m.w, to32 m.lower, to32 m.upper, m.eol⟩

/-- The outputs of a run in the order of R338. -/
def State.outputs (s : State) (p : List Mech × List (Nat × Mech)) : List Out :=
  p.1.map (fun m => m.out m.site m.mech) ++
  p.2.map (fun e => e.2.out e.1 3) ++
  p.2.map (fun e => (⟨e.1, 4, to32 e.2.rul, to32 e.2.rulLow, to32 e.2.rulHigh, e.2.eol⟩ : Out)) ++
  (List.range 32).map (fun z =>
    let d := to32 (s.zoneDrift z)
    let f := match s.driftExp z with
      | some _ => Config.driftFit z (s.zoneDrift z) ((s.driftPoints z).map (fun (p : Rat × Rat) => (f64 p.1, f64 p.2)))
      | none => (d, d)
    (⟨z, 5, d, f.1, f.2, 0⟩ : Out)) ++
  (p.2.filter (fun e => e.1 ≠ 255)).map (fun e =>
    let k := mul64 k1645 e.2.sr
    (⟨e.1, 6, to32 e.2.r, to32 (sub64 e.2.r k), to32 (add64 e.2.r k), 0⟩ : Out))

/-- A site meets a level (R339). -/
def meets (m : Mech) (upper years : W32) : Bool :=
  le64 (of32 upper) m.upper || (match m.years with | some y => le64 y (of32 years) | none => false)

def State.atWarning (s : State) (m : Mech) : Bool := meets m s.survey.warnUpper s.survey.warnYears
def State.atAdvisory (s : State) (m : Mech) : Bool := meets m s.survey.advUpper s.survey.advYears

/-- The levels after a run, and the raises of R339: each level of a site that meets it once per journal entry. -/
def State.levels (s : State) (sites : List (Nat × Mech)) : State :=
  sites.foldl (fun s e =>
    let a := s.atAdvisory e.2
    let w := s.atWarning e.2
    let v := s.survey
    let s := { s with survey := { v with
      advisory := setBit v.advisory e.1 a, warning := setBit v.warning e.1 w
      raisedA := if a then setBit v.raisedA e.1 true else v.raisedA
      raisedW := if w then setBit v.raisedW e.1 true else v.raisedW } }
    let s := if a && !v.raisedA.getLsbD e.1 then s.raise 0x802 e.1 0 else s
    if w && !v.raisedW.getLsbD e.1 then s.raise 0x803 e.1 0 else s) s

/-- A run of WEAR_PREDICT ends OK: its SURVEY records, the latest values, the levels (R338, R339). -/
def State.wearRun (s : State) (journal : Bool) (model : List W64) : State :=
  let p := s.predict journal model
  let outs := s.outputs p
  let s := outs.foldl (fun s o => s.emit 132 hm 0x29 2 s.ts (o.site + o.kind * 2 ^ 8) [o.value.toNat + o.lower.toNat * 2 ^ 32, o.upper.toNat, o.eol]) s
  let latest := outs.foldl (fun t o => tset t (o.site * 16 + o.kind) ⟨o.value, o.lower, o.upper, BitVec.ofNat 48 o.eol, BitVec.ofNat 32 s.survey.entryNo⟩ Latest.zero) s.survey.latest
  ({ s with survey := { s.survey with latest := latest } }).levels p.2

/-! ## The journal (R340 to R342) -/

/-- The 2,048 bytes of an entry. -/
def State.entryBytes (s : State) (ckpt : Bool) (model : List W64) : List Byte :=
  let v := s.survey
  let t := v.totals
  let p := (s.predict true model).2
  let flags := b2n v.keeperPath + b2n v.coolantStale * 2 + b2n v.restored * 4 + b2n model.isEmpty * 8 + b2n ckpt * 16
  let head := leBytes 4 0x1D3E5A81 ++ leBytes 1 1 ++ leBytes 1 s.chip ++ leBytes 2 flags ++ leBytes 4 v.entryNo ++ leBytes 4 v.lostS ++
    leBytes 8 t.h.toNat ++ leBytes 12 s.cvt96 ++ leBytes 2 s.time.epoch.toNat ++ leBytes 1 s.tstate.code ++ List.replicate 25 0
  let site := fun (i : Nat) =>
    let m := (p.find? (fun e => e.1 = i)).map Prod.snd
    let g := fun (f : Mech → W64) => (match m with | some m => (to32 (f m)).toNat | none => 0)
    let tot := if i < 32 then tget t.sHours i 0 else if i < 40 then tget t.eHours (i - 32) 0 else 0
    let fl := b2n (v.subst.getLsbD i) + b2n (v.gap.getLsbD i) * 2 + b2n (v.advisory.getLsbD i) * 4 + b2n (v.warning.getLsbD i) * 8 +
      b2n (decide (i < 32) && s.sensorFailed (72 + i)) * 16
    leBytes 8 tot.toNat ++ leBytes 8 (tget t.cyc i 0).toNat ++ leBytes 4 (g Mech.wPhys) ++ leBytes 4 (g Mech.r) ++ leBytes 4 (g Mech.sigma) ++ leBytes 4 fl
  let body := head ++ (List.range 41).flatMap site ++ (List.range 72).flatMap (fun m => leBytes 2 (s.monMean m)) ++
    beBytes 32 (Config.sha256 s.calibSet).toNat ++ List.replicate 464 0
  body ++ beBytes 32 (Config.hmac (Config.keyStore 3) body).toNat

/-- An entry goes into the Logbook: the ring with entry 0 apart, or the older checkpoint slot (R341). -/
def Logbook.putEntry (l : Logbook) (ckpt : Bool) (b : List Byte) : Logbook :=
  if ckpt then (if l.ckptNext then { l with ckptB := b, ckptNext := false } else { l with ckptA := b, ckptNext := true })
  else if l.journalFirst.isEmpty then { l with journalFirst := b }
  else { l with journal := tset l.journal (l.journalNext % 512) b [], journalNext := (l.journalNext + 1) % 512 }

/-- Entries are written, oldest first; while the Logbook is unavailable they wait (R25, R341). -/
def State.payEntries (s : State) : State :=
  if s.survey.owed.isEmpty then s
  else
    let r := s.lbAccess
    if r.1 then
      { r.2 with lb := s.survey.owed.foldl (fun l e => l.putEntry e.1 e.2) r.2.lb, survey := { r.2.survey with owed := [] } }
    else r.2

/-- A checkpoint entry (R341), which needs the journal's key (R411): no model is loaded then, and the indices it gives are those without one (R335). -/
def State.checkpoint (s : State) : State :=
  let s := s.askKey 3
  let b := s.entryBytes true []
  if s.io.ksErr then { s with survey := { s.survey with ckptAt := s.now } }
  else ({ s with survey := { s.survey with owed := s.survey.owed ++ [(true, b)], ckptAt := s.now } }).payEntries

/-- The journal entry of a run: it is written, and the entry number and the interval's flags start anew;
without the key (R411) there is none. -/
def State.writeEntry24 (s : State) (model : List W64) : State :=
  let s := s.askKey 3
  let v := s.survey
  let b := s.entryBytes false model
  let p : Past := ⟨v.totals.h, s.cvtSec, s.dutyNow,
    siteMechs.foldl (fun t e => tset t (e.2 * 64 + e.1) (s.wPhys e.1 e.2) 0) [], v.totals.sHours,
    (List.range 32).foldl (fun t z => tset t z (s.zoneDrift z) 0) []⟩
  if s.io.ksErr then s
  else ({ s with survey := { v with
      owed := v.owed ++ [(false, b)], entryNo := v.entryNo + 1, past := (p :: v.past).take 512, keeperPath := false, restored := false, coolantStale := false
      lostS := 0, gap := 0, monSum := [], raisedA := 0, raisedW := 0 } }).payEntries

/-- An entry of the Logbook verifies (R342). -/
def entryOk (b : List Byte) : Bool :=
  decide (b.length = 2048) && decide (ofLe (slice b 0 5) = 0x011D3E5A81) &&
  decide (ofBe (b.drop 2016) = (Config.hmac (Config.keyStore 3) (b.take 2016)).toNat)

/-- The totals of an entry. -/
def entryTotals (b : List Byte) : Totals :=
  let w := fun a => BitVec.ofNat 64 (ofLe (slice b a 8))
  { sHours := (List.range 32).foldl (fun t i => tset t i (w (64 + 32 * i)) 0) []
    eHours := (List.range 8).foldl (fun t i => tset t i (w (64 + 32 * (32 + i))) 0) []
    cyc := (List.range 32 ++ [40]).foldl (fun t i => tset t i (w (72 + 32 * i)) 0) []
    h := w 16 }

/-- The entries of the Logbook, the ring and the two checkpoint slots. -/
def Logbook.entries (l : Logbook) : List (List Byte) :=
  ([l.journalFirst] ++ l.journal.map Prod.snd ++ [l.ckptA, l.ckptB]).filter entryOk

/-- What an entry leaves for later runs (R336, R337). -/
def State.entryPast (s : State) (b : List Byte) : Past :=
  let t := entryTotals b
  let u := { s with survey := { s.survey with totals := t, monSum := [], monitors := (List.range 72).foldl (fun m i => tset m i (BitVec.ofNat 16 (ofLe (slice b (1376 + 2 * i) 2))) 0) [] } }
  ⟨t.h, ofLe (slice b 24 12) / 2 ^ 48, decide (ofLe (slice b 38 1) ≠ 3) && decide (ofLe (slice b 36 2) ≠ 0),
   siteMechs.foldl (fun w e => tset w (e.2 * 64 + e.1) (u.wPhys e.1 e.2) 0) [], t.sHours,
   (List.range 32).foldl (fun d z => tset d z (u.zoneDrift z) 0) []⟩

def entryNumber (b : List Byte) : Nat := ofLe (slice b 8 4)

def insertByNo (b : List Byte) : List (List Byte) → List (List Byte)
  | [] => [b]
  | x :: xs => if entryNumber x < entryNumber b then b :: x :: xs else x :: insertByNo b xs

/-- After PORST_N the totals come from the newest entry that verifies (R342); an unreadable journal starts them at zero and
raises SURVEY_INTEGRITY. `lost` is the powered time not counted, in seconds. -/
def State.restoreSurvey (s : State) (lost : Nat) : State :=
  let es := s.lb.entries
  let newest := es.foldl (fun (a : Option (List Byte)) b => match a with
    | none => some b
    | some c => if ltV (v64 (entryTotals c).h) (v64 (entryTotals b).h) then some b else some c) none
  match newest with
  | none => (s.setTotals Totals.zero).raise 0x801 0 0
  | some b =>
    let ring := es.filter (fun e => decide (ofLe (slice e 6 2) / 16 % 2 = 0))
    let sorted := ring.foldl (fun a e => insertByNo e a) []
    let s := s.setTotals (entryTotals b)
    { s with survey := { s.survey with
        restored := true, lostS := lost, entryNo := (sorted.head?.map (fun e => entryNumber e + 1)).getD 0
        past := (sorted.take 512).map s.entryPast } }

/-! ## The end of a Survey op (R329, R331, R338) -/

/-- Increments that no op will add any more are added by the Keeper (R331). -/
def State.keeperAdds (s : State) : State :=
  match s.survey.shadow with
  | none => s
  | some a =>
    let s := s.survey.left.foldl (fun s k => s.addIncrement a k) s
    { s with survey := { s.survey with left := [], shadow := none, keeperPath := true } }

/-- An instance that Survey made ends: 1 to 3 are the increments of the interval, 4 the run of a journal entry, 5 that of
SURVEY_PREDICT, 6 RO_DRIFT; 7 is a WEAR_PREDICT the harbourmaster submitted itself. -/
def State.surveyEnd (s : State) (kind : Nat) (status : Nat) (model : List W64) : State :=
  let ok := decide (status = 0)
  if 1 ≤ kind && kind ≤ 3 then
    match s.survey.shadow with
    | none => s
    | some a =>
      if !s.survey.left.contains kind then s
      else
        let s := s.addIncrement a kind
        let left := s.survey.left.erase kind
        { s with survey := { s.survey with
            left := left, keeperPath := s.survey.keeperPath || !ok, shadow := if left.isEmpty then none else some a } }
  else if kind = 4 then (if ok then s.wearRun true model else s).writeEntry24 model
  else if kind = 5 then
    let s := if ok then s.wearRun false model else s
    { s with esl := { s.esl with jobs := s.esl.jobs.map (fun (j : Job) => if j.op = 0x91 then { j with a := 1, b := status } else j) } }
  else if kind = 7 && ok then s.wearRun false model
  else s

end Sys2Proof.Machine
end

