-- ==== Sys2Proof/Machine/Cores.lean ====
section
/-! DEFINITION. The Counting House's cores and the op they run: steps (R304), registers (R303), local memory (R278), the
ways an op stops, restarts and ends (R292 to R296, R309, R311 to R315). Core c's local memory is bank 12 + c: its first
384 KiB the work area and the rings, then 128 KiB of state (log 29). -/

namespace Sys2Proof.Machine

/-! ## Steps (R304) -/

structure IStep where
  prim : Nat
  d : Nat
  a : Nat
  b : Nat
  c : Nat
  fmt : Nat
  fmt2 : Nat
  rnd : Nat
  sat : Bool
  msk : Bool
  rsv : Nat
  imm : Nat
  deriving DecidableEq, Repr

def parseStep (x : Nat) : IStep :=
  { prim := bits x 0 8, d := bits x 8 5, a := bits x 13 5, b := bits x 18 5, c := bits x 23 5, fmt := bits x 28 4,
    fmt2 := bits x 32 4, rnd := bits x 36 2, sat := x.testBit 38, msk := x.testBit 39, rsv := bits x 40 24,
    imm := bits x 64 64 }

def Loaded.step (l : Loaded) (i : Nat) : Option IStep :=
  if i < l.steps then some (parseStep (ofLe (slice l.plain (16 * i) 16))) else none

def opCode (d : List W32) : Nat := dfld d 0 0 8

/-! ## Registers -/

def Core.V (x : Core) (i : Nat) : Nat := (tget x.v i 0).toNat
def Core.S (x : Core) (i : Nat) : Nat := (tget x.sr i 0).toNat
def Core.M (x : Core) (i : Nat) : BitVec 256 := tget x.m i 0

def Core.psnV (x : Core) (i : Nat) : Bool := x.poison.getLsbD i
def Core.psnS (x : Core) (i : Nat) : Bool := x.poison.getLsbD (32 + i)
def Core.psnA (x : Core) (i : Nat) : Bool := x.poison.getLsbD (48 + i)
def Core.psnM (x : Core) (i : Nat) : Bool := x.poison.getLsbD (52 + i)

def Core.setV (x : Core) (i : Nat) (v : BitVec 2048) (p : Bool) : Core :=
  { x with v := tset x.v i v 0, poison := setBit x.poison i p }

def Core.setS (x : Core) (i v : Nat) (p : Bool) : Core :=
  { x with sr := tset x.sr i (BitVec.ofNat 64 v) 0, poison := setBit x.poison (32 + i) p }

def Core.setM (x : Core) (i : Nat) (v : BitVec 256) (p : Bool) : Core :=
  { x with m := tset x.m i v 0, poison := setBit x.poison (52 + i) p }

/-! ## Memory -/

def readBytes (t : Tab Byte) (a n : Nat) : List Byte := (List.range n).map (fun i => tget t (a + i) 0)

def writeBytes (t : Tab Byte) (a : Nat) (bs : List Byte) : Tab Byte :=
  (bs.mapIdx (fun i b => (i, b))).foldl (fun t e => tset t (a + e.1) e.2 0) t

/-- The rings of a descriptor's record inputs in KiB per core (R286). -/
def ringsOf (d : List W32) : Nat :=
  [0, 1].foldl (fun a j => a + (if decide (1 ≤ inSpace d j) && decide (inSpace d j ≤ 3) then inRing d j else 0)) 0

/-- The rings in use: the standing ops', and those of a running op that is not an instance of one (R278). -/
def State.ringBytes (s : State) : Nat :=
  let run := match s.ch.run with | some r => (if opRepeat r.op.desc = 0 then ringsOf r.op.desc else 0) | none => 0
  (s.ch.standing.foldl (fun a x => a + ringsOf x.desc) run) * 1024

def State.workBytes (s : State) : Nat := 393216 - s.ringBytes

/-- The place in the state region of byte a of an owner's partition. -/
def State.statePlace (s : State) (o a : Nat) : Nat := (s.stUnits o).getD (a / 4096) 0 * 4096 + a % 4096

/-- An access of n bytes: its place in the local memory; none outside the work area or the partition, or misaligned
(R305, R307). -/
def State.place (s : State) (o : Nat) (state : Bool) (a n : Nat) : Option Nat :=
  if a % n ≠ 0 then none
  else if state then (if a + n ≤ (s.stUnits o).length * 4096 then some (393216 + s.statePlace o a) else none)
  else if a + n ≤ s.workBytes then some a else none

def Core.load (x : Core) (at_ n : Nat) : List Byte :=
  if at_ < 393216 then readBytes x.work at_ n else readBytes x.store (at_ - 393216) n

def Core.put (x : Core) (at_ : Nat) (bs : List Byte) (p : Bool) : Core :=
  let ws := (List.range ((bs.length + 15) / 16)).map (fun i => at_ / 16 + i)
  let rest := x.psn.filter (fun w => !ws.contains w)
  let psn := if p then rest ++ ws else if bs.length % 16 = 0 then rest else x.psn
  let x := { x with psn := psn }
  if at_ < 393216 then { x with work := writeBytes x.work at_ bs } else { x with store := writeBytes x.store (at_ - 393216) bs }

def Core.marked (x : Core) (at_ n : Nat) : Bool := (List.range ((n + 15) / 16)).any (fun i => x.psn.contains (at_ / 16 + i))

/-! ## Running -/

def State.setRun (s : State) (r : Running) : State := { s with ch := { s.ch with run := some r } }

def Running.index (r : Running) (c : Nat) : Nat := r.cores.findIdx (fun x => x = c)

/-- The work area of a core is cleared (R280), its registers too (R293); the state stays. -/
def State.clearCore (s : State) (c : Nat) : State :=
  let x := s.core c
  let s := s.writeRange (12 + c) 0 24576
  let s := s.modBank (bankKey (12 + c) false) (fun b => { b with merge := b.merge.filter (fun e => decide (24576 ≤ e.word)) })
  s.setCore c { Core.zero with store := x.store, psn := x.psn.filter (fun w => 24576 ≤ w), stepAt := s.now }

/-- The op's first step comes next on every core (R291). -/
def State.restart (s : State) (r : Running) : State :=
  (r.cores.foldl State.clearCore s).setRun
    { r with startAt := s.now, w2 := 0, w3 := 0, outs := [], outBad := [], poison := false, sat := false, streamed := false, failed := none,
             opened := [], wrote := 0 }

/-- The key of the op's reads of input j in this attempt. -/
def Running.recvKey (r : Running) (j : Nat) : Nat := (r.op.seq.toNat * 16 + r.attempt) * 2 + j

/-- Reads that belong to the running op. -/
def opRead (q : MReq) : Bool := match q.why with | .recv _ => true | .page _ => true | _ => false

/-- Reads of the op that have not gone out, or whose data nobody takes any more, are dropped. -/
def State.dropReads (s : State) : State :=
  { s with mgr := { s.mgr with wait := s.mgr.wait.filter (fun q => !opRead q), ready := s.mgr.ready.filter (fun q => !opRead q) } }

/-- Address and bytes of a DRAM input (R286). -/
def inAddr (d : List W32) (j : Nat) : Nat := (d.getD (8 + 4 * j) 0).toNat + dfld d (9 + 4 * j) 0 16 * 2 ^ 32
def inLen (d : List W32) (j : Nat) : Nat := dfld d (9 + 4 * j) 16 16 * 64

/-- Requests that read bytes of the owner's memory, each within a page of 4 KiB (R72). -/
def readReqs (o addr n : Nat) (why : Purpose) : List MReq :=
  if n = 0 then []
  else
    let l0 := addr / 64
    let l1 := (addr + n - 1) / 64
    (List.range (l1 / 64 - l0 / 64 + 1)).map (fun i =>
      let a := max l0 ((l0 / 64 + i) * 64)
      let b := min l1 ((l0 / 64 + i) * 64 + 63)
      ⟨false, 0, a, b - a, o, 0, why, [], [], [], []⟩)

/-- Requests that write bytes to the owner's memory, each within a page, only these bytes enabled (R71, R72). -/
def writeReqs (o addr : Nat) (why : Purpose) (bs : List Byte) : List MReq :=
  (readReqs o addr bs.length why).map (fun q =>
    let at_ := fun (i : Nat) => q.line * 64 + i
    let on := fun (i : Nat) => decide (addr ≤ at_ i) && decide (at_ i < addr + bs.length)
    { q with
      write := true
      data := words64 ((List.range (64 * (q.nl + 1))).map (fun i => if on i then bs.getD (at_ i - addr) 0 else 0))
      mask := (List.range (q.nl + 1)).map (fun l => (List.range 64).foldl (fun (m : W64) i => setBit m i (on (64 * l + i))) 0) })

/-- Bytes of finished reads, and whether any came poisoned; none while a line is missing. -/
def State.gotBytes (s : State) (why : Purpose) (o addr n : Nat) : Option (List Byte × Bool) :=
  let qs := s.mgr.ready.filter (fun q => decide (q.why = why) && decide (q.owner = o))
  let ls := if n = 0 then [] else (List.range ((addr + n - 1) / 64 - addr / 64 + 1)).map (fun i => addr / 64 + i)
  let found := ls.map (fun l => (qs.find? (fun q => decide (q.line ≤ l) && decide (l ≤ q.line + q.nl))).bind (fun q => q.got[l - q.line]?))
  if found.any Option.isNone then none
  else
    let got := found.filterMap id
    some (slice (got.flatMap (fun g => leBytes 64 g.1.toNat)) (addr % 64) n, got.any (fun g => g.2))

/-- The key of an owner's staged weights: its memory key (R319, log 86). -/
def State.stageKey (s : State) (o : Nat) : W256 := ((s.memKey o).map (fun k => k.2.key)).getD Config.noKey

/-- STALE_KEY advances (R422). -/
def State.staleBlock (s : State) (o : Nat) : State :=
  { s with win := { s.win with staleKey := tset s.win.staleKey o (satAdd (2 ^ 32 - 1) (tget s.win.staleKey o 0) 1) 0 } }

/-! ## Sealed blocks of a DRAM input (R422) -/

/-- The GCM nonce that a sealed block's header names (R195, R271, R296); none for a block that is not sealed by the
block for this owner. -/
def sealedNonce (o : Nat) (b : List Byte) : Option (List Byte) :=
  let w := fun (i : Nat) => ofLe (slice b (8 * i) 8)
  let h := w 0
  let start := leBytes 1 o ++ leBytes 1 (bits h 48 8) ++ leBytes 1 (bits h 62 2)
  if bits h 32 8 ≠ 1 || !bit h 58 || bits h 40 5 ≠ o then none
  else if bits h 0 32 = 0x1D3E5A7C then some (leBytes 1 1 ++ start ++ leBytes 6 (w 1) ++ leBytes 2 0)
  else if bits h 0 32 = 0x1D3E5A7E then
    some (leBytes 1 3 ++ start ++ leBytes 1 (bits (w 1) 24 4) ++ leBytes 3 (w 1) ++ leBytes 4 (w 1 / 2 ^ 32))
  else if bits h 0 32 = 0x1D3E5A80 then
    some (leBytes 1 5 ++ start ++ leBytes 4 (w 1) ++ leBytes 1 (w 1 / 2 ^ 32) ++ leBytes 2 (w 2) ++ leBytes 1 0)
  else none

/-- A sealed block as it is delivered: the header as read, the body in plain or poisoned, the trailer zero. -/
def State.openSealed (s : State) (o : Nat) (nonce b : List Byte) : List Byte × Bool × State :=
  let out := fun (body : List Byte) => b.take 48 ++ body ++ List.replicate 16 0
  let none_ := List.replicate 4032 (0 : Byte)
  match s.memKey o with
  | some k =>
    if bits (ofLe (slice b 0 8)) 48 8 ≠ s.keygen o then (out none_, true, s.staleBlock o)
    else match gcmOpen k.2.key nonce (b.take 48) (slice b 48 4032) (BitVec.ofNat 128 (ofBe (slice b 4080 16))) with
      | some t => (out (slice (t ++ none_) 0 4032), false, s)
      | none =>
        let n := satAdd (2 ^ 32 - 1) (tget s.win.blockAuth o 0) 1
        (out none_, true, ({ s with win := { s.win with blockAuth := tset s.win.blockAuth o n 0 } }).raise 0xA02 0 o)
  | none => (out none_, true, s.staleBlock o)

/-- A whole block of a DRAM input is opened, once in an attempt, when it is sealed (R422). -/
def State.openBlock (o j : Nat) (a : Running × State) (g : Nat × Option (List Byte × Bool)) : Running × State :=
  if a.1.opened.any (fun e => decide (e.1 = j) && decide (e.2.1 = g.1)) then a
  else match g.2 with
    | some (bs, bad) => (match sealedNonce o bs with
      | some nonce =>
        let q := a.2.openSealed o nonce bs
        ({ a.1 with opened := a.1.opened ++ [(j, g.1, q.1, q.2.1 || bad)] }, q.2.2)
      | none => a)
    | none => a

/-- The whole aligned blocks of a DRAM input that n bytes at lo touch. -/
def blocksOf (d : List W32) (j lo n : Nat) : List Nat :=
  ((List.range ((lo + n + 4095) / 4096 - lo / 4096)).map (fun i => (lo / 4096 + i) * 4096)).filter
    (fun b => decide (inAddr d j ≤ b) && decide (b + 4096 ≤ inAddr d j + inLen d j))

/-- Bytes of a DRAM input as they are delivered, whether poisoned, and the state after it: none while a line of them, or of
a whole aligned block of the input that they touch, is on its way. Each sealed block is opened, and counted, once in an
attempt. -/
def State.inputBytes (s : State) (r : Running) (j at_ n : Nat) : Option (List Byte × Bool × State) :=
  let o := r.op.owner
  let why : Purpose := .recv (r.recvKey j)
  let lo := inAddr r.op.desc j + at_
  match s.gotBytes why o lo n with
  | none => none
  | some raw =>
    let blocks := blocksOf r.op.desc j lo n
    let got := blocks.map (fun b => (b, s.gotBytes why o b 4096))
    if got.any (fun g => g.2.isNone) then none
    else
      let acc := got.foldl (State.openBlock o j) (r, s)
      let mine := acc.1.opened.filter (fun e => decide (e.1 = j) && blocks.contains e.2.1)
      let byte := fun (i : Nat) => match mine.find? (fun e => decide (e.2.1 ≤ lo + i) && decide (lo + i < e.2.1 + 4096)) with
        | some e => e.2.2.1.getD (lo + i - e.2.1) 0
        | none => raw.1.getD i 0
      some ((List.range n).map byte, raw.2 || mine.any (fun e => e.2.2.2), acc.2.setRun acc.1)

/-- The streamed weights that a library op reads (R320). -/
def State.askPages (s : State) (r : Running) : State :=
  let slot := dfld r.op.desc 1 0 5
  match (if flag (r.op.desc.getD 1 0) 5 && decide (opCode r.op.desc ≠ 0xFF) then s.loaded? r.op.owner slot else none) with
  | some l => if l.streamed then (readReqs r.op.owner l.stageBase (4096 * ((l.wBytes + 4079) / 4080)) (.page slot)).foldl State.mgrPush s else s
  | none => s

/-- The DRAM inputs and a library op's streamed weights are read as the op runs (R282, R311, R320). -/
def State.askInputs (s : State) (r : Running) : State :=
  ([0, 1].foldl (fun (s : State) j => if inSpace r.op.desc j = 5 then
    (readReqs r.op.owner (inAddr r.op.desc j) (inLen r.op.desc j) (.recv (r.recvKey j))).foldl State.mgrPush s else s) s).askPages r

/-- The state of each logical index, taken when a duplicated op starts and given back before it runs again, so that both
runs see the same data (R309, log 30). -/
def State.saveStores (s : State) (cores : List Nat) : Tab (Tab Byte) :=
  (cores.mapIdx (fun l c => (l, (s.core c).store))).foldl (fun t e => tset t e.1 e.2 []) []

def State.giveStores (s : State) (cores : List Nat) (t : Tab (Tab Byte)) : State :=
  (cores.mapIdx (fun l c => (l, c))).foldl (fun s e => s.setCore e.2 { s.core e.2 with store := tget t e.1 [] }) s

/-- The op stops with a status and a failing step (R307, R314, R320); OP_COMPLETE reports it. -/
def State.opFails (s : State) (status : Status) (idx : Nat) : State :=
  match s.ch.run with
  | some r => s.setRun { r with failed := some (BitVec.ofNat 8 status.code, idx) }
  | none => s

/-- The op is executed again on its cores with the next attempt number, at most three times (R309, R310, R314, R315). -/
def State.reExec (s : State) : State :=
  match s.ch.run with
  | none => s
  | some r =>
    if 3 ≤ r.attempt then s.opFails .internal 0
    else
      let r := { r with attempt := r.attempt + 1, firstRun := none, cores := (List.range 16).filter (fun c => r.cores.contains c) }
      let s := s.dropReads
      let s := if r.dup then s.giveStores r.cores r.stores else s
      let s := s.restart r
      match s.ch.run with
      | some r => s.askInputs r
      | none => s

/-! ## The end of an op (R294 to R296) -/

/-- The op's library entry has an alarm (R297). -/
def hasAlarm (op : Nat) : Bool := [0x08, 0x09, 0x0A, 0x0B, 0x0C, 0x0E, 0x13].contains op

/-- The lost count (R284). -/
def OpInst.lost (x : OpInst) : Nat :=
  if x.i0.unknown || x.i1.unknown then 2 ^ 32 - 1 else satAdd (2 ^ 32 - 1) x.i0.lost x.i1.lost

/-- Model-store words of the given units are written afresh. -/
def State.clearUnits (s : State) (us : List Nat) : State :=
  us.foldl (fun s u => s.writeRange (28 + u / 16) (u % 16 * 4096) 4096) s

/-- A slot is unloaded: its units hold nothing any more (R317). -/
def State.unload (s : State) (o i : Nat) : State :=
  let s := match s.loaded? o i with | some l => s.clearUnits l.units | none => s
  { s with ch := { s.ch with slots := s.ch.slots.filter (fun e => e.1 ≠ o * 32 + i) } }

/-- One ANALYSIS_RESULT, its interrupt, its ledger trigger and its completion (R294, R295, R399, R481). -/
def State.postResult (s : State) (x : OpInst) (status flags w2 w3 : Nat) : State :=
  let d := x.desc
  let s := s.surveyEnd (if x.survey = 0 && decide (opCode d = 0x13) then 7 else x.survey) status (s.wearModel d)
  let s := if (x.survey = 4 || x.survey = 5) && flag (d.getD 1 0) 5 then s.unload x.owner (dfld d 1 0 5) else s
  let s := s.emit 132 x.owner 0x28 2 s.ts (opCode d + status * 2 ^ 8 + flags * 2 ^ 16) [x.seq.toNat + x.lost * 2 ^ 32, w2, w3]
  let s := if flag (d.getD 0 0) 17 then s.setIrq x.owner 3 else s
  let fire := flag (d.getD 0 0) 16 && (if hasAlarm (opCode d) then w2.testBit 63 else decide (status = 0))
  let s := if fire then s.fireTrigger 4 0 else s
  if x.slot = 0 then s
  else
    let st : Nat := if status = 0 && flags.testBit 1 then 0x50 else status
    let ws := if st = 0 then [x.seq.toNat, flags, x.lost, w2 % 2 ^ 32, w2 / 2 ^ 32, w3 % 2 ^ 32, w3 / 2 ^ 32] else [0, 0]
    (s.modApt x.owner (fun a => a.setSlot x.slot { (a.slot x.slot).fill 0x50 x.pseq.toNat st ws with pending := false, full := true })).setIrq x.owner 0

/-- The next sequence number of an owner's instances (R294). -/
def State.takeSeq (s : State) (o : Nat) : BitVec 32 × State :=
  let q := tget s.ch.seq o 0
  (q, { s with ch := { s.ch with
    seq := tset s.ch.seq o (q + 1) 0, seqOut := if q = BitVec.allOnes 32 then tset s.ch.seqOut o true false else s.ch.seqOut } })

/-- The owner's sequence numbers are used up, or would be with the next: no result block may take one before a new key
generation (R296). -/
def State.seqSpent (s : State) (o : Nat) : Bool := tget s.ch.seqOut o false || decide (tget s.ch.seq o 0 = BitVec.allOnes 32)

/-- Result blocks of a stream: index, body bytes, whether it holds poison, whether it is the last (R296). -/
def resultAddr (d : List W32) : Nat := (d.getD 14 0).toNat + dfld d 15 0 16 * 2 ^ 32

def blockLimit (d : List W32) : Nat := if dfld d 5 0 16 = 0 then 1 else dfld d 5 0 16

/-- The result stream: the logical indices' bytes in ascending order, and its poisoned pieces as byte offsets (log 30). -/
def Running.stream (r : Running) : List Byte × List Nat :=
  (List.range r.cores.length).foldl (fun a l =>
    (a.1 ++ tget r.outs l [], a.2 ++ (r.outBad.filter (fun e => e.1 = l)).map (fun e => a.1.length + 256 * e.2))) ([], [])

def State.resultBlock (s : State) (r : Running) (bs : List Byte) (bad : List Nat) (n j : Nat) : MReq :=
  let o := r.op.owner
  let seq := r.op.seq.toNat
  let here := bad.filter (fun b => decide (b < 4032 * (j + 1)) && decide (4032 * j < b + 256))
  let psn := !here.isEmpty
  let lines := (here.flatMap (fun b =>
    let a := 48 + (b - 4032 * j)
    let z := 48 + (min (b + 256) (4032 * (j + 1)) - 4032 * j)
    (List.range ((z + 63) / 64 - a / 64)).map (fun i => a / 64 + i))).eraseDups
  let body := slice bs (4032 * j) 4032
  let h := [s.pageWord0 0x1D3E5A80 o + b2n psn * 2 ^ 59 + b2n (decide (j + 1 = n)) * 2 ^ 60,
            seq + r.attempt * 2 ^ 32 + opCode r.op.desc * 2 ^ 40, j + 4032 * j * 2 ^ 16, body.length]
  let nonce := leBytes 1 5 ++ leBytes 1 o ++ leBytes 1 (s.keygen o) ++ leBytes 1 s.chip ++ leBytes 4 seq ++ leBytes 1 r.attempt ++
    leBytes 2 j ++ leBytes 1 0
  let q := pageReq o (resultAddr r.op.desc + 4096 * j) (.result o) (s.sealPage o nonce h (words64 body))
  { q with psn := if s.encrypts o then [] else lines }

/-- The bytes at the front of the result stream that no later step can move: those of the logical indices up to the first
that has not halted (log 30). -/
def State.fixedBytes (s : State) (r : Running) : Nat :=
  ((r.cores.mapIdx (fun l c => (l, c))).foldl (fun (a : Nat × Bool) e =>
    if a.2 then (a.1 + (tget r.outs e.1 []).length, (s.core e.2).halted) else a) (0, true)).1

/-- The full blocks of a running itinerary's result that more bytes follow are written as they arise; those of a duplicated
op wait for the comparison (R292, R307, R308, R311). -/
def State.writeBlocks (s : State) : State :=
  match s.ch.run with
  | none => s
  | some r =>
    if r.dup || !descDram r.op.desc || opCode r.op.desc ≠ 0xFF then s
    else
      let n := min ((s.fixedBytes r - 1) / 4032) (blockLimit r.op.desc - 1)
      let st := r.stream
      let js := (List.range n).filter (fun j => decide (r.wrote ≤ j))
      (js.foldl (fun s j => s.mgrPush (s.resultBlock r st.1 st.2 0 j)) s).setRun { r with wrote := max r.wrote n }

/-- A state unit holds something on some core (log 31). -/
def State.unitHolds (s : State) (u : Nat) : Bool :=
  s.ch.cores.any (fun e => e.2.store.any (fun b => decide (b.1 / 4096 = u)))

/-- A state unit loses its contents on every core. -/
def State.eraseUnits (s : State) (us : List Nat) : State :=
  let s := (List.range 16).foldl (fun s c => us.foldl (fun s u => s.writeRange (12 + c) (24576 + 256 * u) 256) s) s
  { s with ch := { s.ch with cores := s.ch.cores.map (fun e => (e.1, { e.2 with
      store := e.2.store.filter (fun b => !us.contains (b.1 / 4096))
      psn := e.2.psn.filter (fun w => !(decide (24576 ≤ w) && us.contains ((w - 24576) / 256))) })) } }

/-- Units that an owner uses: a running op's, and those that hold something. -/
def State.stUsed (s : State) (o u : Nat) : Bool :=
  (match s.ch.run with | some r => decide (r.op.owner = o) | none => false) || s.unitHolds u

def State.mdUsed (s : State) (o u : Nat) : Bool := (s.ownSlots o).any (fun e => e.2.units.contains u)

/-- Units beyond an allotment go once they are unused, and free units go to owners below theirs, lowest owner first
(R279). -/
def shareUnits (held : Tab Nat) (want : Nat → Nat) (used : Nat → Nat → Bool) (lost : Nat → Bool) : Tab Nat :=
  let us := List.range 32
  let n := fun (t : Tab Nat) (o : Nat) => us.countP (fun u => decide (tget t u 31 = o))
  let t := us.reverse.foldl (fun t u => let o := tget t u 31
    if o < 31 && decide (want o < n t o) && !used o u then tset t u 31 31 else t) held
  us.foldl (fun t u => if tget t u 31 = 31 && !lost u then
      (match (List.range 17).find? (fun o => decide (n t o < want o)) with | some o => tset t u o 31 | none => t) else t) t

def State.settleUnits (s : State) : State :=
  { s with ch := { s.ch with
      stUnit := shareUnits s.ch.stUnit (fun o => (s.allot o).st) s.stUsed (fun _ => false)
      mdUnit := shareUnits s.ch.mdUnit (fun o => (s.allot o).model) s.mdUsed (fun u => s.ch.lostUnits.contains u) } }

/-- The op ends: its result blocks when it has a result, those already written apart, its record, and the array idles (R292
to R296, R317). -/
def State.finishOp (s : State) (r : Running) (status w2 w3 : Nat) (blocks : Bool) : State :=
  let st := r.stream
  let need := (st.1.length + 4031) / 4032
  let n := if blocks && descDram r.op.desc then min need (blockLimit r.op.desc) else 0
  let s := ((List.range n).filter (fun j => decide (r.wrote ≤ j))).foldl (fun s j => s.mgrPush (s.resultBlock r st.1 st.2 n j)) s
  let any := decide (0 < max n r.wrote)
  let flags := b2n r.poison + b2n (decide (popcount s.ch.online < 16)) * 2 + b2n r.streamed * 4 + b2n any * 8
  let w3 := if any then w3 / 2 ^ 48 * 2 ^ 48 + resultAddr r.op.desc else w3
  let s := s.postResult r.op status flags w2 w3
  let gone := s.ch.slots.filter (fun e => e.2.going)
  let s := { s.dropReads with ch := { s.ch with run := none, idleAt := s.now } }
  let s := gone.foldl (fun s e => s.unload (e.1 / 32) (e.1 % 32)) s
  s.releaseKept.settleUnits

/-! ## Removing a core (R310 to R313) -/

/-- The ring chunks of a removed logical index are lost, the others move down (R311). -/
def Input.without (l : Nat) (i : Input) : Input :=
  let gone := i.recs.countP (fun e => e.1 = l)
  { i with recs := (i.recs.filter (fun e => e.1 ≠ l)).map (fun e => (if l < e.1 then e.1 - 1 else e.1, e.2))
           lost := satAdd (2 ^ 32 - 1) i.lost gone }

/-- A core is removed: its memory is lost, its domain is asked off, the map remembers it, and the op starts again on the
cores that are left (R311 to R314). Detections: 0 residue, 1 watchdog, 2 self-test, 3 memory. -/
def State.removeCore (s : State) (c how : Nat) : State :=
  if !s.ch.online.getLsbD c then s
  else
    let n := s.ch.removed + 1
    let s := { s with ch := { s.ch with
      online := setBit s.ch.online c false, domOn := setBit s.ch.domOn c false, removed := n
      cores := tset s.ch.cores c Core.zero Core.zero } }
    let s := s.raise (if n < 5 then 0x702 else 0x703) c (how + min 31 n * 2 ^ 8)
    let m : MapEntry := ⟨2, c, 0, 0, false⟩
    let s := { s with ecc := { s.ecc with map := s.ecc.map.filter (fun e => e ≠ m) ++ [m] } }
    let map := s.ecc.map
    let s := s.lbWrite (fun l => { l with spareMap := map })
    let k := (List.range c).countP (fun k => s.ch.online.getLsbD k)
    let s := { s with ch := { s.ch with
      standing := s.ch.standing.map (fun (x : Standing) => { x with i0 := x.i0.without k, i1 := x.i1.without k })
      queue := s.ch.queue.map (fun (x : OpInst) => { x with i0 := x.i0.without k, i1 := x.i1.without k }) } }
    match s.ch.run with
    | none => s
    | some r =>
      let cores := (List.range 16).filter (fun k => s.ch.online.getLsbD k)
      let l := ((List.range 16).filter (fun k => r.cores.contains k)).findIdx (fun x => x = c)
      let op := if r.cores.contains c then { r.op with i0 := r.op.i0.without l, i1 := r.op.i1.without l } else r.op
      let keep : Tab (Tab Byte) := r.stores.filterMap (fun e => if e.1 = l then none else some (if l < e.1 then e.1 - 1 else e.1, e.2))
      let s := s.setRun { r with cores := cores, op := op, stores := keep }
      if cores.isEmpty then s.opFails .degraded 0 else s.reExec

end Sys2Proof.Machine
end

