-- ==== Sys2Proof/Machine/Itin.lean ====
section
/-! DEFINITION. The itinerary primitives (R305, R307). The command of a primitive is a core's execution of its next step,
when that step is one of this primitive. The letter of an operand names the step's field and its prefix the register
file: Sa and Va are both named by a. -/

namespace Sys2Proof.Machine

/-! ## A step in hand -/

/-- A step with what the descriptor fills in, and the free values of the primitives that need them (log 32). -/
structure StepEnv where
  st : IStep
  fmt : Nat
  rnd : Rnd
  sat : Bool
  free : Nat
  deriving DecidableEq, Repr

def envOf (d : List W32) (st : IStep) (free : Nat) : StepEnv :=
  { st := st, fmt := if st.fmt = 15 then dfld d 0 21 4 else st.fmt
    rnd := if st.rnd = 1 then .rna else if st.rnd = 2 then .rtz else if flag (d.getD 0 0) 25 then .rtz else .rna
    sat := st.sat || flag (d.getD 0 0) 26, free := free }

def StepEnv.mask (e : StepEnv) (x : Core) : Option (BitVec 256) := if e.st.msk then some (x.M 0) else none

/-- A lane of a format whose value the spec does not state; a NaN is the canonical one (R300). -/
def StepEnv.freeLane (e : StepEnv) (code i : Nat) : Nat := canonNan code (bits e.free (64 * i) (laneWidth code))

/-- The running op and core c's next step: an itinerary, running, not halted nor waiting for the other cores. -/
def State.nextStep (s : State) (c : Nat) : Option (Running × IStep) :=
  match s.ch.run with
  | none => none
  | some r =>
    let x := s.core c
    if opCode r.op.desc = 0xFF && r.failed.isNone && r.cores.contains c && !x.halted && !x.waiting then
      match s.loaded? r.op.owner (dfld r.op.desc 1 8 5) with
      | some l => (l.step x.pc).map (fun st => (r, st))
      | none => none
    else none

/-- The step is done: the core goes on to the next. -/
def State.retire (s : State) (c : Nat) (x : Core) : State := s.setCore c { x with pc := x.pc + 1, stepAt := s.now, waiting := false }

/-- The place of a step in the execution of an op: its free values are taken there, the same in both runs of a duplicated op
(R309, log 32). -/
def Running.at_ (r : Running) (c : Nat) (x : Core) : Nat :=
  ([r.op.owner, r.op.seq.toNat, r.capFrom, r.attempt, r.index c, x.pc] ++ x.loops.flatMap (fun l => [l.1, l.2])).foldl (fun a n => a * 2 ^ 80 + n) 1

/-- A step of this primitive runs on core c. -/
def State.runStep (s : State) (code c : Nat) (f : Running → StepEnv → Core → State) : State :=
  match s.nextStep c with
  | some (r, st) => if st.prim = code then f r (envOf r.op.desc st (Config.freeValue (r.at_ c (s.core c)))) (s.core c) else s
  | none => s

/-- The op stops at core c's step (R307). -/
def State.faultAt (s : State) (c : Nat) : State := s.opFails .badParam (s.core c).pc

/-- A step that changes only the core's registers; the flag is a saturation of R299. A format the primitive does not
allow stops the op as one found at load would reject it (log 32). -/
def State.regStep (s : State) (code c : Nat) (ok : Nat → Bool) (f : StepEnv → Core → Core × Bool) : State :=
  s.runStep code c (fun r e x =>
    if !ok e.fmt then s.faultAt c
    else
      let y := f e x
      let s := if y.2 then s.setRun { r with sat := true } else s
      s.retire c y.1)

def anyFmt (f : Nat) : Bool := decide (f < 15)

/-- The lanes of a result written under the mask, with the poison of its sources. -/
def StepEnv.write (e : StepEnv) (x : Core) (code : Nat) (xs : List (Option Nat)) (p : Bool) : Core :=
  let i := e.st.d
  x.setV i (putLanes code (tget x.v i 0) (e.mask x) xs) (p || (e.st.msk && (x.psnV i || x.psnM 0)))

def StepEnv.a (e : StepEnv) (x : Core) : Nat := x.V e.st.a
def StepEnv.b (e : StepEnv) (x : Core) : Nat := x.V e.st.b
def StepEnv.c (e : StepEnv) (x : Core) : Nat := x.V e.st.c

/-- Vd from the lanes of Va, lane by lane. -/
def StepEnv.map1 (e : StepEnv) (x : Core) (f : Nat → Nat → Nat) : Core :=
  e.write x e.fmt ((lanes e.fmt (e.a x)).mapIdx (fun i a => some (f i a))) (x.psnV e.st.a)

/-- Vd from the lanes of Va and Vb. -/
def StepEnv.map2 (e : StepEnv) (x : Core) (f : Nat → Nat → Nat → Nat) : Core :=
  e.write x e.fmt ((lanes e.fmt (e.a x)).mapIdx (fun i a => some (f i a (lane e.fmt (e.b x) i)))) (x.psnV e.st.a || x.psnV e.st.b)

/-- Lanes of a result in fmt2: those with a source lane, and free ones beyond (R305; log 32). -/
def StepEnv.widen (e : StepEnv) (n : Nat) (f : Nat → Nat) : List (Option Nat) :=
  (List.range (laneCount e.st.fmt2)).map (fun i => some (if i < n then f i else e.freeLane e.st.fmt2 i))

/-! ## Memory -/

/-- Sa + imm[31:0] in 64 bits. -/
def StepEnv.addr (e : StepEnv) (x : Core) (imm : Nat) : Nat := (x.S e.st.a + imm) % 2 ^ 64

/-- A read of a core's local memory: whether it delivers a poisoned word (R315). -/
def State.localRead (s : State) (c at_ n : Nat) : Bool × State := s.fetch (12 + c) (at_ / 16) ((at_ % 16 + n + 15) / 16)

/-- LD (R305): a poisoned word re-executes the op (R315); an access outside stops it (R307). -/
def execLd (c : Fin 16) (s : State) : Res :=
  .next <| s.runStep 0x01 c.val fun r e x =>
    match s.place r.op.owner (e.st.imm.testBit 63) (e.addr x (e.st.imm % 2 ^ 32)) 256 with
    | none => s.faultAt c.val
    | some at_ =>
      let m := s.localRead c.val at_ 256
      if m.1 then m.2.reExec
      else
        let v := ofLe (x.load at_ 256)
        let p := x.marked at_ 256 || x.psnS e.st.a
        m.2.retire c.val (if e.st.msk then e.write x e.fmt ((lanes e.fmt v).map some) p else x.setV e.st.d (BitVec.ofNat 2048 v) p)

/-- ST (R305). -/
def execSt (c : Fin 16) (s : State) : Res :=
  .next <| s.runStep 0x02 c.val fun r e x =>
    match s.place r.op.owner (e.st.imm.testBit 63) (e.addr x (e.st.imm % 2 ^ 32)) 256 with
    | none => s.faultAt c.val
    | some at_ =>
      let old := BitVec.ofNat 2048 (ofLe (x.load at_ 256))
      let v := if e.st.msk then (putLanes e.fmt old (e.mask x) ((lanes e.fmt (e.a x)).map some)).toNat else e.a x
      let p := x.psnV e.st.a || x.psnS e.st.a || (e.st.msk && (x.psnM 0 || x.marked at_ 256))
      let m := if e.st.msk then s.localRead c.val at_ 256 else (false, s)
      if m.1 then m.2.reExec
      else
        let t := (List.range 16).foldl (fun s i => s.writeWord (12 + c.val) (at_ / 16 + i)) m.2
        t.retire c.val (x.put at_ (leBytes 256 v) p)

/-- A staged block of weights: none while it is not read; its bytes, and whether its tag verified and any line came
poisoned (R319, R320). -/
def State.stagedBlock (s : State) (o slot : Nat) (l : Loaded) (i : Nat) : Option (Option (List Byte) × Bool) :=
  match s.gotBytes (.page slot) o (l.stageBase + 4096 * i) 4096 with
  | none => none
  | some (bs, bad) =>
    let key := s.stageKey o
    let nonce := leBytes 1 4 ++ leBytes 1 o ++ leBytes 1 l.gen ++ leBytes 1 s.chip ++ leBytes 1 slot ++ leBytes 3 l.loadNo ++ leBytes 4 i
    some (gcmOpen key nonce [] (bs.take 4080) (BitVec.ofNat 128 (ofBe (slice bs 4080 16))), bad)

/-- The bytes of a model slot that an op can name: the resident units, and the streamed weights (R317 to R320). -/
def Loaded.size (l : Loaded) : Nat := l.units.length * 65536 + (if l.streamed then l.wBytes else 0)

/-- Offset a of the plaintext lies in the streamed weights. -/
def Loaded.far (l : Loaded) (a : Nat) : Bool := l.streamed && decide (l.wOff ≤ a) && decide (a < l.wOff + l.wBytes)

/-- Its place in the resident bytes. -/
def Loaded.near (l : Loaded) (a : Nat) : Nat := if l.streamed && decide (l.wOff + l.wBytes ≤ a) then a - l.wBytes else a

/-- A staged block of the slot, and what of it has been read. -/
abbrev GotBlock := Nat × Option (Option (List Byte) × Bool)

/-- The staged blocks that LDM's 256 bytes at a touch (R320). -/
def State.ldmBlocks (s : State) (o slot : Nat) (l : Loaded) (as : List Nat) : List GotBlock :=
  ((((as.filter l.far).map (fun b => (b - l.wOff) / 4080)).eraseDups)).map (fun i => (i, s.stagedBlock o slot l i))

/-- Ask for a staged block once. -/
def State.askBlock (o slot : Nat) (l : Loaded) (s : State) (g : GotBlock) : State :=
  (readReqs o (l.stageBase + 4096 * g.1) 4096 (.page slot)).foldl (fun (s : State) q =>
    if (s.mgr.wait ++ s.mgr.out ++ s.mgr.ready).any (fun w => decide (w.why = q.why) && decide (w.line = q.line) && decide (w.owner = o)) then s
    else s.mgrPush q) s

/-- A byte of a model: of its staged blocks or of its resident units. -/
def modelByte (l : Loaded) (got : List GotBlock) (b : Nat) : Byte :=
  if l.far b then
    match got.find? (fun g => decide (g.1 = (b - l.wOff) / 4080)) with
    | some (_, some (some bs, _)) => bs.getD ((b - l.wOff) % 4080) 0
    | _ => 0
  else l.plain.getD (l.near b) 0

/-- Resident words of a model are read: whether one is poisoned (R445). -/
def State.readModelWords (s : State) (l : Loaded) (ws : List Nat) : Bool × State :=
  ws.foldl (fun (a : Bool × State) w =>
    let u := l.units.getD (w / 4096) 0
    let f := a.2.fetch (28 + u / 16) (u % 16 * 4096 + w % 4096) 1
    (a.1 || f.1, f.2)) (false, s)

/-- The resident words that hold these bytes of a model are read. -/
def State.readModel (s : State) (l : Loaded) (as : List Nat) : Bool × State :=
  s.readModelWords l ((as.filter (fun b => !l.far b)).map (fun b => l.near b / 16)).eraseDups

/-- LDM with its blocks at hand. -/
def State.ldm (s : State) (c : Nat) (r : Running) (e : StepEnv) (x : Core) (l : Loaded) (as : List Nat) (got : List GotBlock) : State :=
  let m := s.readModel l as
  let bad := m.1 || got.any (fun g => match g.2 with | some (_, b) => b | none => false) || x.psnS e.st.a
  let v := BitVec.ofNat 2048 (ofLe (as.map (modelByte l got)))
  let v := if e.st.msk then putLanes e.fmt (tget x.v e.st.d 0) (e.mask x) ((lanes e.fmt v.toNat).map some) else v
  let t := if got.isEmpty then m.2 else m.2.setRun { r with streamed := true }
  t.retire c (x.setV e.st.d v (bad || (e.st.msk && (x.psnV e.st.d || x.psnM 0))))

/-- LDM (R305): weights of a STREAMED model come from their staged blocks, read when first wanted; the step waits for
them (R320). -/
def execLdm (c : Fin 16) (s : State) : Res :=
  .next <| s.runStep 0x03 c.val fun r e x =>
    let o := r.op.owner
    let slot := dfld r.op.desc 1 0 5
    match (if flag (r.op.desc.getD 1 0) 5 then s.loaded? o slot else none) with
    | none => s.faultAt c.val
    | some l =>
      let a := e.addr x e.st.imm
      if a % 256 ≠ 0 || l.itin || decide (l.size < a + 256) then s.faultAt c.val
      else
        let as := (List.range 256).map (fun i => a + i)
        let got := s.ldmBlocks o slot l as
        let missing := got.filter (fun g => g.2.isNone)
        if !missing.isEmpty then missing.foldl (State.askBlock o slot l) (s.setRun { r with streamed := true })
        else if got.any (fun g => match g.2 with | some (none, _) => true | _ => false) then
          (s.opFails .integrity x.pc).raise 0x704 slot o
        else s.ldm c.val r e x l as got

/-! ## Inputs and results -/

/-- The next whole records of a core, up to 32 words: their words, how many, whether one is poisoned. -/
def takeWhole : List RingRec → Nat → List W64 × Nat × Bool
  | [], _ => ([], 0, false)
  | r :: rs, room =>
    if r.words.length ≤ room then
      let t := takeWhole rs (room - r.words.length)
      (r.words ++ t.1, t.2.1 + 1, r.bad || t.2.2)
    else ([], 0, false)

/-- RECV delivers bytes and moves on in its input. -/
def State.recvGive (s : State) (c : Nat) (e : StepEnv) (x : Core) (bs : List Byte) (n : Nat) (bad : Bool) : State :=
  let j := e.st.imm % 2
  let y := if e.st.msk then e.write x e.fmt ((lanes e.fmt (ofLe bs)).map some) bad else x.setV e.st.d (BitVec.ofNat 2048 (ofLe bs)) bad
  (s.retire c { y.setS 15 bs.length false with pos := tset x.pos j (tget x.pos j 0 + n) 0 }).releaseKept

/-- 256 bytes of a DRAM input, dealt to the logical indices in turn. -/
def State.recvDram (s : State) (c : Nat) (r : Running) (e : StepEnv) (x : Core) (j : Nat) : State :=
  let at_ := 256 * (r.index c + tget x.pos j 0 * r.cores.length)
  let n := min 256 (inLen r.op.desc j - at_)
  if n = 0 then s.recvGive c e x [] 0 false
  else match s.inputBytes r j at_ n with
    | none => s
    | some (bs, bad, t) => t.recvGive c e x bs 1 bad

/-- The words of the core's state store at these places are read: whether one is poisoned. -/
def State.readStore (s : State) (c : Nat) (ps : List Nat) : Bool × State :=
  (ps.map (· / 16)).eraseDups.foldl (fun (q : Bool × State) w => let f := q.2.fetch (12 + c) w 1; (q.1 || f.1, f.2)) (false, s)

/-- 256 bytes of the core's own state. -/
def State.recvState (s : State) (c : Nat) (r : Running) (e : StepEnv) (x : Core) (j : Nat) : State :=
  let at_ := 256 * tget x.pos j 0
  let n := min 256 (inLen r.op.desc j - at_)
  let a := inAddr r.op.desc j % 2 ^ 32 + at_
  if n = 0 then s.recvGive c e x [] 0 false
  else if (s.stUnits r.op.owner).length * 4096 < a + n then s.faultAt c
  else
    let ps := (List.range n).map (fun i => 393216 + s.statePlace r.op.owner (a + i))
    let m := s.readStore c ps
    if m.1 then m.2.reExec
    else m.2.recvGive c e x (ps.map (fun p => tget x.store (p - 393216) 0)) 1 (ps.any (fun p => x.psn.contains (p / 16)))

/-- The next whole records of a record input. -/
def State.recvRecs (s : State) (c : Nat) (r : Running) (e : StepEnv) (x : Core) (j : Nat) : State :=
  let mine := ((r.op.input j).recs.filter (fun q => q.1 = r.index c)).map Prod.snd
  let t := takeWhole (mine.drop (tget x.pos j 0)) 32
  if t.2.1 = 0 && inSpace r.op.desc j = 1 && r.captures s.now j then s
  else s.recvGive c e x (bytes64 t.1) t.2.1 t.2.2

/-- RECV (R305): records of a record input; 256 bytes of a DRAM input, or of the core's own state (log 33). It waits for
data on its way and for an open capture window. -/
def execRecv (c : Fin 16) (s : State) : Res :=
  .next <| s.runStep 0x04 c.val fun r e x =>
    let j := e.st.imm % 2
    match inSpace r.op.desc j with
    | 0 => s.recvGive c.val e x [] 0 false
    | 5 => s.recvDram c.val r e x j
    | 6 => s.recvState c.val r e x j
    | _ => s.recvRecs c.val r e x j

/-- EMIT (R305): the result words, whose last values stand with their poison (R294), or 256 bytes of the result stream; a
stream beyond the allowed blocks stops the op (R292). Poisoned bytes are written as zero (R446). -/
def execEmit (c : Fin 16) (s : State) : Res :=
  .next <| s.runStep 0x05 c.val fun r e x =>
    if e.st.imm % 2 = 0 then
      (s.setRun { r with w2 := tget x.sr e.st.a 0, w3 := tget x.sr e.st.b 0, poison := x.psnS e.st.a || x.psnS e.st.b }).retire c.val x
    else
      let l := r.index c.val
      let bad := x.psnV e.st.a
      let old := tget r.outs l []
      let r' := { r with
        outs := tset r.outs l (old ++ (if bad then List.replicate 256 0 else leBytes 256 (e.a x))) []
        outBad := if bad then r.outBad ++ [(l, old.length / 256)] else r.outBad }
      let t := ((s.setRun r').retire c.val x).writeBlocks
      if descDram r.op.desc && decide (4032 * blockLimit r.op.desc < r'.stream.1.length) then t.opFails .exhausted 0 else t

/-- GETS (R305). -/
def execGets (c : Fin 16) (s : State) : Res :=
  .next <| s.runStep 0x06 c.val fun r e x =>
    let v := match e.st.imm with
      | 0 => r.index c.val | 1 => r.cores.length | 2 => r.op.seq.toNat | 3 => r.attempt | 4 => r.op.readyTs | 5 => r.op.lost
      | 6 => r.op.i0.recs.length | 7 => r.op.i1.recs.length | _ => e.free
    s.retire c.val (x.setS e.st.d v false)

/-! ## Scalars -/

/-- A 64-bit operation (R305): add, sub, mul, and, or, xor, shl, shr, min, max, set. Wraps; min and max compare signed; a
shift by 64 or more has no stated value. -/
def sopVal (k a b free : Nat) : Nat :=
  match k with
  | 0 => (a + b) % 2 ^ 64 | 1 => (a + 2 ^ 64 - b) % 2 ^ 64 | 2 => a * b % 2 ^ 64 | 3 => a &&& b | 4 => a ||| b | 5 => a ^^^ b
  | 6 => if b < 64 then a * 2 ^ b % 2 ^ 64 else free % 2 ^ 64
  | 7 => if b < 64 then a / 2 ^ b else free % 2 ^ 64
  | 8 => if sgn 64 b < sgn 64 a then b else a
  | 9 => if sgn 64 a < sgn 64 b then b else a
  | 10 => b
  | _ => free % 2 ^ 64

/-- SOP (R305): the operation is named by the field c, and b = 0 takes imm for Sb (log 34). -/
def execSop (c : Fin 16) (s : State) : Res :=
  .next <| s.regStep 0x07 c.val (fun _ => true) fun e x =>
    let b := if e.st.b = 0 then e.st.imm else x.S e.st.b
    (x.setS e.st.d (sopVal e.st.c (x.S e.st.a) b e.free) ((x.psnS e.st.a && decide (e.st.c ≠ 10)) || (decide (e.st.b ≠ 0) && x.psnS e.st.b)), false)

/-- BCAST (R305). -/
def execBcast (c : Fin 16) (s : State) : Res :=
  .next <| s.regStep 0x08 c.val anyFmt fun e x =>
    let v := encode e.fmt e.rnd e.sat (scalarVal e.fmt (x.S e.st.a))
    (e.write x e.fmt ((List.range (laneCount e.fmt)).map (fun _ => some v)) (x.psnS e.st.a), false)

/-- XLANE (R305); a lane beyond the vector has no stated value. -/
def execXlane (c : Fin 16) (s : State) : Res :=
  .next <| s.regStep 0x09 c.val anyFmt fun e x =>
    let v := if e.st.imm < laneCount e.fmt then laneScalar e.fmt (lane e.fmt (e.a x) e.st.imm) else if isInt e.fmt then e.free else canonNan 14 (e.free % 2 ^ 64)
    (x.setS e.st.d v (x.psnV e.st.a), false)

/-! ## Lane arithmetic -/

def StepEnv.arith (e : StepEnv) (x : Core) (f : FVal → FVal → FVal) : Core :=
  e.map2 x (fun _ a b => roundTo e.fmt (f (laneVal e.fmt a) (laneVal e.fmt b)))

/-- ADD (R305). -/
def execAdd (c : Fin 16) (s : State) : Res := .next <| s.regStep 0x10 c.val anyFmt fun e x => (e.arith x addV, false)

/-- SUB (R305). -/
def execSub (c : Fin 16) (s : State) : Res :=
  .next <| s.regStep 0x11 c.val anyFmt fun e x => (e.arith x (fun a b => addV a (negV b)), false)

/-- MUL (R305). -/
def execMul (c : Fin 16) (s : State) : Res := .next <| s.regStep 0x12 c.val anyFmt fun e x => (e.arith x mulV, false)

/-- An integer outside the format. -/
def outside (code : Nat) (v : FVal) : Bool :=
  match v with
  | .fin q _ => isInt code && (decide (q < (intRange code).1) || decide ((intRange code).2 < q))
  | _ => false

/-- FMA (R305): one rounding; an integer beyond the format has no stated value. -/
def execFma (c : Fin 16) (s : State) : Res :=
  .next <| s.regStep 0x13 c.val anyFmt fun e x =>
    let xs := (lanes e.fmt (e.a x)).mapIdx (fun i a =>
      let v := addV (mulV (laneVal e.fmt a) (laneVal e.fmt (lane e.fmt (e.b x) i))) (laneVal e.fmt (lane e.fmt (e.c x) i))
      some (if outside e.fmt v then e.freeLane e.fmt i else roundTo e.fmt v))
    (e.write x e.fmt xs (x.psnV e.st.a || x.psnV e.st.b || x.psnV e.st.c), false)

/-- DIV (R305): floating point only. -/
def execDiv (c : Fin 16) (s : State) : Res := .next <| s.regStep 0x14 c.val isFloat fun e x => (e.arith x divV, false)

/-- SQRT (R305): floating point only. -/
def execSqrt (c : Fin 16) (s : State) : Res :=
  .next <| s.regStep 0x15 c.val isFloat fun e x => (e.map1 x (fun _ a => roundTo e.fmt (sqrtV (laneVal e.fmt a))), false)

/-- The smaller or larger of two lanes; with a NaN, or two zeros of different sign, no value is stated (log 32). -/
def StepEnv.pick (e : StepEnv) (x : Core) (less : FVal → FVal → Bool) : Core :=
  e.map2 x (fun i a b =>
    let p := laneVal e.fmt a
    let q := laneVal e.fmt b
    if p.isNan || q.isNan then e.freeLane e.fmt i
    else if eqV p q then (if bits e.free (64 * i) 1 = 0 then a else b)
    else if less p q then a else b)

/-- MIN (R305). -/
def execMin (c : Fin 16) (s : State) : Res := .next <| s.regStep 0x16 c.val anyFmt fun e x => (e.pick x ltV, false)

/-- MAX (R305). -/
def execMax (c : Fin 16) (s : State) : Res := .next <| s.regStep 0x17 c.val anyFmt fun e x => (e.pick x (fun a b => ltV b a), false)

/-- ABS (R305); the most negative integer has no stated absolute value. -/
def execAbs (c : Fin 16) (s : State) : Res :=
  .next <| s.regStep 0x18 c.val anyFmt fun e x =>
    (e.map1 x (fun i a =>
      let v := absV (laneVal e.fmt a)
      if outside e.fmt v then e.freeLane e.fmt i else roundTo e.fmt v), false)

def logFmt (f : Nat) : Bool := decide (f < 3) || decide (f = 14)

/-- EXP2 (R305): within 1 ULP (log 6). -/
def execExp2 (c : Fin 16) (s : State) : Res :=
  .next <| s.regStep 0x19 c.val logFmt fun e x => (e.map1 x (fun _ a => exp2Lane e.fmt (Config.exp2 e.fmt a) (laneVal e.fmt a)), false)

/-- LOG2 (R305): within 1 ULP (log 6). -/
def execLog2 (c : Fin 16) (s : State) : Res :=
  .next <| s.regStep 0x1A c.val logFmt fun e x => (e.map1 x (fun _ a => log2Lane e.fmt (Config.log2 e.fmt a) (laneVal e.fmt a)), false)

/-! ## Conversions -/

/-- CVT (R299 to R301, R305). -/
def execCvt (c : Fin 16) (s : State) : Res :=
  .next <| s.regStep 0x20 c.val anyFmt fun e x =>
    (e.write x e.st.fmt2 (e.widen (laneCount e.fmt) (fun i => encode e.st.fmt2 e.rnd e.sat (laneVal e.fmt (lane e.fmt (e.a x) i))))
      (x.psnV e.st.a), false)

/-- QUANT (R305): the division rounds in fmt to nearest even, the conversion by rnd and sat; Sb and Sc are FP64. -/
def execQuant (c : Fin 16) (s : State) : Res :=
  .next <| s.regStep 0x21 c.val isFloat fun e x =>
    let sb := fmt64.decode (x.S e.st.b)
    let sc := fmt64.decode (x.S e.st.c)
    let f := fun (i : Nat) =>
      let q := laneVal e.fmt (roundTo e.fmt (divV (laneVal e.fmt (lane e.fmt (e.a x) i)) sb))
      encode e.st.fmt2 e.rnd e.sat (addV q sc)
    (e.write x e.st.fmt2 (e.widen (laneCount e.fmt) f) (x.psnV e.st.a || x.psnS e.st.b || x.psnS e.st.c), false)

/-- DEQ (R305): to nearest even. -/
def execDeq (c : Fin 16) (s : State) : Res :=
  .next <| s.regStep 0x22 c.val isNarrow fun e x =>
    let sb := fmt64.decode (x.S e.st.b)
    let sc := fmt64.decode (x.S e.st.c)
    let f := fun (i : Nat) => encode e.st.fmt2 .rne e.sat (mulV (addV (laneVal e.fmt (lane e.fmt (e.a x) i)) (negV sc)) sb)
    (e.write x e.st.fmt2 (e.widen (laneCount e.fmt) f) (x.psnV e.st.a || x.psnS e.st.b || x.psnS e.st.c), false)

/-- MXAPPLY (R305): exact, then rnd and sat. -/
def execMxapply (c : Fin 16) (s : State) : Res :=
  .next <| s.regStep 0x23 c.val mxAllowed fun e x =>
    let f := fun (i : Nat) => encode e.st.fmt2 e.rnd e.sat (scaled (bits (e.b x) (8 * (i / 32)) 8) (laneVal e.fmt (lane e.fmt (e.a x) i)))
    (e.write x e.st.fmt2 (e.widen (laneCount e.fmt) f) (x.psnV e.st.a || x.psnV e.st.b), false)

/-! ## Masks -/

/-- A lane comparison: lt, le, eq, ne; false with a NaN, except ne. -/
def cmpLane (k : Nat) (a b : FVal) (free : Bool) : Bool :=
  match k with
  | 0 => ltV a b | 1 => ltV a b || eqV a b | 2 => eqV a b | 3 => !eqV a b | _ => free

/-- CMP (R305): a mask has 256 bits, so lanes from 256 on leave none. -/
def execCmp (c : Fin 16) (s : State) : Res :=
  .next <| s.regStep 0x28 c.val anyFmt fun e x =>
    let old := x.M e.st.d
    let m := (List.range (min 256 (laneCount e.fmt))).foldl (fun (m : BitVec 256) i =>
      if e.st.msk && !(x.M 0).getLsbD i then m
      else setBit m i (cmpLane e.st.imm (laneVal e.fmt (lane e.fmt (e.a x) i)) (laneVal e.fmt (lane e.fmt (e.b x) i)) (e.free.testBit i))) old
    (x.setM e.st.d m (x.psnV e.st.a || x.psnV e.st.b || (e.st.msk && (x.psnM 0 || x.psnM e.st.d))), false)

/-- SEL (R305). -/
def execSel (c : Fin 16) (s : State) : Res :=
  .next <| s.regStep 0x29 c.val anyFmt fun e x =>
    let m := x.M e.st.a
    let xs := (List.range (laneCount e.fmt)).map (fun i =>
      some (if decide (i < 256) && m.getLsbD i then lane e.fmt (e.b x) i else lane e.fmt (e.c x) i))
    (e.write x e.fmt xs (x.psnM e.st.a || x.psnV e.st.b || x.psnV e.st.c), false)

/-- MCOUNT (R305). -/
def execMcount (c : Fin 16) (s : State) : Res :=
  .next <| s.regStep 0x2A c.val (fun _ => true) fun e x => (x.setS e.st.d (popcount (x.M e.st.a)) (x.psnM e.st.a), false)

/-! ## Reductions and accumulators -/

/-- A reduction over the lanes: the scalar, and a saturation. min, max and absmax have no stated value with a NaN. -/
def reduce (code k : Nat) (l : List FVal) (free : Nat) : Nat × Bool :=
  let out := fun (v : FVal) => match v with
    | .fin q z => if isInt code then unsgn 64 (roundInt .rtz q) else encode 14 .rne false (.fin q z)
    | v => encode 14 .rne false v
  let best := fun (l : List FVal) (less : FVal → FVal → Bool) =>
    match l with | [] => FVal.fin 0 false | y :: ys => ys.foldl (fun a b => if less a b then b else a) y
  if k = 0 then
    let r := sumLanes code l
    ((accKind code).scalar r.1, r.2)
  else if l.any FVal.isNan || decide (3 < k) then (if isInt code then free % 2 ^ 64 else canonNan 14 (free % 2 ^ 64), false)
  else if k = 1 then (out (best l (fun a b => ltV b a)), false)
  else if k = 2 then (out (best l ltV), false)
  else (out (best (l.map absV) ltV), false)

/-- RED (R305). -/
def execRed (c : Fin 16) (s : State) : Res :=
  .next <| s.regStep 0x30 c.val anyFmt fun e x =>
    let r := reduce e.fmt e.st.imm (vals e.fmt (e.a x)) e.free
    (x.setS e.st.d r.1 (x.psnV e.st.a), r.2)

/-- ARGMAX (R305): NaN lanes ignored; with no other lane there is no stated index. -/
def execArgmax (c : Fin 16) (s : State) : Res :=
  .next <| s.regStep 0x31 c.val anyFmt fun e x =>
    let best := ((vals e.fmt (e.a x)).mapIdx (fun i v => (i, v))).foldl (fun (a : Option (Nat × FVal)) e =>
      if e.2.isNan then a else match a with | none => some e | some b => if ltV b.2 e.2 then some e else some b) none
    (x.setS e.st.d (match best with | some b => b.1 | none => e.free) (x.psnV e.st.a), false)

def Core.setAcc (x : Core) (k : Nat) (t : Tab (BitVec 32)) (p : Bool) : Core := { x with acc := t, poison := setBit x.poison (48 + k) p }

/-- DOT (R299, R305); a lane that the accumulator does not have, or that the mask leaves out (R304), takes nothing. -/
def execDot (c : Fin 16) (s : State) : Res :=
  .next <| s.regStep 0x38 c.val anyFmt fun e x =>
    let k := accKind e.fmt
    let i := x.S e.st.c
    let sum := sumV ((vals e.fmt (e.a x)).zipWith mulV (vals e.fmt (e.b x)))
    let p := x.psnA e.st.d || x.psnV e.st.a || x.psnV e.st.b || x.psnS e.st.c || (e.st.msk && x.psnM 0)
    if decide (i < k.lanes) && (!e.st.msk || (x.M 0).getLsbD i) then
      let r := accAdd k (accGet x.acc e.st.d k i) sum
      (x.setAcc e.st.d (accSet x.acc e.st.d k i r.1) p, r.2)
    else (x, false)

/-- MACC (R299, R305): lanes that the accumulator does not have are dropped. -/
def execMacc (c : Fin 16) (s : State) : Res :=
  .next <| s.regStep 0x39 c.val anyFmt fun e x =>
    let k := accKind e.fmt
    let n := min k.lanes (laneCount e.fmt)
    let r := (List.range n).foldl (fun (a : Tab (BitVec 32) × Bool) i =>
      if e.st.msk && !(decide (i < 256) && (x.M 0).getLsbD i) then a
      else
        let v := accAdd k (accGet a.1 e.st.d k i) (mulV (laneVal e.fmt (lane e.fmt (e.a x) i)) (laneVal e.fmt (lane e.fmt (e.b x) i)))
        (accSet a.1 e.st.d k i v.1, a.2 || v.2)) (x.acc, false)
    (x.setAcc e.st.d r.1 (x.psnA e.st.d || x.psnV e.st.a || x.psnV e.st.b || (e.st.msk && x.psnM 0)), r.2)

/-- ACCRD (R305): lanes from imm on, as many as fmt2 has; fmt says what the accumulator holds. -/
def execAccrd (c : Fin 16) (s : State) : Res :=
  .next <| s.regStep 0x3A c.val anyFmt fun e x =>
    let k := accKind e.fmt
    let f := fun (i : Nat) => encode e.st.fmt2 e.rnd e.sat (laneVal k.code (accGet x.acc e.st.a k (e.st.imm + i)))
    (e.write x e.st.fmt2 (e.widen (k.lanes - e.st.imm) f) (x.psnA e.st.a), false)

/-- ACCCLR (R305): all 256 lanes of 32 bits, or those of the mask (R303, R304; log 34). -/
def execAccclr (c : Fin 16) (s : State) : Res :=
  .next <| s.regStep 0x3B c.val (fun _ => true) fun e x =>
    let out := fun (n : Nat) => decide (n / 256 = e.st.d) && (!e.st.msk || (x.M 0).getLsbD (n % 256))
    (x.setAcc e.st.d (x.acc.filter (fun q => !out q.1)) (e.st.msk && (x.psnA e.st.d || x.psnM 0)), false)

/-! ## Tables in the work area -/

/-- HIST (R305): 32-bit counts in the work area; indices beyond Sb, or below 0, are dropped and counted in Sd. -/
def execHist (c : Fin 16) (s : State) : Res :=
  .next <| s.runStep 0x3C c.val fun _ e x =>
    let base := x.S e.st.a
    let lim := x.S e.st.b
    let ix := (lanes e.fmt (e.a x)).map (fun a => match laneVal e.fmt a with | .fin q _ => roundInt .rtz q | _ => -1)
    let ix := (ix.mapIdx (fun i v => (i, v))).filter (fun p => !e.st.msk || (decide (p.1 < 256) && (x.M 0).getLsbD p.1))
    let good := (ix.filter (fun p => decide (0 ≤ p.2) && decide (p.2.toNat ≤ lim))).map (fun p => base + 4 * p.2.toNat)
    let dropped := ix.length - good.length
    if !isInt e.fmt || decide (base % 4 ≠ 0) || good.any (fun a => decide (s.workBytes < a + 4)) then s.faultAt c.val
    else
      let m := ((good.map (· / 16)).eraseDups).foldl (fun (q : Bool × State) w => let f := q.2.fetch (12 + c.val) w 1; (q.1 || f.1, f.2)) (false, s)
      if m.1 then m.2.reExec
      else
        let p := x.psnV e.st.a || x.psnS e.st.a || x.psnS e.st.b
        let y := good.foldl (fun (y : Core) a => y.put a (leBytes 4 (satAdd (2 ^ 32 - 1) (ofLe (y.load a 4)) 1)) p) x
        let t := good.foldl (fun s a => s.mergeBytes (12 + c.val) a 4) m.2
        t.retire c.val (y.setS e.st.d (x.S e.st.d + dropped) (p || x.psnS e.st.d))

/-- LUT (R305): elements of fmt2, packed from Sa on in the work area. -/
def execLut (c : Fin 16) (s : State) : Res :=
  .next <| s.runStep 0x3D c.val fun _ e x =>
    let w := laneWidth e.st.fmt2
    let n := min (laneCount e.fmt) (laneCount e.st.fmt2)
    let base := x.S e.st.a
    let ix := (List.range n).map (fun i => match laneVal e.fmt (lane e.fmt (e.a x) i) with | .fin q _ => roundInt .rtz q | _ => -1)
    let use := fun (i : Nat) => !e.st.msk || (decide (i < 256) && (x.M 0).getLsbD i)
    let ends := (ix.mapIdx (fun i v => (i, v))).filter (fun p => use p.1)
    if !isInt e.fmt || decide (base % (max 1 (w / 8)) ≠ 0) ||
        ends.any (fun p => decide (p.2 < 0) || decide (s.workBytes * 8 < base * 8 + w * (p.2.toNat + 1))) then s.faultAt c.val
    else
      let at_ := fun (v : Int) => base * 8 + w * v.toNat
      let words := (ends.flatMap (fun p => [at_ p.2 / 128, (at_ p.2 + w - 1) / 128])).eraseDups
      let m := words.foldl (fun (q : Bool × State) k => let f := q.2.fetch (12 + c.val) k 1; (q.1 || f.1, f.2)) (false, s)
      if m.1 then m.2.reExec
      else
        let f := fun (i : Nat) => let b := at_ (ix.getD i 0); bits (ofLe (x.load (b / 8) 9)) (b % 8) w
        let p := x.psnV e.st.a || x.psnS e.st.a || words.any (fun k => x.psn.contains k)
        ({ m.2 with free := m.2.free + 1 }).retire c.val (e.write x e.st.fmt2 (e.widen n f) p)

/-! ## Bits -/

/-- A bit operation on lanes: and, or, xor, shl, shr. A shift by the width or more has no stated value. -/
def bitopLane (k w a b free : Nat) : Nat :=
  match k with
  | 0 => a &&& b | 1 => a ||| b | 2 => a ^^^ b
  | 3 => if b < w then a * 2 ^ b % 2 ^ w else free
  | 4 => if b < w then a / 2 ^ b else free
  | _ => free

/-- BITOP (R305). -/
def execBitop (c : Fin 16) (s : State) : Res :=
  .next <| s.regStep 0x40 c.val isInt fun e x =>
    (e.map2 x (fun i a b => bitopLane e.st.imm (laneWidth e.fmt) a b (e.freeLane e.fmt i)), false)

/-- FIELD (R305): 64-bit lanes; bits above 63 of the field do not exist and count as zero. -/
def execField (c : Fin 16) (s : State) : Res :=
  .next <| s.regStep 0x41 c.val (fun _ => true) fun e x =>
    let p := bits e.st.imm 0 6
    let w := bits e.st.imm 6 6 + 1
    let f := fun (a : Nat) =>
      let v := bits a p w
      if e.st.imm.testBit 12 then unsgn 64 (sgn w v) else v
    (e.write x 14 ((lanes 14 (e.a x)).map (fun a => some (f a))) (x.psnV e.st.a), false)

/-- The full time nearest a reference with this qt field (R183). -/
def fullTime (ref qt : Nat) : Nat := ((ref : Int) + sgn 21 (qt % 2 ^ 21 + 2 ^ 21 - ref % 2 ^ 21)).toNat

/-- QTREF (R183, R305). -/
def execQtref (c : Fin 16) (s : State) : Res :=
  .next <| s.regStep 0x42 c.val (fun _ => true) fun e x =>
    (e.write x 14 ((lanes 14 (e.a x)).map (fun a => some (fullTime (x.S e.st.a) (bits a 20 21)))) (x.psnV e.st.a || x.psnS e.st.a), false)

/-! ## Across the cores -/

/-- Core c reaches a step at which the cores wait for one another; when all stand at it, `all` gives each its registers
by logical index. -/
def State.meet (s : State) (c : Nat) (r : Running) (all : State → Nat → Core → Core) : State :=
  let s := s.setCore c { s.core c with waiting := true }
  let pc := (s.core c).pc
  if r.cores.all (fun k => (s.core k).waiting && decide ((s.core k).pc = pc) && !(s.core k).halted) then
    (r.cores.mapIdx (fun l k => (k, all s l (s.core k)))).foldl (fun t e => t.retire e.1 e.2) s
  else s

/-- A core has halted: XCHG and ALLRED stop the op (R307). -/
def State.anyHalted (s : State) (r : Running) : Bool := r.cores.any (fun k => (s.core k).halted)

/-- The lane-wise reduction over the cores in logical order (R299, R305): sum, min, max. -/
def allLane (e : StepEnv) (i : Nat) (l : List Nat) : Nat × Bool :=
  let vs := l.map (laneVal e.fmt)
  if e.st.imm = 0 then
    let k := accKind e.fmt
    let r := vs.foldl (fun (a : Nat × Bool) v => let t := accAdd k a.1 v; (t.1, a.2 || t.2)) (0, false)
    (encode e.fmt .rne false (laneVal k.code r.1), r.2)
  else if vs.any FVal.isNan || decide (2 < e.st.imm) then (e.freeLane e.fmt i, false)
  else
    let less := fun (a b : FVal) => if e.st.imm = 1 then ltV b a else ltV a b
    (l.foldl (fun a b => if less (laneVal e.fmt a) (laneVal e.fmt b) then b else a) (l.headD 0), false)

/-- ALLRED (R305). -/
def execAllred (c : Fin 16) (s : State) : Res :=
  .next <| s.runStep 0x48 c.val fun r e _ =>
    if !anyFmt e.fmt || s.anyHalted r then s.faultAt c.val
    else
      let k0 := r.cores.headD 0
      let e := { e with free := Config.freeValue (r.at_ k0 (s.core k0)) }
      let rs : List (Nat × Bool) := (List.range (laneCount e.fmt)).map (fun i => allLane e i (r.cores.map (fun k => lane e.fmt ((s.core k).V e.st.a) i)))
      let p := r.cores.any (fun k => (s.core k).psnV e.st.a)
      let t := s.meet c.val r (fun _ _ y => e.write y e.fmt (rs.map (fun (q : Nat × Bool) => some q.1)) p)
      if (t.core c.val).waiting then t
      else match t.ch.run with
        | some q => t.setRun { q with sat := q.sat || rs.any Prod.snd }
        | none => t

/-- XCHG (R305). -/
def execXchg (c : Fin 16) (s : State) : Res :=
  .next <| s.runStep 0x49 c.val fun r e _ =>
    if s.anyHalted r then s.faultAt c.val
    else s.meet c.val r (fun t l y =>
      let from_ := t.core (r.cores.getD ((l + e.st.imm) % r.cores.length) 0)
      if e.st.msk then e.write y e.fmt ((lanes e.fmt (from_.V e.st.a)).map some) (from_.psnV e.st.a)
      else y.setV e.st.d (tget from_.v e.st.a 0) (from_.psnV e.st.a))

/-- BAR (R305). -/
def execBar (c : Fin 16) (s : State) : Res :=
  .next <| s.runStep 0x4A c.val fun r _ _ => s.meet c.val r (fun _ _ y => y)

/-! ## Control -/

/-- The step after the ENDL that matches the LOOP at step i: `depth` loops are open. -/
def loopEnd (l : Loaded) : Nat → Nat → Nat → Nat
  | 0, i, _ => i
  | n + 1, i, depth =>
    match l.step i with
    | none => i
    | some st =>
      if st.prim = 0x50 then loopEnd l n (i + 1) (depth + 1)
      else if st.prim = 0x51 then (if depth ≤ 1 then i + 1 else loopEnd l n (i + 1) (depth - 1))
      else loopEnd l n (i + 1) depth

def State.itin (s : State) (r : Running) : Option Loaded := s.loaded? r.op.owner (dfld r.op.desc 1 8 5)

/-- LOOP (R305): Sa times, or imm times when a = 0. -/
def execLoop (c : Fin 16) (s : State) : Res :=
  .next <| s.runStep 0x50 c.val fun r e x =>
    let n := if e.st.a = 0 then e.st.imm else x.S e.st.a
    if n = 0 then
      match s.itin r with
      | some l => s.setCore c.val { x with pc := loopEnd l 4096 (x.pc + 1) 1, stepAt := s.now }
      | none => s
    else s.retire c.val { x with loops := (x.pc + 1, n - 1) :: x.loops }

/-- ENDL (R305). -/
def execEndl (c : Fin 16) (s : State) : Res :=
  .next <| s.runStep 0x51 c.val fun _ _ x =>
    match x.loops with
    | (pc, n) :: rest => if n = 0 then s.retire c.val { x with loops := rest }
                         else s.setCore c.val { x with pc := pc, loops := (pc, n - 1) :: rest, stepAt := s.now }
    | [] => s.retire c.val x

/-- BRZ (R305). -/
def execBrz (c : Fin 16) (s : State) : Res :=
  .next <| s.runStep 0x52 c.val fun _ e x =>
    if x.S e.st.a = 0 then s.setCore c.val { x with pc := e.st.imm, stepAt := s.now } else s.retire c.val x

/-- HALT (R305): a core that waits at an XCHG or ALLRED can go on no more (R307). -/
def execHalt (c : Fin 16) (s : State) : Res :=
  .next <| s.runStep 0x53 c.val fun r _ x =>
    let s := s.setCore c.val { x with halted := true, stepAt := s.now }
    match r.cores.find? (fun k => (s.core k).waiting && (match (s.itin r).bind (fun l => l.step (s.core k).pc) with
        | some st => decide (st.prim = 0x48) || decide (st.prim = 0x49) | none => false)) with
    | some k => s.writeBlocks.faultAt k
    | none => s.writeBlocks

end Sys2Proof.Machine
end

