-- ==== Sys2Proof/Machine/House.lean ====
section
/-! DEFINITION. The Counting House's packets 0x50 to 0x56 (R399, R400), images and their loads (R306, R316 to R321), the
dispatch of ops (R288 to R293) and failed cores (R310). -/

namespace Sys2Proof.Machine

/-! ## Itinerary validation (R306) -/

/-- The register file a field of a step names. -/
inductive RegKind where
  | none | v | s | a | m
  deriving DecidableEq, Repr

/-- A row of the primitive table: code, the files of d, a, b and c, the formats allowed, and those of fmt2. -/
structure PrimRow where
  code : Nat
  d : List RegKind
  a : List RegKind
  b : List RegKind
  c : List RegKind
  fmt : Nat → Bool
  fmt2 : Nat → Bool

def fAll (_ : Nat) : Bool := true

def primRows : List PrimRow :=
  [⟨0x01, [.v], [.s], [], [], fAll, fAll⟩, ⟨0x02, [], [.v, .s], [], [], fAll, fAll⟩, ⟨0x03, [.v], [.s], [], [], fAll, fAll⟩,
   ⟨0x04, [.v], [], [], [], fAll, fAll⟩, ⟨0x05, [], [], [], [], fAll, fAll⟩, ⟨0x06, [.s], [], [], [], fAll, fAll⟩,
   ⟨0x07, [.s], [.s], [.s], [], fAll, fAll⟩, ⟨0x08, [.v], [.s], [], [], anyFmt, fAll⟩, ⟨0x09, [.s], [.v], [], [], anyFmt, fAll⟩] ++
  [⟨0x10, [.v], [.v], [.v], [], anyFmt, fAll⟩, ⟨0x11, [.v], [.v], [.v], [], anyFmt, fAll⟩, ⟨0x12, [.v], [.v], [.v], [], anyFmt, fAll⟩,
   ⟨0x13, [.v], [.v], [.v], [.v], anyFmt, fAll⟩, ⟨0x14, [.v], [.v], [.v], [], isFloat, fAll⟩, ⟨0x15, [.v], [.v], [], [], isFloat, fAll⟩,
   ⟨0x16, [.v], [.v], [.v], [], anyFmt, fAll⟩, ⟨0x17, [.v], [.v], [.v], [], anyFmt, fAll⟩, ⟨0x18, [.v], [.v], [], [], anyFmt, fAll⟩,
   ⟨0x19, [.v], [.v], [], [], logFmt, fAll⟩, ⟨0x1A, [.v], [.v], [], [], logFmt, fAll⟩] ++
  [⟨0x20, [.v], [.v], [], [], anyFmt, anyFmt⟩, ⟨0x21, [.v], [.v], [.s], [.s], isFloat, isNarrow⟩, ⟨0x22, [.v], [.v], [.s], [.s], isNarrow, anyFmt⟩,
   ⟨0x23, [.v], [.v], [.v], [], mxAllowed, anyFmt⟩, ⟨0x28, [.m], [.v], [.v], [], anyFmt, fAll⟩, ⟨0x29, [.v], [.m], [.v], [.v], anyFmt, fAll⟩,
   ⟨0x2A, [.s], [.m], [], [], fAll, fAll⟩, ⟨0x30, [.s], [.v], [], [], anyFmt, fAll⟩, ⟨0x31, [.s], [.v], [], [], anyFmt, fAll⟩] ++
  [⟨0x38, [.a], [.v], [.v], [.s], anyFmt, fAll⟩, ⟨0x39, [.a], [.v], [.v], [], anyFmt, fAll⟩, ⟨0x3A, [.v], [.a], [], [], anyFmt, anyFmt⟩,
   ⟨0x3B, [.a], [], [], [], fAll, fAll⟩, ⟨0x3C, [.s], [.v, .s], [.s], [], isInt, fAll⟩, ⟨0x3D, [.v], [.v, .s], [], [], isInt, anyFmt⟩,
   ⟨0x40, [.v], [.v], [.v], [], isInt, fAll⟩, ⟨0x41, [.v], [.v], [], [], fAll, fAll⟩, ⟨0x42, [.v], [.v, .s], [], [], fAll, fAll⟩] ++
  [⟨0x48, [.v], [.v], [], [], anyFmt, fAll⟩, ⟨0x49, [.v], [.v], [], [], anyFmt, fAll⟩, ⟨0x4A, [], [], [], [], fAll, fAll⟩,
   ⟨0x50, [], [.s], [], [], fAll, fAll⟩, ⟨0x51, [], [], [], [], fAll, fAll⟩, ⟨0x52, [], [.s], [], [], fAll, fAll⟩,
   ⟨0x53, [], [], [], [], fAll, fAll⟩]

def RegKind.has : RegKind → Nat → Bool
  | .s, i => decide (i < 16)
  | .a, i => decide (i < 4)
  | .m, i => decide (i < 4)
  | _, _ => true

/-- A step is valid by itself: code, reserved fields, register numbers, formats. fmt 0xF stands for the descriptor's. -/
def IStep.fits (st : IStep) : Bool :=
  match primRows.find? (fun r => r.code = st.prim) with
  | none => false
  | some r =>
    decide (st.rsv = 0) && decide (st.rnd ≠ 3) &&
    r.d.all (fun k => k.has st.d) && r.a.all (fun k => k.has st.a) && r.b.all (fun k => k.has st.b) && r.c.all (fun k => k.has st.c) &&
    (decide (st.prim ≠ 0x05) || decide (st.imm % 2 = 1) || (decide (st.a < 16) && decide (st.b < 16))) &&
    (decide (st.prim ≠ 0x07) || decide (st.c < 11)) &&
    (decide (st.fmt = 15) || r.fmt st.fmt) && r.fmt2 st.fmt2

/-- The LOOPs open before each step, innermost first; an ENDL without a LOOP leaves none. -/
def openLoops : List IStep → Nat → List Nat → List (List Nat)
  | [], _, _ => []
  | st :: rest, i, open_ =>
    open_ :: openLoops rest (i + 1) (if st.prim = 0x50 then i :: open_ else if st.prim = 0x51 then open_.drop 1 else open_)

/-- The first failing step of an itinerary (R306). -/
def badStep (steps : List IStep) : Option Nat :=
  let loops := openLoops steps 0 []
  let ends := match steps.getLast?, loops.getLast? with
    | some st, some l => if st.prim = 0x50 then (steps.length - 1) :: l else if st.prim = 0x51 then l.drop 1 else l
    | _, _ => []
  (steps.mapIdx (fun i st => (i, st))).find? (fun e =>
    let l := loops.getD e.1 []
    !e.2.fits ||
    (decide (e.2.prim = 0x50) && (decide (4 ≤ l.length) || ends.contains e.1)) ||
    (decide (e.2.prim = 0x51) && l.isEmpty) ||
    (decide (e.2.prim = 0x52) && (decide (e.2.imm ≤ e.1) || decide (steps.length ≤ e.2.imm) || decide (loops.getD e.2.imm [] ≠ l)))) |>.map Prod.fst

/-! ## Submission (R286, R287, R400) -/

/-- Parameter words of a library op (R400). -/
def paramWords (op : Nat) : Nat :=
  match op with
  | 0x08 => 2 | 0x09 => 1 | 0x0A => 1 | 0x0B => 3 | 0x0C => 4 | 0x0D => 1 | 0x0E => 2 | 0x15 => 3 | 0x17 => 1 | _ => 0

def specOpSubmit : OpSpec :=
  { op := 0x50, priv := .own, len := fun ps => decide (ps.length = 16 + paramWords (opCode ps)), long := true }

def isRecSpace (k : Nat) : Bool := decide (1 ≤ k) && decide (k ≤ 3)

def badRing (d : List W32) (j : Nat) : Bool := isRecSpace (inSpace d j) && (decide (inRing d j < 4) || decide (256 < inRing d j))

/-- Ops that read a model (R297). -/
def needsModel (op : Nat) : Bool := op = 0x0D || op = 0x0E

/-- The model and itinerary slots of a descriptor are loaded, each of its kind (R287). -/
def State.slotsOk (s : State) (o : Nat) (d : List W32) : Bool :=
  let m := flag (d.getD 1 0) 5
  let model := match s.loaded? o (dfld d 1 0 5) with | some l => !l.itin && !l.going | none => false
  let itin := match s.loaded? o (dfld d 1 8 5) with | some l => l.itin && !l.going | none => false
  (!m || model) && (m || !needsModel (opCode d)) && (decide (opCode d ≠ 0xFF) || itin)

def State.ownInstances (s : State) (o : Nat) : Nat := s.ch.queue.countP (fun x => decide (x.owner = o))

/-- The duplicated execution in force (R308). -/
def State.isDup (s : State) (o : Nat) (d : List W32) : Bool := flag (d.getD 0 0) 15 || (s.allot o).dup

/-- OP_SUBMIT (R287, R399). -/
def bodyOpSubmit (pk : Pkt) (slot : Nat) (s : State) : Verdict :=
  let d := pk.ps
  let o := pk.o
  let op := opCode d
  let rep := opRepeat d
  let space := fun (j : Nat) => inSpace d j = 7 || (inSpace d j = 3 && (s.ledger.st = .armed || s.ledger.st = .post))
  chk (decide (dfld d 0 8 5 ≠ o)) .denied 1 <|
  chk (decide (0x0F ≤ op) && decide (op ≤ 0x13) && decide (o ≠ hm)) .denied 1 <|
  chk (decide (0x17 < op) && decide (op ≠ 0xFF)) .badParam 1 <|
  chk (decide (rep = 3) || decide (dfld d 0 21 4 = 15)) .badParam 1 <|
  chk (flag (d.getD 0 0) 18 && decide (o ≠ hm) && (s.memKey o).isNone) .badParam 1 <|
  chk (!s.slotsOk o d) .badParam 2 <|
  chk (decide (rep = 2) && (decide ((d.getD 2 0).toNat < 10) || decide (1000000000 < (d.getD 2 0).toNat))) .badParam 3 <|
  chk (space 0 || badRing d 0) .badParam 7 <|
  chk (space 1 || badRing d 1) .badParam 11 <|
  chk (flag (d.getD 0 0) 18 && decide (resultAddr d % 4096 ≠ 0)) .badParam 15 <|
  chk (decide (op = 0x08) && decide (dfld d 16 0 4 = 0)) .badParam 17 <|
  chk (decide (op = 0x17) && decide (dfld d 16 0 4 = 15)) .badParam 17 <|
  chk (decide (op = 0x15) && decide (dfld d 18 0 4 = 15)) .badParam 19 <|
  chk (flag (d.getD 0 0) 18 && s.seqSpent o) .exhausted 0 <|
  chk (s.isDup o d && flag (d.getD 0 0) 18 && decide (65536 * popcount s.ch.online < blockLimit d * 4032)) .exhausted 0 <|
  chk (decide (393216 < (s.ch.standing.foldl (fun a x => a + ringsOf x.desc) (ringsOf d)) * 1024)) .exhausted 0 <|
  chk (if rep = 0 then decide (32 ≤ s.ch.queue.length) || decide ((s.allot o).limit ≤ s.ownInstances o) else decide (4 ≤ s.ch.standing.length)) .exhausted 0 <|
  let q := s.takeSeq o
  let s := q.2
  if rep = 0 then
    let x : OpInst := ⟨o, q.1, d, s.ts, s.now, slot, pk.seq, Input.zero, Input.zero, 0⟩
    .accept [q.1.toNat] { s with ch := { s.ch with queue := s.ch.queue ++ [x] } }
  else
    let x : Standing := ⟨o, q.1, d, true, slot, pk.seq, if rep = 2 then nextReady d s.ts else 0, none, Input.begin_ s.ts, Input.begin_ s.ts⟩
    .accept [q.1.toNat] { s with ch := { s.ch with standing := s.ch.standing ++ [x] } }

def execOpSubmit (pk : Pkt) (s : State) : Res := .next (launch specOpSubmit bodyOpSubmit pk s)

def Standing.inst (x : Standing) (seq : BitVec 32) (ts now : Nat) : OpInst :=
  ⟨x.owner, seq, x.desc, ts, now, if x.first then x.slot else 0, x.pseq, x.i0, x.i1, 0⟩

/-- An instance leaves the queue with BUSY (R289, R399). -/
def State.dropInstance (s : State) (x : OpInst) : State :=
  ({ s with ch := { s.ch with queue := s.ch.queue.filter (fun y => !(decide (y.owner = x.owner) && decide (y.seq = x.seq))) } }).postResult x 0x30 0 0 0

def specOpCancel : OpSpec := { op := 0x51, priv := .own, len := exactly 1 }

/-- OP_CANCEL (R399): a queued instance is removed with BUSY, a standing op's registration ends; the first instance of one
that never became ready ends with BUSY too. -/
def bodyOpCancel (pk : Pkt) (_ : Nat) (s : State) : Verdict :=
  let o := pk.o
  let q := pk.p 1
  let queued := s.ch.queue.find? (fun x => decide (x.owner = o) && decide (x.seq = q))
  let standing := s.ch.standing.find? (fun x => decide (x.owner = o) && decide (x.seq = q))
  let running := match s.ch.run with | some r => decide (r.op.owner = o) && decide (r.op.seq = q) && decide (opRepeat r.op.desc = 0) | none => false
  match queued, standing with
  | none, none => if running then .reject .busy 1 0 else .reject .badParam 1 0
  | _, _ =>
    let s := match standing with
      | some x =>
        let s := { s with ch := { s.ch with standing := s.ch.standing.erase x } }
        if x.first then s.postResult { x.inst x.seq s.ts s.now with i0 := Input.zero, i1 := Input.zero } 0x30 0 0 0 else s
      | none => s
    .done .ok [] (match queued with | some x => s.dropInstance x | none => s)

def execOpCancel (pk : Pkt) (s : State) : Res := .next (launch specOpCancel bodyOpCancel pk s)

/-! ## Slots and allotments -/

def State.unloadSoon (s : State) (o i : Nat) : State :=
  if s.slotRuns o i then
    { s with ch := { s.ch with slots := s.ch.slots.map (fun e => (e.1, if e.1 = o * 32 + i then { e.2 with going := true } else e.2)) } }
  else (s.unload o i).settleUnits

def specSlotUnload : OpSpec := { op := 0x54, priv := .own, len := exactly 1 }

/-- SLOT_UNLOAD (R317): a model the running op uses goes when that op ends. -/
def bodySlotUnload (pk : Pkt) (_ : Nat) (s : State) : Verdict :=
  let i := fld (pk.p 1) 0 5
  chk (s.loaded? pk.o i).isNone .badParam 1 <| .done .ok [] (s.unloadSoon pk.o i)

def execSlotUnload (pk : Pkt) (s : State) : Res := .next (launch specSlotUnload bodySlotUnload pk s)

def specChAllot : OpSpec := { op := 0x55, priv := .hmOnly, len := exactly 1 }

/-- CH_ALLOT (R279, R399). -/
def bodyChAllot (pk : Pkt) (_ : Nat) (s : State) : Verdict :=
  let w := pk.p 1
  let o := fld w 0 5
  let st := fld w 5 6
  let md := fld w 11 6
  concern o 1 s <|
  chk (decide (32 < st) || decide (32 < md)) .badParam 1 <|
  let others := fun (f : Allot → Nat) => (List.range 17).foldl (fun a x => if x = o then a else a + f (s.allot x)) 0
  chk (decide (32 < others Allot.st + st) || decide (32 < others Allot.model + md)) .exhausted 1 <|
  let a : Allot := ⟨st, md, fld w 17 5 + 1, flag w 22, flag w 23⟩
  .done .ok [] ({ s with ch := { s.ch with allot := tset s.ch.allot o a Allot.zero } }).settleUnits

def execChAllot (pk : Pkt) (s : State) : Res := .next (launch specChAllot bodyChAllot pk s)

def specChStatus : OpSpec := { op := 0x56, priv := .any, len := exactly 0 }

/-- CH_STATUS (R399). -/
def bodyChStatus (pk : Pkt) (_ : Nat) (s : State) : Verdict :=
  let o := pk.o
  .done .ok
    [popcount s.ch.online + min 31 s.ch.removed * 2 ^ 5 + s.ch.queue.length * 2 ^ 10 + min 31 (s.ownInstances o) * 2 ^ 16,
     (s.ownSlots o).foldl (fun a e => a + 2 ^ e.1) 0,
     (s.stUnits o).countP (fun u => !s.stUsed o u) + (s.mdUnits o).countP (fun u => !s.mdUsed o u) * 2 ^ 6] s

def execChStatus (pk : Pkt) (s : State) : Res := .next (launch specChStatus bodyChStatus pk s)

/-! ## Loads (R316 to R321) -/

/-- A load is accepted: its image is read from the owner's memory (R317). -/
def State.addLoad (s : State) (pk : Pkt) (slot : Nat) (itin : Bool) : State :=
  let src := flag (pk.p 1) 0
  let l : Load := ⟨s.ch.nextLoad, itin, pk.o, pk.seq, slot, src, if src then fld (pk.p 2) 0 8 else pk.addr 2, (pk.p 4).toNat, pk.streamed,
    if itin then 0 else pk.addr 5, if itin then 0 else (pk.p 7).toNat⟩
  let s := { s with ch := { s.ch with loads := s.ch.loads ++ [l], nextLoad := s.ch.nextLoad + 1 } }
  if src then s else (readReqs pk.o l.addr l.bytes (.image l.id)).foldl State.mgrPush s

/-- The checks that both loads share (R399, R420). -/
def checkLoad (pk : Pkt) (kind : Nat) (s : State) (k : Verdict) : Verdict :=
  let src := flag (pk.p 1) 0
  let n := (pk.p 4).toNat
  let item := tget s.lb.images (fld (pk.p 2) 0 8) []
  chk (src && decide (pk.o ≠ hm)) .denied 1 <|
  chk (!src && (s.modelKey pk.o).isNone) .badParam 0 <|
  chk (src && (item.isEmpty || decide (itemKind item ≠ kind))) .badParam 2 <|
  chk (decide (n < 80) || decide (n % 16 ≠ 0) || (src && decide (itemLen item ≠ n))) .badParam 4 k

def specItinLoad : OpSpec := { op := 0x52, priv := .own, len := exactly 4, long := true }

/-- ITIN_LOAD (R399). -/
def bodyItinLoad (pk : Pkt) (slot : Nat) (s : State) : Verdict := checkLoad pk 3 s (.accept [] (s.addLoad pk slot true))

def execItinLoad (pk : Pkt) (s : State) : Res := .next (launch specItinLoad bodyItinLoad pk s)

def specModelLoad : OpSpec := { op := 0x53, priv := .own, len := exactly 7, long := true, streamed := true }

/-- MODEL_LOAD (R319, R399, R420). -/
def bodyModelLoad (pk : Pkt) (slot : Nat) (s : State) : Verdict :=
  chk (pk.streamed && !(s.allot pk.o).stage) .denied 0 <|
  chk (pk.streamed && decide (pk.o ≠ hm) && (s.memKey pk.o).isNone) .badParam 0 <|
  checkLoad pk 4 s (.accept [] (s.addLoad pk slot false))

def execModelLoad (pk : Pkt) (s : State) : Res := .next (launch specModelLoad bodyModelLoad pk s)

/-- The header of an image (R316). -/
structure ImgHeader where
  ok : Bool
  kind : Nat
  plain : Nat
  modelId : BitVec 32
  wfmt : Nat
  wOff : Nat
  wBytes : Nat
  steps : Nat
  nonce : List Byte

def imgHeader (b : List Byte) : ImgHeader :=
  let w := fun i => ofLe (slice b (8 * i) 8)
  { ok := decide (w 0 % 2 ^ 40 = 0x011D3E5A7F) && decide (w 0 / 2 ^ 46 = 0) && decide (w 5 / 2 ^ 32 = 0), kind := bits (w 0) 40 2
    plain := w 1 % 2 ^ 32, modelId := BitVec.ofNat 32 (w 1 / 2 ^ 32), wfmt := bits (w 0) 42 4, wOff := w 2 % 2 ^ 32, wBytes := w 2 / 2 ^ 32, steps := w 3 % 2 ^ 32
    nonce := slice b 32 12 }

/-- The image is one of its kind and as long as its plaintext says (R316, R317, R399). -/
def ImgHeader.fits (h : ImgHeader) (itin : Bool) (n : Nat) : Bool :=
  h.ok && decide (h.kind = b2n itin) && decide (n = 48 + (h.plain + 15) / 16 * 16 + 16) &&
  (if itin then decide (h.wBytes = 0) && decide (1 ≤ h.steps) && decide (h.steps ≤ 4096) && decide (h.plain = 16 * h.steps)
   else decide (h.steps = 0) && decide (h.wOff % 256 = 0) && decide (h.wOff + h.wBytes ≤ h.plain))

/-- The plaintext of an image; none when its tag fails (R317). -/
def State.openImage (s : State) (o : Nat) (b : List Byte) : Option (List Byte) :=
  match s.modelKey o with
  | none => none
  | some k =>
    let n := b.length - 64
    (gcmOpen k.2.key (slice b 32 12) (b.take 48) (slice b 48 n) (BitVec.ofNat 128 (ofBe (slice b (48 + n) 16)))).map
      (fun t => t.take (imgHeader b).plain)

/-- The Counting House share of the cap in bytes per second (R321). -/
def Mgr.chRate (m : Mgr) : Nat := m.cap * 500000000 * (16 - m.share) / 16

/-- The rate factor of R321, 8.8. -/
def rateFactor (m : Mgr) (w : Nat) : Nat :=
  let blocks := (w + 4079) / 4080
  let r : Rat := ((m.cap * 500000000 * (16 - m.share) : Nat) : Rat) / 16
  if r = 0 then 0xFFFF
  else if w = 0 then 0x100
  else
    let f : Rat := ((4096 * blocks * 76800000000 : Nat) : Rat) / (r * (w : Rat))
    let f := if f < 1 then 1 else f
    if (0xFFFF : Rat) / 256 < f then 0xFFFF else (roundRat (f * 256)).toNat

/-- Staged blocks of a weight section, from the first byte of the region the owner names (R319). -/
def State.stageWrites (s : State) (o slot loadNo base : Nat) (ws : List Byte) : State :=
  let key := s.stageKey o
  (List.range ((ws.length + 4079) / 4080)).foldl (fun s i =>
    let nonce := leBytes 1 4 ++ leBytes 1 o ++ leBytes 1 (s.keygen o) ++ leBytes 1 s.chip ++ leBytes 1 slot ++ leBytes 3 loadNo ++ leBytes 4 i
    let part := slice ws (4080 * i) 4080
    let text := part ++ List.replicate (4080 - part.length) 0
    let b := gcmText key nonce text ++ beBytes 16 (gcmTag key nonce [] text).toNat
    (writeReqs o (base + 4096 * i) (.staged o) b).foldl State.mgrPush s) s

/-- The loaded slot i with its units, its staged weights written (R317 to R319). -/
def State.putLoad (s : State) (l : Load) (h : ImgHeader) (plain : List Byte) (i : Nat) (us : List Nat) : State :=
  let o := l.owner
  let no := tget s.ch.loadNo o 0
  let body := if l.streamed then plain.take h.wOff ++ plain.drop (h.wOff + h.wBytes) else plain
  let x : Loaded := ⟨l.itin, body, h.wOff, h.wBytes, h.steps, us, Config.sha256 plain, l.streamed, l.stageBase, no, s.keygen o, h.modelId, h.wfmt, false⟩
  let s := s.clearUnits us
  let s := { s with ch := { s.ch with slots := (s.ch.slots.filter (fun e => e.1 < o * 32 + i)) ++ [(o * 32 + i, x)] ++ (s.ch.slots.filter (fun e => o * 32 + i < e.1)) } }
  if l.streamed then
    ({ s with ch := { s.ch with loadNo := tset s.ch.loadNo o (no + 1) 0 } }).stageWrites o i no l.stageBase (slice plain h.wOff h.wBytes)
  else s

/-- A slot and units for an image that opened and fits: its status and words (R317 to R320). -/
def State.placeLoad (s : State) (l : Load) (h : ImgHeader) (plain : List Byte) : State × Status × List Nat :=
  let o := l.owner
  let free := (s.mdUnits o).filter (fun u => !s.mdUsed o u)
  let resident := if l.streamed then h.plain - h.wBytes else h.plain
  match (List.range 32).find? (fun i => (s.loaded? o i).isNone) with
  | none => (s, .exhausted, [0, 0])
  | some i =>
    if free.length * 65536 < resident then (s, .tooLarge, [0, resident - free.length * 65536])
    else if l.streamed && decide (o ≠ hm) && (s.memKey o).isNone then (s, .badParam, [0, 0])
    else if l.streamed && decide (l.blocks < (h.wBytes + 4079) / 4080) then (s, .badParam, [7, 0])
    else if l.streamed && decide (2 ^ 24 ≤ tget s.ch.loadNo o 0) then (s, .exhausted, [0, 0])
    else
      let us := free.take ((resident + 65535) / 65536)
      let w := i + us.length * 2 ^ 5
      (s.putLoad l h plain i us, .ok, if l.itin then [w] else [w, if l.streamed then rateFactor s.mgr h.wBytes else 0x100])

/-- The first bad step of an itinerary's plaintext (R306). -/
def badItin (h : ImgHeader) (plain : List Byte) : Option Nat :=
  badStep ((List.range h.steps).map (fun i => parseStep (ofLe (slice plain (16 * i) 16))))

/-- What a load ends in: a status with its words, or the loaded slot (R306, R317 to R319). -/
def State.tryLoad (s : State) (l : Load) (b : List Byte) : State × Status × List Nat :=
  let h := imgHeader b
  match s.openImage l.owner b with
  | none => (s, .integrity, [0, 0])
  | some plain =>
    if !h.fits l.itin b.length then (s, .badParam, [0, 0])
    else match (if l.itin then badItin h plain else none) with
      | some i => (s, .badParam, [0, i])
      | none => s.placeLoad l h plain

/-- The bytes of a load's image: none while they are on their way; a failed Logbook access gives no bytes. -/
def State.loadBytes (s : State) (l : Load) : Option (Option (List Byte) × State) :=
  if l.src then
    let r := s.lbAccess
    some (if r.1 then some (itemPayload (tget s.lb.images l.addr [])) else none, r.2)
  else (s.gotBytes (.image l.id) l.owner l.addr l.bytes).map (fun g => (some g.1, s))

/-- A load of this kind runs while the array is idle between ops, and its completion is posted (R317). -/
def State.runLoad (s : State) (itin : Bool) : State :=
  if s.ch.run.isSome || decide (s.lk.st ≠ .underway) then s
  else match s.ch.loads.find? (fun l => l.itin == itin && (s.loadBytes l).isSome) with
    | none => s
    | some l =>
      match s.loadBytes l with
      | none => s
      | some (b, s) =>
        let r := match b with | some b => s.tryLoad l b | none => (s, Status.internal, [0, 0])
        let s := r.1
        let s := { s with
          ch := { s.ch with loads := s.ch.loads.erase l }
          mgr := { s.mgr with ready := s.mgr.ready.filter (fun q => q.why ≠ Purpose.image l.id) } }
        s.complete (if itin then 0x52 else 0x53) l.owner l.seq l.slot r.2.1 (failWords r.2.1 r.2.2)

/-- ITIN_LOAD_DONE (R306, R317). -/
def execItinLoadDone (s : State) : Res := .next (s.runLoad true)

/-- MODEL_LOAD_DONE (R317 to R321). -/
def execModelLoadDone (s : State) : Res := .next (s.runLoad false)

/-! ## Dispatch (R288 to R293) -/

/-- A standing op's ready time: an instance, or one skipped as BUSY while the previous one is pending or the queue has no
room (R288, R290). One whose sequence number would wrap with result blocks ends at once (R296). -/
def State.makeInstance (s : State) (k readyTs : Nat) : State :=
  match s.ch.standing[k]? with
  | none => s
  | some x =>
    let q := if x.first then (x.seq, s) else s.takeSeq x.owner
    let spent := flag (x.desc.getD 0 0) 18 && !x.first && s.seqSpent x.owner
    let s := q.2
    let y := x.inst q.1 readyTs s.now
    let mine := fun (p : OpInst) => decide (p.owner = x.owner) && decide (some p.seq = x.cur)
    let busy := s.ch.queue.any mine || (match s.ch.run with | some r => mine r.op | none => false) ||
      decide (32 ≤ s.ch.queue.length) || decide ((s.allot x.owner).limit ≤ s.ownInstances x.owner)
    let next := nextReady x.desc (max readyTs s.ts)
    let x' : Standing := if busy then { x with first := false, nextTs := next }
      else { x with first := false, nextTs := next, cur := some q.1, i0 := Input.begin_ s.ts, i1 := Input.begin_ s.ts }
    let s := { s with ch := { s.ch with standing := lset s.ch.standing k (fun _ => x') } }
    if busy then s.postResult { y with i0 := Input.zero, i1 := Input.zero } 0x30 0 0 0
    else if spent then s.postResult y 0x31 0 0 0
    else { s with ch := { s.ch with queue := s.ch.queue ++ [y] } }

/-- A used FRAME_SYNC edge makes an instance of every FRAME op ready (R288). -/
def State.frameOps (s : State) : State :=
  (List.range s.ch.standing.length).foldl (fun s k =>
    match s.ch.standing[k]? with
    | some x => if opRepeat x.desc = 1 then s.makeInstance k s.ts else s
    | none => s) s

/-- PERIOD_OP_READY (R288, R290). -/
def execPeriodOpReady (idx : Fin 4) (s : State) : Res :=
  match s.ch.standing[idx.val]? with
  | some x => .next (if opRepeat x.desc = 2 && decide (x.nextTs ≤ s.ts) then s.makeInstance idx.val x.nextTs else s)
  | none => .next s

/-- The instance was not started within its deadline (R289). -/
def State.expired (s : State) (x : OpInst) : Bool :=
  let dl := dfld x.desc 3 0 24
  decide (dl ≠ 0) && decide (x.readyAt + dl * 1000 < s.now)

def OpInst.key (x : OpInst) : List Nat := [dfld x.desc 0 13 2, x.readyTs, x.owner, x.seq.toNat]

def lexLt : List Nat → List Nat → Bool
  | a :: as, b :: bs => decide (a < b) || (decide (a = b) && lexLt as bs)
  | _, _ => false

/-- The instance that starts next (R289). -/
def State.nextOp (s : State) : Option OpInst :=
  (s.ch.queue.filter (fun x => !s.expired x)).foldl (fun (a : Option OpInst) x =>
    match a with | none => some x | some b => if lexLt x.key b.key then some x else some b) none

def LRec.toRec (r : LRec) : Rec :=
  let w := (r.words.headD 0).toNat
  { ty := BitVec.ofNat 6 (w / 2 ^ 58), src := BitVec.ofNat 8 (w / 2 ^ 48), owner := r.owner, cls := r.cls, ts := r.ts,
    payload := BitVec.ofNat 20 w, extra := r.words.drop 1, epoch := 0, part := 0, inAt := 0 }

/-- The BASIN and LEDGER inputs at op start (R282): the records of the owner's basin queues, the priority queue's first, and
the frozen ledger's. -/
def State.fillInputs (s : State) (r : Running) : Running × State :=
  let n := r.cores.length
  let o := r.op.owner
  let uses := fun (k : Nat) => inSpace r.op.desc 0 = k || inSpace r.op.desc 1 = k
  let b : Running × State := if uses 2 then
      (s.prioQ o ++ s.charterQ o).foldl (fun (a : Running × State) c =>
        let f := a.2.fetch c.bank (c.idx * 4) 4
        (c.recs.foldl (fun (r : Running) x => { r with op := r.op.see 2 n c.no f.1 (fun _ => true) x }) a.1, f.2)) (r, s)
    else (r, s)
  if uses 3 && decide (s.ledger.st ≠ .armed) && decide (s.ledger.st ≠ .post) then
    let l := b.2.ownRecs o
    (l.1.foldl (fun (r : Running) e => if e.1.erased then r else { r with op := r.op.see 3 n 0 e.2 (fun _ => true) e.1.toRec }) b.1, l.2)
  else b

/-- Before a WEAR_PREDICT of Survey starts, the Keeper loads its model from the Logbook; without one, or without the units
of R332, it runs with no model (R332, R338). -/
def State.loadWearModel (s : State) (x : OpInst) : OpInst × State :=
  if x.survey ≠ 4 && x.survey ≠ 5 then (x, s)
  else
    let i := setModel s.dev.settings
    let item := tget s.lb.images i []
    let r := s.lbAccess
    if i = 0xFF || item.isEmpty || itemKind item ≠ 4 || !r.1 || !s.surveyUnits then (x, s)
    else
      let b := itemPayload item
      let t := r.2.tryLoad ⟨r.2.ch.nextLoad, false, hm, 0, 0, true, i, b.length, false, 0, 0⟩ b
      if t.2.1 = .ok then
        let slot := t.2.2.headD 0 % 32
        ({ x with desc := lset x.desc 1 (fun _ => BitVec.ofNat 32 (slot + 32)) }, t.1)
      else (x, r.2)

/-- An input as its op starts: the span of a STREAM input of a ONCE op and of a BASIN input begins here, that of a LEDGER
input with its first record (R284). -/
def Input.opens (d : List W32) (j ts : Nat) (i : Input) : Input :=
  { i with firstTs := match inSpace d j with | 2 => some ts | 3 => none | _ => some (i.firstTs.getD ts) }

/-- OP_START (R291): an instance of an unloaded slot, or without a core left, ends at once (R312, R320). One that needs core
domains switched on waits for the end of a turnover (R433). -/
def execOpStart (s : State) : Res :=
  .next <|
  if s.ch.run.isSome || s.dev.restarting || s.dev.down || decide (s.lk.st ≠ .underway) || s.lk.entering.isSome || s.coresHeld then s
  else match s.nextOp with
    | none => s
    | some x =>
      let s := { s with ch := { s.ch with queue := s.ch.queue.erase x } }
      let m := s.loadWearModel x
      let x := m.1
      let s := m.2
      let cores := (List.range 16).filter (fun c => s.ch.online.getLsbD c)
      if cores.isEmpty then s.postResult x 0x50 2 0 0
      else if !s.slotsOk x.owner x.desc then s.postResult x 0x12 0 0 0
      else if opRepeat x.desc = 0 && decide (393216 < s.ringBytes + ringsOf x.desc * 1024) then s.postResult x 0x31 0 0 0
      else
        let x := { x with i0 := x.i0.opens x.desc 0 s.ts, i1 := x.i1.opens x.desc 1 s.ts }
        let r : Running := ⟨x, cores, 0, s.now, s.now, 0, 0, [], [], false, false, false, none, none, s.isDup x.owner x.desc, 0, [], [], 0⟩
        let s := { s with ch := { s.ch with domOn := s.ch.online } }
        let f := s.fillInputs r
        let r := f.1
        let s := f.2
        let r := { r with stores := if r.dup then s.saveStores cores else [] }
        (s.restart r).askInputs r

/-- OP_DEADLINE_EXPIRY (R289). -/
def execOpDeadlineExpiry (o : Fin 17) (seq : W32) (s : State) : Res :=
  .next <| match s.ch.queue.find? (fun x => decide (x.owner = o.val) && decide (x.seq = seq)) with
    | some x => if s.expired x then s.dropInstance x else s
    | none => s

/-- OP_BUDGET_EXCEEDED (R292): ACLK at 1.2 GHz, counted from the op's start (log 35). -/
def execOpBudgetExceeded (s : State) : Res :=
  .next <| match s.ch.run with
    | none => s
    | some r =>
      let b := dfld r.op.desc 4 0 24
      let b := if b = 0 then 2 ^ 24 else b
      if b * 1024 * 5 < (s.now - r.capFrom) * 6 then s.finishOp { r with poison := false } 0x31 0 0 false else s

/-! ## Failed cores (R310) -/

/-- CORE_RESIDUE_MISMATCH (R310): a second mismatch of a core within 1 s removes it. -/
def execCoreResidueMismatch (c : Fin 16) (s : State) : Res :=
  .next <| match s.ch.run with
    | none => s
    | some r =>
      if !r.cores.contains c.val || r.failed.isSome then s
      else
        let last := tget s.ch.residue c.val 0
        let s' := { s with ch := { s.ch with residue := tset s.ch.residue c.val (s.now + 1) 0 } }
        if last ≠ 0 && decide (s.now < last + 1000000000) then s'.removeCore c.val 0
        else (s'.raise 0x700 c.val r.op.seq.toNat).reExec

/-- CORE_WATCHDOG (R310): no step retired for 65,536 ACLK cycles. -/
def execCoreWatchdog (c : Fin 16) (s : State) : Res :=
  .next <| match s.ch.run with
    | none => s
    | some r =>
      let x := s.core c.val
      if !r.cores.contains c.val || r.failed.isSome || x.halted || decide ((s.now - x.stepAt) * 6 < 65536 * 5) then s
      else s.removeCore c.val 1

/-- CORE_SELF_TEST (R310): while the array idles. -/
def execCoreSelfTest (c : Fin 16) (pass : Bool) (s : State) : Res :=
  .next <|
  if s.ch.run.isSome || !s.ch.online.getLsbD c.val then s
  else
    let s := { s with ch := { s.ch with testAt := tset s.ch.testAt c.val s.now 0 } }
    if pass then s else s.removeCore c.val 2

end Sys2Proof.Machine
end

