-- ==== Sys2Proof/Machine/Patrol.lean ====
section
/-! DEFINITION. The patrol, row sparing, failed banks, the checker self-test and the leaky buckets (R447 to R458). -/

namespace Sys2Proof.Machine

/-- A bank is clocked: UNDERWAY, with its domain on (R345, R448). -/
def State.bankClocked (s : State) (b : Nat) : Bool :=
  decide (s.lk.st = .underway) && decide (s.dev.phase = .running) && (decide (b < 12) || decide (28 ≤ b) || s.ch.domOn.getLsbD (b - 12))

/-- The map takes an entry, and the Logbook too (R25, R452, R453). -/
def State.mapAdd (s : State) (m : MapEntry) : State :=
  let map := s.ecc.map.filter (fun e => e ≠ m) ++ [m]
  ({ s with ecc := { s.ecc with map := map } }).lbWrite (fun l => { l with spareMap := map })

/-! ## Failed banks (R230, R453) -/

/-- A headroom unit moves to an online bank (R230): a free unit, the harbourmaster's last, an idle unit, or else any other
(DEDUCED, log 89). -/
def State.moveHead (s : State) (u b : Nat) : State :=
  let ok := fun (v : Nat) => decide (v % 8 ≠ b) && s.bankUp (v % 8)
  let rest := (List.range 16).flatMap (fun o => (s.units o).reverse.filter ok)
  let idle := rest.filter (fun v => decide (s.newest (s.unitOwner v) v = 0))
  match ((s.units 31).filter ok ++ (s.units hm).reverse.filter ok ++ idle ++ rest).head? with
  | some v => { s.setUnitOwner v hm with basins := { s.basins with
      head := s.basins.head.map (fun x => if x = u then v else x), owner := tset (tset s.basins.owner v hm hm) u 31 hm } }
  | none => s

/-- A basin bank leaves the unit pool: the headrooms move, its units leave, the quotas shrink in proportion (R230). -/
def State.basinBankFails (s : State) (b : Nat) : State :=
  let now_ := s.allocatable
  let before := now_ + 16
  let s := (s.basins.head.filter (fun u => decide (u % 8 = b))).foldl (fun s u => s.moveHead u b) s
  let sum := (List.range 17).foldl (fun a o => a + s.quotaOf o) 0
  let quotas := (List.range 16).foldl (fun t o => tset t o (s.quotaOf o * now_ / before) 0) s.basins.quota
  let given := (List.range 16).foldl (fun a o => a + tget quotas o 0) 0
  let mine := (List.range 17).flatMap (fun o => ((s.units o).filter (fun u => decide (u % 8 = b))).map (fun u => (o, u)))
  let s := mine.foldl (fun (s : State) e =>
    if s.newest e.1 e.2 = 0 then s.setUnitOwner e.2 31
    else { s with basins := { s.basins with leaving := s.basins.leaving ++ [e.2] } }) s
  let s := { s with basins := { s.basins with quota := tset quotas hm (sum * now_ / before - given) 0 } }
  let s := (List.range 17).foldl (fun (s : State) o => s.giveUp o ((s.units o).length - s.quotaOf o)) s
  s.grant 124

/-- Up to n units are taken from an owner's allotment of the model store; what is left to take. -/
def State.cutModel (a : State × Nat) (o : Nat) : State × Nat :=
  let x := a.1.allot o
  let cut := min a.2 x.model
  ({ a.1 with ch := { a.1.ch with allot := tset a.1.ch.allot o { x with model := x.model - cut } Allot.zero } }, a.2 - cut)

/-- Allotments of the model store come down to what is left, the harbourmaster's first (R453). -/
def State.shrinkModels (s : State) : State :=
  let sum := (List.range 17).foldl (fun a o => a + (s.allot o).model) 0
  ((hm :: List.range 16).foldl State.cutModel (s, sum - (32 - s.ch.lostUnits.length))).1

/-- A model-store bank fails: slots with a unit in it are unloaded (R453). -/
def State.modelBankFails (s : State) (b : Nat) : State :=
  let lost := (List.range 16).map (fun i => (b - 28) * 16 + i)
  let slots := (s.ch.slots.filter (fun e => e.2.units.any (fun u => lost.contains u))).map Prod.fst
  let s := slots.foldl (fun s k => s.unloadSoon (k / 32) (k % 32)) s
  let s := { s with ch := { s.ch with
    lostUnits := s.ch.lostUnits ++ lost.filter (fun u => !s.ch.lostUnits.contains u)
    mdUnit := lost.foldl (fun t u => tset t u 31 31) s.ch.mdUnit } }
  s.shrinkModels.settleUnits

/-- The ledger goes on in the banks that are left, less 1 KiB while the seal block has failed; a seal held there is lost
(R453). The window of a frozen one stays, its records in the failed bank read poisoned (R239), until the release. -/
def State.ledgerFit (s : State) : State :=
  let l := s.ledger
  let l := if (s.bank (bankKey 33 false)).failed then { l with sealBlk := none } else l
  if l.st = .frozen || l.st = .seald then { s with ledger := l }
  else
    let cap := s.ledgerRoom
    { s with ledger := { l with
        capacity := cap, recs := trimLedger cap l.recs (l.recs.foldl (fun (a : Nat) (x : LRec) => a + x.bytes) 0) } }

/-- A bank, or a copy of bank 32, has failed: it is fenced, recorded, and its memory reacts (R453). -/
def State.failBank (s : State) (b : Nat) (copy : Bool) : State :=
  let k := bankKey b copy
  if (s.bank k).failed then s
  else
    let s := s.modBank k (fun x => { x with failed := true })
    let s := s.mapAdd ⟨1, b, b2n (copy && decide (b = 32)), 0, false⟩
    if b < 8 then (s.basinBankFails b).raise 0x502 b 0
    else if b < 12 || b = 33 then s.ledgerFit.raise 0x501 b 0
    else if b < 28 then s.removeCore (b - 12) 3
    else if b < 30 then (s.modelBankFails b).raise 0x705 b 0
    else if b = 30 then s.stopKeeper 0x202 0 true
    else if b = 31 then ((List.range 8).foldl (fun (s : State) j => s.endDump j true) s).raise 0x606 31 0
    else
      let bits := b2n (s.bank (bankKey 32 false)).failed + 2 * b2n (s.bank (bankKey 32 true)).failed
      if bits = 3 then s.raiseFixed 0x502 32 3 else s.raise 0x502 32 bits

/-! ## Suspects and spare rows (R451, R452) -/

/-- The fields of a fuse word (R454): valid, bank, row, spare. -/
def fuseBank (w : W32) : Nat := fld w 25 6
def fuseRow (w : W32) : Nat := fld w 15 10
def fuseSpare (w : W32) : Nat := fld w 11 4

/-- CRC-8 of polynomial 0x07 over the bits of x, the most significant first. -/
def crc8 (x : Nat) : Nat → Nat → Nat
  | 0, c => c
  | n + 1, c =>
    let b := (c / 128 + x / 2 ^ n) % 2
    crc8 x n ((c * 2 % 256) ^^^ (if b = 1 then 7 else 0))

def fuseOk (w : W32) : Bool :=
  w.getLsbD 31 && decide (crc8 (w.toNat / 256) 24 0 = w.toNat % 256) && decide (fuseBank w ≤ 30) && decide (fuseSpare w < bankSpares (fuseBank w))

/-- The fuse words in use (R454): those that were read (R87; DEDUCED, log 96), and whose CRC and spare number are
right. -/
def Ident.fuses (i : Ident) : List W32 :=
  ((i.fuseWords.zipIdx).filter (fun (e : W32 × Nat) => fuseOk e.1 && !i.fuseBad.contains e.2)).map Prod.fst

/-- Fuse words ignored at the start (R454): valid, but with a wrong CRC or spare number, or not read. -/
def Ident.fuseErrors (i : Ident) : Nat :=
  (i.fuseWords.zipIdx).countP (fun (e : W32 × Nat) => i.fuseBad.contains e.2 || (e.1.getLsbD 31 && !fuseOk e.1))

/-- Spare rows of a bank in use: fuse words, then the map (R454). -/
def State.sparesUsed (s : State) (b : Nat) : List Nat :=
  (s.ident.fuses.filter (fun w => decide (fuseBank w = b))).map fuseSpare ++
  (s.ecc.map.filter (fun m => decide (m.kind = 0) && decide (m.bank = b))).map (·.spare)

def State.freeSpare (s : State) (b : Nat) : Option Nat := (List.range (bankSpares b)).find? (fun i => !(s.sparesUsed b).contains i)

/-- The third correction of a word starts the migration of its row, or finds no spare (R452, R453). -/
def State.spareStart (s : State) (b : Nat) (copy : Bool) : State :=
  let k := bankKey b copy
  let x := s.bank k
  match x.suspects.find? (fun e => decide (3 ≤ e.count)) with
  | none => s
  | some e =>
    if x.migrating.isSome || x.failed then s
    else match s.freeSpare b with
      | some _ => s.setBank k { x with migrating := some (wordRow b e.word) }
      | none => if x.exhausted then s else (s.setBank k { x with exhausted := true }).raise 0xB04 b 0

/-- A patrol correction of a word (R447, R451): a table of 32, the oldest replaced. -/
def State.suspect (s : State) (b : Nat) (copy : Bool) (w : Nat) : State :=
  let k := bankKey b copy
  let s := s.countCe b copy
  s.modBank k (fun x =>
    if x.suspects.any (fun e => e.word = w) then
      { x with suspects := x.suspects.map (fun (e : Suspect) => if e.word = w then { e with count := e.count + 1 } else e) }
    else
      let old := if x.suspects.length < 32 then x.suspects
        else match x.suspects.foldl (fun (a : Option Suspect) e => match a with
            | none => some e | some b => if e.first < b.first then some e else some b) none with
          | some o => x.suspects.erase o
          | none => x.suspects
      { x with suspects := old ++ [⟨w, 1, s.clk.powered⟩] })

/-! ## The patrol (R448 to R450) -/

def State.passNs (s : State) : Nat := s.ecc.passHours * 3600000000000

/-- The due position of a bank (R448). -/
def State.duePos (s : State) (b : Nat) (x : Bank) : Nat := min (bankWords b) ((s.now - x.passAt) * bankWords b / s.passNs)

/-- The running op reads this word of a core: its work area and rings, or its owner's state (R315). -/
def State.opReads (s : State) (b w : Nat) : Bool :=
  match s.ch.run with
  | none => false
  | some r => decide (12 ≤ b) && decide (b < 28) && r.cores.contains (b - 12) &&
      (decide (w < 24576) || (s.stUnits r.op.owner).contains ((w - 24576) / 256))

/-- The reaction of the region to an uncorrectable word (R450). -/
def State.ueReaction (s : State) (b w : Nat) : State :=
  if (8 ≤ b && b < 12) || b = 33 then s.raise 0x501 b 0
  else if s.opReads b w then s.reExec
  else if b = 30 then s.stopKeeper 0x202 w true
  else s

/-- What the patrol finds: the decoder's view of a listed word, and what it reports of any other. -/
def State.patrolSees (s : State) (b : Nat) (copy : Bool) (w : Nat) (obs : ReadObs) : Nat :=
  match s.word? b copy w with
  | some x => if x.valid || x.poison then x.result b w else 0
  | none => match obs with | .clean => 0 | .correctable => 1 | .uncorrectable => 2 | .sideVote => 0

/-- A disagreement among the three copies of a side entry is corrected and counted, and is no correction of the word's data
(R441, R447). -/
def State.sideVote (s : State) (b : Nat) (copy : Bool) (obs : ReadObs) : State :=
  match obs with | .sideVote => s.countCe b copy | _ => s

/-- The other copy of a descriptor word decodes (R439). -/
def State.mirrorOk (s : State) (copy : Bool) (w : Nat) : Bool :=
  !(s.bank (bankKey 32 !copy)).failed && (match s.word? 32 (!copy) w with | some x => decide (x.result 32 w < 2) | none => true)

/-- A corrected word is written back (R450). -/
def State.writeBack (s : State) (b : Nat) (copy : Bool) (w : Nat) : State :=
  match s.word? b copy w with
  | some x => let d := x.read b w; s.setWord b copy w ⟨d, Config.eccCheck (codeWidth b) w d, true, false⟩
  | none => s

/-- A visit of a word (R450). -/
def State.visit (s : State) (b : Nat) (copy : Bool) (w : Nat) (obs : ReadObs) : State :=
  let s := s.sideVote b copy obs
  match s.patrolSees b copy w obs with
  | 1 => ((s.writeBack b copy w).suspect b copy w).spareStart b copy
  | 2 =>
    if b = 32 && s.mirrorOk copy w then ((s.dropWord b copy w).suspect b copy w).spareStart b copy
    else (((s.countUe b copy w).poisonWord b copy w).raise 0xB01 b w).ueReaction b w
  | _ => s

/-- The patrol's next word: one passed over whose entry has been written since, else the one at its position (R449). -/
def Bank.nextWord (x : Bank) : Option Nat := x.again.find? (fun w => !x.merge.any (fun e => e.word = w))

/-- The patrol moves past a word. -/
def Bank.past (x : Bank) (w : Nat) : Bank :=
  if x.again.contains w then { x with again := x.again.erase w }
  else { x with pos := x.pos + 1, again := if x.merge.any (fun e => e.word = w) then x.again ++ [w] else x.again }

/-- PATROL_VISIT (R448, R449, R450): the next due word of a clocked bank; a word with an open merge entry is passed over and
visited again when the entry is written. -/
def execPatrolVisit (bank : Fin 34) (copy : Bool) (obs : ReadObs) (s : State) : Res :=
  .next <|
  let b := bank.val
  let k := bankKey b copy
  let x := s.bank k
  if !s.bankClocked b || x.failed then s
  else if x.fourRows then s.failBank b copy
  else if x.passNo = 0 || (x.nextWord.isNone && decide (s.duePos b x ≤ x.pos)) then s
  else
    let w := x.nextWord.getD x.pos
    let t := s.setBank k (x.past w)
    let s := if x.merge.any (fun e => e.word = w) then t else t.visit b copy w obs
    if (s.bank k).fourRows then s.failBank b copy else s

/-- CHECKER_SELF_TEST (R457, R458), at the start of each pass; a second pass in a row that fails fails the bank (R453). -/
def execCheckerSelfTest (bank : Fin 34) (copy : Bool) (pass : Bool) (s : State) : Res :=
  .next <|
  let b := bank.val
  let k := bankKey b copy
  let x := s.bank k
  let first := decide (x.passNo = 0)
  if !s.bankClocked b || x.failed || !(first || (decide (x.pos = bankWords b) && decide (x.passAt + s.passNs ≤ s.now))) then s
  else
    let s := s.setBank k { x with
      passNo := x.passNo + 1, pos := 0, again := [], passAt := if first then s.now else x.passAt + s.passNs, selfFails := if pass then 0 else x.selfFails + 1 }
    if pass then s
    else
      let s := s.raise 0xB05 b 0
      if x.selfFails = 0 then s else s.failBank b copy

/-- The words of a row are read, corrected and written to the spare; poisoned ones stay poisoned (R452). -/
def State.moveRow (s : State) (b : Nat) (copy : Bool) (row : Nat) : State :=
  let lo := eccKey b copy (row * rowWords b)
  (s.ecc.word.filter (fun e => decide (lo ≤ e.1) && decide (e.1 < lo + rowWords b))).foldl (fun s e =>
    let w := row * rowWords b + (e.1 - lo)
    match e.2.result b w with
    | 1 => s.writeBack b copy w
    | 2 => ((s.countUe b copy w).poisonWord b copy w).raise 0xB01 b w
    | _ => s) s

/-- ROW_MIGRATION_DONE (R452). -/
def execRowMigrationDone (bank : Fin 34) (copy : Bool) (s : State) : Res :=
  .next <|
  let b := bank.val
  let k := bankKey b copy
  match (s.bank k).migrating, s.freeSpare b with
  | some row, some spare =>
    let s := s.moveRow b copy row
    let s := s.modBank k (fun x => { x with
      migrating := none, spares := x.spares + 1, suspects := x.suspects.filter (fun e => !(decide (wordRow b e.word = row) && decide (3 ≤ e.count))) })
    let s := s.raise 0xB03 b (row + spare * 2 ^ 10)
    (s.mapAdd ⟨0, b, row, spare, false⟩).spareStart b copy
  | _, _ => s

/-- 72 h of powered time in AON cycles. -/
def suspectAge : Nat := 6480000000000

/-- SUSPECT_EXPIRY (R451). -/
def execSuspectExpiry (bank : Fin 34) (copy : Bool) (s : State) : Res :=
  let k := bankKey bank.val copy
  .next (s.modBank k (fun x => { x with suspects := x.suspects.filter (fun e => !decide (e.first + suspectAge < s.clk.powered)) }))

/-- ECC_BUCKET_LEAK (R447): 1 per 10 s of powered time. -/
def execEccBucketLeak (s : State) : Res :=
  .next (s.ecc.bank.foldl (fun s e =>
    if s.now < e.2.leakAt + 10000000000 then s
    else s.setBank e.1 { e.2 with bucket := e.2.bucket - 1, leakAt := s.now / 10000000000 * 10000000000 }) s)

/-- 64 bank cycles in ns: ACLK at 1.2 GHz for the cores, 2 GHz elsewhere. -/
def mergeNs (b : Nat) : Nat := if 12 ≤ b && b < 28 then 54 else 32

/-- MERGE_RMW_TIMEOUT (R443, R444): an entry still partial 64 bank cycles after its first write. -/
def execMergeRmwTimeout (m : MergeOut) (s : State) : Res :=
  .next <|
  let b := m.bank.val
  if decide (s.lk.st ≠ .underway) then s
  else match (s.bank (bankKey b false)).merge with
    | e :: _ =>
      if s.now < e.atNs + mergeNs b then s
      else if m.parity then s.mergeParity b e
      else
        let r := s.rmw b e
        if r.1 && r.2.opReads b e.word then r.2.reExec else r.2
    | [] => s

end Sys2Proof.Machine
end

