-- ==== Sys2Proof/Machine/Lock.lean ====
section
/-! DEFINITION. Host domains, the host envelope and the settings of the lock-keeper (10): R354, R359 to R371, the packets
of R402 and the PSW handshakes of R82. -/

namespace Sys2Proof.Machine

/-! ## Host domains -/

/-- The probes of a host domain (R519). -/
def State.domProbes (s : State) (h : Nat) : List Nat :=
  (List.range s.ident.nProbes).filter (fun p => decide (s.probeDom p = some h))

/-- Streams of a probe are enabled, or counters (R362). -/
def State.needsCanal (s : State) (h : Nat) : Bool := (s.domProbes h).any (fun p => s.armed p)

/-- POWER_STATE of a host domain's switch (R182, R361, R362). -/
def State.emitDomain (s : State) (h : Nat) (on : Bool) (reason : Nat) : State :=
  s.emit 135 hm 0x06 1 s.ts (s.lk.st.code * 9 + 64 + (24 + h) * 128 + b2n on * 2 ^ 14 + reason * 2 ^ 15) [s.env.thr * 2 ^ 32]

/-- POWER_STATE of the block's state, or of a throttle level (R358, R366). -/
def State.emitPower (s : State) (new old : Power) (reason horizon ts : Nat) : State :=
  s.emit 135 hm 0x06 1 ts (new.code + old.code * 8 + reason * 2 ^ 15) [min (2 ^ 32 - 1) horizon + s.env.thr * 2 ^ 32]

/-- A request for a domain (R360): none for one already there or on its way there; a contrary one waits for the open
handshake; the last request stands. A domain shed by the envelope comes on only by command (R369). -/
def State.requestDomain (s : State) (h : Nat) (on : Bool) (reason : Nat) : State :=
  let d := s.dom h
  if s.ident.hostDomains ≤ h || (d.shed && on && reason ≠ 2) then s
  else
    let d := { d with shed := (d.shed && !on) || reason = 5 }
    s.setDom h (if d.req ≠ d.ack then
        { d with later := if d.req = on then none else some (on, reason) }
      else if d.req = on then { d with due := none, snapped := false }
      else { d with due := some (on, reason), snapped := d.snapped && decide (d.due = some (on, reason)) })

/-- Requests for a set of domains. -/
def State.requestDomains (s : State) (mask : BitVec 72) (on : Bool) (reason : Nat) : State :=
  (domainList mask).foldl (fun s h => s.requestDomain h on reason) s

/-- A probe loses its supply (R24, R538): its records still in the queue are counted as lost where the lock-keeper
switches (R361), and covered by the marks of cause SOURCE_SILENT where the host does (R97). The isolation cells clamp its
fatal pair (R95). -/
def State.powerDownProbe (s : State) (p : Nat) (byHost : Bool) : State :=
  let x := s.probe p
  if !x.up then s
  else
    let q := s.queue p
    let s := s.setQueue p []
    let s := if byHost then ({ s with canal := { s.canal with losses := tset s.canal.losses p [] [] } }).cutStreams p
             else ((q.filter (fun r => !r.inBuffer p)).foldl (fun s r => s.noteLoss p r) s).stopStreams p
    let s := s.winSkip p x.snapReq
    let s := (s.setPersist 0x100 p false).setPersist 0x101 p false
    (s.modProbe p (fun x => { x with up := false, cut := byHost, snapReq := [], inflight := [], tagged := [], due := none, wr := [], clr := 0,
                                     fatalSeen := false, railSeen := false })).settleWrites

/-- HOST_DOMAIN_OFF_START (R361 step 1): every probe of the domain takes a snapshot. While the Keeper is stopped every domain
holds its state (R22). -/
def execHostDomainOffStart (h : Fin 72) (s : State) : Res :=
  let d := s.dom h.val
  match d.due with
  | some (false, reason) =>
    if d.snapped || d.req ≠ d.ack || s.switchHeld reason || s.dev.restarting then .next s
    else if decide (2 ≤ s.lk.st.code) && s.needsCanal h.val then .next (s.wake .hostDomain)
    else
      let s := (s.domProbes h.val).foldl (fun s p => s.modProbe p (Probe.request (fun e => ⟨4, false, true, none, none, e⟩))) s
      .next (s.setDom h.val { d with snapped := true, startAt := s.now })
  | _ => .next s

/-- HOST_DOMAIN_ON_START (R362). -/
def execHostDomainOnStart (h : Fin 72) (s : State) : Res :=
  let d := s.dom h.val
  match d.due with
  | some (true, reason) =>
    if d.snapped || d.req ≠ d.ack || s.switchHeld reason || s.dev.restarting then .next s
    else if decide (2 ≤ s.lk.st.code) && s.needsCanal h.val then .next (s.wake .hostDomain)
    else .next (s.setDom h.val { d with snapped := true, startAt := s.now })
  | _ => .next s

/-- Switch-offs in descending h, then switch-ons in ascending h, of the changes that have fallen due (R360); PSW_REQ changes
only while PSW_ACK equals it (R82). -/
def State.dueOrder (s : State) : List (Nat × Bool × Nat) :=
  let all := (List.range 72).filterMap (fun h => match (s.dom h).due with
    | some (on, reason) => if s.switchHeld reason || (s.dom h).req ≠ (s.dom h).ack then none else some (h, on, reason)
    | none => none)
  (all.filter (fun e => !e.2.1)).reverse ++ all.filter (fun e => e.2.1)

/-- Step 3 of R361: the probes' records have left, or 1 us has passed. -/
def State.drained (s : State) (h : Nat) : Bool :=
  decide ((s.dom h).startAt + 1000 ≤ s.now) ||
  (s.domProbes h).all (fun p => (s.queue p).isEmpty && (s.poundQ p).isEmpty && (s.probe p).snapReq.isEmpty && (s.probe p).copying.isEmpty)

/-- PSW_REQ_ISSUE (R360, R361): the first change in order, once it has started and psw_gap has passed. -/
def execPswReqIssue (s : State) : Res :=
  match s.dueOrder with
  | [] => .next s
  | (h, on, reason) :: _ =>
    let d := s.dom h
    let gap := decide (s.lk.lastEdgeAt = 0) || decide (s.lk.lastEdgeAt + s.lk.policy.pswGap * 1000 ≤ s.now)
    if !d.snapped || !gap || (!on && !s.drained h) || s.dev.restarting then .next s
    else
      let s := s.setDom h { d with req := on, due := none, snapped := false, openAt := some s.now, reason := reason }
      .next { s with lk := { s.lk with lastEdgeAt := s.now } }

/-- A handshake closes (R361 step 5, R362). -/
def State.closeHandshake (s : State) (h : Nat) (d : HostDom) : State :=
  let s := s.setDom h { d with ack := d.req, openAt := none, timedOut := false, later := none }
  let s := s.setPersist 0x900 h false
  let s := if d.req then s else (s.domProbes h).foldl (fun s p => s.powerDownProbe p false) s
  let s := s.emitDomain h d.req d.reason
  match d.later with
  | some (on, reason) => s.requestDomain h on reason
  | none => s

/-- PSW_ACK (R82). -/
def execPswAck (h : Fin 72) (level : Bool) (s : State) : Res :=
  let d := s.dom h.val
  if s.ident.hostDomains ≤ h.val || d.ack = level then .next s
  else if level = d.req && (d.openAt.isSome || d.timedOut) then .next (s.closeHandshake h.val d)
  else .next (s.setDom h.val { d with ack := level })

/-- PSW_TIMEOUT (R82, R363). -/
def execPswTimeout (h : Fin 72) (s : State) : Res :=
  let d := s.dom h.val
  match d.openAt with
  | none => .next s
  | some t =>
    if s.now < t + s.lk.policy.pswTimeout * 1000 then .next s
    else
      let s := (s.setDom h.val { d with openAt := none, timedOut := true }).setPersist 0x900 h.val true
      let s := { s with lk := { s.lk with jobs := s.lk.jobs.map (fun (j : DomJob) =>
        if j.mask.getLsbD h.val then { j with timeouts := setBit j.timeouts h.val true } else j) } }
      .next (s.raise 0x900 h.val 0)

/-- HOST_SWITCHED_DOMAIN_OFF (R538): the host takes the supply away without the lock-keeper; the streams fall silent. -/
def execHostSwitchedDomainOff (h : Fin 72) (s : State) : Res :=
  .next (if s.ident.hostDomains ≤ h.val then s
    else (s.domProbes h.val).foldl (fun s p => s.powerDownProbe p true) s)

/-- CORE_IDLE_OFF (R359): the domains of idle cores go off after 1 ms without an op, no state unit being allotted; none during
a turnover (R433). -/
def execCoreIdleOff (s : State) : Res :=
  if !s.lk.policy.coresIdleOff || s.ch.run.isSome || s.ch.domOn = 0 || s.ch.allot.any (fun e => decide (e.2.st ≠ 0)) ||
      decide (s.now < s.ch.idleAt + 1000000) || decide (s.lk.st ≠ .underway) || s.dev.restarting || s.switchHeld 0 then .next s
  else
    let s := ((List.range 16).map (· + 12)).foldl State.bankOff s
    .next { s with ch := { s.ch with domOn := 0, cores := [] } }

/-! ## The host envelope (R364 to R371) -/

/-- t_eff (R370, R371): none before the first report. -/
def Env.tEff (e : Env) : Option Int :=
  if e.reportLost then some e.tStale
  else e.report.map (fun r => if r.2.2 ≤ e.lead then r.2.1 else r.1)

def quarter (n : Nat) : Rat := (n : Rat) / 4

/-- p_cont_eff in watts (R370). -/
def Env.effOf (e : Env) : Rat :=
  let der : Rat := match e.tEff with
    | none => quarter e.pCont
    | some t =>
      if t ≤ e.tKnee then quarter e.pCont
      else if e.tMax ≤ t then quarter e.pMin
      else quarter e.pCont - ((t - e.tKnee : Int) : Rat) / ((e.tMax - e.tKnee : Int) : Rat) * (quarter e.pCont - quarter e.pMin)
  max (quarter e.pMin) (min (quarter e.pCont) der)

def Env.burstOf (e : Env) : Bool := match e.tEff with | none => true | some t => decide (t < e.tNoBurst)

/-- e_max in uJ (R365): t_burst is in 10 us. -/
def Env.eMax (e : Env) (eff : Rat) : Rat := (quarter e.pBurst - eff) * (e.tBurst * 10 : Nat)

/-- THR_LEVEL takes the higher of the copies' levels (R368); a change emits POWER_STATE (R366). -/
def State.applyLevel (s : State) : State :=
  let l := max s.env.a.level s.env.b.level
  if s.env.thr = l then s
  else
    let s := { s with env := { s.env with thr := l, thrMax := max s.env.thrMax l } }
    s.emitPower s.lk.st s.lk.st 5 0 s.ts

/-- One copy at a loop (R365, R366): the power in watts, the limits, and the floor of R368. -/
def EnvCopy.loop (c : EnvCopy) (p eff burst eMax : Rat) (allowed : Bool) (floor : Nat) : EnvCopy × Rat :=
  let b := max 0 (min eMax (c.bucket + (eff - p) * 10))
  let lim := if allowed && decide (0 < b) then burst else eff
  let low := if p * 20 ≤ lim * 19 then c.low + 1 else 0
  let lv : Nat := if lim * 6 < p * 5 then 15
    else if lim * 21 < p * 20 then min 15 (c.level + 4)
    else if lim < p then min 15 (c.level + 1)
    else if low = 8 then c.level - 1 else c.level
  (⟨b, max floor lv, if low = 8 then 0 else low⟩, lim)

/-- ENVELOPE_LOOP (R365, R366, R368, R369): `upset` says that the copies disagree at this loop. -/
def execEnvelopeLoop (upset : Bool) (s : State) : Res :=
  if s.now < s.env.lastLoopAt + 10000 then .next s
  else
    let e := s.env
    let eff := e.effOf
    let sum := (List.range s.ident.rails).foldl (fun a ch => a + (tget e.latest ch (0, 0, 0)).1) 0
    let p : Rat := (sum : Rat) / 500
    let floor := if e.lost = 0 then 0 else e.fallback
    let ca := e.a.loop p eff (quarter e.pBurst) (e.eMax eff) e.burstOf floor
    let cb := e.b.loop p eff (quarter e.pBurst) (e.eMax eff) e.burstOf floor
    let fr := s.fresh
    let s := if upset then fr.2 else s
    let b : EnvCopy := if upset then { cb.1 with level := max floor (fr.1 % 16) } else cb.1
    let s := { s with env := { s.env with a := ca.1, b := b, pInst := sum, pEff := eff, burst := e.burstOf, lastLoopAt := s.now } }
    let s := if upset || ca.2 ≠ cb.2 || ca.1.level ≠ b.level then s.raise 0x902 0 0 else s
    let s := s.applyLevel
    if s.env.thr = 15 && decide (ca.2 < p) then
      let s := { s with env := { s.env with highRun := s.env.highRun + 1 } }
      if s.env.highRun = 100 then
        let left := e.shed.countP (fun h => !(s.dom h).shed)
        let s := { s with env := { s.env with overrun := true, lastOverAt := s.now } }
        .next ((s.raise 0x903 0 left).setPersist 0x903 0 true)
      else .next s
    else .next ({ s with env := { s.env with highRun := 0, overrun := false } }.setPersist 0x903 0 false)

/-- ENVELOPE_SHED (R369): the next domain of the shed list every 100 us; with the list exhausted, the raise every 10 ms. -/
def execEnvelopeShed (s : State) : Res :=
  if !s.env.overrun then .next s
  else match s.env.shed.filter (fun h => !(s.dom h).shed) with
    | h :: _ =>
      if s.env.lastShedAt ≠ 0 && decide (s.now < s.env.lastShedAt + 100000) then .next s
      else
        let s := s.wake .shed
        .next ({ s with env := { s.env with lastShedAt := s.now } }.requestDomain h false 5)
    | [] =>
      if s.now < s.env.lastOverAt + 10000000 then .next s
      else .next ({ s with env := { s.env with lastOverAt := s.now } }.raise 0x903 0 0)

/-- ENVELOPE_INPUT_LOST (R84, R368): an enabled channel without a sample for 10 us. -/
def execEnvelopeInputLost (ch : Fin 8) (s : State) : Res :=
  if s.ident.rails ≤ ch.val || s.env.lost.getLsbD ch.val ||
      decide (s.now < (tget s.env.latest ch.val (0, 0, 0)).2.2 + 10000) then .next s
  else
    let f := s.env.fallback
    let s := { s with env := { s.env with
      lost := setBit s.env.lost ch.val true
      a := { s.env.a with level := max f s.env.a.level }
      b := { s.env.b with level := max f s.env.b.level } } }
    .next (((s.raise 0x901 ch.val 0).setPersist 0x901 ch.val true).applyLevel)

/-- COOLANT_REPORT_LOST (R371). -/
def execCoolantReportLost (s : State) : Res :=
  if s.env.reportLost || decide (s.now < s.env.reportAt + 5 * s.lk.policy.coolant * 1000000) then .next s
  else .next (({ s with env := { s.env with reportLost := true } }.raise 0x904 0 0).setPersist 0x904 0 true)

/-! ## Packets (R402) -/

def specPowerPolicy : OpSpec := { op := 0x70, priv := .hmOnly, len := exactly 6 }

/-- POWER_POLICY (R354). -/
def bodyPowerPolicy (pk : Pkt) (_ : Nat) (s : State) : Verdict :=
  let n := fun i => (pk.p i).toNat
  let out := fun i lo hi => decide (n i < lo) || decide (hi < n i)
  chk (decide (100 < fld (pk.p 1) 3 7)) .badParam 1 <|
  chk (out 2 20 1000) .badParam 2 <|
  chk (out 3 400 100000) .badParam 3 <|
  chk (out 4 30000 10000000) .badParam 4 <|
  chk (out 5 10 10000) .badParam 5 <|
  chk (out 6 100 10000) .badParam 6 <|
  .done .ok [] { s with lk := { s.lk with
    policySet := true
    policy := ⟨Power.ofCode (fld (pk.p 1) 0 2), n 2, n 3, n 4, flag (pk.p 1) 2, fld (pk.p 1) 3 7, n 5, n 6⟩ } }

def execPowerPolicy (pk : Pkt) (s : State) : Res := .next (launch specPowerPolicy bodyPowerPolicy pk s)

def specEnvelopeSet : OpSpec := { op := 0x71, priv := .hmOnly, len := exactly 6 }

/-- ENVELOPE_SET (R364): the bucket is full after it (R365). -/
def bodyEnvelopeSet (pk : Pkt) (_ : Nat) (s : State) : Verdict :=
  let c := fld (pk.p 1) 0 8
  let b := fld (pk.p 1) 8 9
  let t := fld (pk.p 1) 17 10
  let n := fld (pk.p 2) 0 5
  let list := (List.range n).map (fun i => fld (pk.p (3 + i / 4)) (i % 4 * 8) 8)
  chk (decide (c < 40) || decide (240 < c) || decide (b < c) || decide (360 < b) || decide (1000 < t)) .badParam 1 <|
  chk (decide (16 < n)) .badParam 2 <|
  match findIdx? (fun h => decide (s.ident.hostDomains ≤ h)) list with
  | some i => .reject .badParam (3 + i / 4) 0
  | none =>
    let e := { s.env with pCont := c, pBurst := b, tBurst := t, fallback := fld (pk.p 1) 27 4, shed := list }
    let eff := e.effOf
    let full := e.eMax eff
    .done .ok [] { s with env := { e with pEff := eff, a := { e.a with bucket := full }, b := { e.b with bucket := full } } }

def execEnvelopeSet (pk : Pkt) (s : State) : Res := .next (launch specEnvelopeSet bodyEnvelopeSet pk s)

def specDerateSet : OpSpec := { op := 0x72, priv := .hmOnly, len := exactly 4 }

/-- A temperature of R323: 1/128 degree, two's complement. -/
def temp16 (w : W32) (lo : Nat) : Int := sgn 16 (fld w lo 16)

/-- DERATE_SET (R370, R371). -/
def bodyDerateSet (pk : Pkt) (_ : Nat) (s : State) : Verdict :=
  let lead := fld (pk.p 1) 0 10
  let knee := temp16 (pk.p 2) 0
  let tm := temp16 (pk.p 2) 16
  let nb := temp16 (pk.p 3) 0
  let st := temp16 (pk.p 3) 16
  let pm := fld (pk.p 4) 0 8
  let out := fun (x lo hi : Int) => decide (x < lo * 128) || decide (hi * 128 < x)
  chk (decide (600 < lead)) .badParam 1 <|
  chk (out knee 20 80 || decide (tm < knee + 640) || decide (12800 < tm)) .badParam 2 <|
  chk (out nb 20 100 || out st 20 100) .badParam 3 <|
  chk (decide (pm < 40) || decide (s.env.pCont < pm)) .badParam 4 <|
  .done .ok [] { s with env := { s.env with lead := lead, tKnee := knee, tMax := tm, tNoBurst := nb, tStale := st, pMin := pm } }

def execDerateSet (pk : Pkt) (s : State) : Res := .next (launch specDerateSet bodyDerateSet pk s)

def specDomainSet : OpSpec :=
  { op := 0x74, priv := .own, len := exactly 7, force := true, long := true, instant := some 4 }

/-- Every host domain of the list is assigned (check 8); the index is that of the failing word. -/
def checkDomains (ds : List Nat) (own : BitVec 72) (k : Verdict) : Verdict :=
  match ds.find? (fun h => !own.getLsbD h) with
  | some h => .reject .denied (h / 32 + 1) 0
  | none => k

/-- DOMAIN_SET (R360): a charter's request reaches the domains assigned to it. -/
def bodyDomainSet (pk : Pkt) (slot : Nat) (s : State) : Verdict :=
  checkDomains (if pk.o = hm then [] else domainList (pk.domains 1)) (tget s.lk.assign pk.o 0)
    (let m := pk.domains 1
     let s := s.requestDomains m (flag (pk.p 4) 0) (if pk.o = hm then 2 else 6)
     .accept [] { s with lk := { s.lk with
       jobs := s.lk.jobs ++ [⟨pk.o, pk.seq, slot, m, flag (pk.p 4) 0, 0, pk.force && (specDomainSet.at_ pk).isSome && s.uncertain⟩] } })

def execDomainSet (pk : Pkt) (s : State) : Res := .next (launch specDomainSet bodyDomainSet pk s)

/-- A domain's change is still to come or its handshake is open. -/
def State.domBusy (s : State) (h : Nat) : Bool :=
  let d := s.dom h
  d.due.isSome || d.later.isSome || d.openAt.isSome

/-- DOMAIN_SET_DONE (R402): the last handshake of a DOMAIN_SET has closed or timed out. -/
def execDomainSetDone (s : State) : Res :=
  match s.lk.jobs.find? (fun j => (domainList j.mask).all (fun h => !s.domBusy h)) with
  | none => .next s
  | some j =>
    let s := { s with lk := { s.lk with jobs := s.lk.jobs.erase j } }
    .next (s.complete 0x74 j.owner j.seq j.slot (if j.un then .timeUncertain else .ok) (if j.un then [0, 0] else domainWords j.timeouts))

def specDomainAssign : OpSpec := { op := 0x75, priv := .hmOnly, len := exactly 4 }

/-- DOMAIN_ASSIGN (R402). -/
def bodyDomainAssign (pk : Pkt) (_ : Nat) (s : State) : Verdict :=
  let c := fld (pk.p 1) 0 5
  concern c 1 s <|
  chk (decide (c = hm)) .badParam 1 <|
  .done .ok [] { s with lk := { s.lk with assign := tset s.lk.assign c (pk.domains 2) 0 } }

def execDomainAssign (pk : Pkt) (s : State) : Res := .next (launch specDomainAssign bodyDomainAssign pk s)

/-- CVT in whole ns. -/
def State.cvtNs (s : State) : Nat := s.time.cvt / 2 ^ 40

/-- Frame starts of a schedule up to an instant (R372). -/
def schedIndex (sch : Nat × Nat) (cvtNs : Nat) : Nat :=
  let per := sch.1 * 1000
  let first := fineOf96 sch.2 / 2 ^ 40 % per
  if cvtNs < first then 0 else (cvtNs - first) / per + 1

/-- The next frame start of the schedule, as an instant `now` counts (R372). -/
def State.nextStart (s : State) (sch : Nat × Nat) : Nat :=
  let per := sch.1 * 1000
  s.now + (fineOf96 sch.2 / 2 ^ 40 % per + schedIndex sch s.cvtNs * per - s.cvtNs)

/-- An instant moved by microseconds. -/
def offsetBy (t : Nat) (us : Int) : Nat := ((t : Int) + us * 1000).toNat

/-- Steps with a negative offset run ahead of the predicted edge (R373). -/
def Frame.ahead (f : Frame) (plan : List PlanStep) (pred : Nat) : Frame :=
  { f with due := f.due ++ (plan.filter (fun x => decide (x.offset < 0))).map (fun x => (offsetBy pred x.offset, x)) }

/-- A prediction that goes takes the steps ahead of it with it (R373, R374). -/
def Frame.dropAhead (f : Frame) : Frame := { f with due := f.due.filter (fun e => decide (0 ≤ e.2.offset)) }

def specFrameSchedule : OpSpec := { op := 0x76, priv := .hmOnly, len := exactly 4 }

/-- FRAME_SCHEDULE (R372): the period in us, 0 clears; the CVT of one frame start. -/
def bodyFrameSchedule (pk : Pkt) (_ : Nat) (s : State) : Verdict :=
  let per := (pk.p 1).toNat
  chk (decide (0 < per) && decide (per < 2000)) .badParam 1 <|
  let f := s.frame.dropAhead
  if per = 0 then .done .ok [] { s with frame := { f with schedule := none, lastStart := 0 } }
  else
    let sch := (per, pk.cvt 2)
    let f := { f with schedule := some sch, lastStart := schedIndex sch s.cvtNs, predicted := none }
    .done .ok [] ({ s with frame := f.ahead (f.nextPlan.getD f.plan) (s.nextStart sch) }.setPersist 0x907 0 false)

def execFrameSchedule (pk : Pkt) (s : State) : Res := .next (launch specFrameSchedule bodyFrameSchedule pk s)

def specFramePlan : OpSpec :=
  { op := 0x77, priv := .hmOnly, len := fun ps => decide (ps.length = 1 + 4 * fld (ps.getD 0 0) 0 4) }

/-- FRAME_PLAN (R373): taken at the next used FRAME_SYNC edge. -/
def bodyFramePlan (pk : Pkt) (_ : Nat) (s : State) : Verdict :=
  let n := fld (pk.p 1) 0 4
  let off := fun i => sgn 32 (pk.p (2 + 4 * i)).toNat
  chk (decide (8 < n)) .badParam 1 <|
  match (List.range n).find? (fun i => decide (off i < -5000) || decide (1000000 < off i)) with
  | some i => .reject .badParam (2 + 4 * i) 0
  | none =>
    let plan := (List.range n).map (fun i =>
      let w := pk.p (3 + 4 * i)
      (⟨off i, fld w 0 2, BitVec.ofNat 4 (fld w 2 4),
        BitVec.ofNat 72 ((pk.p (4 + 4 * i)).toNat + (pk.p (5 + 4 * i)).toNat * 2 ^ 32 + fld w 6 8 * 2 ^ 64)⟩ : PlanStep))
    .done .ok [] { s with frame := { s.frame with nextPlan := some plan } }

def execFramePlan (pk : Pkt) (s : State) : Res := .next (launch specFramePlan bodyFramePlan pk s)

def specPowerStatus : OpSpec := { op := 0x78, priv := .any, len := exactly 0 }

/-- The host domains that are on, as a mask. -/
def State.domMask (s : State) : BitVec 72 :=
  (List.range s.ident.hostDomains).foldl (fun m h => if s.domOn h then setBit m h true else m) 0

/-- POWER_STATUS (R402). -/
def bodyPowerStatus (_ : Pkt) (_ : Nat) (s : State) : Verdict :=
  let e := s.env
  .done .ok ([s.io.thr + (e.pEff * 4).floor.toNat % 256 * 16 + b2n e.burst * 2 ^ 12 + b2n e.overrun * 2 ^ 13, e.a.bucket.floor.toNat]
    ++ domainWords s.domMask ++ [min 65535 e.pInst]) s

def execPowerStatus (pk : Pkt) (s : State) : Res := .next (launch specPowerStatus bodyPowerStatus pk s)

end Sys2Proof.Machine
end

