-- ==== Sys2Proof/Machine/Survey.lean ====
section
/-! DEFINITION. Survey's commands: sensor scans and rail samples (R323 to R327), the survey tick (R328 to R332), the journal
(R340 to R342), recalibration (R343), the coolant report (R370) and the packets 0x90 to 0x94 (R404). -/

namespace Sys2Proof.Machine

/-- PORST_N is released. -/
def State.poweredUp (s : State) : Bool := decide (s.dev.phase ≠ .held)

/-! ## Sensors -/

/-- The answer of an address, none when it is missing. -/
def replyOf (rs : List SensorReply) (a : Nat) : Option (BitVec 16) := (rs.find? (fun r => decide (r.addr.toNat = a))).bind (·.data)

/-- A thermal reading in 1/128 degree, none outside -55 to 150 degrees (R323). -/
def thermal (d : Option (BitVec 16)) : Option Int :=
  match d with
  | none => none
  | some x => let t := sgn 16 x.toNat; if -7040 ≤ t ∧ t ≤ 19200 then some t else none

/-- A read of a sensor counts: the third failure in a row marks it failed (R324). -/
def State.noteRead (s : State) (a : Nat) (good : Bool) : State :=
  let n := if good then 0 else tget s.survey.failRun a 0 + 1
  let s := { s with survey := { s.survey with failRun := tset s.survey.failRun a n 0 } }
  if n = 3 && !s.sensorFailed a then
    ({ s with survey := { s.survey with failed := setBit s.survey.failed a true } }).raise 0x800 a 0
  else s

/-- What a failed thermal sensor reads as: the highest of the other zones of its rail, without one the highest of any zone
(R324). -/
def State.substitute (s : State) (ts : List (Nat × Int)) (z : Nat) : Option Int :=
  let good := ts.filter (fun e => decide (e.1 ≠ z) && !s.sensorFailed (72 + e.1))
  let top := fun (l : List (Nat × Int)) => l.foldl (fun (a : Option Int) e => match a with | none => some e.2 | some b => some (max b e.2)) none
  match top (good.filter (fun e => decide (s.zoneRailOf e.1 = s.zoneRailOf z))) with
  | some t => some t
  | none => top good

/-- The bin of a temperature (R327). -/
def tempBin (t : Int) : Nat := min 47 ((t + 5120) / 512).toNat

/-- A zone's temperature of a scan: the histogram, the turning points, and the last temperature (R327). -/
def State.zoneReading (s : State) (z : Nat) (t : Int) : State :=
  let v := s.survey
  let k := z * 64 + tempBin t
  ({ s with survey := { v with
      temp := tset v.temp z (BitVec.ofInt 16 t) 0
      live := { v.live with hist := tset v.live.hist k (satAdd 65535 (tget v.live.hist k 0) 1) 0 } } }).turnOf z t

/-- A turning-point queue asks for an early tick (R328). -/
def State.earlyTick (s : State) : Bool := s.survey.live.tp.any (fun e => decide (48 ≤ e.2.length))

def State.wakeEarly (s : State) : State := if s.earlyTick then s.wake .earlyTick else s

/-- The last address of a round of reads stands on SNS_ADDR, with no request (R81, R85). -/
def State.snsDone (s : State) (a : Nat) : State := { s with io := { s.io with snsReq := false, snsAddr := BitVec.ofNat 7 a } }

/-- Sites whose inputs are replaced: a failed zone, and a rail one of whose zones is (R324). -/
def State.replaced (s : State) : BitVec 64 :=
  let zs := (List.range 32).filter (fun z => s.sensorFailed (72 + z))
  zs.foldl (fun (b : BitVec 64) z => setBit (setBit b z true) (32 + s.zoneRailOf z) true) 0

/-- SENSOR_SCAN (R85, R324, R327): every 10 ms. -/
def execSensorScan (readings : List SensorReply) (s : State) : Res :=
  .next <|
  if !s.poweredUp || decide (s.now < s.survey.lastScanAt + 10000000) then s
  else
    let zs := List.range 32
    let raw := fun z => thermal (replyOf readings (72 + z))
    let s := zs.foldl (fun s z => s.noteRead (72 + z) (raw z).isSome) s
    let ts := zs.filterMap (fun z => (raw z).map (fun t => (z, t - tget s.survey.thermOff z 0)))
    let s := zs.foldl (fun (s : State) z =>
      let t := if s.sensorFailed (72 + z) then s.substitute ts z else (ts.find? (fun e => e.1 = z)).map Prod.snd
      match t with | some t => s.zoneReading z t | none => s) s
    let off := (List.range s.ident.hostDomains).all (fun h => !s.domOn h)
    let v := s.survey
    ({ s with survey := { v with
        lastScanAt := s.now
        subst := s.replaced
        offSince := if off then v.offSince else s.now } }).wakeEarly.snsDone 103

/-- The band of the EM sums (R327). -/
def emBand (t : Int) : Nat := min 15 ((t + 5120) / 1536).toNat

/-- RMON_SAMPLE (R84, R325, R327). -/
def execRmonSample (ch : Fin 8) (power : BitVec 16) (current : BitVec 16) (s : State) : Res :=
  .next <|
  let r := ch.val
  if !s.poweredUp || decide (s.ident.rails ≤ r) then s
  else
    let last := (tget s.env.latest r (0, 0, 0)).2.2
    let dt := min 250 ((s.now - last) / 40)
    let s := { s with env := { s.env with
      latest := tset s.env.latest r (power.toNat, current.toNat, s.now) (0, 0, 0), lost := setBit s.env.lost r false } }
    let s := s.setPersist 0x901 r false
    let l := s.survey.live
    let i := current.toNat
    let em := match s.hottest ((List.range 32).filter (fun z => decide (s.zoneRailOf z = r))) with
      | some t => let k := r * 16 + emBand t; tset l.em k (satAdd (2 ^ 72 - 1) (tget l.em k 0) (i * i * dt)) 0
      | none => l.em
    { s with survey := { s.survey with live := { l with
        em := em
        railP := tset l.railP r (satAdd (2 ^ 48 - 1) (tget l.railP r 0) power.toNat) 0
        railI := tset l.railI r (satAdd (2 ^ 48 - 1) (tget l.railI r 0) i) 0
        railN := tset l.railN r (satAdd (2 ^ 48 - 1) (tget l.railN r 0) 1) 0 } } }

/-! ## Ops of Survey -/

/-- A descriptor of Survey: ONCE, prio 3, a STATE input of its two units, a deadline in us. -/
def surveyDesc (op deadline : Nat) (units : Bool) : List W32 :=
  [op + 16 * 2 ^ 8 + 3 * 2 ^ 13, 0, 0, deadline, 0, 0, if units then 6 else 0, 0, 0, if units then 128 * 2 ^ 16 else 0,
   0, 0, 0, 0, 0, 0].map (BitVec.ofNat 32)

/-- The Keeper submits an op of the harbourmaster's; none when the queue has no room (R288, R329). -/
def State.surveySubmit (s : State) (op deadline kind : Nat) : Option State :=
  if 32 ≤ s.ch.queue.length || (s.allot hm).limit ≤ s.ownInstances hm then none
  else
    let q := s.takeSeq hm
    let x : OpInst := ⟨hm, q.1, surveyDesc op deadline s.surveyUnits, s.ts, s.now, 0, 0, Input.zero, Input.zero, kind⟩
    some { q.2 with ch := { q.2.ch with queue := q.2.ch.queue ++ [x] } }

/-- Submit a prediction op; one that finds the queue full ends as rejected. -/
def State.surveyStart (s : State) (op deadline kind : Nat) : State :=
  match s.surveySubmit op deadline kind with
  | some t => t
  | none => s.surveyEnd kind 0x30 []

/-- A monitor's deficit at a tick (R323, R324, R343). -/
def State.monitorReading (s : State) (rs : List SensorReply) (m : Nat) : State :=
  let d := (replyOf rs m).bind (fun x => if x = 0xFFFF then none else some x)
  let s := s.noteRead m d.isSome
  match d with
  | none => s
  | some x =>
    let ratio := tget s.survey.monZero m 0
    let x := if ratio = 0 then x else Config.ratioFix ratio x
    let a := tget s.survey.monSum m (0, 0)
    { s with survey := { s.survey with
        monitors := tset s.survey.monitors m x 0, monSum := tset s.survey.monSum m (a.1 + x.toNat, a.2 + 1) (0, 0) } }

def hoursOf (ns : Nat) : W64 := f64 (((ns : Nat) : Rat) / 3600000000000)

/-- The monitors below n are read in order. -/
def State.readMonitors (s : State) (rs : List SensorReply) (n : Nat) : State := (List.range n).foldl (State.monitorReading · rs) s

/-! ## The survey tick (R327 to R333) -/

/-- An accumulator's interval is discarded for a parity error (R327): bits 0 to 31 the histograms, 32 to 64 the queues (64
the coolant's), 65 to 72 the EM sums, 73 to 80 the rail sums. -/
def Accum.without (a : Accum) (bad : BitVec 96) : Accum :=
  let keep := fun {α : Type} (t : Tab α) (lo w : Nat) => t.filter (fun e => !bad.getLsbD (lo + e.1 / w))
  { hist := keep a.hist 0 64, tp := keep a.tp 32 1, em := keep a.em 65 16
    railP := keep a.railP 73 1, railI := keep a.railI 73 1, railN := keep a.railN 73 1 }

/-- The sites that set GAP (R327): the zone of a histogram or a queue, the package for the coolant's, the grid of a rail for
its EM sums, the zones of a rail for its rail sums (log 88). -/
def State.gapsOf (s : State) (bad : BitVec 96) : BitVec 64 :=
  let b0 := (List.range 32).foldl (fun (b : BitVec 64) z => setBit b z
    (bad.getLsbD z || bad.getLsbD (32 + z) || bad.getLsbD (73 + s.zoneRailOf z))) 0
  let b1 := (List.range 8).foldl (fun (b : BitVec 64) r => setBit b (32 + r) (bad.getLsbD (65 + r))) b0
  setBit b1 40 (bad.getLsbD 64)

/-- The totals are read by pages (R333): a page whose CRC fails in one copy is taken from the other; one that fails in both
has the totals restored from the Logbook, with SURVEY_INTEGRITY. -/
def State.verifyTotals (s : State) (pages : List (Bool × Nat)) : State :=
  if (List.range 3).any (fun p => pages.contains (false, p) && pages.contains (true, p)) then
    let found := !s.lb.entries.isEmpty
    let t := s.restoreSurvey ((s.now - max s.survey.entryAt s.survey.ckptAt) / 1000000000)
    if found then t.raise 0x801 0 0 else t
  else
    let v := s.survey
    let t := (List.range 3).foldl (fun (t : Totals) p => if pages.contains (false, p) then t.takePage v.mirror p else t) v.totals
    s.setTotals t

/-- The bytes of the shadow bank as the Keeper moves them (R329; log 53): histograms, queues with their lengths, EM sums,
rail sums. -/
def Accum.bytes (a : Accum) : List Byte :=
  (List.range 32).flatMap (fun z => (List.range 48).flatMap (fun j => leBytes 2 (tget a.hist (z * 64 + j) 0))) ++
  (List.range 33).flatMap (fun k =>
    let q := tget a.tp k []
    leBytes 2 q.length ++ (List.range 64).flatMap (fun i => leBytes 2 (q.getD i 0).toNat)) ++
  (List.range 8).flatMap (fun r => (List.range 16).flatMap (fun b => leBytes 9 (tget a.em (r * 16 + b) 0))) ++
  (List.range 8).flatMap (fun r => leBytes 6 (tget a.railP r 0) ++ leBytes 6 (tget a.railI r 0) ++ leBytes 6 (tget a.railN r 0))

/-- A page of 4 KiB into a state unit of the owner on a core. -/
def State.putUnit (s : State) (c u : Nat) (bs : List Byte) : State :=
  let t := s.writeRange (12 + c) (24576 + 256 * u) 256
  let x := t.core c
  t.setCore c { x with store := writeBytes x.store (4096 * u) ((List.range 4096).map (fun i => bs.getD i 0))
                       psn := x.psn.filter (fun w => !(decide (24576 + 256 * u ≤ w) && decide (w < 24832 + 256 * u))) }

/-- Step 2 of R329: the shadow bank moves into the harbourmaster's Survey state units, 8 KiB to each online core in turn
(log 53). -/
def State.moveShadow (s : State) (a : Accum) : State :=
  let bs := a.bytes
  let us := (s.stUnits hm).take 2
  let cs := (List.range 16).filter (fun c => s.ch.online.getLsbD c)
  let s := { s with ch := { s.ch with domOn := s.ch.online } }
  ((cs.mapIdx (fun l c => (l, c))).filter (fun e => decide (8192 * e.1 < bs.length))).foldl (fun s e =>
    (us.mapIdx (fun i u => (i, u))).foldl (fun s k => s.putUnit e.2 k.2 (slice bs (8192 * e.1 + 4096 * k.1) 4096)) s) s

/-- SURVEY_TICK (R327 to R333): each survey period, or early; while the interval before is not added, or a turnover keeps
the core domains off (R433), it waits. KS_ERR stands as the tick finds it. -/
def execSurveyTick (reads : TickReads) (s : State) : Res :=
  .next <|
  let s := { s with io := { s.io with ksErr := reads.ksErr } }
  if !s.keeperRuns || !s.survey.left.isEmpty || s.coresHeld ||
      (decide (s.now < s.survey.tickAt + s.survey.period * 1000000000) && !s.earlyTick) then s
  else
    let s := s.takeConsts.verifyTotals reads.pages
    let v := s.survey
    let a := v.live.without reads.bad
    let hours := if reads.bad.getLsbD 81 then 0 else hoursOf (s.now - v.tickAt)
    let s := { s with survey := { v with
      shadow := some a, live := Accum.zero, left := [1, 2, 3], tickAt := s.now, gap := v.gap ||| s.gapsOf reads.bad } }
    let s := s.setTotals { v.totals with h := add64 v.totals.h hours }
    let s := (s.readMonitors reads.monitors 72).snsDone 71
    if !s.surveyUnits then s.keeperAdds
    else
      let s := s.moveShadow a
      ((s.surveyStart 0x10 500000 1).surveyStart 0x11 500000 2).surveyStart 0x0F 500000 3

/-! ## The journal -/

/-- 24 h and 1 h in ns. -/
def entryPeriod : Nat := 86400000000000
def ckptPeriod : Nat := 3600000000000

/-- JOURNAL_ENTRY (R336, R338, R341): RO_DRIFT and WEAR_PREDICT run, and the entry is written when the second ends. -/
def execJournalEntry (s : State) : Res :=
  .next <|
  if !s.keeperRuns || decide (s.now < s.survey.entryAt + entryPeriod) then s
  else
    let s := { s with survey := { s.survey with entryAt := s.now } }
    let s := (s.surveySubmit 0x12 0 6).getD s
    s.surveyStart 0x13 0 4

/-- JOURNAL_CHECKPOINT (R341), every hour. -/
def execJournalCheckpoint (s : State) : Res :=
  .next <| if !s.keeperRuns || decide (s.now < s.survey.ckptAt + ckptPeriod) then s else s.checkpoint

/-- COOLANT_SERIES_STALE (R326). -/
def execCoolantSeriesStale (s : State) : Res :=
  .next <| if !s.poweredUp || decide (s.now < s.env.reportAt + 10000000000) then s
    else { s with survey := { s.survey with coolantStale := true } }

/-! ## The coolant report (R370) -/

def specCoolantReport : OpSpec := { op := 0x73, priv := .hmOnly, len := exactly 2 }

/-- Coolant reports of the last 600 s, with the one in force at their start (R343). -/
def keepReports (now : Nat) (l : List (Nat × Int)) : List (Nat × Int) :=
  let old := l.filter (fun e => decide (e.1 + 600000000000 < now))
  old.drop (old.length - 1) ++ l.filter (fun e => !decide (e.1 + 600000000000 < now))

/-- COOLANT_REPORT (R326, R370, R371). -/
def bodyCoolantReport (pk : Pkt) (_ : Nat) (s : State) : Verdict :=
  let tin := temp16 (pk.p 1) 0
  let tpk := temp16 (pk.p 1) 16
  let n := fld (pk.p 2) 0 10
  let bad := fun (t : Int) => decide (t < -7040) || decide (19200 < t)
  chk (bad tin || bad tpk) .badParam 1 <|
  chk (decide (600 < n)) .badParam 2 <|
  let s := { s with
    env := { s.env with report := some (tin, tpk, n), reportAt := s.now, reportLost := false }
    survey := { s.survey with reports := keepReports s.now (s.survey.reports ++ [(s.now, tin)]) } }
  .done .ok [] ((s.setPersist 0x904 0 false).turnOf 32 tin).wakeEarly

def execCoolantReport (pk : Pkt) (s : State) : Res := .next (launch specCoolantReport bodyCoolantReport pk s)

/-! ## Packets 0x90 to 0x94 -/

def specSurveySet : OpSpec := { op := 0x90, priv := .hmOnly, len := exactly 5 }

/-- SURVEY_SET (R328, R339). -/
def bodySurveySet (pk : Pkt) (_ : Nat) (s : State) : Verdict :=
  let p := fld (pk.p 1) 0 10
  chk (decide (p = 0) || decide (600 < p)) .badParam 1 <|
  .done .ok [] { s with survey := { s.survey with
    period := p, advUpper := pk.p 2, advYears := pk.p 3, warnUpper := pk.p 4, warnYears := pk.p 5 } }

def execSurveySet (pk : Pkt) (s : State) : Res := .next (launch specSurveySet bodySurveySet pk s)

def specSurveyPredict : OpSpec := { op := 0x91, priv := .hmOnly, len := exactly 0, long := true }

/-- SURVEY_PREDICT (R338): a WEAR_PREDICT op of the harbourmaster. -/
def bodySurveyPredict (pk : Pkt) (slot : Nat) (s : State) : Verdict :=
  chk (s.findJob 0x91).isSome .busy 0 <|
  match s.surveySubmit 0x13 0 5 with
  | none => .reject .exhausted 0 0
  | some t => .accept [] (t.addJob 0x91 pk slot 0 0 0)

def execSurveyPredict (pk : Pkt) (s : State) : Res := .next (launch specSurveyPredict bodySurveyPredict pk s)

/-- SURVEY_PREDICT_DONE (R338, R404): the op has ended. -/
def execSurveyPredictDone (s : State) : Res :=
  .next <| match s.findJob 0x91 with
  | some j => if j.a = 1 then s.endJob j .ok [42, j.b] else s
  | none => s

def specSurveyCheckpoint : OpSpec := { op := 0x92, priv := .hmOnly, len := exactly 0, long := true }

/-- SURVEY_CHECKPOINT (R341). -/
def bodySurveyCheckpoint (pk : Pkt) (slot : Nat) (s : State) : Verdict :=
  chk (s.findJob 0x92).isSome .busy 0 <| .accept [] (s.addJob 0x92 pk slot 0 0 0)

def execSurveyCheckpoint (pk : Pkt) (s : State) : Res := .next (launch specSurveyCheckpoint bodySurveyCheckpoint pk s)

/-- SURVEY_CHECKPOINT_DONE (R341): the entry is in the Logbook; while that is unavailable the write waits (R25), and
without the key the completion is INTERNAL (R411). -/
def execSurveyCheckpointDone (s : State) : Res :=
  .next <| match s.findJob 0x92 with
  | none => s
  | some j =>
    let t := if j.a = 0 then
        let u := s.checkpoint
        { u with esl := { u.esl with jobs := u.esl.jobs.map (fun (x : Job) => if x.op = 0x92 then { x with a := 1 } else x) } }
      else s.payEntries
    match t.findJob 0x92 with
    | some j => if s.io.ksErr then t.endJob j .internal [] else if t.survey.owed.isEmpty then t.endJob j .ok [] else t
    | none => t

/-- The conditions of a recalibration (R343): every host domain off for 600 s, the coolant steady within 1 degree. -/
def State.recalReady (s : State) : Bool :=
  let rs := keepReports s.now s.survey.reports
  (List.range s.ident.hostDomains).all (fun h => !s.domOn h) &&
  decide (s.survey.offSince + 600000000000 ≤ s.now) &&
  (match rs with | r :: _ => decide (r.1 + 600000000000 ≤ s.now) | [] => false) &&
  rs.all (fun a => rs.all (fun b => decide (a.2 - b.2 ≤ 128)))

def specSurveyRecal : OpSpec := { op := 0x93, priv := .hmOnly, len := exactly 0, long := true, mode := some .test }

/-- SURVEY_RECAL (R343). -/
def bodySurveyRecal (pk : Pkt) (slot : Nat) (s : State) : Verdict :=
  chk (!s.recalReady) .badParam 0 <|
  chk (s.findJob 0x93).isSome .busy 0 <| .accept [] (s.addJob 0x93 pk slot 0 0 0)

def execSurveyRecal (pk : Pkt) (s : State) : Res := .next (launch specSurveyRecal bodySurveyRecal pk s)

/-- A thermal sensor's 16 readings against the inlet temperature: an offset of at most 5 degrees is stored and its failed
mark cleared (R343). -/
def State.recalThermal (s : State) (rs : List SensorReply) (tin : Int) (z : Nat) : State :=
  let mine := rs.filter (fun r => decide (r.addr.toNat = 72 + z))
  let s := mine.foldl (fun s r => s.noteRead (72 + z) (thermal r.data).isSome) s
  let ts := mine.filterMap (fun r => thermal r.data)
  if ts.length < 16 then s
  else
    let off := roundInt .rna ((ts.sum : Rat) / ((ts.length : Nat) : Rat)) - tin
    if off.natAbs ≤ 640 then
      { s with survey := { s.survey with
          thermOff := tset s.survey.thermOff z off 0, failed := setBit s.survey.failed (72 + z) false
          failRun := tset s.survey.failRun (72 + z) 0 0 } }
    else s

/-- A monitor's reference oscillator is measured (R343); 0xFFFF is a failed read (R323). -/
def State.recalMonitor (s : State) (rs : List SensorReply) (m : Nat) : State :=
  match (replyOf rs m).bind (fun x => if x = 0xFFFF then none else some x) with
  | some x => { s with survey := { s.survey with
      monZero := tset s.survey.monZero m x 0, failed := setBit s.survey.failed m false, failRun := tset s.survey.failRun m 0 0 } }
  | none => s.noteRead m false

/-- SURVEY_RECAL_DONE (R85, R343): a reading that does not come is a failed read of its sensor. -/
def execSurveyRecalDone (readings : List SensorReply) (s : State) : Res :=
  .next <| match s.findJob 0x93 with
  | none => s
  | some j =>
    let tin := match s.env.report with | some r => r.1 | none => 0
    let s := (List.range 32).foldl (fun s z => s.recalThermal readings tin z) s
    let s := (List.range 72).foldl (fun s m => s.recalMonitor readings m) s
    let s := { s with survey := { s.survey with subst := s.replaced } }
    (s.snsDone 71).checkpoint.endJob j .ok []

def specSurveyRead : OpSpec := { op := 0x94, priv := .hmOnly, len := exactly 1 }

/-- A site has outputs of a kind (R338). -/
def siteKind (site kind : Nat) : Bool :=
  match kind with
  | 0 | 5 => decide (site < 32)
  | 1 => decide (32 ≤ site) && decide (site < 40)
  | 2 => decide (site < 32) || decide (site = 40)
  | 3 | 4 => decide (site ≤ 40) || decide (site = 255)
  | 6 => decide (site ≤ 40)
  | _ => false

/-- SURVEY_READ (R404). -/
def bodySurveyRead (pk : Pkt) (_ : Nat) (s : State) : Verdict :=
  let site := fld (pk.p 1) 0 8
  let kind := fld (pk.p 1) 8 4
  chk (!siteKind site kind) .badParam 1 <|
  let l := tget s.survey.latest (site * 16 + kind) Latest.zero
  .done .ok [l.value.toNat, l.lower.toNat, l.upper.toNat, l.eol.toNat % 2 ^ 32, l.eol.toNat / 2 ^ 32, l.entry.toNat] s

def execSurveyRead (pk : Pkt) (s : State) : Res := .next (launch specSurveyRead bodySurveyRead pk s)

end Sys2Proof.Machine
end

