-- ==== Sys2Proof/Machine/Turnover.lean ====
section
/-! DEFINITION. Ending a charter (R293, R431 to R434): the turnover, its scrub and its completion. -/

namespace Sys2Proof.Machine

/-- Earlier packets of a charter that have not completed; its ops stop instead (R293, R393). -/
def State.packetsOpen (s : State) (c : Nat) : Bool :=
  s.esl.held.any (fun h => decide (h.pk.o = c)) || s.esl.jobs.any (fun j => decide (j.owner = c)) ||
  s.ch.loads.any (fun l => decide (l.owner = c)) || s.lk.jobs.any (fun j => decide (j.owner = c)) ||
  s.ledger.jobs.any (fun j => decide (j.1 = c)) || s.esl.applying.any (fun a => decide (a.pk.o = c))

/-- Every object that a charter owns at a probe returns to the harbourmaster, disabled and cleared (R145, R431). -/
def Probe.release (c : Nat) (x : Probe) : Probe :=
  let f := fun (o : Nat) => if o = c then hm else 31
  let y := x.setOwners ([f x.cfg.fixedOwner, f x.cfg.samplerOwner, f x.cfg.cmdOwner, f x.cfg.edgeOwner] ++
    (List.range 8).map (fun i => f (tget x.cfg.pmcOwner i hm)) ++ (List.range 4).map (fun j => f (tget x.cfg.rangeOwner j hm)))
  let gone := (if x.cfg.fixedOwner = c then [0, 1, 2, 3, 4] else []) ++
    ((List.range 8).filter (fun i => decide (tget x.cfg.pmcOwner i hm = c))).map (· + 5)
  let mine := fun (r : SnapReq) => decide (r.only ≠ some c) && decide (r.win ≠ some c)
  { y with
    cfg := { y.cfg with
      enable := gone.foldl (fun e i => setBit e i false) y.cfg.enable
      pmc := (List.range 8).foldl (fun t i => if tget x.cfg.pmcOwner i hm = c then tset t i Pmc.zero Pmc.zero else t) y.cfg.pmc
      ranges := (List.range 4).foldl (fun t j => if tget x.cfg.rangeOwner j hm = c then tset t j (0, 0) (0, 0) else t) y.cfg.ranges }
    snapReq := y.snapReq.filter mine, copying := y.copying.filter mine }

/-- The sources stop for the charter, and its records on their way are discarded without marks (R431 step 2). -/
def State.captureEnd (s : State) (c : Nat) : State :=
  let s := s.silence c
  let s := s.probes.foldl (fun s e => s.modProbe e.1 (Probe.release c)) s
  { s with canal := { s.canal with
      pound := s.canal.pound.foldl (fun t e => tset t e.1 (e.2.filter (fun r => r.owner ≠ c)) []) s.canal.pound
      acc := s.canal.acc.filter (fun w => w.owner ≠ c), closed := s.canal.closed.filter (fun w => w.owner ≠ c)
      q := s.canal.q.foldl (fun t e => tset t e.1 (e.2.filter (fun r => r.owner ≠ c)) []) s.canal.q
      losses := s.canal.losses.foldl (fun t e => tset t e.1 (e.2.filter (fun l => l.owner ≠ c)) []) s.canal.losses } }

/-- The Counting House lets go of the charter (R293). -/
def State.chEnd (s : State) (c : Nat) : State :=
  let s := match s.ch.run with
    | some r => if r.op.owner = c then { s.dropReads with ch := { s.ch with run := none, idleAt := s.now } } else s
    | none => s
  let s := { s with ch := { s.ch with
    queue := s.ch.queue.filter (fun x => x.owner ≠ c), standing := s.ch.standing.filter (fun x => x.owner ≠ c) } }
  let s := (s.ownSlots c).foldl (fun s e => s.unload c e.1) s
  (s.eraseUnits (s.stUnits c)).releaseKept

/-- The charter's open lighter, its unencrypted blocks and its place in the STP buffer are discarded (R431 step 3). -/
def State.exportEnd (s : State) (c : Nat) : State :=
  let s := s.setExport c { s.export_ c with openL := none }
  { s with svc := { s.svc with buf := s.svc.buf.filter (fun e => e.1 ≠ c) } }

/-- T0 (R431 steps 1 to 4). -/
def State.beginTurnover (s : State) (t : Turnover) : State :=
  let c := t.charter
  let s := { s with chart := { s.chart with st := tset s.chart.st c .ending .inactive, turnover := some { t with begun := true, t0At := s.now } } }
  let s := (((s.captureEnd c).assayEnd c).chEnd c).exportEnd c
  let s := s.newGen c
  let s := s.dropKey (s.modelKey c)
  { s with
    chart := { s.chart with kek := tset s.chart.kek c none none }
    esl := { s.esl with idMode := setBit s.esl.idMode c false, marker := setBit s.esl.marker c false }
    lk := { s.lk with assign := tset s.lk.assign c 0 0 } }

def specCharterEnd : OpSpec := { op := 0x81, priv := .own, len := exactly 1, long := true }

/-- CHARTER_END (R431): of a charter by itself or by the harbourmaster; execution starts once its earlier packets have
completed. ACCEPTED is posted at acceptance (R389), also where T0 waits (log 99); a second one of the same charter finds none
(R434). -/
def bodyCharterEnd (pk : Pkt) (slot : Nat) (s : State) : Verdict :=
  let c := fld (pk.p 1) 0 4
  chk (!s.active c || s.leaves c) .noCharter 1 <|
  chk (decide (pk.o ≠ hm) && decide (c ≠ pk.o)) .denied 1 <|
  chk s.chart.turnover.isSome .busy 0 <|
  let t : Turnover := ⟨c, pk.o, pk.seq, slot, false, s.now, false⟩
  .accept [] (if s.packetsOpen c then { s with chart := { s.chart with turnover := some t } } else s.beginTurnover t)

def execCharterEnd (pk : Pkt) (s : State) : Res := .next (launch specCharterEnd bodyCharterEnd pk s)

/-- What the scrub overwrites (R432): the queues without marks, ledger words to PAD, the register page with its apertures,
the assay's settings and counters, the ring settings. -/
def State.scrub (s : State) (c : Nat) : State :=
  let s := (s.dropQueues c).ledgerErase c
  let keep := fun (e : Nat) => decide (e ≠ c)
  { s with
    esl := { s.esl with apt := s.esl.apt.filter (fun e => keep e.1) }
    exp := s.exp.filter (fun e => keep e.1)
    mgr := { s.mgr with wait := s.mgr.wait.filter (fun r => keep r.owner), ready := s.mgr.ready.filter (fun r => keep r.owner) }
    basins := { s.basins with kept := s.basins.kept.filter (fun e => keep e.1) }
    assay := { s.assay with
      safety := s.assay.safety.filter (fun e => keep (e.1 % 32))
      measure := s.assay.measure.filter (fun e => keep (e.1 % 32))
      cnt := s.assay.cnt.filter (fun e => keep (e.1 / 8 % 32)) }
    win := { s.win with
      irqStatus := s.win.irqStatus.filter (fun e => keep e.1), irqEnable := s.win.irqEnable.filter (fun e => keep e.1)
      ovfProbe := s.win.ovfProbe.filter (fun e => keep e.1), latch := s.win.latch.filter (fun e => keep e.1)
      snap := s.win.snap.filter (fun e => keep e.1), staleKey := s.win.staleKey.filter (fun e => keep e.1)
      blockAuth := s.win.blockAuth.filter (fun e => keep e.1) } }

/-- CHARTER_SCRUB_START (R431 step 5), at T0 + 100 us; a turnover that waited begins here once the charter's packets have
completed. -/
def execCharterScrubStart (s : State) : Res :=
  .next <| match s.chart.turnover with
  | none => s
  | some t =>
    if !t.begun then (if s.packetsOpen t.charter then s else s.beginTurnover t)
    else if t.scrub || decide (s.now < t.t0At + 100000) then s
    else (({ s with chart := { s.chart with turnover := some { t with scrub := true } } }).scrub t.charter)

/-- The charter's units return (R431 step 7). -/
def State.unitsBack (s : State) (c : Nat) : State :=
  let us := s.units c
  let going := s.leavingOf c
  let s := { s with basins := { s.basins with leaving := s.basins.leaving.filter (fun u => !going.contains u) } }
  let s := going.foldl (fun s u => s.setUnitOwner u 31) s
  let s := us.foldl (fun s u => s.setUnitOwner u hm) s
  let q := tset s.basins.quota c 0 0
  let s := { s with basins := { s.basins with quota := tset q hm (s.quotaOf hm + us.length) 0 } }
  let s := s.grant 124
  let free := fun (t : Tab Nat) => (List.range 32).foldl (fun t u => if tget t u 31 = c then tset t u 31 31 else t) t
  ({ s with ch := { s.ch with
      allot := tset s.ch.allot c Allot.zero Allot.zero, stUnit := free s.ch.stUnit, mdUnit := free s.ch.mdUnit } }).settleUnits

/-- CHARTER_SCRUB_DONE (R431 steps 7 and 8, R432), at Ts + 1.2 ms: a scrub that cannot be verified leaves the charter
ENDING. -/
def execCharterScrubDone (verified : Bool) (s : State) : Res :=
  .next <| match s.chart.turnover with
  | none => s
  | some t =>
    if !t.scrub || decide (s.now < t.t0At + 1300000) then s
    else
      let s := { s with chart := { s.chart with turnover := none } }
      if verified then
        let s := ({ s with chart := { s.chart with st := tset s.chart.st t.charter .inactive .inactive } }).unitsBack t.charter
        s.complete 0x81 t.by_ t.seq t.slot .ok [s.keygen t.charter]
      else (s.raise 0xA05 0 t.charter).complete 0x81 t.by_ t.seq t.slot .internal [0, 0]

end Sys2Proof.Machine
end

