-- ==== Sys2Proof/Machine/Update.lean ====
section
/-! DEFINITION. Replacement in service (R500 to R503), SPARE_FUSE (R456), CORE_RETEST (R503) and LOGBOOK_READ: packets 0xB0
to 0xB4, 0xB7 and 0xB8 (R406). -/

namespace Sys2Proof.Machine

/-- The bytes a region takes (R494, R500). -/
def regionMax (kind : Nat) : Nat :=
  match kind with
  | 0 => 393216 + 192
  | 1 | 2 => 65536
  | _ => 1048576

def specUpdateBegin : OpSpec := { op := 0xB0, priv := .hmOnly, len := exactly 2, inRecovery := true }

/-- UPDATE_BEGIN (R500): in RECOVERY firmware only (R499). -/
def bodyUpdateBegin (pk : Pkt) (_ : Nat) (s : State) : Verdict :=
  let kind := fld (pk.p 1) 0 4
  let index := fld (pk.p 1) 4 8
  let n := (pk.p 2).toNat
  chk (decide (4 < kind) || (decide (s.dev.mode = .recovery) && decide (kind ≠ 0))) .badParam 1 <|
  chk (if kind < 3 then decide (index ≠ 0) else decide (249 < index)) .badParam 1 <|
  chk (decide (regionMax kind < n)) .badParam 2 <|
  chk (s.lb.update.isSome || (s.findJob 0xB2).isSome) .busy 0 <|
  .done .ok [] { s with lb := { s.lb with update := some ⟨kind, index, n, [], 0⟩ } }

def execUpdateBegin (pk : Pkt) (s : State) : Res := .next (launch specUpdateBegin bodyUpdateBegin pk s)

/-- n of an UPDATE_DATA packet. -/
def dataCount (ps : List W32) : Nat := fld (ps.getD 1 0) 0 10

def specUpdateData : OpSpec :=
  { op := 0xB1, priv := .hmOnly, len := fun ps => decide (2 ≤ ps.length) && decide (ps.length = 2 + dataCount ps / 4), inRecovery := true }

/-- UPDATE_DATA (R500): in order, into a 64 KiB buffer. -/
def bodyUpdateData (pk : Pkt) (_ : Nat) (s : State) : Verdict :=
  let n := dataCount pk.ps
  match s.lb.update with
  | none => .reject .badParam 0 0
  | some u =>
    chk (decide ((pk.p 1).toNat ≠ u.bytes.length)) .badParam 1 <|
    chk (decide (n < 4) || decide (1012 < n) || decide (n % 4 ≠ 0) || decide (u.total < u.bytes.length + n)) .badParam 2 <|
    chk ((s.findJob 0xB2).isSome || decide (65536 < u.bytes.length - u.programmed + n)) .busy 0 <|
    .done .ok [] { s with lb := { s.lb with update := some { u with bytes := u.bytes ++ bytes32 (pk.ps.drop 2) } } }

def execUpdateData (pk : Pkt) (s : State) : Res := .next (launch specUpdateData bodyUpdateData pk s)

/-- SCRATCH_PROGRAM (R500): a page of 256 bytes leaves the buffer for scratch. -/
def execScratchProgram (s : State) : Res :=
  .next <| match s.lb.update with
  | none => s
  | some u =>
    if u.bytes.length ≤ u.programmed then s
    else
      let r := s.lbAccess
      if r.1 then { r.2 with lb := { r.2.lb with update := some { u with programmed := min u.bytes.length (u.programmed + 256) } } } else r.2

def specUpdateCommit : OpSpec := { op := 0xB2, priv := .hmOnly, len := exactly 0, inRecovery := true, long := true }

/-- UPDATE_COMMIT (R500): of an update whose bytes have all come. -/
def bodyUpdateCommit (pk : Pkt) (slot : Nat) (s : State) : Verdict :=
  chk (s.findJob 0xB2).isSome .busy 0 <|
  match s.lb.update with
  | none => .reject .badParam 0 0
  | some u => chk (decide (u.bytes.length < u.total)) .badParam 0 (.accept [] (s.addJob 0xB2 pk slot 0 0 0))

def execUpdateCommit (pk : Pkt) (s : State) : Res := .next (launch specUpdateCommit bodyUpdateCommit pk s)

/-- A calibration set takes effect (R130, R502). -/
def State.takeCalibration (s : State) : State :=
  let c := s.calibItem
  let asym := (List.range 6).foldl (fun t k => tset t k (Config.calibLane c k) none) s.lb.asym
  let s := { s with
    lb := { s.lb with asym := asym }
    survey := { s.survey with
      thermOff := (List.range 32).foldl (fun t z => tset t z (Config.calibThermal c z) 0) []
      monZero := (List.range 72).foldl (fun t m => tset t m (Config.calibMonitor c m) 0) [] } }
  (List.range 6).foldl (fun s k => s.modLane (k / 2) (k % 2 = 1) (fun l => { l with asym := tget asym k none })) s

/-- The item goes into its region (R500, R502): firmware waits for the safe point, or in RECOVERY for the warm reset. -/
def State.commitItem (s : State) (j : Job) (u : Update) : State :=
  let lb := { s.lb with update := none }
  match u.kind with
  | 0 =>
    let img : Image := ⟨itemVersion u.bytes, Config.sha256 (itemPayload u.bytes)⟩
    let s := { s with lb := { lb with firmware := u.bytes }, dev := { s.dev with newImage := some img } }
    if s.dev.mode = .recovery then
      ({ s with dev := { s.dev with trialUntil := some (s.now + 1000000) } }).endJob j .ok [img.version.toNat]
    else { s with esl := { s.esl with jobs := s.esl.jobs.map (fun (x : Job) => if x = j then { x with a := 1 } else x) } }
  | 1 => ({ s with lb := { lb with settings := u.bytes } }).endJob j .ok []
  | 2 => (({ s with lb := { lb with calibration := u.bytes } }).takeCalibration).endJob j .ok []
  | _ => ({ s with lb := { lb with images := tset lb.images u.index u.bytes [], dirGen := lb.dirGen + 1 } }).endJob j .ok []

/-- UPDATE_COMMIT_DONE (R500): scratch is written, and the item verifies or the commit fails with SIGNATURE_FAIL. -/
def execUpdateCommitDone (s : State) : Res :=
  .next <| match s.findJob 0xB2, s.lb.update with
  | some j, some u =>
    if j.a ≠ 0 then s
    else
      let r := s.lbAccess
      let s := r.2
      if !r.1 then ({ s with lb := { s.lb with update := none } }).endJob j .internal [0, 0]
      else if u.programmed < u.bytes.length then s
      else if itemOk u.kind u.bytes && decide (itemIndex u.bytes = u.index) then s.commitItem j u
      else ({ s with lb := { s.lb with update := none } }).endJob j .signature [0, 0]
  | _, _ => s

def specUpdateAbort : OpSpec := { op := 0xB3, priv := .hmOnly, len := exactly 0, inRecovery := true }

/-- UPDATE_ABORT (R500). -/
def bodyUpdateAbort (_ : Pkt) (_ : Nat) (s : State) : Verdict :=
  chk s.lb.update.isNone .badParam 0 <|
  chk (s.findJob 0xB2).isSome .busy 0 <|
  .done .ok [] { s with lb := { s.lb with update := none } }

def execUpdateAbort (pk : Pkt) (s : State) : Res := .next (launch specUpdateAbort bodyUpdateAbort pk s)

/-! ## LOGBOOK_READ -/

/-- An entry of the soft-spare map in 8 bytes (R455). -/
def MapEntry.bytes (m : MapEntry) : List Byte :=
  leBytes 1 m.kind ++ leBytes 1 m.bank ++ leBytes 2 m.row ++ leBytes 1 m.spare ++ leBytes 1 (b2n m.fused) ++ leBytes 2 0

/-- A region's bytes where it holds any, and its size (R494): an erased byte reads 0xFF. -/
def Logbook.region (l : Logbook) (r i : Nat) : Option (List Byte × Nat) :=
  match r with
  | 0 => if i = 0 then some (l.settings, 65536) else none
  | 1 => if i = 0 then some (l.calibration, 65536) else none
  | 2 =>
    if i = 0 then
      some ((List.range (l.journal.foldl (fun a e => max a (e.1 + 1)) 0)).flatMap (fun k =>
        let b := tget l.journal k []
        b ++ List.replicate (2048 - b.length) 0xFF), 1048576)
    else if i = 1 then some (l.journalFirst, 4096) else if i = 2 then some (l.ckptA, 4096) else if i = 3 then some (l.ckptB, 4096) else none
  | 3 => if i < 8 then some (tget l.summaries i [], 262144) else none
  | 4 => if i < 2 then some (macItem 5 0 0 (l.spareMap.flatMap MapEntry.bytes), 32768) else none
  | 5 => if i = 0 then some (l.sfdp, l.sfdp.length) else none
  | _ => none

def specLogbookRead : OpSpec := { op := 0xB4, priv := .hmOnly, len := exactly 3 }

/-- LOGBOOK_READ (R406). -/
def bodyLogbookRead (pk : Pkt) (_ : Nat) (s : State) : Verdict :=
  let off := (pk.p 2).toNat
  let n := fld (pk.p 3) 0 10
  match s.lb.region (fld (pk.p 1) 0 4) (fld (pk.p 1) 4 8) with
  | none => .reject .badParam 1 0
  | some (bs, size) =>
    chk (decide (size < off + n)) .badParam 2 <|
    chk (decide (n < 4) || decide (1000 < n) || decide (n % 4 ≠ 0)) .badParam 3 <|
    let r := s.lbAccess
    if r.1 then .done .ok ((words32 ((List.range n).map (fun i => bs.getD (off + i) 0xFF))).map (·.toNat)) r.2
    else .done .internal [0, 0] r.2

def execLogbookRead (pk : Pkt) (s : State) : Res := .next (launch specLogbookRead bodyLogbookRead pk s)

/-! ## Repair at service -/

def specSpareFuse : OpSpec := { op := 0xB7, priv := .hmOnly, len := exactly 0, mode := some .service, long := true }

/-- SPARE_FUSE (R456). -/
def bodySpareFuse (pk : Pkt) (slot : Nat) (s : State) : Verdict :=
  chk (s.findJob 0xB7).isSome .busy 0 <| .accept [] (s.addJob 0xB7 pk slot 0 0 0)

def execSpareFuse (pk : Pkt) (s : State) : Res := .next (launch specSpareFuse bodySpareFuse pk s)

/-- The fuse word of a row entry (R454). -/
def fuseWord (m : MapEntry) : W32 :=
  let top := 2 ^ 23 + m.bank % 64 * 2 ^ 17 + m.row % 1024 * 2 ^ 7 + m.spare % 16 * 2 ^ 3
  BitVec.ofNat 32 (top * 256 + crc8 top 24 0)

/-- Row entries take their fuse words in map order while `room` words of the spare-row range are unused (R89, R454); a word
that fails, or for which the range has no room, keeps its entry soft. -/
def fuseRows : Nat → List MapEntry → List Bool → List MapEntry × List W32
  | _, [], _ => ([], [])
  | room, m :: ms, rs =>
    if m.kind = 0 && !m.fused && decide (0 < room) then
      if rs.headD false then
        let r := fuseRows (room - 1) ms (rs.drop 1)
        ({ m with fused := true } :: r.1, fuseWord m :: r.2)
      else
        let r := fuseRows room ms (rs.drop 1)
        (m :: r.1, r.2)
    else let r := fuseRows room ms rs; (m :: r.1, r.2)

/-- Words of the spare-row range that are still unused (R454, R518). -/
def State.fuseRoom (s : State) : Nat := s.ident.fuseCount.toNat - s.ident.fuseWords.length

/-- The fuse port after the read-back of the last word it programmed (R87, R456). -/
def Io.fused (io : Io) (base : Nat) (words : List W32) : Io :=
  match words.getLast? with
  | none => io
  | some w => { io with fuseReq := false, fuseWr := false, fuseAddr := BitVec.ofNat 12 (base - 1), fuseWdata := w }

/-- SPARE_FUSE_DONE (R89, R456): whether each word was programmed and read back. -/
def execSpareFuseDone (results : List Bool) (s : State) : Res :=
  .next <| match s.findJob 0xB7 with
  | none => s
  | some j =>
    let r := fuseRows s.fuseRoom s.ecc.map results
    let s := { s with
      ecc := { s.ecc with map := r.1 }
      io := s.io.fused (s.ident.fuseBase.toNat + s.ident.fuseWords.length + r.2.length) r.2
      ident := { s.ident with fuseWords := s.ident.fuseWords ++ r.2, sparesFused := s.ident.sparesFused + r.2.length } }
    (s.lbWrite (fun l => { l with spareMap := r.1 })).endJob j .ok [r.2.length]

def specCoreRetest : OpSpec := { op := 0xB8, priv := .hmOnly, len := exactly 1, mode := some .test, long := true }

/-- CORE_RETEST (R503): of a removed core. -/
def bodyCoreRetest (pk : Pkt) (slot : Nat) (s : State) : Verdict :=
  let c := fld (pk.p 1) 0 4
  chk (s.ch.online.getLsbD c) .badParam 1 <|
  chk (s.findJob 0xB8).isSome .busy 0 <| .accept [] (s.addJob 0xB8 pk slot c 0 0)

def execCoreRetest (pk : Pkt) (s : State) : Res := .next (launch specCoreRetest bodyCoreRetest pk s)

/-- CORE_RETEST_DONE (R503): a core that passes returns, its memory with it, and leaves the map. -/
def execCoreRetestDone (pass : Bool) (s : State) : Res :=
  .next <| match s.findJob 0xB8 with
  | none => s
  | some j =>
    let c := j.a
    if !pass then s.endJob j .ok [0]
    else
      let map := s.ecc.map.filter (fun (m : MapEntry) => !(decide (m.kind = 2) && decide (m.bank = c)) && !(decide (m.kind = 1) && decide (m.bank = 12 + c)))
      let s := { s with ecc := { s.ecc with map := map } }
      let s := s.modBank (bankKey (12 + c) false) (fun x => { x with failed := false, ueRows := [], selfFails := 0, pos := 0, again := [], passNo := 0 })
      let s := { s with ch := { s.ch with
        online := setBit s.ch.online c true, domOn := setBit s.ch.domOn c true
        removed := (map.filter (fun (m : MapEntry) => decide (m.kind = 2))).length } }
      (s.lbWrite (fun l => { l with spareMap := map })).endJob j .ok [1]

end Sys2Proof.Machine
end

