-- ==== Sys2Proof/Machine/Run.lean ====
section
/-! DEFINITION. The packets by opcode, for those that run later than their launch: packets that waited for the end of a
sleep (R356), the settings replay (R498), launches that the host writes word by word (R376), and stated instants (R391). -/

namespace Sys2Proof.Machine

/-- Every assigned opcode's row and body. KEY_ZEROISE here reads its slot back as zero (log 5). -/
def packetTable : List (OpSpec × (Pkt → Nat → State → Verdict)) :=
   [(specNop, bodyNop), (specIdentify, bodyIdentify), (specModeSet, bodyModeSet),
     (specSettingsSave, bodySettingsSave), (specHealthCfg, bodyHealthCfg)]
   ++ [(specProbeOwners, bodyProbeOwners), (specRangeSet, bodyRangeSet), (specPmcConfig, bodyPmcConfig),
     (specCounterEnable, bodyCounterEnable), (specCounterWrite, bodyCounterWrite),
     (specOvfClear, bodyOvfClear), (specSnapshot, bodySnapshot), (specProbeTiming, bodyProbeTiming),
     (specTallySet, bodyTallySet), (specSamplerConfig, bodySamplerConfig), (specCmdStream, bodyCmdStream),
     (specEdgeStream, bodyEdgeStream), (specTieMode, bodyTieMode), (specProbeStatus, bodyProbeStatus)]
   ++ [(specPartitionSet, bodyPartitionSet), (specOwnerExport, bodyOwnerExport),
     (specExportSet, bodyExportSet), (specFlush, bodyFlush), (specLedgerSet, bodyLedgerSet),
     (specLedgerTrigger, bodyLedgerTrigger), (specLedgerRelease, bodyLedgerRelease),
     (specLedgerRead, bodyLedgerRead), (specLedgerStatus, bodyLedgerStatus)]
   ++ [(specTapSafety, bodyTapSafety), (specTapMeasure, bodyTapMeasure), (specTableBase, bodyTableBase),
     (specTableEntry, bodyTableEntry), (specWatchAssign, bodyWatchAssign),
     (specWatchConfig, bodyWatchConfig), (specWatchArm, bodyWatchArm),
     (specAssayCounters, bodyAssayCounters), (specTapReenable, bodyTapReenable)]
   ++ [(specOpSubmit, bodyOpSubmit), (specOpCancel, bodyOpCancel), (specItinLoad, bodyItinLoad),
     (specModelLoad, bodyModelLoad), (specSlotUnload, bodySlotUnload), (specChAllot, bodyChAllot),
     (specChStatus, bodyChStatus)]
   ++ [(specTimeStatus, bodyTimeStatus), (specServoSet, bodyServoSet), (specReanchor, bodyReanchor),
     (specLaneAsym, bodyLaneAsym)]
   ++ [(specPowerPolicy, bodyPowerPolicy), (specEnvelopeSet, bodyEnvelopeSet),
     (specDerateSet, bodyDerateSet), (specCoolantReport, bodyCoolantReport),
     (specDomainSet, bodyDomainSet), (specDomainAssign, bodyDomainAssign),
     (specFrameSchedule, bodyFrameSchedule), (specFramePlan, bodyFramePlan),
     (specPowerStatus, bodyPowerStatus)]
   ++ [(specCharterBegin, bodyCharterBegin), (specCharterEnd, bodyCharterEnd), (specAttest, bodyAttest),
     (specKeyAgree, bodyKeyAgree), (specKeyInstall, bodyKeyInstall), (specKeyZeroise, bodyKeyZeroise 0),
     (specLinkMode, bodyLinkMode), (specCharterStatus, bodyCharterStatus)]
   ++ [(specSurveySet, bodySurveySet), (specSurveyPredict, bodySurveyPredict),
     (specSurveyCheckpoint, bodySurveyCheckpoint), (specSurveyRecal, bodySurveyRecal),
     (specSurveyRead, bodySurveyRead)]
   ++ [(specFaultRead, bodyFaultRead), (specFaultRelease, bodyFaultRelease),
     (specFaultPolicy, bodyFaultPolicy), (specFaultInject, bodyFaultInject)]
   ++ [(specUpdateBegin, bodyUpdateBegin), (specUpdateData, bodyUpdateData),
     (specUpdateCommit, bodyUpdateCommit), (specUpdateAbort, bodyUpdateAbort),
     (specLogbookRead, bodyLogbookRead), (specStpControl, bodyStpControl),
     (specServiceStatus, bodyServiceStatus), (specSpareFuse, bodySpareFuse),
     (specCoreRetest, bodyCoreRetest)]

/-- The row of an opcode; a reserved one fails check 3. -/
def packetOf (op : Nat) : OpSpec × (Pkt → Nat → State → Verdict) :=
  (packetTable.find? (fun e => decide (e.1.op = op))).getD
    ({ op := op, priv := .any, len := fun _ => true, reserved := true }, fun _ _ _ => .reject .badOpcode 0 0)

/-- Execute a launched packet by its opcode. -/
def State.runOp (s : State) (op : Nat) (pk : Pkt) : State := runPacket (packetOf op).1 (packetOf op).2 pk s

/-- Launch a packet by its opcode (R376). -/
def State.launchOp (s : State) (op : Nat) (pk : Pkt) : State := launch (packetOf op).1 (packetOf op).2 pk s

/-- The packets that waited for the end of a sleep execute in their order, then the writes that waited for them (R356,
R388, R516). -/
def State.runWaiting (s : State) : State :=
  ((s.esl.waiting).foldl (fun (s : State) (e : Nat × Pkt) => s.runOp e.1 e.2) { s with esl := { s.esl with waiting := [] } }).runDeferred

/-- Post what a held action answers (R391). -/
def State.answerHeld (s : State) (h : Held) (st : Status) (ws : List Nat) : State :=
  s.answer h.op h.pk h.slot st (failWords st ws)

/-- INSTANT_ACTION_DUE (R121, R140, R391): the instant is reached, or a new epoch has started, and the action applies; its
reply carries TIME_UNCERTAIN after a change of epoch or a FORCE. -/
def execInstantActionDue (idx : Nat) (s : State) : Res :=
  .next <| match s.esl.held[idx]? with
  | none => s
  | some h =>
    let moved := decide (h.epoch ≠ s.time.epoch)
    if s.asleep || s.dev.restarting || !(moved || decide (h.instant ≤ s.time.cvt)) then s
    else
      let s := { s with esl := { s.esl with held := removeAt s.esl.held idx } }
      let un := h.uncertain || moved
      State.runDeferred <| match (packetOf h.op).2 h.pk h.slot s with
      | .reject st a1 a2 => s.answerHeld h st [a1, a2]
      | .done st ws t => t.answerHeld h (if un && st = .ok then .timeUncertain else st) ws
      | .accept _ t => { t with lk := { t.lk with
          jobs := t.lk.jobs.map (fun (j : DomJob) => if j.owner = h.pk.o && j.slot = h.slot then { j with un := un } else j) } }

end Sys2Proof.Machine
end

