-- ==== Sys2Proof/Machine/Boot.lean ====
section
/-! DEFINITION. Resets, the start-up sequence, and the replacement of the firmware (R486 to R501). -/

namespace Sys2Proof.Machine

/-! ## PORST_N and the cold start -/

/-- The ledger across PORST_N (R237, R490): a frozen one survives with its seal, an armed one is cleared; the freeze number
stays (R536). -/
def Ledger.porst (l : Ledger) : Ledger :=
  match l.st with
  | .frozen | .seald => { l with next := some LedgerCfg.zero, readNext := [], jobs := [], owed := none, lastTrigAt := none }
  | _ => { Ledger.reset with freezeNo := l.freezeNo, sealBlk := l.sealBlk }

/-- The banks that a reset leaves alone (R442). -/
def keptWords (t : Tab EccWord) : Tab EccWord :=
  t.filter (fun e => let b := e.1 / 2 ^ 25; (decide (8 ≤ b) && decide (b ≤ 11)) || decide (b = 33))

/-- What a reset leaves of a probe: its input levels, its power, and until PORST_N that it is disabled (R171). -/
def Probe.afterReset (x : Probe) (warm : Bool) : Probe :=
  let y := { Probe.zero with hrst := x.hrst, up := x.up, haltTs := none, evt := x.evt, stretch := x.stretch }
  if warm && x.disabled then { y with disabled := true, disabledTs := x.disabledTs, markTs := x.markTs } else y

def resetProbes (ps : Tab Probe) (warm : Bool) : Tab Probe :=
  ps.foldl (fun t e => tset t e.1 (e.2.afterReset warm) Probe.zero) []

/-- The host domains from PORST_N on: PSW_REQ at PSW_DEFAULT, 0 above the configured count (R82), the PSW_ACK levels as they
are (R42). -/
def State.porstDoms (s : State) : Tab HostDom :=
  (List.range 72).foldl (fun t h =>
    tset t h { HostDom.zero with req := s.ident.pswDefault.getLsbD h && decide (h < s.ident.hostDomains), ack := (s.dom h).ack } HostDom.zero) []

/-- Seconds of powered time since the newest entry or checkpoint (R342). -/
def State.lostSeconds (s : State) : Nat := (s.now - max s.survey.entryAt s.survey.ckptAt) / 1000000000

/-- PORST_N_ASSERT (R29, R490): the block is in BOOT, held; what survives is integration, the Logbook and a frozen ledger. -/
def execPorstNAssert (s : State) : Res :=
  let froz := decide (s.ledger.st = .frozen) || decide (s.ledger.st = .seald)
  .next { State.reset with
    pending := s.pending, free := s.free
    ident := { s.ident with fw := 0, fuseErr := 0 }
    lb := { s.lb with update := none, fails := [], down := false }
    ledger := s.ledger.porst
    ecc := { Ecc.reset with word := if froz then keptWords s.ecc.word else [] }
    lk := { Lk.reset with doms := s.porstDoms }
    probes := resetProbes s.probes false
    survey := { Survey.reset with
      thermOff := s.survey.thermOff, monZero := s.survey.monZero
      lostS := if s.dev.phase = .held then s.survey.lostS else s.lostSeconds } }

/-- The fuses are applied (R454): the spare rows in use of each bank. -/
def State.applyFuses (s : State) : State :=
  let s := { s with ident := { s.ident with fuseErr := min 65535 s.ident.fuseErrors, sparesFused := s.ident.fuses.length } }
  (List.range 31).foldl (fun s b =>
    let n := s.ident.fuses.countP (fun w => decide (fuseBank w = b))
    if n = 0 then s else s.modBank (bankKey b false) (fun x => { x with spares := n })) s

/-- The fault that a failed bank raises (R453). -/
def bankFault (b : Nat) : Nat :=
  if b < 8 || b = 32 then 0x502 else if b < 12 || b = 33 then 0x501 else if b < 30 then 0x705 else if b = 30 then 0x202 else 0x606

/-- The start-up memory test of a bank (R489): its faulty rows take free spare rows, or it is failed. The map remembers;
the boot ROM does not write the Logbook (R493). -/
def State.testBank (s : State) (rows : List RowFault) (b : Nat) (copy : Bool) : State :=
  let rs := ((rows.filter (fun r => decide (r.bank.val = b) && decide ((r.copy && decide (b = 32)) = copy) && decide (r.row < bankRows b))).map (·.row)).eraseDups
  let free := (List.range (bankSpares b)).filter (fun i => !(s.sparesUsed b).contains i)
  if rs.isEmpty then s
  else if free.length < rs.length then
    let s := s.modBank (bankKey b copy) (fun x => { x with failed := true })
    let s := { s with ecc := { s.ecc with map := s.ecc.map ++ [(⟨1, b, b2n copy, 0, false⟩ : MapEntry)] } }
    if 12 ≤ b && b < 28 then
      let n := s.ecc.map.countP (fun (m : MapEntry) => decide (m.kind = 2)) + 1
      ({ s with ecc := { s.ecc with map := s.ecc.map ++ [(⟨2, b - 12, 0, 0, false⟩ : MapEntry)] } }).raise
        (if n < 5 then 0x702 else 0x703) (b - 12) (3 + min 31 n * 2 ^ 8)
    else s.raise (bankFault b) b 0
  else
    let s := s.modBank (bankKey b copy) (fun x => { x with spares := x.spares + rs.length })
    { s with ecc := { s.ecc with map := s.ecc.map ++ (rs.zip free).map (fun (e : Nat × Nat) => (⟨0, b, e.1, e.2, false⟩ : MapEntry)) } }

def State.memoryTest (s : State) (rows : List RowFault) : State :=
  ((List.range 34).foldl (fun (s : State) b => s.testBank rows b false) s).testBank rows 32 true

/-- The read mode that an SFDP table reports as the fastest (R88): bits 21 and 22 of the first word of its basic parameter
table say 1-4-4 and 1-1-4 (PRESUMED, log 91: JESD216). -/
def flashMode (sfdp : List Byte) : Flash :=
  if ofLe (slice sfdp 0 4) ≠ 0x50444653 then .one
  else
    let w := ofLe (slice sfdp (ofLe (slice sfdp 12 3)) 4)
    if w / 2 ^ 21 % 2 = 1 then .quad else if w / 2 ^ 22 % 2 = 1 then .quadOut else .one

/-- 32-bit word k, from 1, of the basic parameter table (PRESUMED, log 91: JESD216). -/
def sfdpWord (b : List Byte) (k : Nat) : Nat := ofLe (slice b (ofLe (slice b 12 3) + 4 * (k - 1)) 4)

/-- The density in bits. -/
def sfdpBits (b : List Byte) : Nat := let w := sfdpWord b 2; if w < 2 ^ 31 then w + 1 else 2 ^ min 40 (w - 2 ^ 31)

/-- The exponents of the four erase sizes. -/
def eraseSizes (b : List Byte) : List Nat := [8, 8, 9, 9].zipIdx.map (fun e => sfdpWord b e.1 / 2 ^ (16 * (e.2 % 2)) % 256)

/-- The SFDP table reports what R492 requires: 128 Mbit to 2 Gbit, erases of 4 KiB and 64 KiB, a page of 256 bytes, a
quad-enable method, and above 128 Mbit a method for 4-byte addressing (the places PRESUMED, log 91: JESD216). -/
def sfdpFits (b : List Byte) : Bool :=
  decide (ofLe (slice b 0 4) = 0x50444653) && decide (16 ≤ ofLe (slice b 11 1)) &&
  decide (2 ^ 27 ≤ sfdpBits b) && decide (sfdpBits b ≤ 2 ^ 31) && (eraseSizes b).contains 12 && (eraseSizes b).contains 16 &&
  decide (sfdpWord b 11 / 16 % 16 = 8) && decide (sfdpWord b 15 / 2 ^ 20 % 8 ≠ 7) &&
  (decide (sfdpBits b = 2 ^ 27) || decide (sfdpWord b 16 / 2 ^ 24 ≠ 0))

/-- The Logbook that the start-up finds (R88, R492): without a required entry it is treated as absent. -/
def Logbook.found (l : Logbook) (sfdp : List Byte) : Logbook :=
  if sfdpFits sfdp then { l with present := true, sfdp := sfdp, flash := flashMode sfdp }
  else { l with present := false, sfdp := [], flash := .one, down := true }

/-- The ports of the start-up (R66, R87): the host target port is ready, LB_RST_N is released, the fuse words are read. -/
def Io.started (io : Io) (i : Ident) : Io :=
  { io with htRdy := true, lbRstN := true, fuseAddr := BitVec.ofNat 12 (i.fuseBase.toNat + i.fuseWords.length - 1) }

/-- COLD_START (R34, R88, R114, R487, R492): PORST_N is released; steps 1 to 6. A Logbook that is treated as absent raises
LOGBOOK_UNAVAILABLE. -/
def execColdStart (strap : BitVec 2) (found : StartFinds) (s : State) : Res :=
  .next <|
  if s.dev.phase ≠ .held then s
  else
    let s := { s with
      dev := { s.dev with phase := .started, lastReset := 0, wrst := false }
      ident := { s.ident with chip := strap, fuseBad := found.fuseBad }
      lb := s.lb.found found.sfdp
      io := { s.io.started s.ident with ksErr := found.ksErr }
      clk := { s.clk with tclk := true } }
    let s := (List.range s.ident.nProbes).foldl (fun (s : State) p =>
      if s.probePowered p then s else s.modProbe p (fun x => { x with up := false })) s
    let s := s.applyFuses.memoryTest found.rows
    if s.lb.present then s else (s.raise 0x203 0 0).setPersist 0x203 0 true

/-! ## Warm reset -/

/-- The time unit across a warm reset (R490): CVT, epoch and frequency correction stay, in HOLDOVER; a DETACHED that only
PORST_N ends (R104) stays DETACHED (DEDUCED, log 92). -/
def State.warmTime (s : State) : TimeU :=
  let t := s.time
  let u := { TimeU.reset with
    cvt := t.cvt, epoch := t.epoch, f := t.f, st := if t.stuck then .detached else .holdover, exhausted := t.exhausted
    holdBound := s.boundNow, holdAt := s.now, bound := BitVec.ofNat 22 s.boundNow }
  { u with incOn := u.inc, stuck := t.stuck }

/-- Key slots at a reset (R435): zeroised; one out of use stays so until PORST_N (R419). -/
def warmSlots (t : Tab KeySlot) : Tab KeySlot :=
  t.foldl (fun a e => if e.2.st = .dead then tset a e.1 e.2 KeySlot.zero else a) []

/-- A bank's record across a warm reset: failure and spare rows, which the map and the fuses keep (R490). -/
def warmBanks (t : Tab Bank) : Tab Bank :=
  t.foldl (fun a e => tset a e.1 { Bank.zero with spares := e.2.spares, failed := e.2.failed } Bank.zero) []

/-- A turnover that had begun leaves its ledger words erased (R434). -/
def State.warmTurnover (s : State) : State :=
  match s.chart.turnover with
  | some t => if t.begun && !t.scrub then s.ledgerErase t.charter else s
  | none => s

/-- The outputs across a warm reset (R42): those of the always-on part stay, the others are at their reset values. -/
def Io.warm (io : Io) : Io :=
  { Io.reset with
    htRdy := io.htRdy, rspVld := io.rspVld, rspId := io.rspId, rdata := io.rdata, rspErr := io.rspErr
    snsReq := io.snsReq, snsAddr := io.snsAddr, thr := io.thr, thrAt := io.thrAt }

/-- The state that a warm reset leaves (R442, R486, R490). -/
def State.warm (s : State) (last : Nat) (wrst : Bool) : State :=
  let s := s.warmTurnover
  let v := s.svc
  let c := s.clk
  let t := { State.reset with
    pending := s.pending, free := s.free
    ident := { s.ident with fw := 0 }
    dev := { Dev.reset with phase := .started, lastReset := last, wrst := wrst }
    clk := { c with tclk := true, stop := false, resEntries :=
      if s.lk.st = Power.underway then c.resEntries else tset c.resEntries 0 (satAdd (2 ^ 32 - 1) (tget c.resEntries 0 0) 1) 0 }
    time := s.warmTime
    probes := resetProbes s.probes true
    ledger := { s.ledger with jobs := [] }
    chart := { State.reset.chart with keygen := s.chart.keygen, slots := warmSlots s.chart.slots }
    fc := { s.fc with ledgerOn := [], irqOn := [], healthOn := false, healthIrq := false, healthAddr := 0, healthNo := 0, healthMm := 0 }
    lk := { Lk.reset with doms := s.lk.doms, lastEdgeAt := s.lk.lastEdgeAt }
    env := s.env, io := s.io.warm }
  let t := { t with
    win := { t.win with irqStatus := s.win.irqStatus, irqEnable := s.win.irqEnable, ovfProbe := s.win.ovfProbe, eccOvf := s.win.eccOvf, latch := s.win.latch }
    ecc := { Ecc.reset with word := keptWords s.ecc.word, bank := warmBanks s.ecc.bank, map := s.ecc.map }
    lb := { s.lb with update := none }
    svc := { Svc.reset with
      present := v.present, button := v.button, pressAt := v.pressAt, pressTs := v.pressTs, presses := v.presses, stuck := v.stuck,
      noise := v.noise, noisyRun := v.noisyRun, quietRun := v.quietRun, limiting := v.limiting, lastAct := v.lastAct,
      dropped := v.dropped, shortDue := v.shortDue
      lane0 := { StpLane.zero with up := v.lane0.up }, lane1 := { StpLane.zero with up := v.lane1.up } }
    survey := { s.survey with
      advUpper := Survey.reset.advUpper, advYears := Survey.reset.advYears, warnUpper := Survey.reset.warnUpper
      warnYears := Survey.reset.warnYears, period := Survey.reset.period } }
  t.setPersist 0x301 0 false

/-- An internal warm reset is due: a firmware item written in RECOVERY, within 1 ms of its completion (R27). -/
def State.recoveryReset (s : State) : Bool :=
  decide (s.dev.mode = .recovery) && s.dev.newImage.isSome && (match s.dev.trialUntil with | some t => decide (t ≤ s.now) | none => false)

/-- WARM_RESET (R490): WRST_N falls, or the reset that a commit in RECOVERY causes; that of a failed LAID_UP context is
SLEEP_EXIT_COMPLETE's. -/
def execWarmReset (src : ResetCause) (s : State) : Res :=
  .next <| match src with
  | .wrst => if s.dev.phase = .held then s else s.warm 1 true
  | .internal => if s.recoveryReset then s.warm 2 false else s

/-- WRST_N_RELEASE (R491). -/
def execWrstNRelease (s : State) : Res := .next { s with dev := { s.dev with wrst := false } }

/-! ## Firmware -/

/-- What the boot ROM finds: 0 an image to start, 1 absent, 2 fails verification, 3 unreadable (R496, R499). -/
def State.bootFinds (s : State) : Nat :=
  let b := s.lb.firmware
  if !s.lb.present then 3 else if b.isEmpty then 1
  else if itemOk 0 b || (!s.ident.secureBoot && itemFormed 0 b && decide (itemAuth b = 0)) then 0 else 2

/-- The envelope limits of R364, which RECOVERY uses (R499). -/
def Env.defaults (e : Env) : Env :=
  { e with pCont := 160, pBurst := 240, tBurst := 1000, fallback := 8, shed := [], a := { e.a with bucket := 200000 }, b := { e.b with bucket := 200000 } }

/-- BOOT_IMAGE_CHECK (R27, R496, R499); RECOVERY is READY, and a pod that is present counts as plugged in (R504). -/
def execBootImageCheck (s : State) : Res :=
  .next <|
  if s.dev.phase ≠ .started || s.dev.wrst then s
  else
    let s := ({ s with io := { s.io with lbRstN := true } }).lbAccess.2
    let b := s.lb.firmware
    match s.bootFinds with
    | 0 =>
      { s with
        dev := { s.dev with
          mode := .startup, phase := .imageRead, recovery := 0, unsignedFw := !itemOk 0 b
          image := ⟨itemVersion b, Config.sha256 (itemPayload b)⟩, codeBank := false }
        ident := { s.ident with fw := itemVersion b } }
    | r =>
      let s := { s with dev := { s.dev with mode := .recovery, phase := .running, ready := true, recovery := r }, env := s.env.defaults }
      if s.svc.present then s.stpPlug else s

/-- The map of the Logbook joins what the memory test found; an entry whose spare a fuse word uses is dropped (R454). -/
def State.readMap (s : State) : State :=
  if !s.lb.mapSealed then ({ s with dev := { s.dev with mapBad := true } }).raise 0xB06 0 0
  else
    let soft := if s.lb.present then s.lb.spareMap else []
    let fused := fun (m : MapEntry) => s.ident.fuses.any (fun w => decide (fuseBank w = m.bank) && decide (fuseSpare w = m.spare))
    let soft := soft.filter (fun m => !(decide (m.kind = 0) && fused m) && !s.ecc.map.contains m)
    { s with ecc := { s.ecc with map := soft ++ s.ecc.map } }

/-- A failed bank of the map is fenced, without a new raise (R453). -/
def State.fence (s : State) (m : MapEntry) : State :=
  let b := m.bank
  let s := s.modBank (bankKey b (decide (m.row = 1))) (fun x => { x with failed := true })
  if b < 8 then s.basinBankFails b
  else if 28 ≤ b && b < 30 then s.modelBankFails b
  else s

/-- The map takes effect (R453 to R455): spare rows, failed banks, removed cores. -/
def State.applyMap (s : State) : State :=
  let map := s.ecc.map
  let bad := map.filter (fun (m : MapEntry) => decide (m.kind = 1))
  let s := bad.foldl (fun (s : State) m => s.modBank (bankKey m.bank (decide (m.row = 1))) (fun x => { x with failed := false })) s
  let s := bad.foldl (fun s m => s.fence m) s
  let s := (List.range 31).foldl (fun (s : State) b =>
    let n := (s.sparesUsed b).eraseDups.length
    if (s.bank (bankKey b false)).spares = n then s else s.modBank (bankKey b false) (fun x => { x with spares := n })) s
  let out : List Nat := ((map.filter (fun (m : MapEntry) => decide (m.kind = 2))).map MapEntry.bank ++
    (bad.filter (fun (m : MapEntry) => decide (12 ≤ m.bank) && decide (m.bank < 28))).map (fun (m : MapEntry) => m.bank - 12)).eraseDups
  let on := out.foldl (fun v c => setBit v c false) (BitVec.allOnes 16)
  ({ s with ch := { s.ch with online := on, domOn := on, removed := (map.filter (fun (m : MapEntry) => decide (m.kind = 2))).length } }).ledgerFit

/-- The replay of one settings packet, as the harbourmaster's (R498): skipped and counted unless its reply is OK. -/
def State.replay (s : State) (op : Nat) (pk : Pkt) : State :=
  let skip := { s with dev := { s.dev with skipped := satAdd 255 s.dev.skipped 1 } }
  if !settingsOps.contains op then skip
  else
    let sp := (packetOf op).1
    match preCheck sp pk s with
    | some _ => skip
    | none =>
      if sp.needsSlot pk s then skip
      else match (packetOf op).2 pk 0 s with
        | .done .ok _ t => t
        | _ => skip

/-- Peer slots with a connected lane (R518). -/
def State.linked (s : State) (j : Nat) : Bool := s.connected j false || s.connected j true

/-- The default link mode (R423) and the lane constants of the Logbook (R77). -/
def State.linkDefaults (s : State) : State :=
  let many := decide (2 ≤ (List.range 3).countP s.linked) && decide (setHousing s.dev.settings ≠ 0)
  let s := (List.range 3).foldl (fun (s : State) j =>
    if many && s.linked j then s.modPeer j (fun p => { p with sealMode := true }) else s) s
  (List.range 6).foldl (fun (s : State) k => match tget s.lb.asym k none with
    | none => s
    | some a => s.modLane (k / 2) (k % 2 = 1) (fun l => { l with asym := some a })) s

/-- The settings item is taken, or the defaults (R498); one sealed by the block needs the key store (R411, R496). -/
def State.takeSettings (s : State) : State :=
  let b := s.lb.settings
  let mac := decide (itemAuth b = 1)
  let s := if s.lb.present && mac then s.askKey 5 else s
  if s.lb.present && !(mac && s.io.ksErr) && itemOk 1 b then
    let s := { s with
      dev := { s.dev with settings := b, settingsDigest := Config.sha256 b }, svc := { s.svc with stpAuto := setStpAuto b } }
    (settingsPackets b).foldl (fun s e => s.replay e.1 e.2) s.linkDefaults
  else ({ s with dev := { s.dev with settingsDefault := true } }).linkDefaults

/-- FIRMWARE_START (R455, R487 step 10, R498): READY. -/
def execFirmwareStart (s : State) : Res :=
  .next <|
  if s.dev.phase ≠ .imageRead || s.dev.wrst then s
  else
    let cold := decide (s.dev.lastReset = 0)
    let s := { s with dev := { s.dev with phase := .running } }
    let s := s.readMap.applyMap.takeSettings.takeConsts
    let s := if cold then s.restoreSurvey s.survey.lostS else s.keeperAdds
    let s := { s with dev := { s.dev with ready := true } }
    if s.svc.present then s.stpPlug else s

/-! ## Replacement in service (R501) -/

/-- The first safe point: no completion slot held but by OP_SUBMIT and this UPDATE_COMMIT, no turnover, no step between
decision and edge, no seal being written. -/
def State.safePoint (s : State) : Bool :=
  s.esl.held.all (fun h => decide (h.slot = 0)) && s.esl.jobs.all (fun j => decide (j.op % 256 = 0xB2)) && s.ch.loads.isEmpty &&
  s.lk.jobs.isEmpty && s.ledger.jobs.isEmpty && s.time.reanchor.isNone && s.chart.turnover.isNone && s.time.step.isNone &&
  decide (s.ledger.st ≠ .frozen)

/-- FIRMWARE_RESTART (R28, R501): the Keeper starts again from the other code bank. -/
def execFirmwareRestart (s : State) : Res :=
  .next <| match s.dev.newImage with
  | none => s
  | some img =>
    if decide (s.dev.mode = .recovery) || s.dev.restarting || s.asleep || !s.safePoint then s
    else
      { s with
        dev := { s.dev with
          restarting := true, codeBank := !s.dev.codeBank, oldImage := some s.dev.image, image := img, newImage := none
          trialUntil := some (s.now + 1000000000) }
        ident := { s.ident with fw := img.version } }

/-- The job of a commit whose image runs on trial: its completion is posted. -/
def trialOp : Nat := 0x1B2

/-- A fault within the trial's second: the old image posts the completion with INTERNAL (R501). -/
def State.trialFailed (s : State) : State :=
  match s.findJob trialOp with
  | none => s
  | some j =>
    if s.dev.oldImage.isSome then s
    else
      let s := { s with esl := { s.esl with jobs := s.esl.jobs.erase j } }
      if ((s.apt j.owner).slot j.slot).pending then s else s.complete 0xB2 j.owner j.seq j.slot .internal [0, 0]

/-- The new firmware posts the commit's completion, and its trial begins (R501). -/
def State.trialBegins (s : State) : State :=
  match s.esl.jobs.find? (fun (j : Job) => decide (j.op = 0xB2) && decide (j.a = 1)) with
  | none => s
  | some j =>
    if s.dev.newImage.isSome then s
    else if s.dev.oldImage.isNone then s.endJob j .internal [0, 0]
    else
      let s := { s with
        dev := { s.dev with trialUntil := some (s.now + 1000000000) }
        esl := { s.esl with jobs := s.esl.jobs.map (fun (x : Job) => if x = j then { x with op := trialOp } else x) } }
      s.complete 0xB2 j.owner j.seq j.slot .ok [s.dev.image.version.toNat]

/-- KEEPER_RESTART_COMPLETE (R475, R501): the apertures no longer reply BUSY, and a commit that restarted the Keeper is
answered. -/
def execKeeperRestartComplete (s : State) : Res :=
  .next <|
  if !s.dev.restarting || s.dev.down then s
  else
    let s := { s with
      dev := { s.dev with restarting := false }
      ident := { s.ident with fw := if decide (s.dev.phase = BootPhase.running) && decide (s.dev.mode ≠ Mode.recovery) then s.dev.image.version else 0 } }
    s.trialFailed.trialBegins

/-- FIRMWARE_TRIAL_EXPIRY (R501): the new image has run 1 s and the old one is released. -/
def execFirmwareTrialExpiry (s : State) : Res :=
  .next <| match s.dev.trialUntil with
  | none => s
  | some t =>
    if decide (s.now < t) || s.dev.restarting || decide (s.dev.mode = .recovery) then s
    else
      { s with
        dev := { s.dev with oldImage := none, trialUntil := none }
        esl := { s.esl with jobs := s.esl.jobs.filter (fun (j : Job) => decide (j.op ≠ trialOp)) } }

end Sys2Proof.Machine
end

