-- ==== Sys2Proof/Machine/Frame.lean ====
section
/-! DEFINITION. Frame timing: FRAME_SYNC, the frame schedule, the frame plan and missed frames (R86, R372 to R374). -/

namespace Sys2Proof.Machine

/-- The mean of the last four intervals between used edges, in ns. -/
def Frame.mean (f : Frame) : Nat := f.intervals.foldl (· + ·) 0 / max 1 f.intervals.length

/-- A new frame plan takes effect (R402). -/
def Frame.takePlan (f : Frame) : Frame := { f with plan := f.nextPlan.getD f.plan, nextPlan := none }

/-- A frame starts at an instant: the steps of the plan fall due, those ahead of the next start against its prediction, and
HOST_ON and TAPS_OPEN steps that no prediction announced at once (R373). -/
def Frame.begin_ (f : Frame) (t0 : Nat) (announced : Bool) (pred : Option Nat) : Frame :=
  let plan := f.plan
  let after := (plan.filter (fun x => decide (0 ≤ x.offset))).map (fun x => (offsetBy t0 x.offset, x))
  let late := if announced then [] else
    (plan.filter (fun x => decide (x.offset < 0) && (decide (x.action = 0) || decide (x.action = 2)))).map (fun x => (t0, x))
  let f := { f with due := f.due ++ late ++ after }
  match pred with
  | some p => f.ahead plan p
  | none => f

/-- An edge less than 2 ms after the last used one (R374). -/
def State.ignoredEdge (s : State) : State :=
  let f := s.frame
  let l := (f.ignored ++ [s.now]).filter (fun t => decide (s.now < t + 1000000000))
  let noisy := decide (50 < l.length)
  let f := { f with lastEdge := some s.now, ignored := l, noiseOpen := noisy, usable := 0 }
  let t := { s with frame := if f.schedule.isSome then f else { f.dropAhead with predicted := none } }
  if noisy && !s.frame.noiseOpen then t.raise 0x906 0 0 else t

/-- A used edge (R372): the prediction moves on, FRAME ops are ready, and without a schedule a frame starts. -/
def State.usedEdge (s : State) : State :=
  let f := s.frame
  let iv := match f.lastUsed with | some t => (f.intervals ++ [s.now - t]).reverse.take 4 |>.reverse | none => []
  let g := { f with lastEdge := some s.now, lastUsed := some s.now, intervals := iv, usable := f.usable + 1, missed := 0 }
  if f.schedule.isSome then { s with frame := g }.frameOps
  else
    let pred := if 2 ≤ g.usable && !iv.isEmpty then some (s.now + g.mean) else none
    let s := s.frameStart
    let s := { s with frame := { g with predicted := pred }.takePlan.begin_ s.now f.predicted.isSome pred }
    (if pred.isSome then s.setPersist 0x907 0 false else s).frameOps

/-- FRAME_SYNC (R44, R86, R157, R372): the port is of the always-on part, so an edge counts from PORST_N release on. -/
def execFrameSync (s : State) : Res :=
  .next <|
  if s.dev.phase = .held then s
  else
    let s := s.probes.foldl (fun (s : State) e =>
      if (s.probe e.1).cfg.frame then s.modProbe e.1 (fun x => { x with frameSnapAt := some (s.ts + 4000) }) else s) s
    match s.frame.lastUsed with
    | some t => if s.now < t + 2000000 then s.ignoredEdge else s.usedEdge
    | none => s.usedEdge

/-- A frame of the schedule began `back` ns ago. -/
def State.schedStart (s : State) (back next : Nat) : State :=
  let s := s.frameStart
  { s with frame := s.frame.takePlan.begin_ (s.now - back) true (some next) }

/-- How long ago, in ns, the latest start of the schedule was. -/
def schedBack (sch : Nat × Nat) (cvtNs : Nat) : Nat :=
  cvtNs - (fineOf96 sch.2 / 2 ^ 40 % (sch.1 * 1000) + (schedIndex sch cvtNs - 1) * (sch.1 * 1000))

/-- The schedule stands at start i; a step of CVT backwards begins no frame. -/
def State.schedStep (s : State) (i back next : Nat) : State :=
  if i = s.frame.lastStart || s.asleep then s
  else if i < s.frame.lastStart then { s with frame := { s.frame with lastStart := i } }
  else ({ s with frame := { s.frame with lastStart := i } }).schedStart back next

/-- FRAME_SCHEDULE_TICK (R372, R478): a start of the schedule takes the place of a used edge for the plan and the report. -/
def execFrameScheduleTick (s : State) : Res :=
  .next <| match s.frame.schedule with
  | none => s
  | some sch => s.schedStep (schedIndex sch s.cvtNs) (schedBack sch s.cvtNs) (s.nextStart sch)

/-- The action of a plan step (R373): a tap that is gated closes what it has open. -/
def State.planAction (s : State) (x : PlanStep) : State :=
  match x.action with
  | 0 => s.requestDomains x.mask true 4
  | 1 => s.requestDomains x.mask false 4
  | 2 => { s with frame := { s.frame with gated := s.frame.gated &&& ~~~x.taps } }
  | _ =>
    let s := (List.range 4).foldl (fun (s : State) t => if x.taps.getLsbD t then s.cutTap t else s) s
    { s with frame := { s.frame with gated := s.frame.gated ||| x.taps } }

/-- The step that is due first. -/
def Frame.first (f : Frame) : Option (Nat × PlanStep) :=
  f.due.foldl (fun (a : Option (Nat × PlanStep)) e => match a with
    | none => some e
    | some b => if e.1 < b.1 then some e else some b) none

/-- FRAME_PLAN_STEP (R373); while the Keeper is stopped no domain is switched (R22). -/
def execFramePlanStep (s : State) : Res :=
  .next <| match s.frame.first with
  | none => s
  | some e =>
    if s.now < e.1 || s.asleep || s.dev.restarting then s
    else ({ s with frame := { s.frame with due := s.frame.due.erase e } }).planAction e.2

/-- FRAME_MISSED (R374): no used edge within 2 ms after a predicted one. The plan steps of a missed frame run, the eighth in
a row among them; no new plan is taken (R402). -/
def execFrameMissed (s : State) : Res :=
  .next <| match s.frame.predicted with
  | none => s
  | some p =>
    let f := s.frame
    if f.schedule.isSome || s.now < p + 2000000 then s
    else if f.missed + 1 < 8 then
      let q := p + f.mean
      { s with frame := { f with missed := f.missed + 1, predicted := some q }.begin_ p true (some q) }
    else
      let s := { s with frame := { f.dropAhead with missed := f.missed + 1, predicted := none }.begin_ p true none }
      (s.raise 0x907 0 0).setPersist 0x907 0 true

end Sys2Proof.Machine
end

