-- ==== Sys2Proof/Machine/Mgr.lean ====
section
/-! DEFINITION. Read completions of the manager port (R72, R73). -/

namespace Sys2Proof.Machine

/-- The consumer of a finished read still waits for it; otherwise its data are dropped. -/
def State.wanted (s : State) (q : MReq) : Bool :=
  match q.why with
  | .tableRd o t => s.assay.busy && (match s.assay.engine with
    | .fetch t' o' tid :: _ => decide (t' = t) && decide (o' = o) && decide (s.entryAt o tid / 64 = q.line)
    | .back t' o' tid _ _ _ :: _ => decide (t' = t) && decide (o' = o) && decide (s.entryAt o tid / 64 = q.line)
    | _ => false)
  | .recv k => (match s.ch.run with
    | some r => decide (r.op.owner = q.owner) && (decide (r.recvKey 0 = k) || decide (r.recvKey 1 = k))
    | none => false)
  | .page _ => (match s.ch.run with | some r => decide (r.op.owner = q.owner) | none => false)
  | .image j => s.ch.loads.any (fun l => decide (l.id = j))
  | _ => false

/-- MGR_READ_LINE (R72, R73): the next line of a tag; an error status or MCPL_PSN delivers it poisoned, and the last line
hands the read to its consumer, lines that never came poisoned. Which data a poisoned line delivers is open: 0 (DESIGN CHOICE,
log 66). -/
def execMgrReadLine (tag : Fin 64) (data : BitVec 512) (last : Bool) (st : BitVec 2) (psn : Bool) (s : State) : Res :=
  .next <| match s.mgr.out.find? (fun r => !r.write && decide (r.tag = tag.val)) with
  | none => s
  | some r =>
    let bad := psn || decide (st ≠ 0)
    let r' := { r with got := (r.got ++ [(if bad then 0 else data, bad)]).take (r.nl + 1) }
    if !last then { s with mgr := { s.mgr with out := s.mgr.out.map (fun (q : MReq) => if q = r then r' else q) } }
    else
      let full := { r' with got := r'.got ++ List.replicate (r.nl + 1 - r'.got.length) (0, true) }
      { s with mgr := { s.mgr with
        out := s.mgr.out.erase r, ready := if s.wanted full then s.mgr.ready ++ [full] else s.mgr.ready } }

end Sys2Proof.Machine
end

