-- ==== Sys2Proof/Machine/Library.lean ====
section
/-! DEFINITION. Results of library ops that R297 states in full: what they count, time and sum over their input (log 13). -/

namespace Sys2Proof.Machine

/-! ## Fields of an input record (R172) -/

def RingRec.w (r : RingRec) (i : Nat) : Nat := (r.words.getD i 0).toNat
def RingRec.ty (r : RingRec) : Nat := r.w 0 / 2 ^ 58
def RingRec.src (r : RingRec) : Nat := bits (r.w 0) 48 8
def RingRec.qt (r : RingRec) : Nat := bits (r.w 0) 20 21
def RingRec.payload (r : RingRec) : Nat := r.w 0 % 2 ^ 20

/-- n in units of 2^-16 of a total, floored. -/
def share16 (n total : Nat) : Nat := n * 65536 / total

/-! ## TOPDOWN -/

/-- A counter group of an input: its source, its RESET flag, and its counters by index (R180). -/
structure Group where
  src : Nat
  reset : Bool
  vals : Tab Nat
  deriving DecidableEq, Repr

/-- A group with the counters of one of its records. -/
def Group.add (g : Group) (ws : List W64) : Group :=
  { g with vals := ws.foldl (fun t x => tset t (bits x.toNat 48 4) (bits x.toNat 0 48) 0) g.vals }

/-- The counter groups of an input, in their order. -/
def groupsOf (rs : List RingRec) : List Group :=
  rs.foldl (fun (gs : List Group) r =>
    if r.ty ≠ 0x14 then gs
    else match bits r.payload 16 4 with
      | 0 => gs ++ [⟨r.src, r.payload.testBit 0, []⟩]
      | 1 =>
        match findIdx? (fun (g : Group) => decide (g.src = r.src)) gs.reverse with
        | none => gs
        | some k => lset gs (gs.length - 1 - k) (fun g => g.add (r.words.drop 1))
      | _ => gs) []

/-- How far a counter grew from one group of a source to the next, over all of them (R161): a RESET group begins again from
0 (R141). -/
def growth (i : Nat) : List Group → Nat
  | a :: b :: gs =>
    (if b.reset then 0 else (tget b.vals i 0 + 2 ^ 48 - tget a.vals i 0) % 2 ^ 48) + growth i (b :: gs)
  | _ => 0

/-- The slots of a class, 1 to 4, over all probes of an input. -/
def slotsOf (gs : List Group) (i : Nat) : Nat :=
  (((gs.map Group.src).eraseDups).map (fun p => growth i (gs.filter (fun g => g.src = p)))).foldl (· + ·) 0

/-- Words 2 and 3 of TOPDOWN: a share of the whole saturates its field; without a slot the shares have no value. -/
def topdown (rs : List RingRec) (free : Nat) : Nat × Nat :=
  let n := [1, 2, 3, 4].map (slotsOf (groupsOf rs))
  let total := n.foldl (· + ·) 0
  if total = 0 then (free, 0)
  else ((n.mapIdx (fun i x => min 65535 (share16 x total) * 2 ^ (16 * i))).foldl (· + ·) 0, total)

/-! ## LAT_HIST -/

/-- The lower edge of a value's bin of a log2 histogram. -/
def binEdge (x : Nat) : Nat := if x = 0 then 0 else 2 ^ Nat.log2 x

/-- The p-th percentile of n values in hand: the lower edge of the bin in which the first p percent of them end. -/
def percentile (xs : List Nat) (p : Nat) : Nat :=
  let need := (xs.length * p + 99) / 100
  let edges := (0 :: (List.range 24).map (2 ^ ·))
  (edges.find? (fun e => decide (need ≤ xs.countP (fun x => decide (binEdge x ≤ e))))).getD 0

/-- Words 2 and 3 of LAT_HIST; without a sample the percentiles have no value. -/
def latHist (rs : List RingRec) (free : Nat) : Nat × Nat :=
  let xs := (rs.filter (fun r => decide (r.ty = 0x12))).map (fun r => bits (r.w 2) 24 24)
  (xs.length, if xs.isEmpty then free else percentile xs 50 + percentile xs 99 * 2 ^ 32)

/-! ## UNIT_UTIL -/

/-- The eight tallies of a record (R180). -/
def talliesOf (r : RingRec) : List Nat :=
  let x := r.w 1 + r.w 2 * 2 ^ 64 + r.w 3 * 2 ^ 128
  (List.range 8).map (fun i => bits x (24 * i) 24)

/-- Sum of the tallies of a kind over the connected units of an input's dumps, and the edges that the intervals give
them: `interval` and `units` of a probe. -/
def tallySum (kind : Nat) (interval units : Nat → Nat) (rs : List RingRec) : Nat × Nat :=
  (rs.filter (fun r => decide (r.ty = 0x14) && decide (bits r.payload 16 4 = kind))).foldl (fun (a : Nat × Nat) r =>
    let n := min 8 (units r.src - 8 * bits r.payload 13 3)
    (a.1 + ((talliesOf r).take n).foldl (· + ·) 0, a.2 + n * interval r.src)) (0, 0)

/-- The mean fraction of a kind in 2^-16; without a dump it has no value. -/
def meanFraction (kind : Nat) (interval units : Nat → Nat) (rs : List RingRec) (free : Nat) : Nat :=
  let t := tallySum kind interval units rs
  if t.2 = 0 then free else share16 t.1 t.2

/-! ## LAYER_TIME -/

/-- The full times of records with a qt field each, rebuilt one after another (R183). -/
def fullTimes : Nat → List RingRec → List (Nat × RingRec)
  | _, [] => []
  | ref, r :: rs => let t := fullTime ref r.qt; (t, r) :: fullTimes t rs

/-- Layers of one source: those open, newest first, and per layer the time spent and the entries. -/
structure LayerSum where
  openL : List (Nat × Nat)
  spent : Tab (Nat × Nat)
  deriving DecidableEq, Repr

def LayerSum.step (a : LayerSum) (e : Nat × RingRec) : LayerSum :=
  let id := e.2.payload % 2 ^ 16
  if e.2.ty = 0x0C then { a with openL := (id, e.1) :: a.openL }
  else match a.openL.find? (fun o => o.1 = id) with
    | none => a
    | some o =>
      let x := tget a.spent id (0, 0)
      { openL := a.openL.erase o, spent := tset a.spent id (x.1 + (e.1 - o.2), x.2 + 1) (0, 0) }

/-- Time and entries of every layer of an input. -/
def layerTimes (rs : List RingRec) : Tab (Nat × Nat) :=
  let ls := rs.filter (fun r => decide (r.ty = 0x0C) || decide (r.ty = 0x0D))
  ((ls.map RingRec.src).eraseDups).foldl (fun t p =>
    let mine := ls.filter (fun r => r.src = p)
    let one := ((fullTimes (2 ^ 22) mine).foldl LayerSum.step ⟨[], []⟩).spent
    one.foldl (fun t e => let x := tget t e.1 (0, 0); tset t e.1 (x.1 + e.2.1, x.2 + e.2.2) (0, 0)) t) []

/-- Words 2 and 3 of LAYER_TIME: the layers seen, and the one with the most time, the lowest of several; without a layer
word 3 has no value. -/
def layerTime (rs : List RingRec) (free : Nat) : Nat × Nat :=
  let t := layerTimes rs
  let seen := ((rs.filter (fun r => decide (r.ty = 0x0C) || decide (r.ty = 0x0D))).map (fun r => r.payload % 2 ^ 16)).eraseDups
  let best := t.foldl (fun (a : Option (Nat × Nat)) e => match a with
    | none => some (e.1, e.2.1)
    | some b => if b.2 < e.2.1 then some (e.1, e.2.1) else a) none
  (seen.length, match best with | some b => b.1 + min (2 ^ 47 - 1) b.2 * 2 ^ 16 | none => free)

/-! ## LOSS_SUM -/

/-- Words and records lost, saturating. -/
def lossSum (rs : List RingRec) : Nat × Nat :=
  let ws := rs.filter (fun r => decide (r.ty = 3))
  (ws.foldl (fun a r => satAdd (2 ^ 64 - 1) a (bits (r.w 1) 32 32)) 0,
   ws.foldl (fun a r => satAdd (2 ^ 64 - 1) a (bits (r.w 2) 0 32 + bits (r.w 2) 32 32 + bits (r.w 3) 0 32)) 0)

/-! ## SCALE_HEALTH -/

/-- Events of a tensor ID: instances, mismatches, and excursions of the kinds 0 to 2. -/
def healthOf (rs : List RingRec) (tid : Nat) : List Nat :=
  let mine := rs.filter (fun r => decide (r.payload % 2 ^ 16 = tid))
  let exc := mine.filter (fun r => decide (r.ty = 0x24))
  [mine.countP (fun r => decide (r.ty = 0x21)), mine.countP (fun r => decide (r.ty = 0x23))] ++
    (List.range 3).map (fun k => exc.countP (fun r => decide (bits r.payload 17 3 = k)))

/-- A rate of SCALE_HEALTH is above the parameter, in events per 1,000 instances (R400); events without an instance have
no rate, and leave the alarm open where no other rate sets it. -/
def scaleAlarm (rs : List RingRec) (thr : Nat) (free : Bool) : Bool :=
  let tids := ((rs.filter (fun r => [0x21, 0x23, 0x24].contains r.ty)).map (fun r => r.payload % 2 ^ 16)).eraseDups
  let hs := tids.map (healthOf rs)
  hs.any (fun h => decide (0 < h.headD 0) && (h.drop 1).any (fun n => decide (thr * h.headD 0 < n * 1000))) ||
    (hs.any (fun h => decide (h.headD 0 = 0) && (h.drop 1).any (fun n => decide (0 < n))) && free)

/-! ## REDUCE and GEMM (R299) -/

/-- Vectors of an array: as many elements as a vector of its format has lanes. -/
def vectorsOf (code : Nat) (vs : List FVal) : List (List FVal) :=
  (List.range ((vs.length + laneCount code - 1) / laneCount code)).map (fun i => (vs.drop (i * laneCount code)).take (laneCount code))

/-- An accumulator over the sums of several vectors, in order: its pattern, and a saturation. -/
def accVectors (code : Nat) (vecs : List (List FVal)) : Nat × Bool :=
  vecs.foldl (fun (a : Nat × Bool) v => let r := accAdd (accKind code) a.1 (sumV v); (r.1, a.2 || r.2)) (0, false)

/-- The sum of an array over n cores: its vectors dealt to the cores in turn, in ascending order on each, then across the
cores in ascending logical index (R299, log 33); the accumulator's pattern, and a saturation. -/
def sumOver (code n : Nat) (vs : List FVal) : Nat × Bool :=
  let vecs := vectorsOf code vs
  let parts := (List.range n).map (fun l => accVectors code ((vecs.mapIdx (fun i v => (i, v))).filterMap (fun e => if e.1 % n = l then some e.2 else none)))
  parts.foldl (fun (a : Nat × Bool) p =>
    let r := accAdd (accKind code) a.1 (laneVal (accKind code).code p.1)
    (r.1, a.2 || p.2 || r.2)) (0, false)

/-- The pattern of an accumulator as FP64. -/
def accFp64 (code x : Nat) : Nat := encode 14 .rne false (laneVal (accKind code).code x)

/-- C = A × B, its elements by rows, and a saturation: A is M × K and B K × N, each by rows (R400, log 33). -/
def gemm (code m n k : Nat) (a b : List FVal) : List FVal × Bool :=
  let at_ := fun (l : List FVal) (i : Nat) => l.getD i (.fin 0 false)
  ((List.range (m * n)).foldl (fun (acc : List FVal × Bool) e =>
    let i := e / n
    let j := e % n
    let r := accVectors code (vectorsOf code ((List.range k).map (fun t => mulV (at_ a (i * k + t)) (at_ b (t * n + j)))))
    (laneVal (accKind code).code r.1 :: acc.1, acc.2 || r.2)) ([], false)) |> fun r => (r.1.reverse, r.2)

end Sys2Proof.Machine
end

