-- ==== Sys2Proof/Machine/OpEnd.lean ====
section
/-! DEFINITION. OP_COMPLETE (R294 to R297): what library ops answer, the comparison of duplicated execution (R308, R309)
and the ends of ops that stopped (R307, R314, R320). Results whose bits the manual does not state are free (R302, log 13). -/

namespace Sys2Proof.Machine

/-! ## What a library op has read -/

/-- A DRAM input's bytes and poison, and the state after their delivery; none while they are on their way. -/
def State.dramIn (s : State) (r : Running) (j : Nat) : Option ((List Byte × Bool) × State) :=
  if inSpace r.op.desc j = 5 then (s.inputBytes r j 0 (inLen r.op.desc j)).map (fun g => ((g.1, g.2.1), g.2.2)) else some (([], false), s)

/-- Byte offset and length of a STATE input (R286). -/
def stateOff (d : List W32) (j : Nat) : Nat := (d.getD (8 + 4 * j) 0).toNat

def isState (d : List W32) (j : Nat) : Bool := decide (inSpace d j = 6)

/-- A STATE input lies in the owner's partition (R307). -/
def State.stateFits (s : State) (r : Running) (j : Nat) : Bool :=
  !isState r.op.desc j || decide (stateOff r.op.desc j + inLen r.op.desc j ≤ (s.stUnits r.op.owner).length * 4096)

/-- Places in the state region of the bytes of a STATE input. -/
def State.statePlaces (s : State) (r : Running) (j : Nat) : List Nat :=
  if isState r.op.desc j then (List.range (inLen r.op.desc j)).map (fun i => s.statePlace r.op.owner (stateOff r.op.desc j + i)) else []

/-- A STATE input's bytes, core after core. -/
def State.stateIn (s : State) (r : Running) (j : Nat) : List Byte :=
  r.cores.flatMap (fun c => (s.statePlaces r j).map (fun a => tget (s.core c).store a 0))

/-- A STATE input holds a word that reads poisoned (R315). -/
def State.stateBad (s : State) (r : Running) : Bool × State :=
  r.cores.foldl (fun (a : Bool × State) c =>
    ((s.statePlaces r 0 ++ s.statePlaces r 1).map (fun p => 24576 + p / 16)).eraseDups.foldl (fun (a : Bool × State) w =>
      let f := a.2.fetch (12 + c) w 1
      (a.1 || f.1 || (s.core c).psn.contains w, f.2)) a) (false, s)

/-- A library op names a model. -/
def Running.usesModel (r : Running) : Bool := flag (r.op.desc.getD 1 0) 5

/-- The model that a library op names, while its slot is loaded. -/
def State.libModel (s : State) (r : Running) : Option Loaded :=
  if r.usesModel then s.loaded? r.op.owner (dfld r.op.desc 1 0 5) else none

/-- The streamed weights of a library op, none while some are on their way: whether all verified, whether some came
poisoned, and their bytes (R320). -/
def State.pagesIn (s : State) (r : Running) : Option (Bool × Bool × List Byte) :=
  match s.libModel r with
  | some l =>
    if l.streamed then
      let bs := (List.range ((l.wBytes + 4079) / 4080)).map (fun i => s.stagedBlock r.op.owner (dfld r.op.desc 1 0 5) l i)
      if bs.any Option.isNone then none
      else some (bs.all (fun b => match b with | some (some _, _) => true | _ => false), bs.any (fun b => match b with | some (_, p) => p | none => false),
        bs.flatMap (fun b => match b with | some (some t, _) => t | _ => []))
    else some (true, false, [])
  | none => some (true, false, [])

/-- The resident words of a library op's model are read: whether one is poisoned (R315, R445). -/
def State.modelRead (s : State) (r : Running) : Bool × State :=
  match s.libModel r with
  | some l => s.readModelWords l (List.range ((l.plain.length + 15) / 16))
  | none => (false, s)

def State.streamsWeights (s : State) (r : Running) : Bool :=
  match s.libModel r with
  | some l => l.streamed && decide (0 < l.wBytes)
  | none => false

/-- The records of an op's inputs. -/
def Running.recs (r : Running) : List RingRec := (r.op.i0.recs ++ r.op.i1.recs).map Prod.snd

/-! ## Results of the library (R297) -/

/-- The elements of an array in a format, packed from bit 0 of its first byte. -/
def elemsOf (f : Nat) (bs : List Byte) : List FVal :=
  let x := ofLe bs
  (List.range (bs.length * 8 / laneWidth f)).map (fun i => laneVal f (bits x (laneWidth f * i) (laneWidth f)))

/-- Elements packed in a format. -/
def packElems (f : Nat) (rnd : Rnd) (sat : Bool) (vs : List FVal) : List Byte :=
  let n := vs.foldr (fun v a => a * 2 ^ laneWidth f + encode f rnd sat v) 0
  leBytes ((vs.length * laneWidth f + 7) / 8) n

/-- What the op computes: words 2 and 3 without the alarm, the alarm, the bytes of its result stream, and its SAT status
(R299). -/
structure LibOut where
  w2 : Nat
  w3 : Nat
  alarm : Bool
  out : List Byte
  sat : Bool
  deriving DecidableEq, Repr

def descRnd (d : List W32) : Rnd := if flag (d.getD 0 0) 25 then .rtz else .rna

/-- Free bytes of a result stream, within what the op may write and one byte beyond (R292). -/
def freeBytes (op : Nat) (args : List W64) (n : Nat) : List Byte :=
  (List.range n).map (fun i => BitVec.ofNat 8 (Config.libResult op args (i + 4)).toNat)

/-- Words 2 and 3 of the record ops 0x00 to 0x07 and 0x14; `args` is all that the op has read. -/
def State.recordOp (s : State) (op : Nat) (rs : List RingRec) (args : List W64) : Nat × Nat :=
  let f := fun i => (Config.libResult op args i).toNat
  let interval := fun (p : Nat) => 2 ^ (s.probe p).cfg.tallyK
  let units := fun (p : Nat) => (s.probeInt p).2.1
  match op with
  | 0x00 => topdown rs (f 0)
  | 0x01 => latHist rs (f 1)
  | 0x02 => (meanFraction 2 interval units rs (f 0), meanFraction 3 interval units rs (f 1))
  | 0x03 => layerTime rs (f 1)
  | 0x06 => lossSum rs
  | _ => (f 0, f 1)

/-- What a library op reads of its model: its identity, the format of its weights, its resident bytes and its streamed
weights. -/
def State.modelArgs (s : State) (r : Running) (far : List Byte) : List W64 :=
  match s.libModel r with
  | some l => [BitVec.ofNat 64 l.modelId.toNat, BitVec.ofNat 64 l.wfmt, BitVec.ofNat 64 l.wOff, BitVec.ofNat 64 l.wBytes] ++ words64 l.plain ++ words64 far
  | none => []

/-- A library op's result; `far` are its streamed weights. -/
def State.libRun (s : State) (r : Running) (d0 d1 far : List Byte) : LibOut :=
  let d := r.op.desc
  let op := opCode d
  let st0 := s.stateIn r 0
  let st1 := s.stateIn r 1
  let a0 := if isState d 0 then st0 else d0
  let a1 := if isState d 1 then st1 else d1
  let fmt := dfld d 0 21 4
  let args := d.map (fun x => BitVec.ofNat 64 x.toNat) ++ r.recs.flatMap (·.words) ++ words64 a0 ++ words64 a1 ++ s.modelArgs r far ++ (if op = 0x12 then s.driftArgs else [])
  let f := fun i => (Config.libResult op args i).toNat
  let trained := (st0 ++ st1).any (fun b => decide (b ≠ 0))
  let words := s.recordOp op r.recs args
  let base : LibOut := ⟨words.1, words.2, false, [], false⟩
  let free := freeBytes op args (f 2 % (4032 * blockLimit d + 2))
  match op with
  | 0x08 => { base with alarm := trained && Config.libAlarm op args, out := free }
  | 0x09 => let dist := f 0 % 2 ^ 63; ⟨dist, f 1, trained && decide (dfld d 16 0 16 < dist), free, false⟩
  | 0x0A => { base with alarm := scaleAlarm r.recs (dfld d 16 0 16) (Config.libAlarm op args), out := free }
  | 0x0B => { base with w3 := f 1 % 2 ^ 16 + f 1 / 2 ^ 32 * 2 ^ 32, alarm := trained && Config.libAlarm op args, out := free }
  | 0x0C => { base with alarm := trained && Config.libAlarm op args, out := free }
  | 0x0E => { base with alarm := Config.libAlarm op args, out := free }
  | 0x13 => ⟨42, f 1, (s.predict (decide (r.op.survey = 4)) (s.wearModel d)).2.any (fun e => s.atWarning e.2), free, false⟩
  | 0x15 =>
    let c := gemm fmt (dfld d 16 0 16) (dfld d 16 16 16) (dfld d 17 0 16) (elemsOf fmt a0) (elemsOf fmt a1)
    { base with out := packElems (dfld d 18 0 4) (descRnd d) (flag (d.getD 0 0) 26) c.1, sat := c.2 }
  | 0x16 =>
    let vs := elemsOf fmt a0
    let m : FVal := vs.foldl (fun a v => let b := absV v; if ltV a b then b else a) (.fin 0 false)
    let sum := sumOver fmt r.cores.length vs
    { base with w2 := accFp64 fmt sum.1, w3 := if vs.any FVal.isNan then canonNan 14 (f 1 % 2 ^ 64) else encode 14 .rne false m, out := free, sat := sum.2 }
  | 0x17 => { base with out := packElems (dfld d 16 0 4) (descRnd d) (flag (d.getD 0 0) 26) (elemsOf fmt a0) }
  | _ => { base with out := free }

/-- A detector leaves new statistics in its STATE inputs (R297): their bytes are not stated. -/
def State.updateState (s : State) (r : Running) : State :=
  if [0x08, 0x09, 0x0B, 0x0C].contains (opCode r.op.desc) then
    r.cores.foldl (fun (s : State) c => (s.statePlaces r 0 ++ s.statePlaces r 1).foldl (fun (s : State) a =>
      let v := s.fresh
      let x := v.2.core c
      v.2.setCore c { x with store := tset x.store a (BitVec.ofNat 8 v.1) 0 }) s) s
  else s

/-! ## The end -/

/-- The second run of a duplicated op: index L on the core of index L + C / 2 (R308). -/
def rotated (cores : List Nat) : List Nat :=
  let n := cores.length
  (List.range n).map (fun l => cores.getD ((l + n / 2) % n) 0)

/-- An op whose last run is over with these result words (R292, R308, R309). -/
def State.opDone (s : State) (r : Running) (w2 w3 : Nat) : State :=
  let r := { r with w2 := BitVec.ofNat 64 w2, w3 := BitVec.ofNat 64 w3 }
  let s := s.setRun r
  let res : RunResult := ⟨r.w2, r.w3, r.outs, r.sat⟩
  let end_ := fun (s : State) (r : Running) =>
    if descDram r.op.desc && decide (4032 * blockLimit r.op.desc < r.stream.1.length) then s.finishOp r 0x31 w2 w3 true
    else s.finishOp r 0 w2 w3 true
  if !r.dup then end_ s r
  else match r.firstRun with
    | none =>
      let cs := rotated r.cores
      ((s.giveStores cs r.stores)).restart { r with cores := cs, firstRun := some res }
    | some first =>
      let cs := (List.range 16).filter (fun c => r.cores.contains c)
      let t := s.saveStores r.cores
      if first = res then end_ (s.giveStores cs t) { r with cores := cs }
      else if r.dupFails = 0 then
        ((s.setRun { r with cores := cs, dupFails := 1 }).raiseAs 0x701 0 r.op.seq.toNat (some 1) s.ts).reExec
      else ((s.giveStores cs t).raiseAs 0x701 0 r.op.seq.toNat (some 2) s.ts).finishOp { r with cores := cs } 0x7F 0 0 false

/-- The streams an op captures are still open (R290). -/
def State.stillCaptures (s : State) (r : Running) : Bool :=
  [0, 1].any (fun j => decide (inSpace r.op.desc j = 1) && r.captures s.now j)

/-- A library op has read its inputs: it ends (R297, R315, R320). -/
def State.libDone (s : State) (r : Running) (d0 d1 : List Byte × Bool) (pages : Bool × Bool × List Byte) : State :=
  let streamed := s.streamsWeights r
  let r := { r with streamed := streamed }
  if r.usesModel && (s.libModel r).isNone then s.finishOp r 0x12 0 0 false
  else if !pages.1 then (s.finishOp r 0x40 0 0 false).raise 0x704 (dfld r.op.desc 1 0 5) r.op.owner
  else if !s.stateFits r 0 || !s.stateFits r 1 then s.finishOp r 0x12 0 0 false
  else
    let b := s.stateBad r
    let s := b.2
    if b.1 then s.reExec
    else
      let m := s.modelRead r
      let s := m.2
      let l := s.libRun r d0.1 d1.1 pages.2.2
      let bad := d0.2 || d1.2 || pages.2.1 || m.1 || r.recs.any (·.bad)
      let out := if descDram r.op.desc then l.out else []
      let r := { r with
        outs := tset [] 0 out [], poison := bad, sat := l.sat
        outBad := if bad then (List.range ((out.length + 255) / 256)).map (fun i => (0, i)) else [] }
      let w2 := if hasAlarm (opCode r.op.desc) then l.w2 % 2 ^ 63 + b2n l.alarm * 2 ^ 63 else l.w2
      let s := if r.dup && r.firstRun.isNone then s else s.updateState r
      s.opDone r w2 l.w3

/-- OP_COMPLETE (R294): the running op ends when it has stopped, when every core has halted, or, of the library, when its
inputs are complete. -/
def execOpComplete (s : State) : Res :=
  .next <| match s.ch.run with
  | none => s
  | some r =>
    match r.failed with
    | some (st, idx) => s.finishOp { r with poison := r.poison && decide (st.toNat = 0x31) } st.toNat (if st.toNat = 0x12 then idx % 2 ^ 16 else if st.toNat = 0x31 then r.w2.toNat else 0) 0 (decide (st.toNat = 0x31))
    | none =>
      if opCode r.op.desc = 0xFF then
        if r.cores.all (fun c => (s.core c).halted) then s.opDone r r.w2.toNat r.w3.toNat else s
      else if s.stillCaptures r then s
      else match s.pagesIn r, s.dramIn r 0, s.dramIn r 1 with
        | some p, some d0, some _ => (match d0.2.dramIn r 1 with
          | some d1 => d1.2.libDone r d0.1 d1.1 p
          | none => s)
        | _, _, _ => s

end Sys2Proof.Machine
end

