-- ==== Sys2Proof/Machine/Context.lean ====
section
/-! DEFINITION. The context that LAID_UP saves (R12, R349), its seal, and what the domains that switch off lose (R43, R345). -/

namespace Sys2Proof.Machine

/-! ## The image that the seal covers: every saved value in order, each behind its length (DESIGN CHOICE, log 94) -/

def KState.code : KState → Nat
  | .free => 0 | .current => 1 | .next => 2 | .retiring => 3 | .dead => 4

def ChState.code : ChState → Nat
  | .inactive => 0 | .active => 1 | .ending => 2

def natImage (n : Nat) : List Byte := leBytes 4 (n.log2 / 8 + 1) ++ leBytes (n.log2 / 8 + 1) n

def intNats (i : Int) : List Nat := [b2n (decide (i < 0)), i.natAbs]

def ratNats (q : Rat) : List Nat := intNats q.num ++ [q.den]

/-- A table: its length, then each key with its values. -/
def tabNats {α : Type} (f : α → List Nat) (t : Tab α) : List Nat := t.length :: t.flatMap (fun e => e.1 :: f e.2)

def listNats (l : List Nat) : List Nat := l.length :: l

def KeySlot.nats (k : KeySlot) : List Nat := [k.st.code, k.key.toNat, k.owner, k.kind, k.link]

def Filter.nats (f : Filter) : List Nat :=
  [f.priv.toNat, b2n f.charterEn, f.charter.toNat, f.midMatch.toNat, f.midMask.toNat, f.classMask.toNat, f.rangeSel.toNat, b2n f.rangeInv]

def Pmc.nats (p : Pmc) : List Nat := p.event.toNat :: b2n p.ovfRec :: b2n p.ovfIrq :: p.flt.nats

def Sampler.nats (x : Sampler) : List Nat := b2n x.enable :: b2n x.dither :: x.n :: x.k :: x.flt.nats

def ProbeCfg.nats (c : ProbeCfg) : List Nat :=
  [c.fixedOwner, c.samplerOwner, c.cmdOwner, c.edgeOwner, c.enable.toNat, c.tallyK, b2n c.cmdOn, c.rise.toNat, c.fall.toNat, c.period,
    b2n c.frame, b2n c.cswitch, c.latThr, c.seed.toNat] ++
  tabNats (fun o => [o]) c.pmcOwner ++ tabNats (fun o => [o]) c.rangeOwner ++ tabNats (fun r => [r.1, r.2]) c.ranges ++
  tabNats Pmc.nats c.pmc ++ c.sampler.nats ++ c.cmdFlt.nats

def Safety.nats (x : Safety) : List Nat :=
  [b2n x.enable, x.qfmt.toNat, b2n x.asym, b2n x.rtz, x.tol, x.zpTol, x.mmClass, x.excMax, b2n x.ledger]

def Measure.nats (x : Measure) : List Nat :=
  intNats x.histLo ++ [b2n x.rowRec, b2n x.hist, b2n x.table, x.k, x.tSat, x.tZero, x.nMin, x.actions.toNat, x.fclass]

/-- A dump slot; none of its dumps is running when LAID_UP is chosen (R353). -/
def Watch.nats (w : Watch) : List Nat :=
  [w.owner, b2n w.armed, w.left, w.seen, w.blocks, w.cfg.taps.toNat, w.cfg.trigger, b2n w.cfg.rowtab, w.cfg.log2, w.cfg.tid.toNat,
    w.cfg.mask.toNat, w.cfg.n, w.cfg.first.toNat, w.cfg.last.toNat, w.cfg.base]

/-- An owner's export; its lighter has been closed (R229). -/
def Export.nats (e : Export) : List Nat :=
  [b2n e.dram, b2n e.stp, e.weight, e.base, e.log2, e.seq, e.widx, e.lastGen.toNat] ++ listNats e.doneSeqs ++ listNats e.ring

def LkPolicy.nats (p : LkPolicy) : List Nat :=
  [p.depth.code, p.guard, p.thrMoored, p.thrLaid, b2n p.coresIdleOff, p.pswGap, p.pswTimeout, p.coolant]

def Saved.nats (c : Saved) : List Nat :=
  tabNats KeySlot.nats c.slots ++
  tabNats (fun (k : Option W256) => match k with | none => [0] | some k => [1, k.toNat]) c.kek ++
  tabNats (fun x => [ChState.code x]) c.st ++ tabNats (fun n => [n]) c.keygen ++ tabNats ProbeCfg.nats c.probes ++
  tabNats Safety.nats c.safety ++ tabNats Measure.nats c.measure ++ tabNats (fun n => [n]) c.cnt ++ tabNats (fun n => [n]) c.gmm ++
  tabNats (fun n => [n]) c.base ++ tabNats Watch.nats c.watch ++ tabNats (fun n => [n]) c.dumpNo ++
  tabNats (fun n => [n]) c.weights ++ tabNats (fun n => [n]) c.quota ++ tabNats Export.nats c.exp ++ listNats c.mgr ++
  tabNats (fun (v : BitVec 4) => [v.toNat]) c.ledger.cmask ++ [c.ledger.post, c.ledger.limit, c.ledger.permit.toNat] ++
  ratNats c.f ++ ratNats c.integral ++ [c.kp.toNat, c.ki.toNat, c.period] ++ c.policy.nats

/-- The seal of a context: HMAC-SHA-256 under the key of label 0x04 (R411). -/
def Saved.mac (c : Saved) : W256 := Config.hmac (Config.keyStore 4) (c.nats.flatMap natImage)

/-! ## Saving and restoring -/

/-- What the Keeper writes to the context save area before LAID_UP (R349). -/
def State.save (s : State) : Saved :=
  { slots := s.chart.slots, kek := s.chart.kek, st := s.chart.st, keygen := s.chart.keygen
    probes := s.probes.map (fun (e : Nat × Probe) => (e.1, e.2.cfg))
    safety := s.assay.safety, measure := s.assay.measure, cnt := s.assay.cnt, gmm := s.assay.gmm, base := s.assay.base
    watch := s.assay.slots, dumpNo := s.assay.dumpNo, weights := s.canal.weights, quota := s.basins.quota, exp := s.exp
    mgr := [s.mgr.cap, s.mgr.share, s.mgr.prioS, s.mgr.prioO, s.mgr.flush], ledger := s.ledger.cfg
    f := s.time.f, integral := s.time.integral, kp := s.time.kp, ki := s.time.ki, period := s.time.period, policy := s.lk.policy }

/-- The context is sealed into the retained region; without the key (R411) there is none. -/
def State.seal (s : State) : State :=
  let s := s.askKey 4
  { s with lk := { s.lk with ctx := if s.io.ksErr then none else some ⟨s.save, s.save.mac⟩ } }

/-- The context verifies (R349). -/
def Context.good (c : Context) : Bool := decide (c.mac = c.saved.mac)

/-- The restore at the exit (R349); the manager settings are those that `State.save` lists. -/
def State.restoreCtx (s : State) (c : Saved) : State :=
  { s with
    chart := { s.chart with slots := c.slots, kek := c.kek, st := c.st, keygen := c.keygen }
    probes := s.probes.map (fun (e : Nat × Probe) => (e.1, { e.2 with cfg := tget c.probes e.1 e.2.cfg }))
    assay := { s.assay with
      safety := c.safety, measure := c.measure, cnt := c.cnt, gmm := c.gmm, base := c.base, slots := c.watch, dumpNo := c.dumpNo }
    canal := { s.canal with weights := c.weights }, basins := { s.basins with quota := c.quota }, exp := c.exp
    mgr := { s.mgr with
      cap := c.mgr.getD 0 s.mgr.cap, share := c.mgr.getD 1 s.mgr.share, prioS := c.mgr.getD 2 s.mgr.prioS
      prioO := c.mgr.getD 3 s.mgr.prioO, flush := c.mgr.getD 4 s.mgr.flush }
    ledger := { s.ledger with cfg := c.ledger }
    time := { s.time with f := c.f, integral := c.integral, kp := c.kp, ki := c.ki, period := c.period }
    lk := { s.lk with policy := c.policy, ctx := none } }

/-! ## Domains off -/

/-- D22 switches off at the entry to LAID_UP: the snapshot registers and shadows are lost (R345, R514), and its credits of
the manager port with them (R43, R71; DEDUCED, log 93). -/
def State.loseD22 (s : State) : State :=
  (s.probes.map Prod.fst).foldl (fun (s : State) p =>
    s.modProbe p (fun x => { x with shadow := { Shadow.zero with snapNo := x.shadow.snapNo } }))
    { s with win := { s.win with snap := [] }, mgr := { s.mgr with reqCredits := 0, wdCredits := 0 }, io := { s.io with mwd := none } }

/-- D23 switches off: the assay's instances end and its outputs are at their reset values (R43). -/
def State.loseD23 (s : State) : State :=
  (List.range 4).foldl (fun s t => s.modTap t (fun x => { x with req := false, reqTid := 0 })) s.assayOff

/-- The ports of the switched island of D0 while it is off (R43, R44). -/
def Io.islandOff (io : Io) : Io :=
  { io with
    lbSck := false, lbCsN := true, lbIo := none, lbRstN := false, ksReq := false, ksLabel := 0
    fuseReq := false, fuseWr := false, fuseAddr := 0, fuseWdata := 0, txc0 := true, txc1 := true }

/-- The entry to LAID_UP: the context is sealed, then D22, D23 and the island switch off (R12, R345, R349). -/
def State.layUp (s : State) : State :=
  let s := s.seal.loseD22.loseD23
  { s with io := s.io.islandOff }

/-- What LAID_UP lost (R278, R281, R345, R359): the switched banks and the cores. LB_RST_N is released again (R87). -/
def State.afterLaidUp (s : State) : State :=
  let s := ((List.range 34).filter (fun b => !(decide (8 ≤ b) && decide (b ≤ 11)) && decide (b ≠ 30) && decide (b ≠ 33))).foldl State.bankOff s
  { s with
    ch := { s.ch with cores := [], domOn := 0 }
    io := { s.io with lbRstN := true } }

end Sys2Proof.Machine
end

