-- ==== Sys2Proof/Machine/Sleep.lean ====
section
/-! DEFINITION. The block's own power states (R344 to R358). -/

namespace Sys2Proof.Machine

/-! ## The horizon (R350, R351) -/

/-- The instant at which CVT reaches a value in qt; now when it is past. -/
def State.atQt (s : State) (q : Nat) : Nat := s.now + (q - s.ts + 3) / 4

/-- The predicted FRAME_SYNC edge or the next scheduled start. -/
def State.predictedAt (s : State) : List Nat :=
  match s.frame.schedule with
  | some sch => [s.nextStart sch]
  | none => s.frame.predicted.toList

/-- A probe counts in an armed set while its host domain is on (R23), and not where the handshake of the domain timed out
(R363). -/
def State.armedOn (s : State) : Bool :=
  s.probes.any (fun e => s.armed e.1 && s.probePowered e.1 && !(match s.probeDom e.1 with | some h => (s.dom h).timedOut | none => false))

/-- Known events that count for every state. -/
def State.knownEvents (s : State) : List Nat :=
  s.predictedAt ++ s.frame.due.map Prod.fst ++
  s.ch.standing.flatMap (fun x => if opRepeat x.desc = 2 then [s.atQt x.nextTs] else s.predictedAt) ++
  s.probes.filterMap (fun e =>
    let per := 4000 * e.2.cfg.period
    if per = 0 || !s.probeLive e.1 then none else some (s.atQt ((s.ts / per + 1) * per))) ++
  s.esl.held.map (fun h => s.now + (h.instant - s.time.cvt + 2 ^ 40 - 1) / 2 ^ 40) ++
  [s.survey.tickAt + s.survey.period * 1000000000] ++
  [s.time.lastServoAt + s.time.period * 1000] ++
  (if s.env.report.isSome then [s.env.reportAt + s.lk.policy.coolant * 1000000].filter (fun t => decide (s.now < t)) else []) ++
  s.exp.filterMap (fun e => e.2.openL.map (fun l => l.openAt + s.mgr.flush * 1000)) ++
  (if s.ledger.st = .post then [s.ledger.t0At + s.ledger.cfg.limit * 1000] else [])

/-- Known events that count for SLACK only. -/
def State.slackEvents (s : State) : List Nat :=
  s.canal.streams.filterMap (fun e => if e.2.active then some (s.atQt (e.2.lastSync + 1048000)) else none) ++
  (if (List.range 3).any (fun j => decide ((s.peer j).active ≠ 0)) then [s.now + (125000 - s.now % 125000)] else [])

def earliest (ts : List Nat) : Option Nat :=
  ts.foldl (fun (a : Option Nat) t => match a with | none => some t | some b => some (min b t)) none

/-- The horizon in ns (R350); without a known event, the largest value of the record. -/
def State.horizonOf (s : State) (ev : Option Nat) : Nat :=
  match ev with
  | none => 2 ^ 32 * 40
  | some t => t - s.now - s.lk.policy.guard * 1000

/-! ## The conditions (R353) -/

/-- A Keeper task or other work on a fast clock. -/
def State.busyWork (s : State) : Bool :=
  s.ch.run.isSome || !s.ch.queue.isEmpty || !s.ch.loads.isEmpty || s.esl.apt.any (fun e => e.2.closed) || !s.esl.waiting.isEmpty ||
  s.esl.jobs.any (fun j => decide (j.op ≠ trialOp)) || !s.ledger.jobs.isEmpty || s.chart.turnover.isSome || !s.fc.pend.isEmpty ||
  !s.canal.q.isEmpty || !s.canal.pound.isEmpty || !s.canal.losses.isEmpty || !s.canal.acc.isEmpty || !s.canal.closed.isEmpty ||
  !s.mgr.wait.isEmpty || !s.mgr.out.isEmpty || s.assay.busy || s.assay.writing || !s.assay.engine.isEmpty ||
  !s.assay.staging.isEmpty || !s.assay.ending.isEmpty || s.assay.slots.any (fun e => e.2.run.isSome) ||
  s.lk.doms.any (fun e => e.2.due.isSome) || s.survey.shadow.isSome || s.lb.update.any (fun u => decide (u.programmed < u.bytes.length)) ||
  decide (s.ledger.st = .frozen)

/-- A PSW handshake is open: the block's state does not change (R363). -/
def State.handshakeOpen (s : State) : Bool := s.lk.doms.any (fun e => e.2.openAt.isSome)

def State.basinCells (s : State) : Nat :=
  s.basins.charterQ.foldl (fun a e => a + e.2.length) 0 + s.basins.prioQ.foldl (fun a e => a + e.2.length) 0

/-- Every owner with records in the basins can export them. -/
def State.canDrain (s : State) : Bool :=
  (s.basins.charterQ ++ s.basins.prioQ).all (fun e => e.2.isEmpty || s.hasDest e.1)

/-- The basin drain in ns at the cap: 64 bytes a cell (R210), cap / 2 bytes a ns (R15, R229). -/
def State.drainNs (s : State) : Nat := s.basinCells * 128 / max 1 s.mgr.cap

/-- The deepest state that the conditions allow at a horizon (R353). -/
def State.deepest (s : State) (h : Nat) : Power :=
  if s.busyWork || (decide (0 < s.basinCells) && decide (h ≤ s.lk.policy.thrMoored * 1000)) then .underway
  else if s.armedOn || (List.range 4).any s.tapEnabled || s.svc.present || s.time.step.isSome ||
      s.handshakeOpen then .slack
  else if !s.ch.slots.isEmpty || !s.ch.standing.isEmpty || !s.canDrain || decide (h < s.drainNs) then .moored
  else .laidUp

/-- The threshold of a state in ns (R344, R354). -/
def State.threshold (s : State) : Power → Nat
  | .underway => 0
  | .slack => 500
  | .moored => s.lk.policy.thrMoored * 1000
  | .laidUp => s.lk.policy.thrLaid * 1000

/-- Exit latency in ns (R344). -/
def exitNs : Power → Nat
  | .underway => 0 | .slack => 50 | .moored => 30000 | .laidUp => 1800000

/-- The choice of R352: the state and its horizon. -/
def State.choose (s : State) : Power × Nat :=
  let all := earliest s.knownEvents
  let near := earliest (s.knownEvents ++ s.slackEvents)
  let h := s.horizonOf all
  let hs := s.horizonOf near
  let ok := fun (p : Power) (x : Nat) => decide (p.code ≤ s.lk.policy.depth.code) && decide (s.threshold p < x) && decide (p.code ≤ (s.deepest x).code)
  if ok .laidUp h then (.laidUp, h) else if ok .moored h then (.moored, h) else if ok .slack hs then (.slack, hs) else (.underway, h)

/-! ## Entry -/

/-- A state is reached: residency and the wake timer (R355, R521). -/
def State.reach (s : State) (p : Power) : State :=
  { s with
    lk := { s.lk with
      st := p, entering := none
      wakeAt := s.lk.knownAt.map (fun k => k - s.lk.policy.guard * 1000 - exitNs p) }
    clk := { s.clk with resEntries := tset s.clk.resEntries p.code (satAdd (2 ^ 32 - 1) (tget s.clk.resEntries p.code 0) 1) 0 } }

/-- The CVT, in 2^-40 ns, at which a chip expects to wake (R131); none without a known event. -/
def State.wakeCvt (s : State) (known : Option Nat) : Option Nat := known.map (fun k => s.time.cvt + (k - s.now) * 2 ^ 40)

/-- POWER_STATE_CHOICE (R131, R346, R352, R358): SLACK is entered at once, and TCLK stops there but under R23; the way to
MOORED or LAID_UP begins with its record, the announcement to the peers, and the lighters closed. -/
def execPowerStateChoice (s : State) : Res :=
  .next <|
  if (s.dev.mode ≠ .startup && s.dev.mode ≠ .service) || s.dev.phase ≠ .running || s.dev.restarting || !s.lk.policySet || s.asleep ||
      s.lk.exiting || s.handshakeOpen then s
  else
    let c := s.choose
    let known := if c.1 = .slack then earliest (s.knownEvents ++ s.slackEvents) else earliest s.knownEvents
    match c.1 with
    | .underway => s
    | .slack =>
      let tclk := s.armedOn
      let s := s.settleAll
      let s := ({ s with lk := { s.lk with knownAt := known, horizon := c.2 } }).reach .slack
      { s with clk := { s.clk with stop := !tclk } }
    | p =>
      let s := (s.emitPower p .underway 0 (c.2 / 40) s.ts).announceSleep (s.wakeCvt known)
      let s := { s with lk := { s.lk with entering := some p, knownAt := known, horizon := c.2, heldWake := none } }
      if p = .laidUp then s.drainAll else s.closeAll 2

/-- Awake again, the chip's STATE announces no sleep (R131). -/
def State.hushSleep (s : State) : State := (List.range 3).foldl (fun s j => s.modPeer j (fun p => { p with told := none })) s

/-- Records and requests still on their way keep an entry from completing. -/
def State.entryOpen (s : State) : Bool :=
  !s.canal.q.isEmpty || !s.canal.pound.isEmpty || !s.canal.losses.isEmpty || !s.mgr.wait.isEmpty || !s.mgr.out.isEmpty

/-- SLEEP_ENTRY_COMPLETE (R101, R126, R229, R344, R357): MOORED or LAID_UP is reached once nothing is on its way, and TCLK
stops at the next AON_REF edge; a wake that came meanwhile ends the entry. -/
def execSleepEntryComplete (s : State) : Res :=
  .next <| match s.lk.entering with
  | none => s
  | some p =>
    match s.lk.heldWake with
    | some r =>
      let s := { s with lk := { s.lk with entering := none, heldWake := none, knownAt := none } }
      let s := (s.emitPower .underway p r 0 s.lk.wakeTs).hushSleep
      s.runWaiting
    | none =>
      if s.entryOpen || s.handshakeOpen then s
      else if p = .laidUp && decide (0 < s.basinCells) then s.drainAll
      else
        let s := (List.range 139).foldl State.stopStreams s.settleAll
        let s := (if p = .laidUp then s.layUp else s).reach p
        { s with clk := { s.clk with stop := true } }

/-! ## Wake and exit -/

/-- WAKE_TIMER (R355). -/
def execWakeTimer (s : State) : Res :=
  .next <| match s.lk.wakeAt with
  | none => s
  | some t =>
    if decide (s.lk.st = .underway) || s.lk.exiting || decide (s.now < t) then s
    else { s with lk := { s.lk with exiting := true, heldWake := some 4, wakeTs := s.ts } }

/-- WAKE_EVENT (R356, R357). -/
def execWakeEvent (kind : WakeKind) (s : State) : Res := .next (s.wake kind)

/-- An input lost while asleep gives HOLDOVER at the wake (R118, R126). -/
def State.lateHoldover (s : State) : State :=
  if s.ident.chip = 0 && s.time.inputLost && (decide (s.time.st = .locked) || decide (s.time.st = .slewing)) then s.enterHoldover else s

/-- The exit from a state: clocks run, LOAD is owed after a stop of TCLK (R124, R126), and the record of R358 (none for
SLACK). -/
def State.rise (s : State) : State :=
  let old := s.lk.st
  let s := { s with
    lk := { s.lk with st := .underway, exiting := false, wakeAt := none }
    time := { s.time with oweLoad := s.time.oweLoad || !s.clk.tclk || decide (old ≠ Power.slack) }
    clk := { s.clk with tclk := true, stop := false, resEntries := tset s.clk.resEntries 0 (satAdd (2 ^ 32 - 1) (tget s.clk.resEntries 0 0) 1) 0 } }
  (if old = Power.slack then s else (s.emitPower .underway old (s.lk.heldWake.getD 0) 0 s.lk.wakeTs).hushSleep).lateHoldover

/-- WAKE_LATE (R355): its detail is the lateness in 40 ns. -/
def State.checkLate (s : State) : State :=
  let late := match s.lk.knownAt with
    | some k => s.now - (k - s.lk.policy.guard * 1000)
    | none => 0
  let s := { s with lk := { s.lk with knownAt := none, heldWake := none } }
  if late = 0 then s else s.raise 0x905 0 (late / 40)

/-- SLEEP_EXIT_COMPLETE (R349, R355, R358): UNDERWAY; after LAID_UP the context is verified and restored, or the block goes
on as after a warm reset; packets launched meanwhile execute in their order (R388). -/
def execSleepExitComplete (s : State) : Res :=
  .next <|
  if !s.lk.exiting || decide (s.lk.st = .underway) || s.handshakeOpen then s
  else
    let laid := decide (s.lk.st = .laidUp)
    let s := if laid then s.askKey 4 else s
    if laid && (s.io.ksErr || !s.lk.ctx.any Context.good) then (s.rise.raise 0x204 0 0).warm 2 false
    else
      let s := if laid then (match s.lk.ctx with
        | some c => (s.restoreCtx c.saved).afterLaidUp
        | none => s) else s
      let s := s.rise.checkLate
      s.runWaiting

end Sys2Proof.Machine
end

