-- ==== Sys2Proof/Machine/Spine.lean ====
section
/-! DEFINITION. Probe output links, pounds, block ports and spine channels (R56, R205 to R207), delivery of records, and the
weir engine (R216 to R218). -/

namespace Sys2Proof.Machine

/-! ## The output link of a probe (R56, R205) -/

/-- The credits a probe holds: one for each free word of its FIFO of 64 words, returned by PRB_CRD (R56, R205, R207). -/
def State.credits (s : State) (p : Nat) : Nat := 64 - qWords (s.poundQ p)

/-! ## Heads -/

/-- What a scan of a source's queue keeps: owners with an earlier record, owners behind a TIME_SYNC, the best so far. -/
structure Scan where
  i : Nat
  seen : List Nat
  shut : List Nat
  best : Option (Nat × Rec)
  deriving DecidableEq, Repr

/-- The head record of a source: of the lowest class, the oldest, where no record passes a TIME_SYNC of its stream, nor
that TIME_SYNC a record of it (R185, R205). A record without room at its queue is held (R222). -/
def headOf (ok : Rec → Bool) (q : List Rec) : Option (Nat × Rec) :=
  (q.foldl (fun (a : Scan) r =>
    let sync := decide (r.ty = 1)
    let free := !a.shut.contains r.owner && !(sync && a.seen.contains r.owner)
    let can := free && ok r
    let better := match a.best with | none => true | some b => decide (r.cls < b.2.cls)
    { i := a.i + 1, seen := r.owner :: a.seen, shut := if sync || !ok r then r.owner :: a.shut else a.shut,
      best := if can && better then some (a.i, r) else a.best }) ⟨0, [], [], none⟩).best

/-- A record of class 0, or one for a priority queue, has room where it goes (R208, R222). -/
def State.roomFor (s : State) (r : Rec) : Bool :=
  if !s.active r.owner then true
  else if r.src = 136 || r.src = 137 then s.prioRoom r
  else if r.cls = 0 then (s.admitTo r).isSome
  else true

/-- The head record of a source: of a probe, the record at the head of its FIFO (R205); of a block source, that of its
queue. -/
def State.srcHead (s : State) (src : Nat) : Option (Nat × Rec) :=
  if src < 128 then (s.poundQ src).head?.map (fun r => (0, r)) else headOf s.roomFor (s.queue src)

/-- The head record leaves its source. -/
def State.takeHead (s : State) (src i : Nat) : State :=
  if src < 128 then s.setPoundQ src ((s.poundQ src).drop 1) else s.setQueue src (removeAt (s.queue src) i)

/-- A probe sends its records over its link as far as its credits reach: the lowest class first, its loss token ahead of the
next record (R167, R205, R219; log 71). -/
def State.linkFill (s : State) (p : Nat) : Nat → State
  | 0 => s
  | n + 1 =>
    match headOf (fun _ => true) (s.queue p) with
    | none => s
    | some (i, r) =>
      if s.credits p < r.len then s
      else
        let s := s.takeToken p
        ((s.setQueue p (removeAt (s.queue p) i)).setPoundQ p (s.poundQ p ++ [r])).linkFill p n

/-- The links of the probes of a channel's pounds. -/
def State.linkAll (s : State) (ch : Nat) : State :=
  ((s.canal.q.map Prod.fst).filter (fun p => decide (p < 128) && decide (p / 16 % 2 = ch))).foldl (fun s p => s.linkFill p 64) s

/-- Requesters of a channel: pounds k with k mod 2 = ch, and block port ch as 8 + ch (R206). -/
def requesters (ch : Nat) : List Nat := (List.range 8).filter (fun k => k % 2 = ch) ++ [8 + ch]

/-- The sources of a requester, in ascending order. -/
def sourcesOf (k : Nat) : List Nat :=
  if k < 8 then (List.range 16).map (fun i => 16 * k + i)
  else if k = 8 then [128, 129, 132, 133, 134] else [130, 131, 135, 136, 137, 138]

/-- The class of a requester's best head record. -/
def State.reqClass (s : State) (k : Nat) : Option Nat :=
  (sourcesOf k).foldl (fun (a : Option Nat) src => match s.srcHead src, a with
    | some h, some c => some (min c h.2.cls)
    | some h, none => some h.2.cls
    | none, a => a) none

/-- The first of some numbers after the last served (plus 1, 0 none), around 139. -/
def nextAfter (cands : List Nat) (last : Nat) : Option Nat :=
  match cands.find? (fun c => decide (last ≤ c)) with
  | some c => some c
  | none => cands.head?

/-- The source a requester presents: the lowest head class, round robin among equals (R205, R206). -/
def State.pickSource (s : State) (k c : Nat) : Option Nat :=
  nextAfter ((sourcesOf k).filter (fun src => match s.srcHead src with | some h => decide (h.2.cls = c) | none => false)) (s.rr k)

/-- The requester a channel grants (R206): round robin in the classes 0 and 1, weighted in 2 and 3. -/
def State.pickReq (s : State) (ch : Nat) : Option (Nat × Nat × Nat) :=
  let rs := (requesters ch).filterMap (fun k => (s.reqClass k).map (fun c => (k, c)))
  let m := rs.foldl (fun a e => min a e.2) 4
  let cands := (rs.filter (fun e => e.2 = m)).map Prod.fst
  if m < 2 then (nextAfter cands (s.rr (10 + ch))).map (fun k => (k, m, 0))
  else (wrrPick cands 10 (s.rr (10 + ch)) (s.credit (10 + ch)) (fun k => tget s.canal.weights k 1)).map (fun e => (e.1, m, e.2))

/-- A record the spine delivers (R14, R207, R220): to the STREAM inputs, the ledger and the basins. Records of a charter
that is not ACTIVE are discarded (R431). -/
def State.deliver (s : State) (r : Rec) : State :=
  let src := r.src.toNat
  let x := s.stream src r.owner
  let quiet := (r.ty = 1 && r.payload.getLsbD 8) || r.ty = 9 || !x.active
  let s := s.setStream src r.owner { x with seen := true, lastDeliv := s.ts, lastTs := r.ts, explained := quiet }
  if s.active r.owner then ((s.streamIn r).ledgerTake r).letIn r else s

/-- A beat of whole records of one source, up to eight words (R205). -/
def State.sendBeat (s : State) (src : Nat) : Nat → Nat → State
  | 0, _ => s
  | n + 1, words =>
    match s.srcHead src with
    | none => s
    | some (i, r) =>
      if 8 < words + r.len then s
      else ((s.takeHead src i).deliver r).sendBeat src n (words + r.len)

/-- BASIN_ADMIT (R205 to R207, R214): records that generators hold leave when they may, the links fill the pounds' FIFOs,
and a channel grants one beat; a block source's loss token comes ahead of its records (R219). -/
def execBasinAdmit (ch : Bool) (s : State) : Res :=
  let c := b2n ch
  if !s.fastClocks then .next s
  else
    let s := (s.payFaults.payTrigger).linkAll c
    match s.pickReq c with
    | none => .next s
    | some (k, m, cr) => match s.pickSource k m with
      | none => .next s
      | some src =>
        let s := ((s.setRr (10 + c) (k + 1)).setCredit (10 + c) cr).setRr k (src + 1)
        .next ((if src < 128 then s else s.takeToken src).sendBeat src 8 0)

/-- WEIR_ACCUM_TIMEOUT (R218): an accumulator closes when 2^16 qt (16,384 ns) pass without a new loss, or its held stream's
partition has drained to 7/8. -/
def execWeirAccumTimeout (idx : Nat) (s : State) : Res :=
  match s.canal.acc[idx]? with
  | none => .next s
  | some w =>
    if !s.fastClocks then .next s
    else if w.lastAt + 16384 ≤ s.now then
      .next { s with canal := { s.canal with acc := removeAt s.canal.acc idx, closed := s.canal.closed ++ [w] } }
    else .next (s.closeHeld w.owner)

/-- The records of source 137 for an owner reach its priority queue, in order (R213); false when one has no room. -/
def State.drain137 (s : State) (o : Nat) : Bool × State :=
  let q := s.queue 137
  (q.filter (fun r => r.owner = o)).foldl (fun a r => (a.1 && a.2.prioRoom r, a.2.deliver r)) (true, s.setQueue 137 (q.filter (fun r => r.owner ≠ o)))

/-- Streams whose mark has been written leave their hold with a resync TIME_SYNC (R216). -/
def State.unhold (s : State) (w : Weir) : State :=
  let srcs := if w.lost = 255 then List.range 139 else [w.lost]
  srcs.foldl (fun s src =>
    let x := s.stream src w.owner
    if x.held && !(s.canal.acc ++ s.canal.closed).any (fun m => m.holds src x.heldOv w.owner) then s.resyncBy src w.owner else s) s

/-- WEIR_MARK_WRITE (R218): the oldest closed mark goes to its owner's priority queue, at most one per 128 ns. Without room
for it, and for what its source holds ahead of it, it stays in its accumulator (R208, R222). -/
def execWeirMarkWrite (s : State) : Res :=
  match s.canal.closed with
  | [] => .next s
  | w :: ws =>
    if !s.fastClocks then .next (s.wake .heldRecord)
    else if decide (0 < s.canal.lastMarkAt) && s.now < s.canal.lastMarkAt + 128 then .next s
    else
      let t := { s with canal := { s.canal with closed := ws, lastMarkAt := s.now } }
      if t.canEmit 137 w.owner then
        let r := (t.emitMark w).drain137 w.owner
        .next (if r.1 && s.reserveRoom 137 4 then r.2.unhold w else s)
      else .next t

end Sys2Proof.Machine
end

