-- ==== Sys2Proof/Machine/Window.lean ====
section
/-! DEFINITION. The register window (16): host writes of registers, latching reads, and the value every register reads
as. Every access wakes the block (R515). -/

namespace Sys2Proof.Machine

/-- An access that the window accepts: none while PORST_N is low, where HT_RDY is 0 (R42, R66); every other wakes the block
(R515) and is answered (R67). -/
def State.access (s : State) (f : State → State) : State :=
  if s.dev.phase = .held then s else f s.hostAccess

/-! ## Register writes (R516) -/

/-- RWS bits of IRQ_STATUS and the enables of a page (R523). -/
def irqRws (o : Nat) : W32 := if o = hm then 0x17D else 0x1D
def irqBits (o : Nat) : W32 := if o = hm then 0x1FF else 0x1F

/-- Bits [32k + 31 : 32k] of a vector replaced. -/
def setWordOf {n : Nat} (v : BitVec n) (k : Nat) (w : W32) : BitVec n :=
  (v &&& ~~~(BitVec.ofNat n ((2 ^ 32 - 1) * 2 ^ (32 * k)))) ||| BitVec.ofNat n (w.toNat * 2 ^ (32 * k))

/-- Bits [32k + 31 : 32k] of a vector cleared where a 1 is written. -/
def clearOf {n : Nat} (v : BitVec n) (k : Nat) (w : W32) : BitVec n := v &&& ~~~(BitVec.ofNat n (w.toNat * 2 ^ (32 * k)))

/-- One 32-bit word of a register write at an offset of an owner's page. Words without a register of their own kind, read-only
words and registers whose write has its own command change nothing here. -/
def State.regWrite (s : State) (o off : Nat) (w : W32) : State :=
  if off = 0x2000 then
    { s with win := { s.win with irqStatus := tset s.win.irqStatus o (s.irqStatus o &&& ~~~(w &&& irqRws o)) 0 } }
  else if off = 0x2004 then
    { s with win := { s.win with irqEnable := tset s.win.irqEnable o (w &&& irqBits o) 0 } }
  else if 0x2008 ≤ off && off < 0x2018 then
    { s with win := { s.win with ovfProbe := tset s.win.ovfProbe o (clearOf (tget s.win.ovfProbe o 0) ((off - 0x2008) / 4) w) 0 } }
  else if 0x4000 ≤ off && off < 0x4010 then
    s.setSnapWin o { s.snapWin o with set := setWordOf (s.snapWin o).set ((off - 0x4000) / 4) w }
  else if o ≠ hm then s
  else if off = 0x41400 || off = 0x41404 then
    { s with win := { s.win with eccOvf := clearOf s.win.eccOvf ((off - 0x41400) / 4) w } }
  else
    let c := s.ecc.cbt
    let c :=
      if off = 0x42000 then { c with bank := fld w 0 6, copy := flag w 6, word := fld w 8 24 }
      else if off = 0x42008 || off = 0x4200C then { c with lo := setWordOf c.lo ((off - 0x42008) / 4) w }
      else if off = 0x42010 || off = 0x42014 then { c with hi := setWordOf c.hi ((off - 0x42010) / 4) w }
      else if off = 0x42018 then { c with check := BitVec.ofNat 9 w.toNat }
      else c
    { s with ecc := { s.ecc with cbt := c } }

/-- Word i of a list with a fill of zeros. -/
def putWord (l : List W32) (i : Nat) (w : W32) : List W32 := (l ++ List.replicate (i - l.length) 0).take i ++ w :: l.drop (i + 1)

/-- The packet that a buffer holds for an owner (R376, R381). -/
def bufPacket (o : Fin 17) (b : List W32) : Nat × Pkt :=
  let h := b.headD 0
  let l := fld h 16 8
  (fld h 24 8, ⟨o, BitVec.ofNat 8 (fld h 8 8), BitVec.ofNat 5 (fld h 3 5), flag h 2, flag h 1, flag h 0,
    (List.range l).map (fun i => b.getD (i + 1) 0)⟩)

/-- A write into a command aperture (R376, R377): its words fill the buffer, and one that includes word L launches the
packet; a write to a closed aperture is discarded and counted. -/
def State.bufWrite (s : State) (o : Fin 17) (ws : List (Nat × W32)) : State :=
  let a := s.apt o.val
  if a.closed then s.discard o.val 1
  else
    let ws := ws.filter (fun e => decide (e.1 < 256))
    let b := ws.foldl (fun b e => putWord b e.1 e.2) a.buf
    let s := s.setApt o.val { a with buf := b }
    if ws.any (fun e => decide (e.1 = fld (b.headD 0) 16 8)) then
      let q := bufPacket o b
      s.launchOp q.1 q.2
    else s

/-! ## The CVT latch (R522) -/

/-- The latch of an owner takes the timestamp of the instant of acceptance; coarse while TCLK is stopped. -/
def State.latchCvt (s : State) (o : Nat) (phase : BitVec 2) : State :=
  let l : Latch := ⟨BitVec.ofNat 96 (Sys2Proof.Machine.cvt96 (s.capture phase)), s.time.epoch, s.tstate, s.time.part, !s.clk.tclk⟩
  { s with win := { s.win with latch := tset s.win.latch o l Latch.zero } }

/-- CVT_LATCH (R522): a read of CVT_LATCH_LO; `phase` is the TCLK phase of the instant of acceptance. Both sizes of access
latch, and return the low bits of the new value. -/
def execCvtLatch (o : Fin 17) (size64 : Bool) (phase : BitVec 2) (s : State) : Res :=
  .next (s.access fun s =>
    let s := s.latchCvt o.val phase
    s.respond 0 0 (BitVec.ofNat 64 ((s.latch o.val).cvt.toNat % (if size64 then 2 ^ 64 else 2 ^ 32))))

/-! ## Snapshot trigger, aperture control, markers -/

/-- SNAP_TRIGGER (R529): go = 0 starts nothing. -/
def execSnapTrigger (o : Fin 17) (data : W32) (s : State) : Res :=
  .next (s.access fun s => if flag data 0 then s.snapWrite o.val data else s)

/-- APT_CTRL with clr_discard = 1 (R526). -/
def execAptClearDiscard (o : Fin 17) (s : State) : Res :=
  .next (s.access fun s => s.modApt o.val (fun a => { a with discards := 0 }))

/-- APT_CTRL with clr_key = 1 (R526). -/
def execAptClearKeyCounters (o : Fin 17) (s : State) : Res :=
  .next (s.access fun s => { s with win := { s.win with
    staleKey := tset s.win.staleKey o.val 0 0, blockAuth := tset s.win.blockAuth o.val 0 0 } })

/-- A 64-bit write of the marker aperture: a record of source 133 and class 1 with the marker in data[15:0], or a discard
for an owner without marker mode or not ACTIVE (R527, R528). -/
def State.marker (s : State) (o : Nat) (ty : Nat) (point : Bool) (data : W64) : State :=
  if s.esl.marker.getLsbD o && s.active o then
    s.emit 133 o ty 1 s.ts (data.toNat % 2 ^ 16 + b2n point * 2 ^ 16) [data.toNat]
  else s.discard o 1

/-- MARK_BEGIN (R527). -/
def execMarkBegin (o : Fin 17) (data : W64) (s : State) : Res := .next (s.access fun s => s.marker o.val 0x0E false data)

/-- MARK_END (R527). -/
def execMarkEnd (o : Fin 17) (data : W64) (s : State) : Res := .next (s.access fun s => s.marker o.val 0x0F false data)

/-- MARK_POINT (R527). -/
def execMarkPoint (o : Fin 17) (data : W64) (s : State) : Res := .next (s.access fun s => s.marker o.val 0x0E true data)

/-! ## The check-bit test port (R459, R537) -/

/-- A CBT_CTRL write: refused outside TEST and for a bank or word that does not exist. The bank completes an open merge
entry of the word first (R444). -/
def State.cbt (s : State) (f : Nat → Bool → Nat → State → State) : State :=
  let c := s.ecc.cbt
  let bad := decide (s.dev.mode ≠ .test) || decide (34 ≤ c.bank) || decide (bankWords c.bank ≤ c.word)
  let s := { s with ecc := { s.ecc with cbt := { c with error := bad } } }
  if bad then s else f c.bank c.copy c.word (if is32 c.bank then s else s.settle c.bank c.word 1)

/-- The bank is written in check-bit test mode (R459). -/
def State.touch (s : State) (b : Nat) (copy : Bool) : State := s.modBank (bankKey b copy) (fun x => { x with touched := true })

/-- The stored word: one that is not listed holds its user's data, free here, with matching check bits (log 12). -/
def State.rawWord (s : State) (b : Nat) (copy : Bool) (w : Nat) : EccWord × State :=
  match s.word? b copy w with
  | some x => (x, s)
  | none =>
    let d : BitVec 128 := BitVec.ofNat 128 (s.fresh.1 % 2 ^ codeWidth b)
    let v := s.fresh.2.fresh
    (⟨d, Config.eccCheck (codeWidth b) w d, decide (v.1 % 2 = 1), false⟩, v.2)

/-- CBT_WRITE: data and check bits as held, the valid bit set. -/
def execCbtWrite (s : State) : Res :=
  .next (s.access fun s => s.cbt fun b copy w s =>
    let c := s.ecc.cbt
    let d : BitVec 128 := BitVec.ofNat 128 (if is32 b then c.lo.toNat % 2 ^ 32 else c.lo.toNat + c.hi.toNat * 2 ^ 64)
    let k : BitVec 9 := if is32 b then BitVec.ofNat 9 (c.check.toNat % 128) else c.check
    let p := match s.word? b copy w with | some x => x.poison | none => false
    (s.setWord b copy w ⟨d, k, true, p⟩).touch b copy)

/-- CBT_READ: raw data, check bits, syndrome and decoder result; nothing is corrected or counted. -/
def execCbtRead (s : State) : Res :=
  .next (s.access fun s => s.cbt fun b copy w s =>
    let r := s.rawWord b copy w
    let x := r.1
    let s := r.2
    { s with ecc := { s.ecc with cbt := { s.ecc.cbt with
      lo := BitVec.ofNat 64 x.data.toNat, hi := BitVec.ofNat 64 (x.data.toNat / 2 ^ 64), check := x.check,
      syndrome := x.syndrome b w, result := x.result b w, valid := x.valid, poison := x.poison } } })

/-- CBT_SET_POISON. -/
def execCbtSetPoison (s : State) : Res :=
  .next (s.access fun s => s.cbt fun b copy w s =>
    let r := s.rawWord b copy w
    (r.2.setWord b copy w { r.1 with poison := true }).touch b copy)

/-- CBT_CLR_POISON. -/
def execCbtClrPoison (s : State) : Res :=
  .next (s.access fun s => s.cbt fun b copy w s =>
    (match s.word? b copy w with
      | some x => s.setWord b copy w { x with poison := false }
      | none => s).touch b copy)

/-! ## Reads: the value of every register, in 32-bit words (R518 to R537) -/

/-- IRQ_STATUS as read: the two OR bits are derived (R523). -/
def State.irqRead (s : State) (o : Nat) : W32 :=
  let v := setBit (s.irqStatus o) 1 (decide (tget s.win.ovfProbe o 0 ≠ 0))
  if o = hm then setBit v 7 (decide (s.win.eccOvf ≠ 0)) else v

/-- IRQ[o] (R70, R525). -/
def State.irqLine (s : State) (o : Nat) : Bool :=
  decide (s.chState o ≠ .ending) && decide (s.irqRead o &&& tget s.win.irqEnable o 0 ≠ 0)

def State.idConfig0 (s : State) : Nat :=
  let i := s.ident
  i.nProbes + i.hostDomains * 2 ^ 8 + i.taps.toNat * 2 ^ 15 + i.rails * 2 ^ 19 + i.chip.toNat * 2 ^ 23 + i.tsyncStages * 2 ^ 25

/-- Bytes of four neighbours. -/
def four (f : Nat → Nat) (k : Nat) : Nat := (List.range 4).foldl (fun a i => a + f (4 * k + i) * 256 ^ i) 0

/-- The identification block (R518, R519): 32-bit word k. -/
def State.idWord (s : State) (k : Nat) : Nat :=
  let i := s.ident
  if k = 0 then 0x01001D3E
  else if k = 1 then if s.dev.mode = .boot || s.dev.mode = .recovery then 0 else i.fw.toNat
  else if k = 2 then s.idConfig0
  else if k = 3 then i.lanes.toNat
  else if k = 4 then i.fuseBase.toNat + i.fuseCount.toNat * 2 ^ 12
  else if k = 5 then min 65535 i.fuseErr
  else if k = 6 then i.fwKeyAddr.toNat + i.platKeyAddr.toNat * 2 ^ 12
  else if 16 ≤ k && k < 19 then i.pswDefault.toNat / 2 ^ (32 * (k - 16)) % 2 ^ 32
  else if 32 ≤ k && k < 40 then (tget i.iref (k - 32) 0).toNat
  else if 256 ≤ k && k < 384 then
    let q := s.probeInt (k - 256)
    if k - 256 < i.nProbes then q.1 + q.2.1 * 4 + q.2.2 % 256 * 2 ^ 16 else 0
  else if 384 ≤ k && k < 402 then four (fun m => tget i.monZone m (m % 32)) (k - 384)
  else if 416 ≤ k && k < 424 then four (fun z => tget i.zoneRail z (z % 8)) (k - 416)
  else 0

def State.devStatus (s : State) : Nat :=
  s.dev.mode.code + b2n s.dev.ready * 8 + b2n s.dev.restarting * 16 + s.lk.st.code * 32 + popcount s.ch.online * 128

def State.timeStatus (s : State) : Nat :=
  s.tstate.code + s.time.part.toNat * 8 + s.boundNow * 2 ^ 8 + s.time.epoch.toNat * 2 ^ 32 +
    (List.range 3).foldl (fun a j => a + (s.peer j).active * 4 ^ j) 0 * 2 ^ 48

def State.powerStatus (s : State) : Nat :=
  let e := s.env
  s.lk.st.code + s.io.thr * 4 + b2n e.burst * 2 ^ 6 + b2n e.overrun * 2 ^ 7 + (e.pEff * 4).floor.toNat % 256 * 2 ^ 8 + min 65535 e.pInst * 2 ^ 16

def Latch.hiWord (l : Latch) : Nat :=
  l.cvt.toNat / 2 ^ 64 + l.epoch.toNat * 2 ^ 32 + l.st.code * 2 ^ 48 + l.part.toNat * 2 ^ 51 + b2n l.coarse * 2 ^ 53

def Slot.statusWord (x : Slot) : Nat := x.posts.toNat + b2n x.pending * 2 ^ 16 + b2n x.full * 2 ^ 17

def Apt.status (a : Apt) : Nat :=
  b2n a.closed + [1, 2, 3].foldl (fun v i => v + b2n ((a.slot i).pending || (a.slot i).full) * 2 ^ i) 0 + a.seq.toNat * 2 ^ 8
    + a.op.toNat * 2 ^ 16

def SnapWin.status (v : SnapWin) : Nat :=
  b2n v.pending + b2n v.rejected * 2 + b2n v.merged * 4 + b2n v.skipped * 8 + v.snapNo.toNat * 2 ^ 16

/-- Word k of the shadow block of a probe as an owner reads it (R530 to R532). -/
def State.shadowWord (s : State) (p o k : Nat) : Nat :=
  let x := s.probe p
  let h := x.shadow
  let own := x.cfg.owned o
  let fixd := decide (x.cfg.fixedOwner = o)
  let head := h.snapNo.toNat + h.trigger * 2 ^ 16 + h.flags * 2 ^ 20 + b2n h.busy * 2 ^ 24 + b2n h.hasTallies * 2 ^ 25
    + b2n (fixd && h.ovf.getLsbD 0) * 2 ^ 26 + b2n (fixd && h.invalid.getLsbD 0) * 2 ^ 27 + b2n fixd * 2 ^ 28 + h.st.code * 2 ^ 29
    + h.epoch.toNat * 2 ^ 32
  let half := fun (v : Nat) => v / 2 ^ (32 * (k % 2)) % 2 ^ 32
  let tally := fun (t : Tab Nat) (u : Nat) => if fixd then tget t u 0 else 2 ^ 31
  if k < 2 then half head
  else if k < 4 then half (cvtLo h.ts)
  else if k < 6 then half (cvtHi h.ts)
  else if k < 8 then 0
  else if k < 10 then if fixd then half (tget h.cnt 0 0) else 0
  else if k < 34 then
    let i := (k - 8) / 2
    half (if own.getLsbD i then tget h.cnt i 0 % 2 ^ 48 + b2n (h.ovf.getLsbD i) * 2 ^ 48 + b2n (h.invalid.getLsbD i) * 2 ^ 49
                else 2 ^ 63)
  else if 64 ≤ k && k < 128 then tally h.busyT (k - 64)
  else if 128 ≤ k && k < 192 then tally h.stallT (k - 128)
  else 0

def State.faultSummary (s : State) : Nat :=
  s.errClass + b2n s.faultNLow * 4 + b2n s.fc.ninth.isSome * 8 + s.openCount * 16 + b2n s.startupFault * 2 ^ 8 + s.topCode * 2 ^ 16

/-- The two words of FAULT_ENTRY (R534). -/
def State.faultEntryWord (s : State) (i : Nat) : Nat :=
  let e := if i = 8 then s.fc.ninth else (s.fc.slots.find? (fun x => x.1 = i)).map Prod.snd
  match e with
  | none => 0
  | some e => 1 + e.cls * 2 + b2n e.escalated * 8 + b2n e.fatal * 16 + e.code * 2 ^ 16 + e.unit * 2 ^ 32
      + tget s.fc.counts (fKey e.code e.unit) 0 * 2 ^ 48 + e.detail.toNat * 2 ^ 64

/-- The two words of MEM_BANK (R439, R535): those of bank 32 sum its two copies. -/
def State.memBankWord (s : State) (b : Nat) : Nat :=
  let x := s.bank (bankKey b false)
  let y := if b = 32 then s.bank (bankKey b true) else Bank.zero
  let sat := fun (a b : Nat) => min (2 ^ 32 - 1) (a + b)
  sat x.ce y.ce + sat x.ue y.ue * 2 ^ 32 + max x.bucket y.bucket * 2 ^ 64 + (x.spares + y.spares) * 2 ^ 69
    + b2n (x.failed && (b ≠ 32 || y.failed)) * 2 ^ 74 + b2n (x.exhausted || y.exhausted) * 2 ^ 75
    + min 32 (x.suspects.length + y.suspects.length) * 2 ^ 76

def State.ledgerStatus (s : State) : Nat :=
  let l := s.ledger
  l.st.code + l.trig * 4 + b2n l.summaryPending * 2 ^ 6 + b2n l.summaryLost * 2 ^ 7 + b2n l.truncated * 2 ^ 8 + l.n * 2 ^ 16
    + l.freezeNo.toNat * 2 ^ 32

def State.bootStatus (s : State) : Nat :=
  let d := s.dev
  b2n d.settingsDefault + d.recovery * 2 + d.lastReset * 8 + b2n d.unsignedFw * 32 + min 255 d.skipped * 2 ^ 8

def State.resourceStatus (s : State) : Nat :=
  s.ch.online.toNat + min 31 s.ch.removed * 2 ^ 16 + (List.range 4).foldl (fun a t => a + b2n (s.tap t).off * 2 ^ (24 + t)) 0
    + b2n s.dev.mapBad * 2 ^ 28

def State.banksFailed (s : State) : Nat :=
  let f := fun (b : Nat) (c : Bool) => (s.bank (bankKey b c)).failed
  (List.range 34).foldl (fun a b => a + b2n (f b false && (b ≠ 32 || f b true)) * 2 ^ b) 0 + b2n (f 32 false) * 2 ^ 34 + b2n (f 32 true) * 2 ^ 35

def State.cbtResult (s : State) : Nat :=
  let c := s.ecc.cbt
  c.syndrome.toNat + c.result * 2 ^ 9 + b2n c.valid * 2 ^ 11 + b2n c.poison * 2 ^ 12 + b2n c.error * 2 ^ 14

/-- The words of the harbourmaster's part of its page. -/
def State.hmWord (s : State) (off : Nat) : Option Nat :=
  let part := fun (lo v : Nat) => some (v / 2 ^ (32 * ((off - lo) / 4)) % 2 ^ 32)
  let in_ := fun (lo bytes : Nat) => decide (lo ≤ off) && decide (off < lo + bytes)
  let c := s.ecc.cbt
  if off = 0x40000 then some s.faultSummary
  else if in_ 0x40010 0x90 then part (off / 16 * 16) (s.faultEntryWord ((off - 0x40010) / 16))
  else if in_ 0x41000 0x220 then part (off / 16 * 16) (s.memBankWord ((off - 0x41000) / 16))
  else if in_ 0x41400 8 then part 0x41400 s.win.eccOvf.toNat
  else if off = 0x42000 then some (c.bank + b2n c.copy * 2 ^ 6 + c.word * 2 ^ 8)
  else if in_ 0x42008 8 then part 0x42008 c.lo.toNat
  else if in_ 0x42010 8 then part 0x42010 c.hi.toNat
  else if off = 0x42018 then some c.check.toNat
  else if off = 0x4201C then some 0
  else if off = 0x42020 then some s.cbtResult
  else if in_ 0x43000 8 then part 0x43000 s.ledgerStatus
  else if off = 0x43008 then some s.bootStatus
  else if off = 0x43010 then some s.resourceStatus
  else if in_ 0x43018 8 then part 0x43018 s.banksFailed
  else if in_ 0x43020 16 then
    some ((List.range 32).foldl (fun a i => a + b2n (s.probe ((off - 0x43020) * 8 + i)).disabled * 2 ^ i) 0)
  else if in_ 0x43040 16 then some (tget s.assay.gmm ((off - 0x43040) / 4) 0)
  else none

/-- The 32-bit word that a read of an owner's page returns; none where the table of R514 assigns nothing. Write-only words
read 0. -/
def State.regRead (s : State) (o off : Nat) : Option Nat :=
  let part := fun (lo v : Nat) => some (v / 2 ^ (32 * ((off - lo) / 4)) % 2 ^ 32)
  let in_ := fun (lo bytes : Nat) => decide (lo ≤ off) && decide (off < lo + bytes)
  let x := s.export_ o
  let a := s.apt o
  if off % 4 ≠ 0 then none
  else if off < 0x1000 then some (s.idWord (off / 4))
  else if off = 0x1000 then some s.devStatus
  else if in_ 0x1008 8 then part 0x1008 s.timeStatus
  else if in_ 0x1010 8 then part 0x1010 ((s.latch o).cvt.toNat % 2 ^ 64)
  else if in_ 0x1018 8 then part 0x1018 (s.latch o).hiWord
  else if in_ 0x1020 8 then part 0x1020 s.powerStatus
  else if in_ 0x1040 32 then part (off / 8 * 8) (tget s.clk.resTime ((off - 0x1040) / 8) 0)
  else if in_ 0x1060 16 then some (tget s.clk.resEntries ((off - 0x1060) / 4) 0)
  else if off = 0x2000 then some (s.irqRead o).toNat
  else if off = 0x2004 then some (tget s.win.irqEnable o 0).toNat
  else if in_ 0x2008 16 then part 0x2008 (tget s.win.ovfProbe o 0).toNat
  else if off = 0x3000 then some a.status
  else if off = 0x3004 then some a.discards
  else if off = 0x3008 then some 0
  else if in_ 0x3010 8 then part 0x3010 (x.widx % 2 ^ 48 + x.lastGen.toNat * 2 ^ 48)
  else if off = 0x3018 then some (tget s.win.staleKey o 0)
  else if off = 0x301C then some (tget s.win.blockAuth o 0)
  else if in_ 0x3100 0x80 then some (tget s.assay.cnt (((off - 0x3100) / 0x20 * 32 + o) * 8 + (off - 0x3100) % 0x20 / 4) 0)
  else if in_ 0x4000 16 then part 0x4000 (s.snapWin o).set.toNat
  else if off = 0x4010 then some 0
  else if off = 0x4014 then some (s.snapWin o).status
  else if in_ 0x8000 0x20000 then
    let p := (off - 0x8000) / 0x400
    if p < s.ident.nProbes then some (s.shadowWord p o ((off - 0x8000) % 0x400 / 4)) else none
  else if in_ 0x30000 0x1000 then some (a.buf.getD ((off - 0x30000) / 4) 0).toNat
  else if in_ 0x31000 0x1000 then
    let sl := a.slot ((off - 0x31000) / 0x400)
    let k := (off - 0x31000) % 0x400 / 4
    some (if k = 0 then sl.statusWord else (sl.words.getD (k - 1) 0).toNat)
  else if in_ 0x32000 24 then some 0
  else if o = hm then s.hmWord off
  else none

/-! ## Accesses of the host target port (R66, R67, R514) -/

/-- The access is naturally aligned, and a write has all byte enables of its size set (R67). -/
def accepted (off : Nat) (wr size64 : Bool) (strb : BitVec 8) : Bool :=
  if size64 then decide (off % 8 = 0) && (!wr || decide (strb = 0xFF))
  else decide (off % 4 = 0) && (!wr || decide (strb.toNat % 16 = 15))

/-- The offsets of the 32-bit words of an access. -/
def accessOffs (off : Nat) (size64 : Bool) : List Nat := if size64 then [off, off + 4] else [off]

/-- The 32-bit words of a write: the data of a 32-bit access stand in HT_WDATA[31:0] (log 95). -/
def accessWords (off : Nat) (size64 : Bool) (data : W64) : List (Nat × W32) :=
  if size64 then [(off, BitVec.ofNat 32 data.toNat), (off + 4, BitVec.ofNat 32 (data.toNat / 2 ^ 32))]
  else [(off, BitVec.ofNat 32 data.toNat)]

/-- HT_RSP_ERR of an access (R66, R67, R514, R527): wrong size or alignment, then no register there. A 64-bit access whose
words are not both assigned is of the second kind (DEDUCED, log 95). -/
def State.rspErr (s : State) (addr : Nat) (wr size64 : Bool) (strb : BitVec 8) : BitVec 2 :=
  let o := addr / 0x80000
  let off := addr % 0x80000
  if !accepted addr wr size64 strb then 1
  else if 17 ≤ o || (accessOffs off size64).any (fun a => (s.regRead o a).isNone) then 2
  else if wr && !size64 && decide (0x32000 ≤ off) && decide (off < 0x32018) then 1
  else 0

/-- The data of a read, at acceptance (R516). -/
def State.readData (s : State) (addr : Nat) (size64 : Bool) : W64 :=
  BitVec.ofNat 64 ((accessOffs (addr % 0x80000) size64).foldr (fun a v => (s.regRead (addr / 0x80000) a).getD 0 + v * 2 ^ 32) 0)

/-- The effect of an accepted write. The page addressed names the owner (R68). -/
def State.writeAt (s : State) (o : Fin 17) (off : Nat) (size64 : Bool) (data : W64) : State :=
  let ws := accessWords off size64 data
  if 0x30000 ≤ off && off < 0x31000 then s.bufWrite o (ws.map (fun e => ((e.1 - 0x30000) / 4, e.2)))
  else ws.foldl (fun s e => s.regWrite o.val e.1 e.2) s

/-- REGISTER_WRITE (R67, R376, R513 to R517): one access of the host target port, and its response. One that is not accepted has no effect; a read of CVT_LATCH_LO latches, at phase 0 of a TCLK cycle. -/
def execRegisterWrite (req : HtReq) (size64 : Bool) (strb : BitVec 8) (data : W64) (s : State) : Res :=
  .next (s.access fun s =>
    let a := req.addr.toNat
    let e := s.rspErr a req.wr size64 strb
    let off := a % 0x80000
    if h : a / 0x80000 < 17 then
      if e ≠ 0 then s.respond req.id e 0
      else if req.wr then (s.writeAt ⟨a / 0x80000, h⟩ off size64 data).respond req.id 0 0
      else
        let s := if off = 0x1010 then s.latchCvt (a / 0x80000) 0 else s
        s.respond req.id 0 (s.readData a size64)
    else s.respond req.id e 0)

end Sys2Proof.Machine
end

