-- ==== Sys2Proof/Machine/Dispatch.lean ====
section
/-! DEFINITION. The effect of each command on everything but the queue, one arm per row of the opcode table. -/

namespace Sys2Proof.Machine

def exec (i : Instr) (s : State) : Host.Outcome State Fault Refusal :=
  match i with
  | .porstNAssert => Sys2Proof.Machine.execPorstNAssert s
  | .coldStart strap found => Sys2Proof.Machine.execColdStart strap found s
  | .warmReset src => Sys2Proof.Machine.execWarmReset src s
  | .bootImageCheck => Sys2Proof.Machine.execBootImageCheck s
  | .firmwareStart => Sys2Proof.Machine.execFirmwareStart s
  | .keeperRestart => Sys2Proof.Machine.execKeeperRestart s
  | .firmwareRestart => Sys2Proof.Machine.execFirmwareRestart s
  | .firmwareTrialExpiry => Sys2Proof.Machine.execFirmwareTrialExpiry s
  | .registerWrite req size64 strb data => Sys2Proof.Machine.execRegisterWrite req size64 strb data s
  | .packetBadOpcode op pk => Sys2Proof.Machine.execPacketBadOpcode op pk s
  | .replySlotRelease o slot => Sys2Proof.Machine.execReplySlotRelease o slot s
  | .cvtLatch o size64 phase => Sys2Proof.Machine.execCvtLatch o size64 phase s
  | .snapTrigger o data => Sys2Proof.Machine.execSnapTrigger o data s
  | .aptClearDiscard o => Sys2Proof.Machine.execAptClearDiscard o s
  | .aptClearKeyCounters o => Sys2Proof.Machine.execAptClearKeyCounters o s
  | .markBegin o data => Sys2Proof.Machine.execMarkBegin o data s
  | .markEnd o data => Sys2Proof.Machine.execMarkEnd o data s
  | .markPoint o data => Sys2Proof.Machine.execMarkPoint o data s
  | .cbtWrite => Sys2Proof.Machine.execCbtWrite s
  | .cbtRead => Sys2Proof.Machine.execCbtRead s
  | .cbtSetPoison => Sys2Proof.Machine.execCbtSetPoison s
  | .cbtClrPoison => Sys2Proof.Machine.execCbtClrPoison s
  | .nop pk => Sys2Proof.Machine.execNop pk s
  | .identify pk => Sys2Proof.Machine.execIdentify pk s
  | .modeSet pk => Sys2Proof.Machine.execModeSet pk s
  | .settingsSave pk => Sys2Proof.Machine.execSettingsSave pk s
  | .settingsSaveDone => Sys2Proof.Machine.execSettingsSaveDone s
  | .healthCfg pk => Sys2Proof.Machine.execHealthCfg pk s
  | .probeOwners pk => Sys2Proof.Machine.execProbeOwners pk s
  | .rangeSet pk => Sys2Proof.Machine.execRangeSet pk s
  | .pmcConfig pk => Sys2Proof.Machine.execPmcConfig pk s
  | .counterEnable pk => Sys2Proof.Machine.execCounterEnable pk s
  | .counterWrite pk => Sys2Proof.Machine.execCounterWrite pk s
  | .ovfClear pk => Sys2Proof.Machine.execOvfClear pk s
  | .snapshot pk => Sys2Proof.Machine.execSnapshot pk s
  | .probeTiming pk => Sys2Proof.Machine.execProbeTiming pk s
  | .tallySet pk => Sys2Proof.Machine.execTallySet pk s
  | .samplerConfig pk => Sys2Proof.Machine.execSamplerConfig pk s
  | .cmdStream pk => Sys2Proof.Machine.execCmdStream pk s
  | .edgeStream pk => Sys2Proof.Machine.execEdgeStream pk s
  | .tieMode pk => Sys2Proof.Machine.execTieMode pk s
  | .probeStatus pk => Sys2Proof.Machine.execProbeStatus pk s
  | .partitionSet pk => Sys2Proof.Machine.execPartitionSet pk s
  | .ownerExport pk => Sys2Proof.Machine.execOwnerExport pk s
  | .exportSet pk => Sys2Proof.Machine.execExportSet pk s
  | .flush pk => Sys2Proof.Machine.execFlush pk s
  | .ledgerSet pk => Sys2Proof.Machine.execLedgerSet pk s
  | .ledgerTrigger pk => Sys2Proof.Machine.execLedgerTrigger pk s
  | .ledgerRelease pk => Sys2Proof.Machine.execLedgerRelease pk s
  | .ledgerRead pk => Sys2Proof.Machine.execLedgerRead pk s
  | .ledgerReadDone o => Sys2Proof.Machine.execLedgerReadDone o s
  | .ledgerStatus pk => Sys2Proof.Machine.execLedgerStatus pk s
  | .tapSafety pk => Sys2Proof.Machine.execTapSafety pk s
  | .tapMeasure pk => Sys2Proof.Machine.execTapMeasure pk s
  | .tableBase pk => Sys2Proof.Machine.execTableBase pk s
  | .tableEntry pk => Sys2Proof.Machine.execTableEntry pk s
  | .watchAssign pk => Sys2Proof.Machine.execWatchAssign pk s
  | .watchConfig pk => Sys2Proof.Machine.execWatchConfig pk s
  | .watchArm pk => Sys2Proof.Machine.execWatchArm pk s
  | .assayCounters pk => Sys2Proof.Machine.execAssayCounters pk s
  | .tapReenable pk => Sys2Proof.Machine.execTapReenable pk s
  | .opSubmit pk => Sys2Proof.Machine.execOpSubmit pk s
  | .opCancel pk => Sys2Proof.Machine.execOpCancel pk s
  | .itinLoad pk => Sys2Proof.Machine.execItinLoad pk s
  | .itinLoadDone => Sys2Proof.Machine.execItinLoadDone s
  | .modelLoad pk => Sys2Proof.Machine.execModelLoad pk s
  | .modelLoadDone => Sys2Proof.Machine.execModelLoadDone s
  | .slotUnload pk => Sys2Proof.Machine.execSlotUnload pk s
  | .chAllot pk => Sys2Proof.Machine.execChAllot pk s
  | .chStatus pk => Sys2Proof.Machine.execChStatus pk s
  | .timeStatus pk => Sys2Proof.Machine.execTimeStatus pk s
  | .servoSet pk => Sys2Proof.Machine.execServoSet pk s
  | .reanchor pk => Sys2Proof.Machine.execReanchor pk s
  | .laneAsym pk => Sys2Proof.Machine.execLaneAsym pk s
  | .powerPolicy pk => Sys2Proof.Machine.execPowerPolicy pk s
  | .envelopeSet pk => Sys2Proof.Machine.execEnvelopeSet pk s
  | .derateSet pk => Sys2Proof.Machine.execDerateSet pk s
  | .coolantReport pk => Sys2Proof.Machine.execCoolantReport pk s
  | .domainSet pk => Sys2Proof.Machine.execDomainSet pk s
  | .domainSetDone => Sys2Proof.Machine.execDomainSetDone s
  | .domainAssign pk => Sys2Proof.Machine.execDomainAssign pk s
  | .frameSchedule pk => Sys2Proof.Machine.execFrameSchedule pk s
  | .framePlan pk => Sys2Proof.Machine.execFramePlan pk s
  | .powerStatus pk => Sys2Proof.Machine.execPowerStatus pk s
  | .charterBegin pk => Sys2Proof.Machine.execCharterBegin pk s
  | .charterEnd pk => Sys2Proof.Machine.execCharterEnd pk s
  | .charterScrubStart => Sys2Proof.Machine.execCharterScrubStart s
  | .charterScrubDone verified => Sys2Proof.Machine.execCharterScrubDone verified s
  | .attest pk => Sys2Proof.Machine.execAttest pk s
  | .keyAgree pk => Sys2Proof.Machine.execKeyAgree pk s
  | .keyInstall pk => Sys2Proof.Machine.execKeyInstall pk s
  | .keyZeroise pk readback => Sys2Proof.Machine.execKeyZeroise pk readback s
  | .linkMode pk => Sys2Proof.Machine.execLinkMode pk s
  | .charterStatus pk => Sys2Proof.Machine.execCharterStatus pk s
  | .surveySet pk => Sys2Proof.Machine.execSurveySet pk s
  | .surveyPredict pk => Sys2Proof.Machine.execSurveyPredict pk s
  | .surveyPredictDone => Sys2Proof.Machine.execSurveyPredictDone s
  | .surveyCheckpoint pk => Sys2Proof.Machine.execSurveyCheckpoint pk s
  | .surveyCheckpointDone => Sys2Proof.Machine.execSurveyCheckpointDone s
  | .surveyRecal pk => Sys2Proof.Machine.execSurveyRecal pk s
  | .surveyRecalDone readings => Sys2Proof.Machine.execSurveyRecalDone readings s
  | .surveyRead pk => Sys2Proof.Machine.execSurveyRead pk s
  | .faultRead pk => Sys2Proof.Machine.execFaultRead pk s
  | .faultRelease pk => Sys2Proof.Machine.execFaultRelease pk s
  | .faultPolicy pk => Sys2Proof.Machine.execFaultPolicy pk s
  | .faultInject pk => Sys2Proof.Machine.execFaultInject pk s
  | .updateBegin pk => Sys2Proof.Machine.execUpdateBegin pk s
  | .updateData pk => Sys2Proof.Machine.execUpdateData pk s
  | .updateCommit pk => Sys2Proof.Machine.execUpdateCommit pk s
  | .updateCommitDone => Sys2Proof.Machine.execUpdateCommitDone s
  | .updateAbort pk => Sys2Proof.Machine.execUpdateAbort pk s
  | .logbookRead pk => Sys2Proof.Machine.execLogbookRead pk s
  | .stpControl pk => Sys2Proof.Machine.execStpControl pk s
  | .serviceStatus pk => Sys2Proof.Machine.execServiceStatus pk s
  | .spareFuse pk => Sys2Proof.Machine.execSpareFuse pk s
  | .spareFuseDone results => Sys2Proof.Machine.execSpareFuseDone results s
  | .coreRetest pk => Sys2Proof.Machine.execCoreRetest pk s
  | .coreRetestDone pass => Sys2Proof.Machine.execCoreRetestDone pass s
  | .instantActionDue idx => Sys2Proof.Machine.execInstantActionDue idx s
  | .commandIssue p c => Sys2Proof.Machine.execCommandIssue p c s
  | .commandRetire p c flushed => Sys2Proof.Machine.execCommandRetire p c flushed s
  | .preciseSample p => Sys2Proof.Machine.execPreciseSample p s
  | .stageEntry p stage tid => Sys2Proof.Machine.execStageEntry p stage tid s
  | .evtEdge p line rising levels => Sys2Proof.Machine.execEvtEdge p line rising levels s
  | .rateExceeded p line => Sys2Proof.Machine.execRateExceeded p line s
  | .charterSwitch p charter priv => Sys2Proof.Machine.execCharterSwitch p charter priv s
  | .counterWrap p i0 => Sys2Proof.Machine.execCounterWrap p i0 s
  | .tallyDump d => Sys2Proof.Machine.execTallyDump d s
  | .slotInvariantCheck p => Sys2Proof.Machine.execSlotInvariantCheck p s
  | .snapshotTake p bad => Sys2Proof.Machine.execSnapshotTake p bad s
  | .periodicSnapshot p => Sys2Proof.Machine.execPeriodicSnapshot p s
  | .frameSyncSnapshot p => Sys2Proof.Machine.execFrameSyncSnapshot p s
  | .clkStretchReport p => Sys2Proof.Machine.execClkStretchReport p s
  | .clkStretchEnd p => Sys2Proof.Machine.execClkStretchEnd p s
  | .clkHalt p => Sys2Proof.Machine.execClkHalt p s
  | .clkResume p => Sys2Proof.Machine.execClkResume p s
  | .hrstNAssert p => Sys2Proof.Machine.execHrstNAssert p s
  | .hrstNRelease p => Sys2Proof.Machine.execHrstNRelease p s
  | .probePowerUp p => Sys2Proof.Machine.execProbePowerUp p s
  | .fatalIn p pos neg => Sys2Proof.Machine.execFatalIn p pos neg s
  | .fatalRail p v => Sys2Proof.Machine.execFatalRail p v s
  | .tclkLoss p absent => Sys2Proof.Machine.execTclkLoss p absent s
  | .tinSample sec ns step phase => Sys2Proof.Machine.execTinSample sec ns step phase s
  | .ppsEdge phase => Sys2Proof.Machine.execPpsEdge phase s
  | .servoRun => Sys2Proof.Machine.execServoRun s
  | .stepEdge => Sys2Proof.Machine.execStepEdge s
  | .timeInputLost => Sys2Proof.Machine.execTimeInputLost s
  | .tsyncLoad flips => Sys2Proof.Machine.execTsyncLoad flips s
  | .tsyncRate flips => Sys2Proof.Machine.execTsyncRate flips s
  | .tsyncStatus flips => Sys2Proof.Machine.execTsyncStatus flips s
  | .tsyncCheck flips => Sys2Proof.Machine.execTsyncCheck flips s
  | .sync fr t1 => Sys2Proof.Machine.execSync fr t1 s
  | .syncAck fr t2 t3 => Sys2Proof.Machine.execSyncAck fr t2 t3 s
  | .syncRsp fr t4 => Sys2Proof.Machine.execSyncRsp fr t4 s
  | .laneARestore peer => Sys2Proof.Machine.execLaneARestore peer s
  | .asymMeasureDone peer => Sys2Proof.Machine.execAsymMeasureDone peer s
  | .epochMsg fr epoch step cvt => Sys2Proof.Machine.execEpochMsg fr epoch step cvt s
  | .followerStep => Sys2Proof.Machine.execFollowerStep s
  | .state fr tstate part sleep => Sys2Proof.Machine.execState fr tstate part sleep s
  | .peerSleepTimeout peer => Sys2Proof.Machine.execPeerSleepTimeout peer s
  | .partitionSplit reach => Sys2Proof.Machine.execPartitionSplit reach s
  | .hello peer lane chip sealedMode housing => Sys2Proof.Machine.execHello peer lane chip sealedMode housing s
  | .timeSyncDue => Sys2Proof.Machine.execTimeSyncDue s
  | .basinAdmit ch => Sys2Proof.Machine.execBasinAdmit ch s
  | .sourceRecordTimeout src => Sys2Proof.Machine.execSourceRecordTimeout src s
  | .lossToken src => Sys2Proof.Machine.execLossToken src s
  | .weirAccumTimeout idx => Sys2Proof.Machine.execWeirAccumTimeout idx s
  | .weirMarkWrite => Sys2Proof.Machine.execWeirMarkWrite s
  | .sourceSilent src o => Sys2Proof.Machine.execSourceSilent src o s
  | .standingWeirMark p => Sys2Proof.Machine.execStandingWeirMark p s
  | .lighterOpen channel => Sys2Proof.Machine.execLighterOpen channel s
  | .lighterFlushTimeout o => Sys2Proof.Machine.execLighterFlushTimeout o s
  | .unitLeave u => Sys2Proof.Machine.execUnitLeave u s
  | .managerRequestIssue => Sys2Proof.Machine.execManagerRequestIssue s
  | .managerCredit wd => Sys2Proof.Machine.execManagerCredit wd s
  | .mgrWriteDone tag st => Sys2Proof.Machine.execMgrWriteDone tag st s
  | .mgrReadLine tag data last st psn => Sys2Proof.Machine.execMgrReadLine tag data last st psn s
  | .ledgerFreeze => Sys2Proof.Machine.execLedgerFreeze s
  | .ledgerPostTimeout => Sys2Proof.Machine.execLedgerPostTimeout s
  | .ledgerSeal => Sys2Proof.Machine.execLedgerSeal s
  | .ledgerSummaryWrite => Sys2Proof.Machine.execLedgerSummaryWrite s
  | .stpLaneUp lanes => Sys2Proof.Machine.execStpLaneUp lanes s
  | .stpTrain => Sys2Proof.Machine.execStpTrain s
  | .trainAck ok => Sys2Proof.Machine.execTrainAck ok s
  | .stpTrainTimeout => Sys2Proof.Machine.execStpTrainTimeout s
  | .stpTrainRetry => Sys2Proof.Machine.execStpTrainRetry s
  | .stpFrame lane => Sys2Proof.Machine.execStpFrame lane s
  | .pause lanes dur => Sys2Proof.Machine.execPause lanes dur s
  | .pauseEnd lane => Sys2Proof.Machine.execPauseEnd lane s
  | .tapBeat t b => Sys2Proof.Machine.execTapBeat t b s
  | .tableFetchDone => Sys2Proof.Machine.execTableFetchDone s
  | .tableWritebackDone => Sys2Proof.Machine.execTableWritebackDone s
  | .rescaleAck t => Sys2Proof.Machine.execRescaleAck t s
  | .dumpBlockWrite => Sys2Proof.Machine.execDumpBlockWrite s
  | .periodOpReady idx => Sys2Proof.Machine.execPeriodOpReady idx s
  | .opStart => Sys2Proof.Machine.execOpStart s
  | .opDeadlineExpiry o seq => Sys2Proof.Machine.execOpDeadlineExpiry o seq s
  | .opBudgetExceeded => Sys2Proof.Machine.execOpBudgetExceeded s
  | .opComplete => Sys2Proof.Machine.execOpComplete s
  | .coreResidueMismatch c => Sys2Proof.Machine.execCoreResidueMismatch c s
  | .coreWatchdog c => Sys2Proof.Machine.execCoreWatchdog c s
  | .coreSelfTest c pass => Sys2Proof.Machine.execCoreSelfTest c pass s
  | .ld c => Sys2Proof.Machine.execLd c s
  | .st c => Sys2Proof.Machine.execSt c s
  | .ldm c => Sys2Proof.Machine.execLdm c s
  | .recv c => Sys2Proof.Machine.execRecv c s
  | .emit c => Sys2Proof.Machine.execEmit c s
  | .gets c => Sys2Proof.Machine.execGets c s
  | .sop c => Sys2Proof.Machine.execSop c s
  | .bcast c => Sys2Proof.Machine.execBcast c s
  | .xlane c => Sys2Proof.Machine.execXlane c s
  | .add c => Sys2Proof.Machine.execAdd c s
  | .sub c => Sys2Proof.Machine.execSub c s
  | .mul c => Sys2Proof.Machine.execMul c s
  | .fma c => Sys2Proof.Machine.execFma c s
  | .div c => Sys2Proof.Machine.execDiv c s
  | .sqrt c => Sys2Proof.Machine.execSqrt c s
  | .min c => Sys2Proof.Machine.execMin c s
  | .max c => Sys2Proof.Machine.execMax c s
  | .abs c => Sys2Proof.Machine.execAbs c s
  | .exp2 c => Sys2Proof.Machine.execExp2 c s
  | .log2 c => Sys2Proof.Machine.execLog2 c s
  | .cvt c => Sys2Proof.Machine.execCvt c s
  | .quant c => Sys2Proof.Machine.execQuant c s
  | .deq c => Sys2Proof.Machine.execDeq c s
  | .mxapply c => Sys2Proof.Machine.execMxapply c s
  | .cmp c => Sys2Proof.Machine.execCmp c s
  | .sel c => Sys2Proof.Machine.execSel c s
  | .mcount c => Sys2Proof.Machine.execMcount c s
  | .red c => Sys2Proof.Machine.execRed c s
  | .argmax c => Sys2Proof.Machine.execArgmax c s
  | .dot c => Sys2Proof.Machine.execDot c s
  | .macc c => Sys2Proof.Machine.execMacc c s
  | .accrd c => Sys2Proof.Machine.execAccrd c s
  | .accclr c => Sys2Proof.Machine.execAccclr c s
  | .hist c => Sys2Proof.Machine.execHist c s
  | .lut c => Sys2Proof.Machine.execLut c s
  | .bitop c => Sys2Proof.Machine.execBitop c s
  | .field c => Sys2Proof.Machine.execField c s
  | .qtref c => Sys2Proof.Machine.execQtref c s
  | .allred c => Sys2Proof.Machine.execAllred c s
  | .xchg c => Sys2Proof.Machine.execXchg c s
  | .bar c => Sys2Proof.Machine.execBar c s
  | .loop c => Sys2Proof.Machine.execLoop c s
  | .endl c => Sys2Proof.Machine.execEndl c s
  | .brz c => Sys2Proof.Machine.execBrz c s
  | .halt c => Sys2Proof.Machine.execHalt c s
  | .sensorScan readings => Sys2Proof.Machine.execSensorScan readings s
  | .rmonSample ch power current => Sys2Proof.Machine.execRmonSample ch power current s
  | .envelopeInputLost ch => Sys2Proof.Machine.execEnvelopeInputLost ch s
  | .surveyTick reads => Sys2Proof.Machine.execSurveyTick reads s
  | .journalEntry => Sys2Proof.Machine.execJournalEntry s
  | .journalCheckpoint => Sys2Proof.Machine.execJournalCheckpoint s
  | .coolantSeriesStale => Sys2Proof.Machine.execCoolantSeriesStale s
  | .coolantReportLost => Sys2Proof.Machine.execCoolantReportLost s
  | .powerStateChoice => Sys2Proof.Machine.execPowerStateChoice s
  | .sleepEntryComplete => Sys2Proof.Machine.execSleepEntryComplete s
  | .wakeTimer => Sys2Proof.Machine.execWakeTimer s
  | .wakeEvent kind => Sys2Proof.Machine.execWakeEvent kind s
  | .sleepExitComplete => Sys2Proof.Machine.execSleepExitComplete s
  | .coreIdleOff => Sys2Proof.Machine.execCoreIdleOff s
  | .envelopeLoop upset => Sys2Proof.Machine.execEnvelopeLoop upset s
  | .envelopeShed => Sys2Proof.Machine.execEnvelopeShed s
  | .hostDomainOffStart h => Sys2Proof.Machine.execHostDomainOffStart h s
  | .hostDomainOnStart h => Sys2Proof.Machine.execHostDomainOnStart h s
  | .pswReqIssue => Sys2Proof.Machine.execPswReqIssue s
  | .pswAck h level => Sys2Proof.Machine.execPswAck h level s
  | .pswTimeout h => Sys2Proof.Machine.execPswTimeout h s
  | .frameSync => Sys2Proof.Machine.execFrameSync s
  | .frameScheduleTick => Sys2Proof.Machine.execFrameScheduleTick s
  | .framePlanStep => Sys2Proof.Machine.execFramePlanStep s
  | .frameMissed => Sys2Proof.Machine.execFrameMissed s
  | .faultRaise r => Sys2Proof.Machine.execFaultRaise r s
  | .classTableFallback => Sys2Proof.Machine.execClassTableFallback s
  | .keeperLockstepMismatch => Sys2Proof.Machine.execKeeperLockstepMismatch s
  | .keeperWatchdogExpiry => Sys2Proof.Machine.execKeeperWatchdogExpiry s
  | .keeperMemUe word => Sys2Proof.Machine.execKeeperMemUe word s
  | .heartbeatToggle => Sys2Proof.Machine.execHeartbeatToggle s
  | .fcSelfTest failing => Sys2Proof.Machine.execFcSelfTest failing s
  | .lockstepSelfTest pass => Sys2Proof.Machine.execLockstepSelfTest pass s
  | .aonMonitorTest pass => Sys2Proof.Machine.execAonMonitorTest pass s
  | .aonRefLoss lost => Sys2Proof.Machine.execAonRefLoss lost s
  | .patrolVisit bank copy obs => Sys2Proof.Machine.execPatrolVisit bank copy obs s
  | .checkerSelfTest bank copy pass => Sys2Proof.Machine.execCheckerSelfTest bank copy pass s
  | .rowMigrationDone bank copy => Sys2Proof.Machine.execRowMigrationDone bank copy s
  | .suspectExpiry bank copy => Sys2Proof.Machine.execSuspectExpiry bank copy s
  | .eccBucketLeak => Sys2Proof.Machine.execEccBucketLeak s
  | .mergeRmwTimeout m => Sys2Proof.Machine.execMergeRmwTimeout m s
  | .svcPlugIn => Sys2Proof.Machine.execSvcPlugIn s
  | .svcUnplug => Sys2Proof.Machine.execSvcUnplug s
  | .buttonPress => Sys2Proof.Machine.execButtonPress s
  | .buttonRelease => Sys2Proof.Machine.execButtonRelease s
  | .buttonHold => Sys2Proof.Machine.execButtonHold s
  | .buttonStuck => Sys2Proof.Machine.execButtonStuck s
  | .shortPress => Sys2Proof.Machine.execShortPress s
  | .buttonNoiseWindow edges => Sys2Proof.Machine.execButtonNoiseWindow edges s
  | .hclkEdge p e => Sys2Proof.Machine.execHclkEdge p e s
  | .snapshotCopyDone p => Sys2Proof.Machine.execSnapshotCopyDone p s
  | .keeperRestartComplete => Sys2Proof.Machine.execKeeperRestartComplete s
  | .wrstNRelease => Sys2Proof.Machine.execWrstNRelease s
  | .convoyExchangeFail peer lane => Sys2Proof.Machine.execConvoyExchangeFail peer lane s
  | .hostSwitchedDomainOff h => Sys2Proof.Machine.execHostSwitchedDomainOff h s
  | .scratchProgram => Sys2Proof.Machine.execScratchProgram s
  | .probeOutputLinkError p => Sys2Proof.Machine.execProbeOutputLinkError p s

end Sys2Proof.Machine
end

