-- ==== Sys2Proof/Safety.lean ====
section
/-! DEFINITION. What a state must satisfy to be one the spec describes, and when a packet is executed, in the terms the
claims use. -/

namespace Sys2Proof.Machine

/-- The fault lines are complementary (R79). -/
def State.linesComplement (s : State) : Prop := s.faultP = s.faultNLow

/-- A step that neither faults nor refuses. -/
def Completes (s : State) : Prop := ∃ t, step s = .next t

/-- The device mode, the start-up sequence and the power state fit together: BOOT is the mode before the firmware image is
known (R26), READY follows the firmware (R487, R520), and the block sleeps only with its firmware running (R344). -/
def State.modeWf (s : State) : Prop :=
  (s.dev.mode = .boot ↔ s.dev.phase = .held ∨ s.dev.phase = .started) ∧
  (s.dev.ready = true ↔ s.dev.phase = .running) ∧
  (s.lk.st ≠ .underway → s.dev.phase = .running) ∧
  (s.lk.entering.isSome = true → s.dev.phase = .running)

/-! ## Packets -/

/-- The state at the doorbell (R67, R376, R377): the write answered, the words of the packet in the command buffer, the
aperture closed, slot 0 pending. -/
def State.rung (s : State) (sp : OpSpec) (pk : Pkt) : State :=
  (s.respond 0 0 0).setApt pk.o { s.apt pk.o with
    buf := pk.header sp.op :: (pk.ps ++ (s.apt pk.o).buf.drop (pk.ps.length + 1)), closed := true, seq := pk.seq,
    op := BitVec.ofNat 8 sp.op, s0 := { (s.apt pk.o).s0 with pending := true } }

/-- The row and the packet of a command that is the launch of one (R381). -/
def asked : Instr → Option (OpSpec × Pkt)
  | .packetBadOpcode op pk =>
    if assignedOp op.toNat then none
    else some ({ op := op.toNat, priv := .any, len := fun _ => true, reserved := true }, pk)
  | .nop pk => some (specNop, pk)
  | .identify pk => some (specIdentify, pk)
  | .modeSet pk => some (specModeSet, pk)
  | .settingsSave pk => some (specSettingsSave, pk)
  | .healthCfg pk => some (specHealthCfg, pk)
  | .probeOwners pk => some (specProbeOwners, pk)
  | .rangeSet pk => some (specRangeSet, pk)
  | .pmcConfig pk => some (specPmcConfig, pk)
  | .counterEnable pk => some (specCounterEnable, pk)
  | .counterWrite pk => some (specCounterWrite, pk)
  | .ovfClear pk => some (specOvfClear, pk)
  | .snapshot pk => some (specSnapshot, pk)
  | .probeTiming pk => some (specProbeTiming, pk)
  | .tallySet pk => some (specTallySet, pk)
  | .samplerConfig pk => some (specSamplerConfig, pk)
  | .cmdStream pk => some (specCmdStream, pk)
  | .edgeStream pk => some (specEdgeStream, pk)
  | .tieMode pk => some (specTieMode, pk)
  | .probeStatus pk => some (specProbeStatus, pk)
  | .partitionSet pk => some (specPartitionSet, pk)
  | .ownerExport pk => some (specOwnerExport, pk)
  | .exportSet pk => some (specExportSet, pk)
  | .flush pk => some (specFlush, pk)
  | .ledgerSet pk => some (specLedgerSet, pk)
  | .ledgerTrigger pk => some (specLedgerTrigger, pk)
  | .ledgerRelease pk => some (specLedgerRelease, pk)
  | .ledgerRead pk => some (specLedgerRead, pk)
  | .ledgerStatus pk => some (specLedgerStatus, pk)
  | .tapSafety pk => some (specTapSafety, pk)
  | .tapMeasure pk => some (specTapMeasure, pk)
  | .tableBase pk => some (specTableBase, pk)
  | .tableEntry pk => some (specTableEntry, pk)
  | .watchAssign pk => some (specWatchAssign, pk)
  | .watchConfig pk => some (specWatchConfig, pk)
  | .watchArm pk => some (specWatchArm, pk)
  | .assayCounters pk => some (specAssayCounters, pk)
  | .tapReenable pk => some (specTapReenable, pk)
  | .opSubmit pk => some (specOpSubmit, pk)
  | .opCancel pk => some (specOpCancel, pk)
  | .itinLoad pk => some (specItinLoad, pk)
  | .modelLoad pk => some (specModelLoad, pk)
  | .slotUnload pk => some (specSlotUnload, pk)
  | .chAllot pk => some (specChAllot, pk)
  | .chStatus pk => some (specChStatus, pk)
  | .timeStatus pk => some (specTimeStatus, pk)
  | .servoSet pk => some (specServoSet, pk)
  | .reanchor pk => some (specReanchor, pk)
  | .laneAsym pk => some (specLaneAsym, pk)
  | .powerPolicy pk => some (specPowerPolicy, pk)
  | .envelopeSet pk => some (specEnvelopeSet, pk)
  | .derateSet pk => some (specDerateSet, pk)
  | .coolantReport pk => some (specCoolantReport, pk)
  | .domainSet pk => some (specDomainSet, pk)
  | .domainAssign pk => some (specDomainAssign, pk)
  | .frameSchedule pk => some (specFrameSchedule, pk)
  | .framePlan pk => some (specFramePlan, pk)
  | .powerStatus pk => some (specPowerStatus, pk)
  | .charterBegin pk => some (specCharterBegin, pk)
  | .charterEnd pk => some (specCharterEnd, pk)
  | .attest pk => some (specAttest, pk)
  | .keyAgree pk => some (specKeyAgree, pk)
  | .keyInstall pk => some (specKeyInstall, pk)
  | .keyZeroise pk _ => some (specKeyZeroise, pk)
  | .linkMode pk => some (specLinkMode, pk)
  | .charterStatus pk => some (specCharterStatus, pk)
  | .surveySet pk => some (specSurveySet, pk)
  | .surveyPredict pk => some (specSurveyPredict, pk)
  | .surveyCheckpoint pk => some (specSurveyCheckpoint, pk)
  | .surveyRecal pk => some (specSurveyRecal, pk)
  | .surveyRead pk => some (specSurveyRead, pk)
  | .faultRead pk => some (specFaultRead, pk)
  | .faultRelease pk => some (specFaultRelease, pk)
  | .faultPolicy pk => some (specFaultPolicy, pk)
  | .faultInject pk => some (specFaultInject, pk)
  | .updateBegin pk => some (specUpdateBegin, pk)
  | .updateData pk => some (specUpdateData, pk)
  | .updateCommit pk => some (specUpdateCommit, pk)
  | .updateAbort pk => some (specUpdateAbort, pk)
  | .logbookRead pk => some (specLogbookRead, pk)
  | .stpControl pk => some (specStpControl, pk)
  | .serviceStatus pk => some (specServiceStatus, pk)
  | .spareFuse pk => some (specSpareFuse, pk)
  | .coreRetest pk => some (specCoreRetest, pk)
  | _ => none

/-- The firmware runs and takes packets: READY, awake (R344, R356, R376, R385 check 1). -/
def State.serving (s : State) : Prop :=
  s.dev.phase = .running ∧ s.dev.mode ≠ .boot ∧ s.dev.restarting = false ∧ s.lk.st = .underway ∧ s.lk.entering = none

/-- A packet that its aperture takes and that checks 1 to 7 of R385 let through, with no instant to wait for (R391):
written to the aperture now, it is executed now. `sp` is the opcode's row of the tables of 11. -/
def Heard (sp : OpSpec) (pk : Pkt) (s : State) : Prop :=
  s.serving ∧ (s.apt pk.o).closed = false ∧
  (sp.long = true ∨ pk.async = true → (s.apt pk.o).freeSlot ≠ none) ∧
  pk.chart.toNat = pk.o ∧ sp.reserved = false ∧
  (s.dev.mode = .test → pk.o = hm) ∧ (s.dev.mode = .recovery → pk.o = hm ∧ sp.inRecovery = true) ∧
  (sp.priv = .hmOnly → pk.o = hm) ∧ (sp.mode = none ∨ sp.mode = some s.dev.mode) ∧
  sp.permit pk.o (s.rung sp pk) = true ∧
  sp.len pk.ps = true ∧ (pk.streamed = true → sp.streamed = true) ∧ (pk.force = true → sp.force = true) ∧
  (pk.o = hm ∨ (s.active pk.o = true ∧ s.leaves pk.o = false) ∨ sp.free = true) ∧
  sp.at_ pk = none

/-- An owner that a packet may name: the harbourmaster or an ACTIVE charter (R385 check 7, R394). -/
def State.named (s : State) (o : Nat) : Prop := o = hm ∨ (o < 16 ∧ s.active o = true)

/-- The completion slot that a packet takes: the lowest free one of its aperture, 0 when it needs none (R389, R390). -/
def slotFor (sp : OpSpec) (pk : Pkt) (s : State) : Nat :=
  if sp.long || pk.async then (s.apt pk.o).freeSlot.getD 0 else 0

/-- The start of a long operation: ACCEPTED with its completion slot, which is pending from now (R389, R390). -/
def State.accepting (t : State) (sp : OpSpec) (pk : Pkt) (slot : Nat) (ws : List Nat) : State :=
  (t.modApt pk.o (fun a => a.setSlot slot { a.slot slot with pending := true })).reply sp.op pk .accepted (slot :: ws)

/-- A final reply OK: in slot 0 at once, or, for ASYNC and for a long opcode, after ACCEPTED as the completion (R380, R389,
R390). -/
def State.answered (t : State) (sp : OpSpec) (pk : Pkt) (slot : Nat) (ws : List Nat) : State :=
  if sp.long || pk.async then (t.accepting sp pk slot []).complete sp.op pk.o pk.seq slot .ok ws
  else t.reply sp.op pk .ok ws

/-- An executed packet answers OK with these words, having changed the state at the doorbell by `f` alone. -/
def Answers (r : Res) (sp : OpSpec) (pk : Pkt) (s : State) (ws : List Nat) (f : State → State) : Prop :=
  r = .next ((f (s.rung sp pk)).answered sp pk (slotFor sp pk s) ws)

/-- An executed packet is ACCEPTED with these words after its slot's number, having changed the state at the doorbell by `f`
alone. -/
def Accepts (r : Res) (sp : OpSpec) (pk : Pkt) (s : State) (ws : List Nat) (f : Nat → State → State) : Prop :=
  r = .next ((f (slotFor sp pk s) (s.rung sp pk)).accepting sp pk (slotFor sp pk s) ws)

/-- Every probe of the packet's set exists and satisfies a condition (R394; R385 checks 8 and 9). -/
def SetFits (pk : Pkt) (s : State) (owned : Probe → Prop) : Prop :=
  ∀ p < 128, pk.probes.getLsbD p = true → p < s.ident.nProbes ∧ owned (s.probe p)

/-- An executed packet answers OK, having changed every probe p of its set by `g p` and nothing else. -/
def Retunes (r : Res) (sp : OpSpec) (pk : Pkt) (s : State) (ws : List Nat) (g : Nat → Probe → Probe) : Prop :=
  ∃ ps : Tab Probe, Answers r sp pk s ws (fun t => { t with probes := ps }) ∧
    ∀ p, tget ps p Probe.zero = if pk.probes.getLsbD p then g p (s.probe p) else s.probe p

/-! ## Steps of an itinerary -/

/-- The mask leaves lane i out (R304): 256 lanes have a mask bit, a lane beyond them is not written under the mask. -/
def StepEnv.masked (e : StepEnv) (x : Core) (i : Nat) : Bool := e.st.msk && !(decide (i < 256) && (x.M 0).getLsbD i)

/-- The value that the step's a, b or c names, lane by lane. -/
def StepEnv.va (e : StepEnv) (x : Core) (i : Nat) : FVal := laneVal e.fmt (lane e.fmt (x.V e.st.a) i)
def StepEnv.vb (e : StepEnv) (x : Core) (i : Nat) : FVal := laneVal e.fmt (lane e.fmt (x.V e.st.b) i)
def StepEnv.vc (e : StepEnv) (x : Core) (i : Nat) : FVal := laneVal e.fmt (lane e.fmt (x.V e.st.c) i)

/-- The step of core c is done and has written vector d alone: each lane of the format that the mask lets through gets the
value stated for it, every other bit of the vector stays, and the vector is poisoned with its sources. -/
def WritesLanes (r : Res) (s : State) (c : Nat) (e : StepEnv) (code : Nat) (f : Nat → Option Nat) (p : Bool) : Prop :=
  ∃ v : BitVec 2048,
    r = .next (s.retire c ((s.core c).setV e.st.d v (p || (e.st.msk && ((s.core c).psnV e.st.d || (s.core c).psnM 0))))) ∧
    v.toNat / 2 ^ (laneWidth code * laneCount code) = (s.core c).V e.st.d / 2 ^ (laneWidth code * laneCount code) ∧
    ∀ i < laneCount code,
      (e.masked (s.core c) i = true → lane code v.toNat i = lane code ((s.core c).V e.st.d) i) ∧
      (e.masked (s.core c) i = false → ∀ n, f i = some n → lane code v.toNat i = n % 2 ^ laneWidth code)

end Sys2Proof.Machine
end

