-- ==== Sys2Proof/Certificates/Slice0/Obligations.lean ====
section
/-! DEFINITION. The statements for the provers: what the rules of the spec say that the commands and the block do. -/

section

open Sys2Proof Sys2Proof.Machine

/-- A step takes the command at the front of the queue and runs it with the rest of the queue (R388). For every command c
and every state whose queue begins with c, the step is exec of c on the state with the rest of the queue. The queue of
waiting commands is the model's own (a block has no program counter); the order of arrival is R388's. -/
def Obligations.StepRunsFrontCommand : Prop :=
  ∀ (c : Instr) (rest : List Instr) (s : State),
    s.pending = c :: rest → step s = exec c { s with pending := rest }

/-- With no command waiting, a step is one TCLK cycle, or one AON_REF cycle while TCLK is stopped (the model's choice, log
1) (R31, R66, R83, R98, R105, R126). With an empty queue the step completes. While PORST_N is low nothing changes.
Otherwise CVT advances by the increment in force per TCLK cycle, or by the coarse increment of 40 ns while TCLK is
stopped, the count of powered time grows by 1 ns or to the next AON_REF cycle, TCLK stops at an AON_REF edge where a
sleep has asked for it, THR_LEVEL moves at most one level towards the envelope's level, a response of the host target
port is over, and the queue, the mode, the power state and the apertures stay. That a step without a command is this
tick is the model's choice (log 1). -/
def Obligations.IdleStepPassesTime : Prop :=
  ∀ s : State, s.pending = [] → ∃ t, step s = .next t ∧
    (s.dev.phase = .held → t = s) ∧
    (s.dev.phase ≠ .held → s.clk.tclk = true → t.time.cvt = s.time.cvt + s.time.incOn ∧ (s.clk.phase < 40 → t.now = s.now + 1)) ∧
    (s.dev.phase ≠ .held → s.clk.tclk = false →
      t.time.cvt = s.time.cvt + s.time.coarseInc ∧ t.now = s.clk.powered * 40 + 40) ∧
    (s.dev.phase ≠ .held → s.clk.tclk = true → (t.clk.tclk = false ↔ s.clk.stop = true ∧ 40 ≤ s.clk.phase + 1)) ∧
    (s.dev.phase ≠ .held → t.io.rspVld = false) ∧
    (t.io.thr = s.io.thr ∨ (s.io.thr < s.env.thr ∧ t.io.thr = s.io.thr + 1) ∨ (s.env.thr < s.io.thr ∧ t.io.thr = s.io.thr - 1)) ∧
    t.pending = [] ∧ t.dev = s.dev ∧ t.lk = s.lk ∧ t.esl = s.esl ∧ t.time.epoch = s.time.epoch ∧ t.fc = s.fc

/-- State.reset holds the values that the spec gives for PORST_N (R26, R102, R108, R114, R344, R354, R364, R407, R435,
R472). At reset the device is in BOOT and not READY, CVT is 0 in epoch 0 and DETACHED, the servo period is 125 ms, the
block is UNDERWAY with the default guard of 20 us, every charter is INACTIVE with no key, the fault lines show a fault
of class 3 while the queue is empty, HEARTBEAT does not toggle, every aperture is open and empty, the envelope has its
defaults, and no command waits. -/
def Obligations.ResetState : Prop :=
  State.reset.dev.mode = .boot ∧ State.reset.dev.ready = false ∧ State.reset.time.cvt = 0 ∧ State.reset.time.epoch = 0 ∧
  State.reset.time.st = .detached ∧ State.reset.time.period = 125000 ∧ State.reset.lk.st = .underway ∧
  State.reset.lk.policy.guard = 20 ∧ (∀ c < 16, State.reset.chState c = .inactive ∧ State.reset.keygen c = 0) ∧
  (∀ i < 64, (State.reset.keySlot i).st = .free ∧ (State.reset.keySlot i).key = 0) ∧ State.reset.faultNLow = true ∧
  State.reset.faultP = true ∧ State.reset.errClass = 3 ∧ State.reset.openCount = 0 ∧ State.reset.fc.hb = false ∧
  (∀ o < 17, (State.reset.apt o).closed = false ∧ (State.reset.apt o).discards = 0) ∧ State.reset.env.pCont = 160 ∧
  State.reset.env.pBurst = 240 ∧ State.reset.env.thr = 0 ∧ State.reset.ledger.st = .armed ∧ State.reset.pending = []

/-- The device mode, the start-up phase and the power state fit together at reset (R26, R344, R487). The state after reset
satisfies the invariant of ModeInvariant. -/
def Obligations.ModeInvariantAtReset : Prop :=
  State.reset.modeWf

/-- Every step keeps the device mode, the start-up phase and the power state together (R26, R344, R346, R487, R520). From
every state in which the mode is BOOT exactly before the firmware image is known, READY shows exactly while the
firmware or the recovery personality runs, and the block sleeps or enters sleep only with it running, every step leads
to a state of the same kind: whatever the command, and when no command waits. -/
def Obligations.ModeInvariant : Prop :=
  ∀ s t : State, s.modeWf → step s = .next t → t.modeWf

/-- Every command of the table answers a next state, and no command touches the queue (R9, R67, R388). For every command
and every state, exec answers a next state and never a fault or a refusal, and the commands that wait are the same as
before. -/
def Obligations.CommandsCompleteAndLeaveQueue : Prop :=
  ∀ (i : Instr) (s : State), ∃ t, exec i s = .next t ∧ t.pending = s.pending

/-- No command changes an integration value (R34, R454, R456, R518). Whatever the command, the identification values keep
their value, except the firmware version, the count of ignored fuse words, the fuse words themselves with the count of
spare rows fused (written by SPARE_FUSE), the fuse words that answered FUSE_ERR (known at start-up), and the chip
index, which only the cold start samples. -/
def Obligations.IntegrationValuesFixed : Prop :=
  ∀ (i : Instr) (s t : State), exec i s = .next t →
    { t.ident with fw := 0, fuseErr := 0, chip := 0, fuseWords := [], fuseBad := [], sparesFused := 0 } =
      { s.ident with fw := 0, fuseErr := 0, chip := 0, fuseWords := [], fuseBad := [], sparesFused := 0 } ∧
    ((∀ a b, i ≠ .coldStart a b) → t.ident.chip = s.ident.chip) ∧
    ((∀ r, i ≠ .spareFuseDone r) → t.ident.fuseWords = s.ident.fuseWords)

/-- Only a step edge changes CVT and only the Lock-keeper's commands and resets change the power state (R102, R116, R127,
R344, R357). A command other than STEP_EDGE, FOLLOWER_STEP and PORST_N_ASSERT leaves CVT as it is. A command other
than POWER_STATE_CHOICE, SLEEP_ENTRY_COMPLETE, SLEEP_EXIT_COMPLETE and the two resets leaves the block's power state
and the state being entered as they are. -/
def Obligations.WhoMovesTimeAndPower : Prop :=
  ∀ (i : Instr) (s t : State), exec i s = .next t →
    (i ≠ .stepEdge → i ≠ .followerStep → i ≠ .porstNAssert → t.time.cvt = s.time.cvt) ∧
    (i ≠ .powerStateChoice → i ≠ .sleepEntryComplete → i ≠ .sleepExitComplete → i ≠ .porstNAssert → (∀ c, i ≠ .warmReset c) →
      t.lk.st = s.lk.st ∧ t.lk.entering = s.lk.entering)

/-- A packet whose header charter differs from its aperture's owner is answered DENIED and not executed (R38). For every
packet command of the table, written to an open aperture of a serving block with a completion slot free where it needs
one: when its header's charter field differs from the owner of the aperture, the whole effect of the command is the
packet in the aperture's buffer and a reply DENIED with two zero words. -/
def Obligations.PacketOfAnotherCharter : Prop :=
  ∀ (i : Instr) (sp : OpSpec) (pk : Pkt) (s : State), asked i = some (sp, pk) → s.serving → (s.apt pk.o).closed = false →
    (sp.needsSlot pk s = true → (s.apt pk.o).freeSlot ≠ none) → pk.chart.toNat ≠ pk.o →
    exec i s = .next ((s.rung sp pk).reply sp.op pk .denied [0, 0])

/-- A packet that fails one of checks 1 to 7 is answered with the status of the first that fails and is not executed
(R376, R377, R385, R386, R392, R407). For every packet command: written to a closed aperture of an awake block it is
answered on the port and only advances the discard counter. On an open one, a block in BOOT, not READY or restarting,
or without a free completion slot for a packet that needs one, answers BUSY; then in this order a stranger's charter
DENIED, a reserved opcode BAD_OPCODE, an opcode that privilege or mode does not permit DENIED, a length not allowed
BAD_LENGTH, a flag not allowed BAD_PARAM, and a charter that is not ACTIVE, or whose CHARTER_END has been accepted,
NO_CHARTER. Each refused packet leaves its words in the aperture and a reply with two zero words, and changes nothing
else. PACKET_BAD_OPCODE is such a refusal. -/
def Obligations.PacketChecksInOrder : Prop :=
  ∀ (i : Instr) (sp : OpSpec) (pk : Pkt) (s : State), asked i = some (sp, pk) → s.dev.phase ≠ .held → s.lk.st = .underway →
    s.lk.entering = none →
    let slotless := sp.needsSlot pk s = true ∧ (s.apt pk.o).freeSlot = none
    let barred := (s.dev.mode = .test ∧ pk.o ≠ hm) ∨ (s.dev.mode = .recovery ∧ (pk.o ≠ hm ∨ sp.inRecovery = false)) ∨
      (sp.priv = .hmOnly ∧ pk.o ≠ hm) ∨ (∃ m, sp.mode = some m ∧ s.dev.mode ≠ m) ∨ sp.permit pk.o (s.rung sp pk) = false
    let flagged := (pk.streamed = true ∧ sp.streamed = false) ∨ (pk.force = true ∧ sp.force = false)
    let refused := fun st => exec i s = .next ((s.rung sp pk).reply sp.op pk st [0, 0])
    ((s.apt pk.o).closed = true → exec i s = .next ((s.respond 0 0 0).discard pk.o ((pk.ps.length + 2) / 2))) ∧
    ((s.apt pk.o).closed = false →
      (s.dev.mode = .boot ∨ s.dev.phase ≠ .running ∨ s.dev.restarting = true ∨ slotless → refused .busy) ∧
      (s.serving → ¬ slotless → pk.chart.toNat = pk.o →
        (sp.reserved = true → refused .badOpcode) ∧
        (sp.reserved = false → barred → refused .denied) ∧
        (sp.reserved = false → ¬ barred → sp.len pk.ps = false → refused .badLength) ∧
        (sp.reserved = false → ¬ barred → sp.len pk.ps = true → flagged → refused .badParam) ∧
        (sp.reserved = false → ¬ barred → sp.len pk.ps = true → ¬ flagged → pk.o ≠ hm →
          s.active pk.o = false ∨ s.leaves pk.o = true → sp.free = false → refused .noCharter)))

/-- A packet that needs a completion slot takes the lowest free one and names it in A1 of its ACCEPTED reply (R380, R389,
R390). When a packet of a long opcode, or with ASYNC, passes checks 1 to 7 with no instant to wait for, its reply in
slot 0 is either a refusal, or ACCEPTED with A1 equal to the number of the completion slot that was the lowest free
one of its aperture; that slot is then in use. -/
def Obligations.CompletionSlots : Prop :=
  ∀ (i : Instr) (sp : OpSpec) (pk : Pkt) (s : State) (k : Nat), asked i = some (sp, pk) → Heard sp pk s →
    (sp.long = true ∨ pk.async = true) → 1 ≤ k → k ≤ 3 →
    ((s.apt pk.o).slot k).pending = false → ((s.apt pk.o).slot k).full = false →
    (∀ j, 1 ≤ j → j < k → ((s.apt pk.o).slot j).pending = true ∨ ((s.apt pk.o).slot j).full = true) →
    ∃ t, exec i s = .next t ∧ (t.apt pk.o).closed = false ∧ (t.apt pk.o).s0.pending = false ∧
      ((((t.apt pk.o).s0.words.getD 0 0).toNat % 256 ≠ 1) ∨
       ((t.apt pk.o).s0.words.getD 1 0 = BitVec.ofNat 32 k ∧
        (((t.apt pk.o).slot k).pending = true ∨ ((t.apt pk.o).slot k).full = true)))

/-- A packet with a stated instant waits for it, is refused, or runs late, as R391 and R121 say; INSTANT_ACTION_DUE runs
it (R121, R140, R391). For a launch whose checks 1 to 7 pass, whose fields are accepted and whose instant is t: t more
than 60 s ahead gives BAD_PARAM; otherwise while the time is DETACHED or UNCERTAIN a packet without FORCE gives
TIME_UNCERTAIN, each with nothing executed; an instant not ahead of CVT runs at once; another one is held with the
epoch and the slot, and answered ACCEPTED where it has a slot. INSTANT_ACTION_DUE, once CVT has reached the instant or
the epoch has changed, takes the action from the list, applies it and posts its reply, with TIME_UNCERTAIN in place of
OK after a change of epoch or a FORCE. -/
def Obligations.StatedInstants : Prop :=
  (∀ (sp : OpSpec) (body : Pkt → Nat → State → Verdict) (pk : Pkt) (s : State) (t : Nat) (ws : List Nat) (u : State),
    preCheck sp pk s = none → sp.at_ pk = some t →
    body pk (if sp.needsSlot pk s then (s.apt pk.o).freeSlot.getD 0 else 0) s = .done .ok ws u →
    let slot := if sp.needsSlot pk s then (s.apt pk.o).freeSlot.getD 0 else 0
    let held : State := { s with esl := { s.esl with held := s.esl.held ++ [⟨sp.op, pk, slot, t, s.time.epoch, s.uncertain⟩] } }
    (s.time.cvt + 60000 * msFine < t → runPacket sp body pk s = s.reply sp.op pk .badParam [sp.instant.getD 0 + 1, 0]) ∧
    (t ≤ s.time.cvt + 60000 * msFine →
      (s.uncertain = true → pk.force = false → runPacket sp body pk s = s.reply sp.op pk .timeUncertain [0, 0]) ∧
      (s.uncertain = false ∨ pk.force = true →
        (t ≤ s.time.cvt → runPacket sp body pk s = finish sp pk slot s.uncertain s (.done .ok ws u)) ∧
        (s.time.cvt < t → slot = 0 → runPacket sp body pk s = held) ∧
        (s.time.cvt < t → slot ≠ 0 → runPacket sp body pk s =
          (held.modApt pk.o (fun a => a.setSlot slot { a.slot slot with pending := true })).reply sp.op pk .accepted [slot])))) ∧
  (∀ (idx : Nat) (s : State) (h : Held) (ws : List Nat) (u : State), s.esl.held[idx]? = some h → s.asleep = false →
    s.dev.restarting = false → (h.epoch ≠ s.time.epoch ∨ h.instant ≤ s.time.cvt) → s.esl.deferred = [] → u.esl.deferred = [] →
    (packetOf h.op).2 h.pk h.slot { s with esl := { s.esl with held := removeAt s.esl.held idx } } = .done .ok ws u →
    exec (.instantActionDue idx) s = .next (u.answerHeld h
      (if h.uncertain = true ∨ h.epoch ≠ s.time.epoch then .timeUncertain else .ok) ws))

/-- NOP, IDENTIFY, MODE_SET, SETTINGS_SAVE and HEALTH_CFG complete with the effect of their rows, and a reserved opcode
gets BAD_OPCODE (R395, R27, R478, R385). A heard NOP answers OK and changes nothing. IDENTIFY answers release 0x0100
with mode and chip, the firmware version (0 in RECOVERY) and the mask of ACTIVE owners. MODE_SET from STARTUP to
SERVICE starts fresh sampling intervals, from SERVICE to STARTUP changes the mode alone, from either to TEST needs no
ACTIVE charter, and from TEST to STARTUP leaves TEST. SETTINGS_SAVE is accepted as a long operation. HEALTH_CFG sets
the two flags and the base address. A packet of a reserved opcode, its charter field right, has the reply BAD_OPCODE
as its whole effect. -/
def Obligations.DevicePackets : Prop :=
  (∀ (op : BitVec 8) (pk : Pkt) (s : State), assignedOp op.toNat = false → s.serving → (s.apt pk.o).closed = false →
    (pk.async = true → (s.apt pk.o).freeSlot ≠ none) → pk.chart.toNat = pk.o →
    let row : OpSpec := { op := op.toNat, priv := .any, len := fun _ => true, reserved := true }
    exec (.packetBadOpcode op pk) s = .next ((s.rung row pk).reply op.toNat pk .badOpcode [0, 0])) ∧
  ∀ (pk : Pkt) (s : State),
    (Heard specNop pk s → Answers (exec (.nop pk) s) specNop pk s [] (fun t => t)) ∧
    (Heard specIdentify pk s → ∃ mask, (∀ c < 16, mask.testBit c = s.active c) ∧ mask.testBit 16 = true ∧
      Answers (exec (.identify pk) s) specIdentify pk s
        [0x0100 + s.dev.mode.code * 2 ^ 16 + s.chip * 2 ^ 19, if s.dev.mode = .recovery then 0 else s.ident.fw.toNat, mask]
        (fun t => t)) ∧
    (Heard specModeSet pk s → fld (pk.p 1) 0 3 = 2 → s.dev.mode = .startup →
      Answers (exec (.modeSet pk) s) specModeSet pk s []
        (fun t => ({ t with dev := { t.dev with mode := .service } }).freshIntervals)) ∧
    (Heard specModeSet pk s → fld (pk.p 1) 0 3 = 1 → s.dev.mode = .service →
      Answers (exec (.modeSet pk) s) specModeSet pk s [] (fun t => { t with dev := { t.dev with mode := .startup } })) ∧
    (Heard specModeSet pk s → fld (pk.p 1) 0 3 = 3 → s.dev.mode = .startup ∨ s.dev.mode = .service →
      (∀ c < 16, s.active c = false) →
      Answers (exec (.modeSet pk) s) specModeSet pk s []
        (fun t => { t with dev := { t.dev with mode := .test }, ecc := { t.ecc with testBank := t.ecc.bank, testMap := t.ecc.map } })) ∧
    (Heard specModeSet pk s → fld (pk.p 1) 0 3 = 1 → s.dev.mode = .test →
      Answers (exec (.modeSet pk) s) specModeSet pk s []
        (fun t => ({ t with dev := { t.dev with mode := .startup } }).leaveTest)) ∧
    (Heard specSettingsSave pk s → Accepts (exec (.settingsSave pk) s) specSettingsSave pk s []
        (fun slot t => t.addJob 0x03 pk slot 0 0 0)) ∧
    (Heard specHealthCfg pk s → Answers (exec (.healthCfg pk) s) specHealthCfg pk s []
        (fun t => { t with fc := { t.fc with healthOn := flag (pk.p 1) 0, healthIrq := flag (pk.p 1) 1, healthAddr := pk.addr 2 } }))

/-- REGISTER_WRITE carries one access of the host target port: a write changes its register, a read answers its value, a
faulty one only answers an error (R66, R67, R514, R516, R522, R523, R527, R529, R537, R515). While PORST_N is high
every access wakes the block and is answered under its HT_ID. One that is not naturally aligned, or a write without
all byte enables of its size, answers 0b01 and one where no register is assigned 0b10 (which of the two a half
assigned 64-bit access takes, and the data 0 of both, are the model's choice, log 95); neither has another effect. An
aligned 32-bit write clears IRQ_STATUS bits that software may clear where a 1 is written, replaces IRQ_ENABLE within
its defined bits, clears IRQ_OVF_PROBE bits where a 1 is written, and replaces a word of SNAP_SET; on the
harbourmaster's page it clears bits of the correction overflow and replaces the address and data of the check-bit test
port. Everything else stays. A 64-bit write outside the command aperture is the write of its low and then of its high
word. A read answers the value that its words read as, and one of CVT_LATCH_LO first latches the owner's CVT. -/
def Obligations.RegisterWrites : Prop :=
  ∀ (id : BitVec 8) (s : State), s.dev.phase ≠ .held →
    let q := s.hostAccess
    (∀ (addr : BitVec 24) wr size64 strb data, accepted addr.toNat wr size64 strb = false →
      exec (.registerWrite ⟨id, wr, addr⟩ size64 strb data) s = .next (q.respond id 1 0)) ∧
    (∀ (addr : BitVec 24) wr size64 strb data, accepted addr.toNat wr size64 strb = true →
      17 * 0x80000 ≤ addr.toNat ∨
        (∃ a ∈ accessOffs (addr.toNat % 0x80000) size64, q.regRead (addr.toNat / 0x80000) a = none) →
      exec (.registerWrite ⟨id, wr, addr⟩ size64 strb data) s = .next (q.respond id 2 0)) ∧
    ∀ (o : Fin 17) (w : W32),
      let r := (s.wake .hostAccess).respond id 0 0
      let wr (off : Nat) := exec (.registerWrite ⟨id, true, (BitVec.ofNat 24 (o.val * 0x80000 + off))⟩ false 0x0F (w.setWidth 64)) s
      wr 0x2000 = .next { r with win := { r.win with
        irqStatus := tset r.win.irqStatus o.val (r.irqStatus o.val &&& ~~~(w &&& irqRws o.val)) 0 } } ∧
      wr 0x2004 = .next { r with win := { r.win with irqEnable := tset r.win.irqEnable o.val (w &&& irqBits o.val) 0 } } ∧
      (∀ k < 4, wr (0x2008 + 4 * k) = .next { r with win := { r.win with
        ovfProbe := tset r.win.ovfProbe o.val (clearOf (tget r.win.ovfProbe o.val 0) k w) 0 } }) ∧
      (∀ k < 4, wr (0x4000 + 4 * k) = .next (r.setSnapWin o.val { r.snapWin o.val with set := setWordOf (r.snapWin o.val).set k w })) ∧
      (o.val = hm → (∀ k < 2, wr (0x41400 + 4 * k) = .next { r with win := { r.win with eccOvf := clearOf r.win.eccOvf k w } }) ∧
        wr 0x42000 = .next { r with ecc := { r.ecc with cbt := { r.ecc.cbt with bank := fld w 0 6, copy := flag w 6, word := fld w 8 24 } } } ∧
        (∀ k < 2, wr (0x42008 + 4 * k) = .next { r with ecc := { r.ecc with cbt := { r.ecc.cbt with lo := setWordOf r.ecc.cbt.lo k w } } }) ∧
        (∀ k < 2, wr (0x42010 + 4 * k) = .next { r with ecc := { r.ecc with cbt := { r.ecc.cbt with hi := setWordOf r.ecc.cbt.hi k w } } }) ∧
        wr 0x42018 = .next { r with ecc := { r.ecc with cbt := { r.ecc.cbt with check := w.setWidth 9 } } }) ∧
      (∀ off data, off % 8 = 0 → off < 0x80000 → (off < 0x30000 ∨ 0x31000 ≤ off) →
        (q.regRead o.val off).isSome = true → (q.regRead o.val (off + 4)).isSome = true →
        exec (.registerWrite ⟨id, true, (BitVec.ofNat 24 (o.val * 0x80000 + off))⟩ true 0xFF data) s =
          .next (((q.regWrite o.val off (data.setWidth 32)).regWrite o.val (off + 4) ((data >>> 32).setWidth 32)).respond id 0 0)) ∧
      (∀ off strb data v, off % 4 = 0 → off < 0x80000 → off ≠ 0x1010 → q.regRead o.val off = some v →
        exec (.registerWrite ⟨id, false, (BitVec.ofNat 24 (o.val * 0x80000 + off))⟩ false strb data) s =
          .next (q.respond id 0 (BitVec.ofNat 64 v))) ∧
      (∀ off strb data v v', off % 8 = 0 → off < 0x80000 → off ≠ 0x1010 → q.regRead o.val off = some v →
        q.regRead o.val (off + 4) = some v' →
        exec (.registerWrite ⟨id, false, (BitVec.ofNat 24 (o.val * 0x80000 + off))⟩ true strb data) s =
          .next (q.respond id 0 (BitVec.ofNat 64 (v + v' * 2 ^ 32)))) ∧
      (∀ strb data, exec (.registerWrite ⟨id, false, (BitVec.ofNat 24 (o.val * 0x80000 + 0x1010))⟩ true strb data) s =
        .next ((q.latchCvt o.val 0).respond id 0 (BitVec.ofNat 64 ((q.latchCvt o.val 0).latch o.val).cvt.toNat)))

/-- A word written into the command aperture fills the buffer, the word with number L launches the packet, and a closed
aperture counts it (R376, R377, R381). A 32-bit write of word i of an open command aperture, i below 256, puts the
word at place i of the buffer; when i is the length L of the header that then stands in word 0, the packet that the
buffer holds is launched by its opcode, and otherwise nothing else changes. While the aperture is closed the write
changes nothing but its discard counter, which saturates. In each case the write wakes the block and is answered OK
under its HT_ID. -/
def Obligations.CommandApertureWrites : Prop :=
  ∀ (id : BitVec 8) (o : Fin 17) (w : W32) (i : Nat) (s : State), s.dev.phase ≠ .held → i < 256 →
    let r := (s.wake .hostAccess).respond id 0 0
    let b := putWord (r.apt o.val).buf i w
    let wr := exec (.registerWrite ⟨id, true, (BitVec.ofNat 24 (o.val * 0x80000 + 0x30000 + 4 * i))⟩ false 0x0F (w.setWidth 64)) s
    ((r.apt o.val).closed = true → wr = .next (r.setApt o.val { r.apt o.val with discards := min (2 ^ 32 - 1) ((r.apt o.val).discards + 1) })) ∧
    ((r.apt o.val).closed = false → fld (b.headD 0) 16 8 ≠ i → wr = .next (r.setApt o.val { r.apt o.val with buf := b })) ∧
    ((r.apt o.val).closed = false → fld (b.headD 0) 16 8 = i →
      wr = .next (((s.hostAccess.setApt o.val { r.apt o.val with buf := b }).launchOp (fld (b.headD 0) 24 8) (bufPacket o b).2).respond id 0 0))

/-- The writes and reads of the window with an effect of their own: reply-slot release, CVT latch, snapshot trigger,
aperture control (R379, R522, R526, R527, R528, R529). REPLY_SLOT_RELEASE frees a full completion slot 1 to 3 and
leaves every other. CVT_LATCH latches the timestamp of its instant with epoch, time state, partition and the coarse
mark; the owner's latch then reads so and every other owner's as before, and the answer is its low 64 bits, or 32 for
an access of that size. SNAP_TRIGGER with go = 0 starts nothing; with go = 1 it starts the snapshots of the set, or is
rejected as a whole. APT_CTRL clears the discard counter, or the two key counters, of its owner. Each wakes the block
and is answered OK on the host target port; nothing else changes. -/
def Obligations.WindowCommands : Prop :=
  ∀ (o : Fin 17) (s : State), s.dev.phase ≠ .held →
    let r := s.hostAccess
    (∀ slot : Fin 4, slot.val ≠ 0 → ((r.apt o.val).slot slot.val).full = true →
      exec (.replySlotRelease o slot) s = .next (r.setApt o.val ((r.apt o.val).setSlot slot.val { (r.apt o.val).slot slot.val with full := false }))) ∧
    (∀ size64 phase, ∃ t, exec (.cvtLatch o size64 phase) s =
        .next (({ r with win := { r.win with latch := t } }).respond 0 0
          (BitVec.ofNat 64 ((tget t o.val Latch.zero).cvt.toNat % (if size64 then 2 ^ 64 else 2 ^ 32)))) ∧
      tget t o.val Latch.zero = ⟨BitVec.ofNat 96 (cvt96 (r.capture phase)), s.time.epoch, s.tstate, s.time.part, !s.clk.tclk⟩ ∧
      ∀ p, p ≠ o.val → tget t p Latch.zero = s.latch p) ∧
    (∀ data, flag data 0 = false → exec (.snapTrigger o data) s = .next r) ∧
    (∀ data, flag data 0 = true → r.snapRejects o.val (r.snapWin o.val).set = false → r.snapHeld (r.snapWin o.val).set = false →
      exec (.snapTrigger o data) s = .next (r.snapStart o.val (r.snapWin o.val).set data)) ∧
    (∀ data, flag data 0 = true → r.snapRejects o.val (r.snapWin o.val).set = true →
      exec (.snapTrigger o data) s =
        .next ((r.winForget o.val).setSnapWin o.val { SnapWin.zero with set := (r.snapWin o.val).set, rejected := true })) ∧
    exec (.aptClearDiscard o) s = .next (r.setApt o.val { r.apt o.val with discards := 0 }) ∧
    exec (.aptClearKeyCounters o) s = .next { r with win := { r.win with
      staleKey := tset r.win.staleKey o.val 0 0, blockAuth := tset r.win.blockAuth o.val 0 0 } }

/-- MARK_BEGIN, MARK_END and MARK_POINT emit a marker record of source 133 and class 1, or count a discard (R527, R528).
For an ACTIVE owner in marker mode the write emits a record of source 133 in class 1 at the timestamp of now, of type
0x0E for a begin and a point and 0x0F for an end, with the low 16 bits of the data and the point mark in its payload
and the data as its extra word. For an owner without marker mode, or not ACTIVE, the write changes nothing but the
owner's discard counter. -/
def Obligations.MarkerWrites : Prop :=
  ∀ (o : Fin 17) (data : W64) (s : State), s.dev.phase ≠ .held →
    let r := s.hostAccess
    (r.esl.marker.getLsbD o.val = true → r.active o.val = true →
      exec (.markBegin o data) s = .next (r.emit 133 o.val 0x0E 1 r.ts (data.toNat % 2 ^ 16) [data.toNat]) ∧
      exec (.markEnd o data) s = .next (r.emit 133 o.val 0x0F 1 r.ts (data.toNat % 2 ^ 16) [data.toNat]) ∧
      exec (.markPoint o data) s = .next (r.emit 133 o.val 0x0E 1 r.ts (data.toNat % 2 ^ 16 + 2 ^ 16) [data.toNat])) ∧
    (r.esl.marker.getLsbD o.val = false ∨ r.active o.val = false →
      exec (.markBegin o data) s = .next (r.discard o.val 1) ∧ exec (.markEnd o data) s = .next (r.discard o.val 1) ∧
      exec (.markPoint o data) s = .next (r.discard o.val 1))

/-- The check-bit test port writes, reads and poisons a stored word in TEST, and refuses every access elsewhere (R459,
R537, R444). In TEST, for a bank below 34 and a word below its size, with no merge entry of the word open: CBT_WRITE
stores the held data and check bits as a valid word and marks the bank as written in test mode; CBT_READ of a listed
word delivers its raw data, check bits, syndrome, decoder result, valid and poison bits; CBT_SET_POISON and
CBT_CLR_POISON change the poison of a listed word alone. Of a word that the model does not list (log 12) the data are
free and the check bits match them. Elsewhere each changes nothing but the error bit. -/
def Obligations.CheckBitTestPort : Prop :=
  ∀ s : State, s.dev.phase ≠ .held →
    let r := s.hostAccess
    let c := r.ecc.cbt
    let ok := { r with ecc := { r.ecc with cbt := { c with error := false } } }
    let bad := { r with ecc := { r.ecc with cbt := { c with error := true } } }
    (s.dev.mode ≠ .test ∨ 34 ≤ c.bank ∨ bankWords c.bank ≤ c.word →
      exec .cbtWrite s = .next bad ∧ exec .cbtRead s = .next bad ∧ exec .cbtSetPoison s = .next bad ∧ exec .cbtClrPoison s = .next bad) ∧
    (s.dev.mode = .test → c.bank < 34 → c.word < bankWords c.bank → (r.bank (bankKey c.bank false)).merge = [] →
      (is32 c.bank = false → ∀ p, (∀ x, r.word? c.bank c.copy c.word = some x → x.poison = p) →
        (r.word? c.bank c.copy c.word = none → p = false) →
        exec .cbtWrite s = .next ((ok.setWord c.bank c.copy c.word
          ⟨BitVec.ofNat 128 (c.lo.toNat + c.hi.toNat * 2 ^ 64), c.check, true, p⟩).touch c.bank c.copy)) ∧
      (∀ x, r.word? c.bank c.copy c.word = some x →
        exec .cbtRead s = .next { ok with ecc := { ok.ecc with cbt := { ok.ecc.cbt with
          lo := BitVec.ofNat 64 x.data.toNat, hi := BitVec.ofNat 64 (x.data.toNat / 2 ^ 64), check := x.check,
          syndrome := x.syndrome c.bank c.word, result := x.result c.bank c.word, valid := x.valid, poison := x.poison } } } ∧
        exec .cbtSetPoison s = .next ((ok.setWord c.bank c.copy c.word { x with poison := true }).touch c.bank c.copy) ∧
        exec .cbtClrPoison s = .next ((ok.setWord c.bank c.copy c.word { x with poison := false }).touch c.bank c.copy)) ∧
      (r.word? c.bank c.copy c.word = none →
        (∃ t, exec .cbtRead s = .next t ∧ t.ecc.word = r.ecc.word ∧ t.ecc.cbt.syndrome = 0 ∧ t.ecc.cbt.poison = false ∧
          t.ecc.cbt.error = false) ∧
        (∃ d v n, exec .cbtSetPoison s = .next (({ ok with free := n }.setWord c.bank c.copy c.word
          ⟨d, Config.eccCheck (codeWidth c.bank) c.word d, v, true⟩).touch c.bank c.copy)) ∧
        exec .cbtClrPoison s = .next (ok.touch c.bank c.copy)) ∧
      (is32 c.bank = true → ∀ x, r.word? c.bank c.copy c.word = some x →
        exec .cbtWrite s = .next ((ok.setWord c.bank c.copy c.word
          ⟨BitVec.ofNat 128 (c.lo.toNat % 2 ^ 32), BitVec.ofNat 9 (c.check.toNat % 128), true, x.poison⟩).touch c.bank c.copy)))

/-- PROBE_OWNERS, RANGE_SET and PMC_CONFIG complete and change exactly the probes of their set; TIE_MODE completes and
changes its requester's modes (R145, R144, R146, R169, R394, R396, R385). A heard PROBE_OWNERS whose assigned charters
are ACTIVE and whose owner codes are defined gives every probe of its set the new owners, with what a new owner
clears; RANGE_SET writes the range of the owner with base and limit on 64 bytes; PMC_CONFIG writes the configuration
of the counter index it names, with the filter forced for a charter, and its enable; each answers OK, a probe outside
the set keeps its whole state, and nothing else changes but the aperture and the interrupt. Where a new owner comes,
the owner is the one named, and a counter whose owner changes is disabled with its value and OVF bit cleared, while
every other keeps value and OVF. TIE_MODE, which has no probe set, answers OK, sets the two modes of the requester
from its bits 0 and 1 and leaves every other owner's; where a charter is out of ID mode afterwards, its layers are no
longer tracked on any probe, and the probes else stay as they were. -/
def Obligations.ProbeOwnershipPackets : Prop :=
  ∀ (pk : Pkt) (s : State),
    (Heard specProbeOwners pk s → SetFits pk s (fun _ => True) →
      (∀ f ∈ ownerFields pk, (f.2 = 31 ∨ f.2 = 16 ∨ f.2 < 16 ∧ s.active f.2 = true)) →
      Retunes (exec (.probeOwners pk) s) specProbeOwners pk s [] (fun _ x => x.setOwners ((ownerFields pk).map Prod.snd))) ∧
    (Heard specRangeSet pk s → SetFits pk s (fun x => tget x.cfg.rangeOwner (fld (pk.p 5) 0 2) hm = pk.o) →
      pk.addr 6 % 64 = 0 → pk.addr 8 % 64 = 0 →
      Retunes (exec (.rangeSet pk) s) specRangeSet pk s []
        (fun _ x => { x with cfg := { x.cfg with ranges := tset x.cfg.ranges (fld (pk.p 5) 0 2) (pk.addr 6, pk.addr 8) (0, 0) } })) ∧
    (Heard specPmcConfig pk s → SetFits pk s (fun x => tget x.cfg.pmcOwner (fld (pk.p 5) 0 3) hm = pk.o ∧
        (fld (pk.p 5) 21 3 < 4 → tget x.cfg.rangeOwner (fld (pk.p 5) 21 3) hm = pk.o ∨ tget x.cfg.rangeOwner (fld (pk.p 5) 21 3) hm = hm)) →
      eventOk (fld (pk.p 5) 3 10) = true → fld (pk.p 5) 21 3 ≤ 4 →
      let f := (readFilter (fld (pk.p 5) 14 2) (fld (pk.p 5) 16 1) (fld (pk.p 5) 17 4) (fld (pk.p 5) 21 3) (fld (pk.p 5) 24 1)
        (pk.p 6)).forced pk.o
      let m : Pmc := ⟨BitVec.ofNat 10 (fld (pk.p 5) 3 10), f, flag (pk.p 5) 25, flag (pk.p 5) 26⟩
      Retunes (exec (.pmcConfig pk) s) specPmcConfig pk s [] (fun _ x =>
        ({ x with cfg := { x.cfg with pmc := tset x.cfg.pmc (fld (pk.p 5) 0 3) m Pmc.zero } }).setEnable
          (BitVec.ofNat 13 (2 ^ (5 + fld (pk.p 5) 0 3))) (flag (pk.p 5) 13))) ∧
    (∀ (vs : List Nat) (x : Probe),
      (x.setOwners vs).cfg.fixedOwner = (if vs.getD 0 31 = 31 then x.cfg.fixedOwner else vs.getD 0 31) ∧
      ∀ i < 13, ((x.setOwners vs).cfg.ownerOf i ≠ x.cfg.ownerOf i → tget (x.setOwners vs).cnt i 0 = 0 ∧
          (x.setOwners vs).ovf.getLsbD i = false ∧ (x.setOwners vs).cfg.enable.getLsbD i = false) ∧
        ((x.setOwners vs).cfg.ownerOf i = x.cfg.ownerOf i → tget (x.setOwners vs).cnt i 0 = tget x.cnt i 0 ∧
          (x.setOwners vs).ovf.getLsbD i = x.ovf.getLsbD i)) ∧
    (Heard specTieMode pk s →
      ∃ ps : Tab Probe, Answers (exec (.tieMode pk) s) specTieMode pk s [] (fun t => { t with
        esl := { t.esl with idMode := setBit t.esl.idMode pk.o (flag (pk.p 1) 0), marker := setBit t.esl.marker pk.o (flag (pk.p 1) 1) },
        probes := ps }) ∧
      (flag (pk.p 1) 0 = true ∨ pk.o = hm → ps = s.probes) ∧
      (flag (pk.p 1) 0 = false → pk.o ≠ hm → ∀ p, tget ps p Probe.zero = { s.probe p with
        layers := (s.probe p).layers.filter (fun l => l.charter.toNat ≠ pk.o), curLayer := tset (s.probe p).curLayer pk.o 0 0 }))

/-- COUNTER_ENABLE, COUNTER_WRITE, OVF_CLEAR, TALLY_SET, PROBE_TIMING and SNAPSHOT change exactly the probes of their set
(R140, R160, R159, R154, R150, R157, R394, R396). A heard COUNTER_ENABLE on owned counters sets or clears their
enables; COUNTER_WRITE of an owned counter index, within its width, writes it on every probe of the set, and its reply
follows the application: at once where every probe of the set has its clock halted, is in HRST_N or off, and else
after the edges that apply it, the packet meanwhile listed as applying; OVF_CLEAR clears overflow bits of owned
counters; TALLY_SET sets the length exponent 10 to 23 of an owner's tallies; PROBE_TIMING sets the period (at most 1
s), the snapshot causes, the latency threshold and the seed. SNAPSHOT, of probes on which the requester owns a
counter, asks every probe that takes snapshots for one and answers the number that the lowest probe of a set that
takes snapshots will carry. A probe outside the set keeps its whole state. -/
def Obligations.ProbeCounterPackets : Prop :=
  ∀ (pk : Pkt) (s : State),
    (Heard specCounterEnable pk s →
      SetFits pk s (fun x => x.cfg.owned pk.o &&& BitVec.ofNat 13 (fld (pk.p 5) 0 13) = BitVec.ofNat 13 (fld (pk.p 5) 0 13)) →
      Retunes (exec (.counterEnable pk) s) specCounterEnable pk s []
        (fun _ x => x.setEnable (BitVec.ofNat 13 (fld (pk.p 5) 0 13)) (flag (pk.p 5) 13))) ∧
    (Heard specCounterWrite pk s → SetFits pk s (fun x => x.cfg.ownerOf (fld (pk.p 5) 0 4) = pk.o) → fld (pk.p 5) 0 4 ≤ 12 →
      (pk.p 6).toNat + (pk.p 7).toNat * 2 ^ 32 < 2 ^ ctrWidth (fld (pk.p 5) 0 4) →
      ((∀ p, pk.probes.getLsbD p = true → tget (s.probe p).wr (fld (pk.p 5) 0 4) 0 = 0 ∧
          ((s.probe p).hrst = true ∨ (s.probe p).up = false ∨ (s.probe p).haltTs.isSome = true)) →
        Retunes (exec (.counterWrite pk) s) specCounterWrite pk s []
          (fun _ x => x.write (fld (pk.p 5) 0 4) ((pk.p 6).toNat + (pk.p 7).toNat * 2 ^ 32))) ∧
      (∀ p, pk.probes.getLsbD p = true → (s.probe p).hrst = false → (s.probe p).up = true → (s.probe p).haltTs = none →
        ∃ ps : Tab Probe,
          (let v := { s.rung specCounterWrite pk with probes := ps }
           let a := if pk.async then v.accepting specCounterWrite pk (slotFor specCounterWrite pk s) [] else v
           exec (.counterWrite pk) s = .next { a with esl := { a.esl with
             applying := a.esl.applying ++ [⟨0x14, pk, slotFor specCounterWrite pk s, false⟩] } }) ∧
          ∀ q, tget ps q Probe.zero = if pk.probes.getLsbD q
            then (s.probe q).write (fld (pk.p 5) 0 4) ((pk.p 6).toNat + (pk.p 7).toNat * 2 ^ 32) else s.probe q)) ∧
    (Heard specOvfClear pk s →
      SetFits pk s (fun x => x.cfg.owned pk.o &&& BitVec.ofNat 13 (fld (pk.p 5) 0 13) = BitVec.ofNat 13 (fld (pk.p 5) 0 13)) →
      Retunes (exec (.ovfClear pk) s) specOvfClear pk s [] (fun _ x => x.clearOvf (BitVec.ofNat 13 (fld (pk.p 5) 0 13)))) ∧
    (Heard specTallySet pk s → SetFits pk s (fun x => x.cfg.fixedOwner = pk.o) → 10 ≤ fld (pk.p 5) 0 5 → fld (pk.p 5) 0 5 ≤ 23 →
      Retunes (exec (.tallySet pk) s) specTallySet pk s [] (fun _ x => { x with cfg := { x.cfg with tallyK := fld (pk.p 5) 0 5 } })) ∧
    (Heard specProbeTiming pk s → SetFits pk s (fun _ => True) → (pk.p 5).toNat ≤ 1000000 →
      Retunes (exec (.probeTiming pk) s) specProbeTiming pk s [] (fun p x => {
        x with
        cfg := { x.cfg with period := (pk.p 5).toNat, frame := flag (pk.p 6) 0, cswitch := flag (pk.p 6) 1,
                            latThr := fld (pk.p 6) 2 20, seed := pk.p 7 }
        lastPeriodic := if (pk.p 5).toNat = 0 then 0 else s.probeTs p / (4000 * (pk.p 5).toNat) })) ∧
    (Heard specSnapshot pk s → SetFits pk s (fun x => x.cfg.owned pk.o ≠ 0) → ∀ low, pk.probes.getLsbD low = true →
      (∀ p < low, pk.probes.getLsbD p = false) → (s.probe low).snaps = true →
      Retunes (exec (.snapshot pk) s) specSnapshot pk s [(s.probe low).snapNoNext.toNat] (fun _ x =>
        if x.snaps then { x with snapReq := x.snapReq ++ [⟨1, flag (pk.p 5) 0, flag (pk.p 5) 1, some pk.o, none, x.edge⟩] } else x))

/-- SAMPLER_CONFIG, CMD_STREAM and EDGE_STREAM change exactly the probes of their set, and PROBE_STATUS reads one probe
(R163, R164, R168, R170, R143, R539, R396). A heard SAMPLER_CONFIG on owned samplers, with a range of the owner or the
harbourmaster or none, a filter forced for a charter, n from 1 to 2^20 and k from 4 to 20, sets the sampler, and an
enable loads the LFSR from the seed and starts an interval. CMD_STREAM sets the command stream's enable and filter;
EDGE_STREAM the two edge masks. A probe outside the set keeps its whole state. PROBE_STATUS answers two zero words for
a probe at or above N, and otherwise a first word with present, disabled, invariant, armed and powered bits; it
changes nothing. -/
def Obligations.ProbeStreamPackets : Prop :=
  ∀ (pk : Pkt) (s : State),
    let w := pk.p 5
    let ranged (x : Probe) := fld w 8 3 < 4 → tget x.cfg.rangeOwner (fld w 8 3) hm = pk.o ∨ tget x.cfg.rangeOwner (fld w 8 3) hm = hm
    let f := (readFilter (fld w 1 2) (fld w 3 1) (fld w 4 4) (fld w 8 3) (fld w 11 1) (pk.p 6)).forced pk.o
    (Heard specSamplerConfig pk s → SetFits pk s (fun x => x.cfg.samplerOwner = pk.o ∧ ranged x) → fld w 8 3 ≤ 4 →
      4 ≤ fld w 13 5 → fld w 13 5 ≤ 20 → 1 ≤ fld (pk.p 7) 0 21 → fld (pk.p 7) 0 21 ≤ 2 ^ 20 →
      Retunes (exec (.samplerConfig pk) s) specSamplerConfig pk s []
        (fun p x => x.setSampler p ⟨flag w 0, f, flag w 12, fld (pk.p 7) 0 21, fld w 13 5⟩)) ∧
    (Heard specCmdStream pk s → SetFits pk s (fun x => x.cfg.cmdOwner = pk.o ∧ ranged x) → fld w 8 3 ≤ 4 →
      Retunes (exec (.cmdStream pk) s) specCmdStream pk s []
        (fun _ x => { x with cfg := { x.cfg with cmdOn := flag w 0, cmdFlt := f } })) ∧
    (Heard specEdgeStream pk s → SetFits pk s (fun x => x.cfg.edgeOwner = pk.o) →
      Retunes (exec (.edgeStream pk) s) specEdgeStream pk s []
        (fun _ x => { x with cfg := { x.cfg with rise := pk.p 6 ++ pk.p 5, fall := pk.p 8 ++ pk.p 7 } })) ∧
    (Heard specProbeStatus pk s → s.ident.nProbes ≤ fld (pk.p 1) 0 7 →
      Answers (exec (.probeStatus pk) s) specProbeStatus pk s [0, 0] (fun t => t)) ∧
    (Heard specProbeStatus pk s → ∀ p, p = fld (pk.p 1) 0 7 → p < s.ident.nProbes → ∃ own,
      Answers (exec (.probeStatus pk) s) specProbeStatus pk s
        [1 + b2n (s.probe p).disabled * 2 + b2n (s.probe p).invariant * 4 + b2n (s.armed p) * 8 + b2n (s.probePowered p) * 16, own]
        (fun t => t) ∧
      own % 2 ^ 13 = ((s.probe p).cfg.owned pk.o).toNat)

/-- PARTITION_SET, OWNER_EXPORT, EXPORT_SET and FLUSH complete with the effect of their rows (R211, R224, R225, R227,
R206, R197, R220, R397). A heard PARTITION_SET of at most 124 units that fit with the other quotas sets the quota,
moves units and answers the units held with those that still leave. OWNER_EXPORT with a ring size of 4 to 20 and a
base on 4,096 bytes sets the owner's destinations, weight, base and ring size, and silences an owner left without a
destination. EXPORT_SET of a cap of 2 to 128 steps (128 coded as 0, log 25), a share of 8 to 16 and a flush timeout of
1 to 1,000 us sets the port's numbers and the spine's weights. FLUSH of the requester's own queue, or of any by the
harbourmaster, closes the owner's lighter with code FLUSH and, asked for it, discards the records of classes 1 to 3. -/
def Obligations.ExportPackets : Prop :=
  ∀ (pk : Pkt) (s : State),
    (Heard specPartitionSet pk s → ∀ o n, o = fld (pk.p 1) 0 5 → n = fld (pk.p 1) 8 7 → s.named o → n ≤ 124 →
      (List.range 17).foldl (fun a x => a + s.quotaOf x) 0 - s.quotaOf o + n ≤ s.allocatable →
      let f := fun (t : State) => (List.range 17).foldl State.closeHeld (t.setQuota o n)
      let r := s.rung specPartitionSet pk
      let d := ((r.setQuota o n).leavingOf o).length
      Answers (exec (.partitionSet pk) s) specPartitionSet pk s [((f r).units o).length + d + d * 2 ^ 8] f) ∧
    (Heard specOwnerExport pk s → ∀ o, o = fld (pk.p 1) 0 5 → s.named o → 4 ≤ fld (pk.p 1) 12 5 → fld (pk.p 1) 12 5 ≤ 20 →
      pk.addr 2 % 4096 = 0 →
      Answers (exec (.ownerExport pk) s) specOwnerExport pk s [] (fun t =>
        let u := t.setExport o {
          t.export_ o with
          dram := flag (pk.p 1) 5, stp := flag (pk.p 1) 6, weight := fld (pk.p 1) 8 4 + 1, log2 := fld (pk.p 1) 12 5, base := pk.addr 2 }
        if u.hasDest o then u else u.silence o)) ∧
    (Heard specExportSet pk s → ∀ share, share = (if fld (pk.p 1) 8 4 = 0 then 16 else fld (pk.p 1) 8 4) → fld (pk.p 1) 0 7 ≠ 1 →
      8 ≤ share → 1 ≤ (pk.p 2).toNat → (pk.p 2).toNat ≤ 1000 → ∃ w : Tab Nat,
      Answers (exec (.exportSet pk) s) specExportSet pk s [] (fun t => { t with
        mgr := { t.mgr with
          cap := if fld (pk.p 1) 0 7 = 0 then 128 else fld (pk.p 1) 0 7, share := share, prioS := fld (pk.p 1) 12 4, prioO := fld (pk.p 1) 16 4, flush := (pk.p 2).toNat },
        canal := { t.canal with weights := w } }) ∧
      (∀ k < 8, tget w k 1 = fld (pk.p 3) (4 * k) 4 + 1) ∧ tget w 8 1 = fld (pk.p 4) 0 4 + 1 ∧ tget w 9 1 = fld (pk.p 4) 4 4 + 1) ∧
    (Heard specFlush pk s → ∀ o, o = fld (pk.p 1) 0 5 → s.named o → pk.o = hm ∨ o = pk.o →
      Answers (exec (.flush pk) s) specFlush pk s []
        (fun t => if flag (pk.p 1) 5 then (t.closeLighter o 3).discard0 o else t.closeLighter o 3))

/-- LEDGER_SET, LEDGER_TRIGGER, LEDGER_RELEASE, LEDGER_READ and LEDGER_STATUS complete with the effect of their rows
(R231, R232, R233, R234, R237, R238, R397, R385). A heard LEDGER_SET with a post-trigger size of at most 16 and a
limit of 100 to 1,000,000 us takes its settings at once in an armed ledger and keeps them for the release otherwise.
LEDGER_TRIGGER fires the trigger and answers whether it was ignored: the ledger has left ARMED, and not by a trigger
of the same instant with a higher code. LEDGER_RELEASE while no LEDGER_READ runs re-arms the ledger with nothing in
it. LEDGER_READ of a frozen ledger is accepted and counts the owner's read-out. LEDGER_STATUS answers state, trigger
cause, freeze number, T0, epoch and count, and changes nothing. -/
def Obligations.LedgerPackets : Prop :=
  ∀ (pk : Pkt) (s : State),
    (Heard specLedgerSet pk s → fld (pk.p 4) 0 5 ≤ 16 → 100 ≤ (pk.p 5).toNat → (pk.p 5).toNat ≤ 1000000 → ∃ m : Tab (BitVec 4),
      (∀ o < 17, tget m o 0 = BitVec.ofNat 4 (fld (pk.p (1 + o / 8)) (4 * (o % 8)) 4)) ∧
      Answers (exec (.ledgerSet pk) s) specLedgerSet pk s [] (fun t => { t with ledger :=
        if t.ledger.st = .armed then
          { t.ledger with cfg := ⟨m, fld (pk.p 4) 0 5, (pk.p 5).toNat, BitVec.ofNat 16 (fld (pk.p 6) 0 16)⟩, next := none }
        else { t.ledger with next := some ⟨m, fld (pk.p 4) 0 5, (pk.p 5).toNat, BitVec.ofNat 16 (fld (pk.p 6) 0 16)⟩ } })) ∧
    (Heard specLedgerTrigger pk s → Answers (exec (.ledgerTrigger pk) s) specLedgerTrigger pk s
      [if s.ledger.st = .armed ∨ (s.ledger.st = .post ∧ s.ledger.t0At = s.now ∧ 0 < s.ledger.trig) then 0 else 1] (fun t => t.fireTrigger 0 0)) ∧
    (Heard specLedgerRelease pk s → s.ledger.jobs = [] → ∃ f : State → State,
      Answers (exec (.ledgerRelease pk) s) specLedgerRelease pk s [] f ∧
      let l := (f (s.rung specLedgerRelease pk)).ledger
      l.st = .armed ∧ l.recs = [] ∧ l.bytes = 0 ∧ l.n = 0 ∧ l.trig = 0 ∧ l.cfg = s.ledger.next.getD s.ledger.cfg ∧ l.next = none ∧
      l.freezeNo = s.ledger.freezeNo) ∧
    (Heard specLedgerRead pk s → s.ledger.st = .frozen ∨ s.ledger.st = .seald → pk.o = hm ∨ (s.memKey pk.o).isSome = true →
      pk.addr 1 % 4096 = 0 → tget s.ledger.readNext pk.o 0 ≤ 65535 → ∃ t : State,
      exec (.ledgerRead pk) s = .next (t.accepting specLedgerRead pk (slotFor specLedgerRead pk s) []) ∧
      tget t.ledger.readNext pk.o 0 = tget s.ledger.readNext pk.o 0 + 1 ∧ t.ledger.st = s.ledger.st ∧ t.ledger.recs = s.ledger.recs ∧
      ∃ pages written, t.ledger.jobs = s.ledger.jobs ++ [(pk.o, pk.seq, slotFor specLedgerRead pk s, pages, written, s.ledger.freezeNo.toNat)] ∧
        written = min pages (fld (pk.p 3) 0 16)) ∧
    (Heard specLedgerStatus pk s → Answers (exec (.ledgerStatus pk) s) specLedgerStatus pk s
      ([s.ledger.st.code + s.ledger.trig * 4 + b2n s.ledger.summaryPending * 64, s.ledger.freezeNo.toNat] ++
        cvtWords (cvt96 s.ledger.t0) ++ [s.ledger.epoch0.toNat + s.ledger.n * 2 ^ 16]) (fun t => t))

/-- The ledger freezes, is sealed, and its summary and read-outs are finished as their rules say (R232, R235, R236, R238,
R240, R25). LEDGER_FREEZE once the post-trigger size is written, and LEDGER_POST_TIMEOUT in UNDERWAY once the limit
has passed since the trigger instant, freeze the ledger and count the freeze, its records kept. LEDGER_SEAL of a
frozen ledger in UNDERWAY with its key to hand stores a seal block of this freeze with the sizes and a digest for
every owner, sets the sealed interrupt and leaves the summary to write; when the key store fails, it raises
KEY_STORE_ERROR and the ledger stays. LEDGER_SUMMARY_WRITE with the Logbook present stores a summary of at most
259,072 bytes in the next slot of the ring of 8 and clears the pending mark. LEDGER_READ_DONE of a read-out whose
pages have left posts its completion with the page counts and the freeze number. -/
def Obligations.LedgerEvents : Prop :=
  (∀ s : State, s.ledger.st = .post → s.ledger.trigIn = true → s.ledger.post ≤ s.ledger.postBytes →
    exec .ledgerFreeze s = .next { s with ledger := { s.ledger with
      st := .frozen, freezeNo := s.ledger.freezeNo + 1, readNext := [] } }) ∧
  (∀ s : State, s.lk.st = .underway → s.ledger.st = .post → s.ledger.t0At + s.ledger.cfg.limit * 1000 ≤ s.now →
    exec .ledgerPostTimeout s = .next { s with ledger := { s.ledger with
      st := .frozen, freezeNo := s.ledger.freezeNo + 1, readNext := [] } }) ∧
  (∀ s : State, s.lk.st = .underway → s.ledger.st = .frozen → s.io.ksErr = true → exec .ledgerSeal s = .next (s.askKey 2)) ∧
  (∀ s : State, s.lk.st = .underway → s.ledger.st = .frozen → s.io.ksErr = false → ∃ t b, exec .ledgerSeal s = .next t ∧ t.ledger.st = .seald ∧ t.ledger.sealBlk = some b ∧
    t.ledger.summaryPending = true ∧ t.ledger.recs = s.ledger.recs ∧ b.freeze = s.ledger.freezeNo ∧ b.trig = s.ledger.trig ∧
    b.t0 = s.ledger.t0 ∧ b.epoch = s.ledger.epoch0 ∧
    b.before + b.after = s.ledger.recs.foldl (fun a r => a + r.bytes) 0 ∧
    (∀ o < 17, tget b.digests o 0 =
      Config.sha256 ((s.ledger.recs.filter (fun r => r.owner = o)).flatMap (fun r => bytes64 r.words))) ∧
    b.mac = Config.hmac (Config.keyStore 2) b.bytes ∧ t.irqStatus hm = setBit (s.irqStatus hm) 8 true) ∧
  (∀ s : State, s.ledger.summaryPending = true → s.lb.present = true → ∃ t bytes, exec .ledgerSummaryWrite s = .next t ∧
    t.ledger.summaryPending = false ∧ bytes.length ≤ 259072 ∧ tget t.lb.summaries (s.lb.summaryNext % 8) [] = bytes ∧
    (∀ k, k ≠ s.lb.summaryNext % 8 → tget t.lb.summaries k [] = tget s.lb.summaries k []) ∧
    t.lb.summaryNext = s.lb.summaryNext + 1) ∧
  (∀ (s : State) (o : Fin 17) j, s.ledger.jobs.find? (fun j => j.1 = o.val) = some j →
    (∀ r ∈ s.mgr.wait ++ s.mgr.out, r.why ≠ .ledger o.val) →
    exec (.ledgerReadDone o) s = .next (({ s with ledger := { s.ledger with jobs := s.ledger.jobs.filter (fun x => x.1 ≠ o.val) } }).complete
      0x37 o.val j.2.1 j.2.2.1 .ok [j.2.2.2.2.1 + j.2.2.2.1 * 2 ^ 16, j.2.2.2.2.2]))

/-- LIGHTER_OPEN fills a lighter of the next owner, LIGHTER_FLUSH_TIMEOUT closes one that is due, and UNIT_LEAVE frees a
drained unit (R193, R196, R197, R223, R225, R211, R230). LIGHTER_OPEN in UNDERWAY of a channel without a lighter takes
the next owner in weighted round robin and fills its lighter from its queue. A channel that has a lighter open goes on
filling it. LIGHTER_FLUSH_TIMEOUT in UNDERWAY of a lighter older than the flush timeout closes it: the owner's export
has no open lighter, its sequence has advanced modulo 2^48, a lighter for DRAM waits at the manager port as a page of
512 words at the ring's place of its sequence, and every other owner's export is as before. UNIT_LEAVE of a leaving
unit without cells frees it and grants free units. -/
def Obligations.SluiceEvents : Prop :=
  (∀ (s : State) (ch : Fin 8) o c, s.lk.st = .underway → (∀ p < 17, ∀ l, (s.export_ p).openL = some l → l.channel ≠ ch.val) →
    s.nextOwner ch.val = some (o, c) →
    exec (.lighterOpen ch) s = .next (((s.setRr 12 (o + 1)).setCredit 12 c).fill o ch.val 505)) ∧
  (∀ (s : State) (ch : Fin 8) o l, s.lk.st = .underway → o < 17 → (s.export_ o).openL = some l → l.channel = ch.val →
    (∀ p < o, ∀ m, (s.export_ p).openL = some m → m.channel ≠ ch.val) → s.hasDest o = true →
    exec (.lighterOpen ch) s = .next (s.fill o ch.val 505)) ∧
  (∀ (s : State) (o : Fin 17) l, s.lk.st = .underway → (s.export_ o.val).openL = some l → l.openAt + s.mgr.flush * 1000 ≤ s.now →
    let x := s.export_ o.val
    ∃ t, exec (.lighterFlushTimeout o) s = .next t ∧ (t.export_ o.val).openL = none ∧ (t.export_ o.val).seq = (x.seq + 1) % 2 ^ 48 ∧
      (x.dram = true → ∃ ws, ws.length = 512 ∧
        t.mgr.wait = s.mgr.wait ++ [pageReq o.val (l.base + x.seq % 2 ^ l.log2 * 4096) (.lighter o.val x.seq (s.keygen o.val) l.recs) ws]) ∧
      (x.dram = false → t.mgr = s.mgr) ∧ ∀ p, p ≠ o.val → t.export_ p = s.export_ p) ∧
  (∀ (s : State) (u : Fin 124), s.basins.leaving.contains u.val = true → (∀ c ∈ s.allCells, c.unit ≠ u.val) →
    exec (.unitLeave u) s = .next ((({ s with basins := { s.basins with leaving := s.basins.leaving.filter (fun v => v ≠ u.val) } }).setUnitOwner
      u.val 31).grant 124))

/-- Requests, credits, write completions and read lines of the manager port change its state as the port rules say (R71,
R72, R73, R225, R227, R228, R190). MANAGER_CREDIT adds one credit, at most 64, and of write data sends beats that
waited; in MOORED and LAID_UP, where the port has no power, it does nothing. MANAGER_REQUEST_ISSUE in UNDERWAY with a
request credit, when the oldest waiting request is not of an owner whose port is closed, has a free tag, fits under
the cap and leaves the sluice its share (a lighter, or with no lighter waiting), issues it: it leaves the waiting
list, is outstanding under the lowest free tag of its kind, costs a credit, and a write owes its beats. MGR_WRITE_DONE
of a lighter whose beats are sent removes the request and advances the owner's write index; an error status of any
write raises MANAGER_ERROR. The data of a poisoned line are 0, the model's choice (log 66). MGR_READ_LINE appends a
line, poisoned by an error status or the poison input, and the last hands the read to a consumer that waits for it. -/
def Obligations.ManagerPortCommands : Prop :=
  (∀ (s : State) wd, s.lk.st = .moored ∨ s.lk.st = .laidUp → exec (.managerCredit wd) s = .next s) ∧
  (∀ s : State, s.lk.st ≠ .moored → s.lk.st ≠ .laidUp →
    exec (.managerCredit false) s = .next { s with mgr := { s.mgr with reqCredits := min 64 (s.mgr.reqCredits + 1) } } ∧
    exec (.managerCredit true) s = .next ({ s with mgr := { s.mgr with wdCredits := min 64 (s.mgr.wdCredits + 1) } }).beats) ∧
  (∀ (s : State) (r : MReq) rest tag, s.lk.st = .underway → s.mgr.reqCredits ≠ 0 → s.mgr.wait = r :: rest →
    s.portClosed r.owner = false → s.freeTag r.write = some tag → r.sluice = true ∨ (∀ q ∈ rest, q.sluice = false) →
    ((s.mgr.window.filter (fun w => decide (s.subwindow < w.1 + 64))).foldl (fun a w => a + w.2.1) 0) + r.size ≤ s.mgr.cap * 5000 →
    ∃ t, exec .managerRequestIssue s = .next t ∧ t.mgr.wait = rest ∧
      t.mgr.out = s.mgr.out ++ [{ r with tag := tag, prio := if r.sluice then s.mgr.prioS else s.mgr.prioO }] ∧
      t.mgr.reqCredits = s.mgr.reqCredits - 1 ∧ t = { s with mgr := t.mgr, io := t.io }) ∧
  (∀ (s : State) (tag : Fin 64) (r : MReq) o seq recs, s.mgr.out.find? (fun r => r.write && decide (r.tag = tag.val)) = some r →
    (∀ b ∈ s.mgr.beats, b.tag ≠ tag.val) → r.why = .lighter o seq (s.keygen o) recs →
    exec (.mgrWriteDone tag 0) s = .next (({ s with mgr := { s.mgr with out := s.mgr.out.erase r } }).lighterDone o seq (s.keygen o)
      (BitVec.ofNat 8 ((r.data.headD 0).toNat / 2 ^ 48)))) ∧
  (∀ (s : State) (tag : Fin 64) (r : MReq) st n, s.mgr.out.find? (fun r => r.write && decide (r.tag = tag.val)) = some r →
    (∀ b ∈ s.mgr.beats, b.tag ≠ tag.val) → r.why = .dump n →
    exec (.mgrWriteDone tag st) s =
      .next (if st = 0 then { s with mgr := { s.mgr with out := s.mgr.out.erase r } }
        else ({ s with mgr := { s.mgr with out := s.mgr.out.erase r } }).raise 0x500 0 r.owner)) ∧
  (∀ (s : State) (tag : Fin 64) (r : MReq) st, s.mgr.out.find? (fun r => r.write && decide (r.tag = tag.val)) = some r →
    (∀ b ∈ s.mgr.beats, b.tag ≠ tag.val) → st ≠ 0 → ∃ t : State, exec (.mgrWriteDone tag st) s = .next (t.raise 0x500 0 r.owner)) ∧
  (∀ (s : State) (tag : Fin 64) (r : MReq) data st psn, s.mgr.out.find? (fun r => !r.write && decide (r.tag = tag.val)) = some r →
    let line := if psn = true ∨ st ≠ 0 then ((0 : BitVec 512), true) else (data, false)
    exec (.mgrReadLine tag data false st psn) s = .next { s with mgr := { s.mgr with
      out := s.mgr.out.map (fun (q : MReq) => if q = r then { r with got := (r.got ++ [line]).take (r.nl + 1) } else q) } } ∧
    (r.got.length = r.nl → s.wanted { r with got := r.got ++ [line] } = true →
      exec (.mgrReadLine tag data true st psn) s = .next { s with mgr := { s.mgr with
        out := s.mgr.out.erase r, ready := s.mgr.ready ++ [{ r with got := r.got ++ [line] }] } }))

/-- TAP_SAFETY, TAP_MEASURE, TABLE_BASE, TABLE_ENTRY and TAP_REENABLE complete with the effect of their rows (R248, R249,
R252, R260, R261, R258, R398). A heard TAP_SAFETY with a target code of R252 (or NONE) and an asymmetry that the code
allows sets the safety settings of its tap and owner. TAP_MEASURE by an owner enabled on the tap, with k from 1 to 8,
a class within the owner's limit, n_min at most 2^24 and a histogram base from -150 to 127, sets the measurement
settings. TABLE_BASE on 4,096 bytes sets the requester's table. TABLE_ENTRY with a tensor ID of its place, at most 8
history values and room in the engine queues one table operation for the entry. TAP_REENABLE enables the tap again. -/
def Obligations.AssayPackets : Prop :=
  ∀ (pk : Pkt) (s : State),
    (Heard specTapSafety pk s → let w := pk.p 1; s.named (fld w 2 5) → (fld w 8 4 = 15 ∨ (targetRange (fld w 8 4)).isSome = true) →
      (flag w 12 = true → fld w 8 4 = 15 ∨ targetAsym (fld w 8 4) ≠ 0) → (flag w 12 = false → targetAsym (fld w 8 4) ≠ 2) →
      Answers (exec (.tapSafety pk) s) specTapSafety pk s [] (fun t => { t with assay := { t.assay with
        safety := tset t.assay.safety (fld w 0 2 * 32 + fld w 2 5) ⟨flag w 7, BitVec.ofNat 4 (fld w 8 4), flag w 12, flag w 13,
          fld w 14 8, fld w 22 3, fld w 25 2, fld w 27 2, flag w 29⟩ Safety.zero } })) ∧
    (Heard specTapMeasure pk s → let w := pk.p 1; (s.safety (fld w 0 2) pk.o).enable = true →
      1 ≤ fld w 5 4 → fld w 5 4 ≤ 8 → fld w 13 2 ≤ (s.safety (fld w 0 2) pk.o).excMax → fld (pk.p 3) 0 25 ≤ 2 ^ 24 →
      -150 ≤ sgn 9 (fld (pk.p 4) 0 9) → sgn 9 (fld (pk.p 4) 0 9) ≤ 127 →
      Answers (exec (.tapMeasure pk) s) specTapMeasure pk s [] (fun t => { t with assay := { t.assay with
        measure := tset t.assay.measure (fld w 0 2 * 32 + pk.o) ⟨flag w 2, flag w 3, sgn 9 (fld (pk.p 4) 0 9), flag w 4, fld w 5 4,
          fld (pk.p 2) 0 16, fld (pk.p 2) 16 16, fld (pk.p 3) 0 25, BitVec.ofNat 4 (fld w 9 4), fld w 13 2⟩ Measure.zero } })) ∧
    (Heard specTableBase pk s → pk.addr 1 % 4096 = 0 → Answers (exec (.tableBase pk) s) specTableBase pk s []
      (fun t => { t with assay := { t.assay with base := tset t.assay.base pk.o (pk.addr 1) 0 } })) ∧
    (Heard specTableEntry pk s → fld (pk.p 1) 10 16 % 1024 = fld (pk.p 1) 0 10 → fld (pk.p 2) 2 4 ≤ 8 → s.assay.engine.length < 32 →
      ∃ (e : Entry) (n : Nat), Answers (exec (.tableEntry pk) s) specTableEntry pk s [0]
        (fun t => ({ t with free := n, assay := { t.assay with engine := t.assay.engine ++ [TabOp.entry pk.o e] } }).engineStart) ∧
      e.tid.toNat = fld (pk.p 1) 10 16 ∧ e.valid = flag (pk.p 1) 26 ∧ e.delayed = flag (pk.p 1) 27 ∧ e.hlen = fld (pk.p 1) 28 3 ∧
      e.margin = fld (pk.p 2) 0 2 ∧ e.count = fld (pk.p 2) 2 4 ∧ e.upd = 0 ∧ e.prevScale = e.fcScale ∧
      e.hist = (List.range 8).map (fun i => pk.p (3 + i))) ∧
    (Heard specTapReenable pk s → Answers (exec (.tapReenable pk) s) specTapReenable pk s []
      (fun t => t.modTap (fld (pk.p 1) 0 2) (fun x => { x with off := false, pathFails := [] })))

/-- WATCH_ASSIGN, WATCH_CONFIG, WATCH_ARM and ASSAY_COUNTERS complete with the effect of their rows (R268, R272, R259,
R420, R398). A heard WATCH_ASSIGN disarms the slot and gives it to the owner with nothing configured. WATCH_CONFIG by
the slot's owner, with a trigger of at most 4, a region of at most 2^16 blocks on 4,096 bytes and a count where the
trigger needs one, disarms the slot, sets its configuration and begins its region again. WATCH_ARM by the slot's owner
arms it with its count, a charter only with a memory key, or disarms it. ASSAY_COUNTERS answers the requester's eight
counters of the tap, or for the harbourmaster the global one, and clears them when asked. -/
def Obligations.WatchPackets : Prop :=
  ∀ (pk : Pkt) (s : State),
    (Heard specWatchAssign pk s → s.named (fld (pk.p 1) 4 5) → Answers (exec (.watchAssign pk) s) specWatchAssign pk s []
      (fun t => (t.disarm (fld (pk.p 1) 0 4)).setSlot (fld (pk.p 1) 0 4) { Watch.zero with owner := fld (pk.p 1) 4 5 })) ∧
    (Heard specWatchConfig pk s → let w := pk.p 1; let j := fld w 0 4; (s.slot j).owner = pk.o → fld w 8 3 ≤ 4 → fld w 12 5 ≤ 16 →
      (fld w 8 3 = 1 ∨ fld w 8 3 = 2 → fld (pk.p 3) 0 16 ≠ 0) → pk.addr 6 % 4096 = 0 →
      Answers (exec (.watchConfig pk) s) specWatchConfig pk s [] (fun t => (t.disarm j).setSlot j {
        (t.disarm j).slot j with
        cfg := ⟨BitVec.ofNat 4 (fld w 4 4), fld w 8 3, flag w 11, fld w 12 5, BitVec.ofNat 16 (fld (pk.p 2) 0 16),
          BitVec.ofNat 16 (fld (pk.p 2) 16 16), fld (pk.p 3) 0 16, BitVec.ofNat 24 (fld (pk.p 4) 0 24),
          BitVec.ofNat 24 (fld (pk.p 5) 0 24), pk.addr 6⟩
        blocks := 0 })) ∧
    (Heard specWatchArm pk s → let j := fld (pk.p 1) 0 4; (s.slot j).owner = pk.o →
      (flag (pk.p 1) 4 = true → (pk.o = hm ∨ (s.memKey pk.o).isSome = true) →
        Answers (exec (.watchArm pk) s) specWatchArm pk s []
          (fun t => t.setSlot j { t.slot j with armed := true, left := (t.slot j).cfg.n, seen := 0 })) ∧
      (flag (pk.p 1) 4 = false → Answers (exec (.watchArm pk) s) specWatchArm pk s [] (fun t => t.disarm j))) ∧
    (Heard specAssayCounters pk s → let t := fld (pk.p 1) 0 2;
      (flag (pk.p 1) 3 = true → pk.o = hm → Answers (exec (.assayCounters pk) s) specAssayCounters pk s [tget s.assay.gmm t 0]
        (fun u => if flag (pk.p 1) 2 then { u with assay := { u.assay with gmm := tset u.assay.gmm t 0 0 } } else u)) ∧
      (flag (pk.p 1) 3 = false → ∃ c : Tab Nat, Answers (exec (.assayCounters pk) s) specAssayCounters pk s
        ((List.range 8).map (fun k => tget s.assay.cnt ((t * 32 + pk.o) * 8 + k) 0))
        (fun u => { u with assay := { u.assay with cnt := c } }) ∧
        ∀ k, tget c k 0 = if flag (pk.p 1) 2 = true ∧ k / 8 = t * 32 + pk.o then 0 else tget s.assay.cnt k 0))

/-- A first beat opens its tensor instance, and the table engine's replies, rescale acknowledges and dump writes complete
(R245, R247, R249, R43, R64, R262, R263, R270, R272). A beat at a tap that no owner has enabled, with no tensor open,
changes nothing. A beat at an enabled tap with no tensor open, that ends neither its row nor its tensor, opens an
instance with the tensor ID, format and owner of its sideband and the timestamp of now. TABLE_FETCH_DONE of a
verifying valid entry of the tensor hands it to the instance; of one that verifies and is not valid it counts and
hands on that none was found; the engine goes on with its next operation. TABLE_WRITEBACK_DONE writes the entry with
the new history. RESCALE_ACK takes the request back in UNDERWAY and SLACK, and is not sampled in MOORED and LAID_UP,
where its domain is off. DUMP_BLOCK_WRITE of a clean staged block takes it from the buffer and sends its page of 512
words. -/
def Obligations.TapEvents : Prop :=
  (∀ (s : State) (t : Fin 4) b, s.tapEnabled t.val = false → (s.tap t.val).inst = none → exec (.tapBeat t b) s = .next s) ∧
  (∀ (s : State) (t : Fin 4) b, s.lk.st.code < 2 → s.tapEnabled t.val = true → (s.tap t.val).inst = none → b.eor = false → b.eot = false →
    ∃ u i, exec (.tapBeat t b) s = .next u ∧ (u.tap t.val).inst = some i ∧ i.tid = b.tid ∧ i.fmt = b.fmt ∧
      i.owner = (if b.priv then hm else b.charter.toNat) ∧ i.headless = !b.sot ∧ i.anchor = s.ts ∧ i.rows = 0 ∧ i.closed = none) ∧
  (∀ (s u : State) t o tid rest bs, s.assay.engine = .fetch t o tid :: rest → s.tableRead o t = some (bs, false, u) →
    (parseEntry bs).1 = true → (parseEntry bs).2.valid = true → (parseEntry bs).2.tid = tid →
    exec .tableFetchDone s = .next ((u.giveEntry t o tid (.found (parseEntry bs).2)).engineNext)) ∧
  (∀ (s u : State) t o tid rest bs, s.assay.engine = .fetch t o tid :: rest → s.tableRead o t = some (bs, false, u) →
    (parseEntry bs).1 = true → (parseEntry bs).2.valid = false →
    exec .tableFetchDone s = .next (((u.assayCount t o 5).giveEntry t o tid .missing).engineNext)) ∧
  (∀ (s u : State) t o tid absmax q rtz rest bs, s.assay.engine = .back t o tid absmax q rtz :: rest →
    s.tableRead o t = some (bs, false, u) → (parseEntry bs).1 = true → (parseEntry bs).2.valid = true → (parseEntry bs).2.tid = tid →
    ∃ e : Entry, exec .tableWritebackDone s =
      .next (({ u with free := u.free + 1, assay := { u.assay with busy := false } }).writeEntry o t e) ∧
    e.tid = tid ∧ e.hist = (absmax :: (parseEntry bs).2.hist).take 8 ∧
    e.count = min ((parseEntry bs).2.count + 1) ((parseEntry bs).2.hlen + 1) ∧ e.lastAbsmax = absmax ∧
    e.prevScale = (parseEntry bs).2.fcScale ∧ e.upd = (parseEntry bs).2.upd + 1) ∧
  (∀ (s : State) (t : Fin 4), (s.lk.st.code < 2 → exec (.rescaleAck t) s = .next (s.modTap t.val (fun x => { x with req := false }))) ∧
    (2 ≤ s.lk.st.code → exec (.rescaleAck t) s = .next s)) ∧
  (∀ (s : State) b rest, s.lk.st = .underway → s.assay.staging = b :: rest → s.ecc.word = [] → (s.bank (bankKey 31 false)).merge = [] →
    (b.owner = hm ∨ (s.memKey b.owner).isSome = true) → ∃ t ws, exec .dumpBlockWrite s = .next t ∧ t.assay.staging = rest ∧ ws.length = 512 ∧
      t.mgr.wait = s.mgr.wait ++ [pageReq b.owner b.addr (.dump b.slot) ws])

/-- TIME_STATUS, SERVO_SET, REANCHOR and LANE_ASYM complete with the effect and the reply of their rows (R108, R109, R112,
R119, R120, R130, R401). A heard TIME_STATUS answers state, partition and epoch, the bound, CVT in three words, f in
parts per 10^12 and the active lanes, and changes nothing. SERVO_SET with a period of 1,000 to 1,000,000 us and FP32
gains above 0, Kp at most 1 and Ki at most 1/2, sets them. REANCHOR on a DETACHED lead before the last epoch, none
pending, is accepted and waits for a sample. LANE_ASYM of peer slot 0 to 2 sets or clears the lane's constant, starts
its measurement again, sets whether measured constants are taken, and stores the constant in the Logbook when asked. -/
def Obligations.TimePackets : Prop :=
  ∀ (pk : Pkt) (s : State),
    (Heard specTimeStatus pk s → Answers (exec (.timeStatus pk) s) specTimeStatus pk s
      ([s.tstate.code + s.time.part.toNat * 8 + s.time.epoch.toNat * 2 ^ 16, s.boundNow,
        s.cvt96 % 2 ^ 32, s.cvt96 / 2 ^ 32 % 2 ^ 32, s.cvt96 / 2 ^ 64 % 2 ^ 32,
        unsgn 32 (roundInt .rne (s.time.f * 1000000000000)), (s.peer 0).active + (s.peer 1).active * 4 + (s.peer 2).active * 16]) (fun t => t)) ∧
    (Heard specServoSet pk s → 1000 ≤ (pk.p 1).toNat → (pk.p 1).toNat ≤ 1000000 →
      ∀ q r, fp32Rat? (pk.p 2) = some q → 0 < q → q ≤ 1 → fp32Rat? (pk.p 3) = some r → 0 < r → r ≤ 1 / 2 →
      Answers (exec (.servoSet pk) s) specServoSet pk s []
        (fun t => { t with time := { t.time with period := (pk.p 1).toNat, kp := pk.p 2, ki := pk.p 3 } })) ∧
    (Heard specReanchor pk s → s.ident.chip = 0 → s.time.st = .detached → s.time.epoch ≠ 0xFFFF → s.time.reanchor = none →
      Accepts (exec (.reanchor pk) s) specReanchor pk s [] (fun slot t => { t with time := {
        t.time with reanchor := some (slot, pk.seq), reanchorLatched := false, reanchorStep := t.time.step.isSome } })) ∧
    (Heard specLaneAsym pk s → fld (pk.p 1) 0 2 ≤ 2 →
      let v := if flag (pk.p 1) 5 then none else some (sgn 32 (pk.p 2).toNat)
      Answers (exec (.laneAsym pk) s) specLaneAsym pk s [] (fun t =>
        let u := ({ t with convoy := { t.convoy with noAuto := flag (pk.p 1) 4 } }).modLane (fld (pk.p 1) 0 2) (flag (pk.p 1) 2)
          (fun l => { l with asym := v, sum := 0, count := 0, measFrom := none })
        if flag (pk.p 1) 3 then u.lbWrite (fun l => { l with asym := tset l.asym (2 * fld (pk.p 1) 0 2 + b2n (flag (pk.p 1) 2)) v none })
        else u))

/-- A PPS edge more than 1 us from every whole second of CVT raises PPS_MISMATCH while LOCKED (R115). PPS_EDGE compares
its capture with the whole seconds of CVT. While the state is LOCKED and the capture differs from every whole second
by more than 1 us (4,000 units of 250 ps), the whole effect is one raise of PPS_MISMATCH for unit 0, whose class is 1.
Otherwise nothing changes. In either case the time unit is as before: PPS is not a servo input. -/
def Obligations.PpsCompared : Prop :=
  classOf 0x302 = 1 ∧
  ∀ (phase : BitVec 2) (s : State),
    let far := ∀ k : Nat, 4000 < ((s.capture phase : Int) - 4000000000 * (k : Int)).natAbs
    (s.time.st = .locked → far → ∃ detail, exec (.ppsEdge phase) s = .next (s.raise 0x302 0 detail) ∧ (s.raise 0x302 0 detail).time = s.time) ∧
    (s.time.st ≠ .locked ∨ ¬ far → exec (.ppsEdge phase) s = .next s)

/-- TIN_SAMPLE holds a sample, SERVO_RUN takes the samples of its period, TIME_INPUT_LOST enters HOLDOVER (R75, R106,
R108, R109, R110, R118, R120). TIN_SAMPLE keeps the last eight samples, counts the edge, and latches the sample of a
TIN_STEP or of a pending re-anchor when no sample is latched; it changes the time unit alone. SERVO_RUN, due while the
Keeper runs, empties the ring and the latch and notes its instant; on a SLEWING lead with one plain sample the
integral, the frequency correction, the bound and the last offset follow R108 to R110. TIME_INPUT_LOST, 250 ms without
a sample on an awake lead that is LOCKED or SLEWING, raises TIME_INPUT_LOST and enters HOLDOVER with f held and s = 0. -/
def Obligations.TimeInputCommands : Prop :=
  (∀ (sec : BitVec 48) (ns : BitVec 30) (step : Bool) (phase : BitVec 2) (s : State),
    let x : Sample := ⟨(s.capture phase : Nat), sec, ns, step, s.time.edges + 1, s.time.slewed⟩
    let re := s.time.latch = none ∧ s.time.reanchor.isSome = true ∧ s.time.reanchorLatched = false ∧ s.time.reanchorStep = false
    ∃ t, exec (.tinSample sec ns step phase) s = .next t ∧ { t with time := s.time } = s ∧
      t.time.ring = (s.time.ring ++ [x]).drop (s.time.ring.length - 7) ∧ t.time.edges = s.time.edges + 1 ∧ t.time.lastTinAt = s.now ∧
      t.time.lastSample = some x ∧ (∀ l, s.time.latch = some l → t.time.latch = some l) ∧
      (s.time.latch = none → re ∨ step = true → t.time.latch = some x) ∧
      (s.time.latch = none → ¬ re → step = false → t.time.latch = none) ∧ (re → t.time.reanchorLatched = true)) ∧
  (∀ s : State, s.keeperRuns = true → s.time.lastServoAt + s.time.period * 1000 ≤ s.now →
    ∃ t, exec .servoRun s = .next t ∧ t.time.lastServoAt = s.now ∧ t.time.ring = [] ∧ t.time.latch = none ∧ t.time.cvt = s.time.cvt ∧
      (∀ x : Sample, s.ident.chip = 0 → s.time.st = .slewing → s.time.step = none → s.time.ring = [x] → s.time.latch = none →
        x.step = false →
        let d : Int := ((x.sec.toNat * 1000000000 + x.ns.toNat : Nat) : Int) * 4 - x.cap
        let ns : Rat := ((s.time.period * 1000 : Nat) : Rat)
        let i := s.time.integral + fp32Rat s.time.ki * ((d : Rat) / 4)
        t.time.integral = i ∧ t.time.f = clampRat (-(500 / 1000000)) (500 / 1000000) (s.time.f + i / ns) ∧
        t.time.sl = fp32Rat s.time.kp * ((d : Rat) / 4) / ns ∧ t.time.dLast = some ((d : Rat), x.slew) ∧
        t.time.bound = BitVec.ofNat 22 (min 0x3FFFFF d.natAbs))) ∧
  (∀ s : State, s.ident.chip = 0 → s.time.inputLost = false → s.time.lastTinAt + 250000000 ≤ s.now →
    s.time.st = .locked ∨ s.time.st = .slewing → s.asleep = false →
    ∃ t, exec .timeInputLost s = .next t ∧ t.time.inputLost = true ∧ t.time.st = .holdover ∧ t.time.f = s.time.f ∧ t.time.sl = 0 ∧
      t.time.holdBound = s.boundNow ∧ t.time.holdAt = s.now ∧ t.persisting 0x303 0 = true ∧
      t.fc.pend = s.fc.pend ++ [⟨0x303, 0, 0, none, s.ts, s.now, false, false⟩])

/-- At the step edge CVT moves by the step and a new epoch begins (R103, R109, R116, R120, R124, R288, R391). STEP_EDGE,
200 ns or more after the request of a decided step of d units of 250 ps, moves CVT by exactly d (never below 0),
advances the epoch by 1, ends the slew term, ends the request, owes a TSYNC LOAD, and a RATE where the increment
without the slew term differs, and reads the captures held against the new CVT. A re-anchor that this step serves is
no longer pending. A PERIOD op that still expected its ready time expects the next multiple of its period after the
new time. The frequency correction and the time state are unchanged, and in SLEWING the bound is 0 (the model's
choice, log 58). -/
def Obligations.StepEdgeMovesCvt : Prop :=
  ∀ (s : State) (r : StepReq), s.time.step = some r → r.reqAt + 200 ≤ s.now →
    ∃ t, exec .stepEdge s = .next t ∧ t.time.cvt = ((s.time.cvt : Int) + r.d * (2 ^ 38 : Int)).toNat ∧ t.time.epoch = s.time.epoch + 1 ∧
      t.time.step = none ∧ t.time.sl = 0 ∧ t.time.slOn = 0 ∧ t.time.oweLoad = true ∧
      t.time.incOn = t.time.inc ∧ t.time.oweRate = decide (t.time.inc ≠ s.time.incOn) ∧ t.time.f = s.time.f ∧
      t.time.st = s.time.st ∧ (s.time.st = .slewing → t.time.bound = 0) ∧ t.time.ring = s.time.ring.map (fun x => { x with cap := x.cap + r.d }) ∧
      (s.time.reanchorStep = true → t.time.reanchor = none) ∧ t.ledger = s.ledger ∧ t.basins = s.basins ∧
      t.ch = { s.ch with standing := s.ch.standing.map (fun x =>
        if opRepeat x.desc = 2 ∧ s.ts < x.nextTs then { x with nextTs := nextReady x.desc t.ts } else x) }

/-- TSYNC_LOAD, TSYNC_RATE, TSYNC_STATUS and TSYNC_CHECK send their frame to every powered probe, whose replica takes its
fields or counts a CRC error (R98, R122, R123, R124, R125). The body of LOAD and CHECK holds the type, epoch,
partition, time state and CVT in the bits of R122, that of RATE the increment, that of STATUS the three without CVT; a
frame ends in the CRC-16 of the bits before, and a route that inverts none of them delivers the body. An owed LOAD or
STATUS, an owed RATE no less than 1 us after the last, and after 65,536 TCLK cycles a CHECK, each with TCLK running,
completes and clears what was owed. Every powered probe below N whose frame fails the CRC only counts, the third in a
row with TSYNC_ERROR raised and the count at 0; otherwise LOAD sets epoch, partition, state and CVT of the replica
(the bits of CVT below 2^-16 ns as in the master, log 75), RATE its increment, STATUS its epoch, partition and state,
and CHECK, where a bit of these differs, sets them all and raises TIME_REPLICA_MISMATCH. Nothing else of a powered
probe changes; a probe that is off keeps everything but its lag of increment at a RATE. -/
def Obligations.TsyncFrames : Prop :=
  (∀ (s : State) (k : Nat), k < 16 → bits (s.loadBits k) 0 4 = k ∧ bits (s.loadBits k) 8 16 = s.time.epoch.toNat ∧
    bits (s.loadBits k) 24 2 = s.time.part.toNat ∧ bits (s.loadBits k) 26 3 = s.tstate.code ∧ bits (s.loadBits k) 32 96 = s.cvt96 ∧
    bits s.rateBits 0 4 = 2 ∧ bits s.rateBits 8 48 = s.time.incOn % 2 ^ 48 ∧ bits s.statusBits 0 4 = 3 ∧
    bits s.statusBits 8 16 = s.time.epoch.toNat ∧ bits s.statusBits 24 2 = s.time.part.toNat ∧ bits s.statusBits 26 3 = s.tstate.code) ∧
  (∀ n body : Nat, received n body 0 = some body ∧
    (body < 2 ^ n → frameOf n body % 2 ^ n = body ∧ frameOf n body / 2 ^ n = crc16 n body)) ∧
  ∀ (flips : Tab Nat) (s : State), s.clk.tclk = true →
    let crc (r : Replica) : Replica := { r with crcRun := if 2 ≤ r.crcRun then 0 else r.crcRun + 1 }
    let fields (rx : Nat) (r : Replica) : Replica :=
      { r with epoch := BitVec.ofNat 16 (bits rx 8 16), part := BitVec.ofNat 2 (bits rx 24 2), st := TState.ofCode (bits rx 26 3), crcRun := 0 }
    let timed (rx : Nat) (r : Replica) : Replica :=
      { fields rx r with skew := (fineOf96 (bits rx 32 96) : Int) - (fineOf96 s.cvt96 : Int) }
    let brings (t : State) (n body : Nat) (f : Nat → Nat → Replica → Replica) (g : Replica → Replica) := ∀ p < s.ident.nProbes,
      (s.probe p).up = true → t.probe p = { s.probe p with replica := match received n body (tget flips p 0) with
        | some rx => f p rx (s.probe p).replica
        | none => g (s.probe p).replica } ∧
      (received n body (tget flips p 0) = none → 2 ≤ (s.probe p).replica.crcRun →
        ⟨0x304, p, 0, none, s.ts, s.now, false, false⟩ ∈ t.fc.pend)
    let others (t : State) := ∀ p < s.ident.nProbes, (s.probe p).up = false → t.probe p = s.probe p
    (s.time.oweLoad = true → ∃ t, exec (.tsyncLoad flips) s = .next t ∧ t.time = { s.time with oweLoad := false } ∧ others t ∧
      brings t 128 (s.loadBits 1) (fun _ rx r => { timed rx r with loaded := true }) crc) ∧
    (s.time.oweRate = true → (∀ a, s.time.lastRateAt = some a → a + 1000 ≤ s.now) → ∃ t, exec (.tsyncRate flips) s = .next t ∧
      t.time = { s.time with oweRate := false, incOn := s.time.inc, slOn := s.time.sHw, lastRateAt := some s.now } ∧
      (∀ p < s.ident.nProbes, (s.probe p).up = false →
        ∃ n, t.probe p = { s.probe p with replica := { (s.probe p).replica with rate := n } }) ∧
      brings t 64 (2 + s.time.inc * 2 ^ 8) (fun _ rx r => { r with rate := (bits rx 8 48 : Int) - (s.time.inc : Int), crcRun := 0 })
        (fun r => { crc r with rate := r.rate + (s.time.incOn : Int) - (s.time.inc : Int) })) ∧
    (s.time.oweStatus = true → ∃ t, exec (.tsyncStatus flips) s = .next t ∧ t.time = { s.time with oweStatus := false } ∧ others t ∧
      brings t 32 s.statusBits (fun _ rx r => fields rx r) crc) ∧
    (65536 ≤ s.time.sinceCheck → ∃ t, exec (.tsyncCheck flips) s = .next t ∧ t.time = { s.time with sinceCheck := 0 } ∧ others t ∧
      brings t 128 (s.loadBits 4) (fun p rx r => if s.agrees p rx then { r with crcRun := 0 } else timed rx r) crc ∧
      ∀ p < s.ident.nProbes, (s.probe p).up = true → ∀ rx, received 128 (s.loadBits 4) (tget flips p 0) = some rx →
        s.agrees p rx = false → ⟨0x305, p, 0, none, s.ts, s.now, false, false⟩ ∈ t.fc.pend)

/-- TIME_SYNC_DUE sends the TIME_SYNC of every block stream whose 262 us have passed and touches only the canal (R101,
R178, R185). TIME_SYNC_DUE completes and changes nothing but the queues, streams and losses of the canal. An active
stream of a block source whose last TIME_SYNC is 1,048,000 units of 250 ps old or older has its TIME_SYNC at the
timestamp of now, and stays active exactly when it has had a record since the last one. A stream of a block source
that is not active, or whose TIME_SYNC is younger, keeps its times. -/
def Obligations.TimeSyncDueEmits : Prop :=
  ∀ s : State, ∃ t, exec .timeSyncDue s = .next t ∧ { t with canal := s.canal } = s ∧
    ∀ src o, 128 ≤ src → src < 139 → o < 17 →
      ((s.stream src o).active = true → (s.stream src o).lastSync + 1048000 ≤ s.ts →
        (t.stream src o).lastSync = s.ts ∧ (t.stream src o).since = 0 ∧ (t.stream src o).active = !decide ((s.stream src o).since = 0)) ∧
      ((s.stream src o).active = false ∨ s.ts < (s.stream src o).lastSync + 1048000 →
        (t.stream src o).lastSync = (s.stream src o).lastSync ∧ (t.stream src o).active = (s.stream src o).active)

/-- SYNC, SYNC_ACK and SYNC_RSP carry an exchange on a lane, and its failure, lane A and the measured constant follow it
(R43, R44, R127, R128, R129, R130, R131, R425, R426). The link works in UNDERWAY; with its island off every one of
these rows leaves the state. On a lane that is up, the lower-indexed chip sends SYNC with t1 and its exchange is open;
with no NEXT key the counter advances and the frame carries chip, peer, lane and counter in its nonce. The other chip
accepts an authentic frame on an open link, advances the receive counter, takes t1 and its own CVT as t2 and t3.
SYNC_ACK gives the sender t2 and t3 and ends its exchange. SYNC_RSP gives the follower theta and RTT from the four
times and the lane's constant, and, on the active lane to a lead it has not lost, with a constant while LOCKED or
SLEWING, its last offset. CONVOY_EXCHANGE_FAIL of a peer not announced asleep counts, and the third takes the lane
down. LANE_A_RESTORE makes lane A active after 1 s up. ASYM_MEASURE_DONE, 1 s after the first exchange that counted,
sets the other lane's constant. -/
def Obligations.ConvoyExchanges : Prop :=
  ∀ (fr : LinkFrame) (s : State),
    let j := fr.peer.val
    let b := fr.lane
    let l := (s.peer j).lane b
    let taken := s.connected j b = true ∧ s.linkOpen j = true ∧ l.up = true ∧ fr.auth = true ∧ fr.phase = false
    let room := l.tx + 1 < 2 ^ 64 ∧ l.txNext + 1 < 2 ^ 64
    (s.lk.st ≠ .underway → (∀ t1, exec (.sync fr t1) s = .next s) ∧ (∀ t2 t3, exec (.syncAck fr t2 t3) s = .next s) ∧
      (∀ t4, exec (.syncRsp fr t4) s = .next s) ∧ exec (.convoyExchangeFail fr.peer b) s = .next s ∧
      exec (.laneARestore fr.peer) s = .next s ∧ exec (.asymMeasureDone fr.peer) s = .next s) ∧
    (s.lk.st = .underway →
    (∀ t1, s.sender j = true → l.up = true → ∃ t, exec (.sync fr t1) s = .next t ∧ ((t.peer j).lane b).opened = true ∧
      ((t.peer j).lane b).t1 = fineOf96 t1.toNat ∧ (s.linkKey j true = none → room → ((t.peer j).lane b).tx = l.tx + 1 ∧
        ((t.peer j).lane b).sent = some ⟨false, s.chip, s.peerChip j, b, l.tx,
          if (s.peer j).sealMode then [] else convoyNonce s.chip (s.peerChip j) b l.tx⟩)) ∧
    (∀ t1, s.sender j = false → taken → room → ¬ ((s.peer j).sentNext = true ∧ (s.peer j).gotNext = true) →
      ∃ t, exec (.sync fr t1) s = .next t ∧ ((t.peer j).lane b).opened = true ∧ ((t.peer j).lane b).t1 = fineOf96 t1.toNat ∧
        ((t.peer j).lane b).t2 = s.cvtFine ∧ ((t.peer j).lane b).t3 = s.cvtFine ∧
        (s.linkKey j true = none → ((t.peer j).lane b).rx = fullCounter l.rx fr.ctr + 1 ∧ ((t.peer j).lane b).tx = l.tx + 1)) ∧
    (∀ t2 t3, s.sender j = true → taken → ∃ t, exec (.syncAck fr t2 t3) s = .next t ∧ ((t.peer j).lane b).opened = false ∧
      ((t.peer j).lane b).fails = 0 ∧ ((t.peer j).lane b).t2 = fineOf96 t2.toNat ∧ ((t.peer j).lane b).t3 = fineOf96 t3.toNat) ∧
    (∀ t4, s.sender j = false → taken → l.opened = true →
      let ab : Rat := (((l.t2 : Int) - (l.t1 : Int) : Int) : Rat) / (((2 ^ 40 : Nat) : Rat))
      let ba : Rat := (((fineOf96 t4.toNat : Int) - (l.t3 : Int) : Int) : Rat) / (((2 ^ 40 : Nat) : Rat))
      let theta := (ab - ba - (((l.asym.getD 0 : Int)) : Rat) / 100) / 2
      ∃ t, exec (.syncRsp fr t4) s = .next t ∧ ((t.peer j).lane b).opened = false ∧ ((t.peer j).lane b).fails = 0 ∧
        ((t.peer j).lane b).theta = theta ∧ ((t.peer j).lane b).rtt = ab + ba ∧
        ((s.peer j).active = (if b then 2 else 1) → s.leadSlot = some j → l.asym.isSome = true → s.convoy.pend = none →
          s.convoy.split = false → s.time.part = 0 → s.keeperRuns = true → s.time.st = .locked ∨ s.time.st = .slewing →
          t.time.dLast = some (-theta * 4, s.time.slewed))) ∧
    (l.up = true → (s.peer j).asleep = none → ∃ t, exec (.convoyExchangeFail fr.peer b) s = .next t ∧
      (l.fails < 2 → ((t.peer j).lane b) = { l with fails := l.fails + 1, opened := false } ∧ (t.peer j).active = (s.peer j).active) ∧
      (2 ≤ l.fails → ((t.peer j).lane b).up = false ∧ (t.peer j).active ≠ (if b then 2 else 1))) ∧
    ((s.peer j).active = 2 → (s.peer j).a.up = true → (s.peer j).a.upAt + 1000000000 ≤ s.now →
      ∃ t, exec (.laneARestore fr.peer) s = .next t ∧ (t.peer j).active = 1 ∧
        (t.peer j).a = { (s.peer j).a with sum := 0, count := 0, measFrom := none } ∧
        (t.peer j).b = { (s.peer j).b with sum := 0, count := 0, measFrom := none }) ∧
    ((s.peer j).active = (if b then 1 else 2) → l.up = true → l.asym = none → l.count ≠ 0 →
      (∃ m, l.measFrom = some m ∧ m + 1000000000 ≤ s.now) → s.convoy.noAuto = false → ∃ t, exec (.asymMeasureDone fr.peer) s = .next t ∧
        ((t.peer j).lane b) = { l with asym := some (roundInt .rna (l.sum / ((l.count : Nat) : Rat) * 100)), sum := 0, count := 0, measFrom := none }))

/-- HELLO brings a lane up, and EPOCH_MSG, FOLLOWER_STEP, STATE, the sleep timeout and a split follow the lead (R43, R118,
R120, R119, R127, R131, R132, R134, R424, R428). In UNDERWAY: a HELLO of the expected chip on a wired lane with the
same mode (and, SEALED, the same housing ID) on an open link brings the lane up and makes it active where none is, or
where lane A comes up in the same exchange as an active lane B; another mode takes it down and raises
LINK_MODE_MISMATCH. An accepted EPOCH_MSG of chip 0 with a later epoch is held; its sender only sends. FOLLOWER_STEP
of a chip in step with the lead, once its CVT has reached the lead's CVT of E minus theta (log 76), and of any other
at once, moves CVT, takes the epoch and partition 0 and is SLEWING, or UNCERTAIN on a lane without a constant. An
accepted STATE sets the peer's state, partition and announced sleep, and the lead's state. PEER_SLEEP_TIMEOUT ends the
announced sleep, with the link lost where no exchange has come since. PARTITION_SPLIT takes the lowest reachable chip
but chip 0 as partition and is in HOLDOVER. -/
def Obligations.ConvoyMessages : Prop :=
  ∀ (fr : LinkFrame) (s : State),
    let j := fr.peer.val
    let b := fr.lane
    let l := (s.peer j).lane b
    let taken := s.connected j b = true ∧ s.linkOpen j = true ∧ l.up = true ∧ fr.auth = true ∧ fr.phase = false
    s.lk.st = .underway →
    (∀ (chip : BitVec 2) (m : Bool) (housing : BitVec 32), s.connected j b = true → chip.toNat = s.peerChip j →
      let same := (s.peer j).sealMode = m ∧ (m = true → setHousing s.dev.settings ≠ 0 ∧ housing.toNat = setHousing s.dev.settings)
      ∃ t, exec (.hello fr.peer b chip m housing) s = .next t ∧ (t.peer j).hello = some (m, housing) ∧
        t.persisting 0xA04 (2 * j + b2n b) = !decide same ∧
        (same → s.linkOpen j = true → l.up = false → l.stopped = false →
          ((t.peer j).lane b).up = true ∧ ((t.peer j).lane b).fails = 0 ∧ ((t.peer j).lane b).upAt = s.now ∧
          (t.peer j).active = (if (s.peer j).active = 0 then (if b then 2 else 1)
            else if b = false ∧ (s.peer j).active = 2 ∧ (s.peer j).b.upAt / 125000 = s.now / 125000 then 1 else (s.peer j).active)) ∧
        (¬ same → ((t.peer j).lane b).up = false ∧ ∃ q, t.fc.pend = q ++ [⟨0xA04, 2 * j + b2n b, 0, none, s.ts, s.now, false, false⟩])) ∧
    (∀ epoch step cvt, s.sender j = false → taken → s.peerChip j = 0 → s.time.epoch.toNat < epoch.toNat →
      ∃ t, exec (.epochMsg fr epoch step cvt) s = .next t ∧ t.time = s.time ∧
        t.convoy.pend = some (epoch, sgn 64 step.toNat, fineOf96 cvt.toNat)) ∧
    (∀ epoch step cvt, s.sender j = true → (s.peer j).active ≠ 0 → exec (.epochMsg fr epoch step cvt) s = .next (s.sendFrame j b)) ∧
    (∀ epoch d e, s.convoy.pend = some (epoch, d, e) →
      let k := (s.peer 0).lane (decide ((s.peer 0).active = 2))
      let inStep := s.time.epoch.toNat + 1 = epoch.toNat ∧ s.time.st ≠ .detached ∧ s.time.part = 0
      (inStep → (e : Int) - roundInt .rne (k.theta * ((2 ^ 40 : Nat) : Rat)) ≤ (s.time.cvt : Int)) →
      ∃ t, exec .followerStep s = .next t ∧ t.time.epoch = epoch ∧ t.time.part = 0 ∧ t.convoy.pend = none ∧
        t.time.st = (if s.ident.chip ≠ 0 ∧ (s.peer 0).active ≠ 0 ∧ k.asym = none then .uncertain else .slewing) ∧
        t.convoy.split = false ∧ t.convoy.acting = false ∧ t.persisting 0x307 0 = false ∧
        (inStep → t.time.cvt = ((s.time.cvt : Int) + d * 2 ^ 38).toNat) ∧
        (¬ inStep → t.time.cvt = ((s.time.cvt : Int) +
          ((if k.t1 ≤ e ∧ e ≤ k.t1 + 2 ^ 40 * 1000000 then d else 0) - roundInt .rna (k.theta * 4)) * 2 ^ 38).toNat)) ∧
    (∀ tstate part sleep, taken → ∃ t, exec (.state fr tstate part sleep) s = .next t ∧ (t.peer j).pst = TState.ofCode tstate.toNat ∧
      (t.peer j).part = part ∧
      (t.peer j).asleep = sleep.map (fun w => s.now + (fineOf96 w.toNat - s.time.cvt) / 2 ^ 40) ∧
      (s.leadSlot = some j → t.convoy.leadState = TState.ofCode tstate.toNat)) ∧
    (∀ w, (s.peer j).asleep = some w → w + 1000000000 ≤ s.now → ∃ t, exec (.peerSleepTimeout fr.peer) s = .next t ∧
      (t.peer j).asleep = none ∧
      (s.now ≤ (s.peer j).heard + 375000 → (t.peer j).active = (s.peer j).active) ∧
      ((s.peer j).heard + 375000 < s.now → (t.peer j).active = 0 ∧ (t.peer j).a.up = false ∧ (t.peer j).b.up = false)) ∧
    (∀ reach : BitVec 4, s.ident.chip ≠ 0 → s.convoy.split = true → ∃ t, exec (.partitionSplit reach) s = .next t ∧
      t.time.part ≠ 0 ∧ t.time.part.toNat ≤ s.ident.chip.toNat ∧ (t.time.part = s.ident.chip ∨ reach.getLsbD t.time.part.toNat = true) ∧
      (∀ c, 0 < c → c < t.time.part.toNat → reach.getLsbD c = false) ∧ t.convoy.acting = decide (t.time.part = s.ident.chip) ∧
      t.time.st = .holdover)

/-- POWER_POLICY, ENVELOPE_SET, DERATE_SET, COOLANT_REPORT and POWER_STATUS complete with the effect of their rows (R326,
R354, R364, R365, R370, R371, R402). A heard POWER_POLICY with every value in its range sets the policy and that it is
set. ENVELOPE_SET of a cap of 40 to 240, a burst not below it and at most 360, a burst time of at most 1,000 and a
shed list of at most 16 existing domains sets the limits and fills both buckets. DERATE_SET in its ranges sets the
derating. COOLANT_REPORT of temperatures from -55 to 150 degrees and a lead of at most 600 s takes the report, ends
its loss and joins the coolant series. POWER_STATUS answers the driven THR_LEVEL, the effective cap, the bucket, the
domains that are on and the power, and changes nothing. -/
def Obligations.EnvelopePackets : Prop :=
  ∀ (pk : Pkt) (s : State),
    let within (i lo hi : Nat) := lo ≤ (pk.p i).toNat ∧ (pk.p i).toNat ≤ hi
    (Heard specPowerPolicy pk s → fld (pk.p 1) 3 7 ≤ 100 → within 2 20 1000 → within 3 400 100000 → within 4 30000 10000000 →
      within 5 10 10000 → within 6 100 10000 →
      Answers (exec (.powerPolicy pk) s) specPowerPolicy pk s [] (fun t => { t with lk := { t.lk with
        policySet := true
        policy := {
          depth := Power.ofCode (fld (pk.p 1) 0 2), guard := (pk.p 2).toNat, thrMoored := (pk.p 3).toNat, thrLaid := (pk.p 4).toNat,
          coresIdleOff := flag (pk.p 1) 2, pswGap := fld (pk.p 1) 3 7, pswTimeout := (pk.p 5).toNat, coolant := (pk.p 6).toNat } } })) ∧
    (Heard specEnvelopeSet pk s → ∀ c b n list, c = fld (pk.p 1) 0 8 → b = fld (pk.p 1) 8 9 → n = fld (pk.p 2) 0 5 →
      list = (List.range n).map (fun i => fld (pk.p (3 + i / 4)) (i % 4 * 8) 8) → 40 ≤ c → c ≤ 240 → c ≤ b → b ≤ 360 →
      fld (pk.p 1) 17 10 ≤ 1000 → n ≤ 16 → (∀ h ∈ list, h < s.ident.hostDomains) →
      Answers (exec (.envelopeSet pk) s) specEnvelopeSet pk s [] (fun t =>
        let e := { t.env with pCont := c, pBurst := b, tBurst := fld (pk.p 1) 17 10, fallback := fld (pk.p 1) 27 4, shed := list }
        let full := (quarter b - e.effOf) * (fld (pk.p 1) 17 10 * 10 : Nat)
        { t with env := { e with pEff := e.effOf, a := { e.a with bucket := full }, b := { e.b with bucket := full } } })) ∧
    (Heard specDerateSet pk s → ∀ knee tm nb st, knee = temp16 (pk.p 2) 0 → tm = temp16 (pk.p 2) 16 → nb = temp16 (pk.p 3) 0 →
      st = temp16 (pk.p 3) 16 → fld (pk.p 1) 0 10 ≤ 600 → 20 * 128 ≤ knee → knee ≤ 80 * 128 → knee + 5 * 128 ≤ tm → tm ≤ 100 * 128 →
      20 * 128 ≤ nb → nb ≤ 100 * 128 → 20 * 128 ≤ st → st ≤ 100 * 128 → 40 ≤ fld (pk.p 4) 0 8 → fld (pk.p 4) 0 8 ≤ s.env.pCont →
      Answers (exec (.derateSet pk) s) specDerateSet pk s [] (fun t => { t with env := {
        t.env with lead := fld (pk.p 1) 0 10, tKnee := knee, tMax := tm, tNoBurst := nb, tStale := st, pMin := fld (pk.p 4) 0 8 } })) ∧
    (Heard specCoolantReport pk s → ∀ tin tpk, tin = temp16 (pk.p 1) 0 → tpk = temp16 (pk.p 1) 16 → -7040 ≤ tin → tin ≤ 19200 →
      -7040 ≤ tpk → tpk ≤ 19200 → fld (pk.p 2) 0 10 ≤ 600 → ∃ f : State → State,
      Answers (exec (.coolantReport pk) s) specCoolantReport pk s [] f ∧
      let u := f (s.rung specCoolantReport pk)
      u.env = { s.env with report := some (tin, tpk, fld (pk.p 2) 0 10), reportAt := s.now, reportLost := false } ∧
      u.persisting 0x904 0 = false ∧ (s.now, tin) ∈ u.survey.reports) ∧
    (Heard specPowerStatus pk s →
      Answers (exec (.powerStatus pk) s) specPowerStatus pk s
        ([s.io.thr + (s.env.pEff * 4).floor.toNat % 256 * 16 + b2n s.env.burst * 2 ^ 12 + b2n s.env.overrun * 2 ^ 13,
          s.env.a.bucket.floor.toNat] ++ domainWords s.domMask ++ [min 65535 s.env.pInst]) (fun t => t) ∧
      ∀ h < s.ident.hostDomains, h < 72 → s.domMask.getLsbD h = s.domOn h)

/-- The envelope loop, its inputs, its losses and its shedding follow R365 to R371 (R84, R325, R326, R365, R366, R368,
R369, R371). RMON_SAMPLE of an existing rail channel takes the sample and ends its loss. ENVELOPE_LOOP, 10 us after
the last, sums the samples, moves each bucket by (p_cont_eff - p) times 10 us within 0 and its maximum, and sets each
copy's level by the bands of R366, never below the fallback level while an input is lost; the level asked for is the
higher of the copies (THR_LEVEL steps to it, R83). ENVELOPE_INPUT_LOST after 10 us raises the fault and the fallback
level. COOLANT_REPORT_LOST and COOLANT_SERIES_STALE fall due after five report periods and 10 s. ENVELOPE_SHED in an
overrun asks for the next domain of the list to go off with reason ENVELOPE, and with the list exhausted raises again
after 10 ms. -/
def Obligations.EnvelopeEvents : Prop :=
  ∀ s : State,
    (∀ (ch : Fin 8) (power current : BitVec 16), s.dev.phase ≠ .held → ch.val < s.ident.rails →
      ∃ t, exec (.rmonSample ch power current) s = .next t ∧ t.env.thr = s.env.thr ∧
        tget t.env.latest ch.val (0, 0, 0) = (power.toNat, current.toNat, s.now) ∧ t.env.lost.getLsbD ch.val = false ∧
        (∀ k < 8, k ≠ ch.val → t.env.lost.getLsbD k = s.env.lost.getLsbD k) ∧ t.persisting 0x901 ch.val = false ∧
        tget t.survey.live.railP ch.val 0 = min (2 ^ 48 - 1) (tget s.survey.live.railP ch.val 0 + power.toNat) ∧
        tget t.survey.live.railI ch.val 0 = min (2 ^ 48 - 1) (tget s.survey.live.railI ch.val 0 + current.toNat)) ∧
    (s.env.lastLoopAt + 10000 ≤ s.now →
      let sum := (List.range s.ident.rails).foldl (fun a ch => a + (tget s.env.latest ch (0, 0, 0)).1) 0
      let p : Rat := (sum : Rat) / 500
      let eff := s.env.effOf
      let next (c : EnvCopy) (d : EnvCopy) :=
        d.bucket = max 0 (min (s.env.eMax eff) (c.bucket + (eff - p) * 10)) ∧
        let lim := if s.env.burstOf = true ∧ 0 < d.bucket then quarter s.env.pBurst else eff
        let floor := if s.env.lost = 0 then 0 else s.env.fallback
        (6 / 5 * lim < p → d.level = max floor 15) ∧
        (21 / 20 * lim < p → p ≤ 6 / 5 * lim → d.level = max floor (min 15 (c.level + 4))) ∧
        (lim < p → p ≤ 21 / 20 * lim → d.level = max floor (min 15 (c.level + 1))) ∧
        (p ≤ lim → 19 / 20 * lim < p → d.level = max floor c.level ∧ d.low = 0) ∧
        (p ≤ lim → p ≤ 19 / 20 * lim → 0 ≤ lim → c.low + 1 ≠ 8 → d.level = max floor c.level ∧ d.low = c.low + 1) ∧
        (p ≤ lim → p ≤ 19 / 20 * lim → 0 ≤ lim → c.low + 1 = 8 → d.level = max floor (c.level - 1) ∧ d.low = 0)
      ∃ t, exec (.envelopeLoop false) s = .next t ∧ t.env.pInst = sum ∧ t.env.pEff = eff ∧ t.env.lastLoopAt = s.now ∧
        next s.env.a t.env.a ∧ next s.env.b t.env.b ∧ t.env.thr = max t.env.a.level t.env.b.level) ∧
    (∀ ch : Fin 8, ch.val < s.ident.rails → s.env.lost.getLsbD ch.val = false →
      (tget s.env.latest ch.val (0, 0, 0)).2.2 + 10000 ≤ s.now → ∃ t, exec (.envelopeInputLost ch) s = .next t ∧
        t.env.lost.getLsbD ch.val = true ∧ t.env.a.level = max s.env.fallback s.env.a.level ∧
        t.env.b.level = max s.env.fallback s.env.b.level ∧ t.env.thr = max t.env.a.level t.env.b.level ∧ t.persisting 0x901 ch.val = true ∧
        t.fc.pend = s.fc.pend ++ [⟨0x901, ch.val, 0, none, s.ts, s.now, false, false⟩]) ∧
    (s.env.reportLost = false → s.env.reportAt + 5 * s.lk.policy.coolant * 1000000 ≤ s.now →
      ∃ t, exec .coolantReportLost s = .next t ∧ t.env = { s.env with reportLost := true } ∧ t.persisting 0x904 0 = true ∧
        t.fc.pend = s.fc.pend ++ [⟨0x904, 0, 0, none, s.ts, s.now, false, false⟩]) ∧
    (s.dev.phase ≠ .held → s.env.reportAt + 10000000000 ≤ s.now →
      exec .coolantSeriesStale s = .next { s with survey := { s.survey with coolantStale := true } }) ∧
    (∀ h rest, s.env.overrun = true → s.env.shed.filter (fun h => !(s.dom h).shed) = h :: rest → h < s.ident.hostDomains →
      s.env.lastShedAt = 0 ∨ s.env.lastShedAt + 100000 ≤ s.now → ∃ t, exec .envelopeShed s = .next t ∧ t.env.lastShedAt = s.now ∧
        (t.dom h).shed = true ∧ ((s.dom h).req = true → (s.dom h).ack = true → (t.dom h).due = some (false, 5)) ∧
        (∀ k, k ≠ h → t.dom k = s.dom k)) ∧
    (s.env.overrun = true → (∀ h ∈ s.env.shed, (s.dom h).shed = true) → s.env.lastOverAt + 10000000 ≤ s.now →
      exec .envelopeShed s = .next (({ s with env := { s.env with lastOverAt := s.now } }).raise 0x903 0 0))

/-- A host domain's change is asked for, started, issued and acknowledged as R360 to R363 say (R82, R359, R360, R361,
R362, R363, R402, R538). A heard DOMAIN_SET (of the requester's own domains, for a charter) is accepted, asks for
every domain of its mask and waits; DOMAIN_SET_DONE answers it with the timeouts once no change of its mask is open.
DOMAIN_ASSIGN sets a charter's mask. A due change starts while the block's state allows: off with a snapshot of every
probe of the domain. PSW_REQ_ISSUE drives the first change in order, of domains whose PSW_ACK equals PSW_REQ, once
started, past the gap and drained. PSW_ACK at the requested level closes the handshake, powering the probes down for
an off; otherwise it only notes the level. PSW_TIMEOUT raises PSW_TIMEOUT. HOST_SWITCHED_DOMAIN_OFF powers the
domain's probes down and breaks their streams off. CORE_IDLE_OFF switches idle cores off. While the Keeper is stopped
the starts, the issue and the idle cores wait. -/
def Obligations.HostDomains : Prop :=
  (∀ (pk : Pkt) (s : State),
    (Heard specDomainSet pk s → pk.o = hm ∨ (∀ h < 72, (pk.domains 1).getLsbD h = true → (tget s.lk.assign pk.o 0).getLsbD h = true) →
      Accepts (exec (.domainSet pk) s) specDomainSet pk s [] (fun slot t =>
        let u := t.requestDomains (pk.domains 1) (flag (pk.p 4) 0) (if pk.o = hm then 2 else 6)
        { u with lk := { u.lk with jobs := u.lk.jobs ++ [⟨pk.o, pk.seq, slot, pk.domains 1, flag (pk.p 4) 0, 0, false⟩] } })) ∧
    (Heard specDomainAssign pk s → fld (pk.p 1) 0 5 < 16 → s.active (fld (pk.p 1) 0 5) = true →
      Answers (exec (.domainAssign pk) s) specDomainAssign pk s []
        (fun t => { t with lk := { t.lk with assign := tset t.lk.assign (fld (pk.p 1) 0 5) (pk.domains 2) 0 } }))) ∧
  (∀ (s : State) (j : DomJob), s.lk.jobs.find? (fun j => (domainList j.mask).all (fun h => !s.domBusy h)) = some j → j.un = false →
    exec .domainSetDone s = .next (({ s with lk := { s.lk with jobs := s.lk.jobs.erase j } }).complete 0x74 j.owner j.seq j.slot .ok
      [j.timeouts.toNat % 2 ^ 32, j.timeouts.toNat / 2 ^ 32 % 2 ^ 32, j.timeouts.toNat / 2 ^ 64])) ∧
  (∀ (s : State) (h : Fin 72) (reason : Nat), (s.dom h.val).snapped = false → (s.dom h.val).req = (s.dom h.val).ack →
    s.switchHeld reason = false → s.dev.restarting = false → s.lk.st = .underway ∨ s.lk.st = .slack ∨ s.needsCanal h.val = false →
    ((s.dom h.val).due = some (false, reason) → ∃ t, exec (.hostDomainOffStart h) s = .next t ∧
      t.dom h.val = { s.dom h.val with snapped := true, startAt := s.now } ∧
      ∀ p < s.ident.nProbes, t.probe p = if s.probeDom p = some h.val ∧ (s.probe p).snaps = true then
          { s.probe p with snapReq := (s.probe p).snapReq ++ [⟨4, false, true, none, none, (s.probe p).edge⟩] } else s.probe p) ∧
    ((s.dom h.val).due = some (true, reason) →
      exec (.hostDomainOnStart h) s = .next (s.setDom h.val { s.dom h.val with snapped := true, startAt := s.now }))) ∧
  (∀ (s : State) (h : Nat) (on : Bool) (reason : Nat) (rest : List (Nat × Bool × Nat)), s.dueOrder = (h, on, reason) :: rest →
    (s.dom h).snapped = true → s.lk.lastEdgeAt = 0 ∨ s.lk.lastEdgeAt + s.lk.policy.pswGap * 1000 ≤ s.now →
    on = true ∨ s.drained h = true → s.dev.restarting = false → (s.dom h).req = (s.dom h).ack ∧
      ∃ t, exec .pswReqIssue s = .next t ∧ t.lk.lastEdgeAt = s.now ∧
      t.dom h = { s.dom h with req := on, due := none, snapped := false, openAt := some s.now, reason := reason } ∧
      ∀ k, k ≠ h → t.dom k = s.dom k) ∧
  (∀ (s : State) (h : Fin 72) (level : Bool), h.val < s.ident.hostDomains → (s.dom h.val).ack ≠ level →
    (level = (s.dom h.val).req → (s.dom h.val).openAt.isSome = true ∨ (s.dom h.val).timedOut = true → (s.dom h.val).later = none →
      ∃ t, exec (.pswAck h level) s = .next t ∧
        t.dom h.val = { s.dom h.val with ack := level, openAt := none, timedOut := false, later := none } ∧
        t.persisting 0x900 h.val = false ∧
        (level = false → ∀ p < s.ident.nProbes, s.probeDom p = some h.val → (t.probe p).up = false ∧ (t.probe p).cfg = (s.probe p).cfg)) ∧
    (level ≠ (s.dom h.val).req ∨ ((s.dom h.val).openAt = none ∧ (s.dom h.val).timedOut = false) →
      exec (.pswAck h level) s = .next (s.setDom h.val { s.dom h.val with ack := level }))) ∧
  (∀ (s : State) (h : Fin 72) (a : Nat), (s.dom h.val).openAt = some a → a + s.lk.policy.pswTimeout * 1000 ≤ s.now →
    ∃ t, exec (.pswTimeout h) s = .next t ∧ t.dom h.val = { s.dom h.val with openAt := none, timedOut := true } ∧
      t.persisting 0x900 h.val = true ∧ t.fc.pend = s.fc.pend ++ [⟨0x900, h.val, 0, none, s.ts, s.now, false, false⟩]) ∧
  (∀ (s : State) (h : Fin 72), h.val < s.ident.hostDomains → ∃ t, exec (.hostSwitchedDomainOff h) s = .next t ∧ t.lk = s.lk ∧
    ∀ p < s.ident.nProbes, (s.probeDom p = some h.val → (t.probe p).up = false ∧ ((s.probe p).up = true → t.queue p = [] ∧
        ∀ o < 17, (t.stream p o).active = false)) ∧
      (s.probeDom p ≠ some h.val → t.probe p = s.probe p)) ∧
  (∀ s : State, s.lk.policy.coresIdleOff = true → s.ch.run = none → s.ch.domOn ≠ 0 → (∀ e ∈ s.ch.allot, e.2.st = 0) →
    s.ch.idleAt + 1000000 ≤ s.now → s.lk.st = .underway → s.dev.restarting = false → s.switchHeld 0 = false →
    ∃ t, exec .coreIdleOff s = .next t ∧ t.ch = { s.ch with domOn := 0, cores := [] } ∧
      (∀ c < 16, (t.bank (bankKey (12 + c) false)).pos = 0 ∧ (t.bank (bankKey (12 + c) false)).passNo = 0 ∧
        ∀ w < 2 ^ 20, t.word? (12 + c) false w = none)) ∧
  (∀ s : State, s.dev.restarting = true →
    (∀ h, exec (.hostDomainOffStart h) s = .next s ∧ exec (.hostDomainOnStart h) s = .next s) ∧ exec .pswReqIssue s = .next s ∧
    exec .coreIdleOff s = .next s)

/-- The Lock-keeper enters, holds and leaves the power states as R344 to R358 say (R344, R346, R349, R352, R355, R356,
R357, R358). POWER_STATE_CHOICE in STARTUP or SERVICE with a policy set, awake and with no open handshake, follows the
choice: nothing for UNDERWAY, SLACK at once, its TCLK to stop unless a set is armed, and the way to MOORED or LAID_UP
begins; without a policy or in another mode nothing changes. SLEEP_ENTRY_COMPLETE ends an entry whose wake was held,
or with nothing on its way and no open handshake reaches the state with TCLK to stop at the next AON_REF edge, LAID_UP
with its sealed context where the key store gives the key. A wake event asleep starts the exit with its reason, is
held during an entry, and does nothing awake; the wake timer starts it with reason 4. SLEEP_EXIT_COMPLETE with no open
handshake and no packet waiting is UNDERWAY with TCLK running; after LAID_UP it asks for the key of label 4 and
restores the sealed settings, and a context that fails, or a key store that does, gives the state after a warm reset. -/
def Obligations.PowerStates : Prop :=
  ∀ s : State,
    (let ready := (s.dev.mode = .startup ∨ s.dev.mode = .service) ∧ s.dev.phase = .running ∧ s.dev.restarting = false ∧
        s.lk.policySet = true ∧ s.asleep = false ∧ s.lk.exiting = false ∧ s.handshakeOpen = false
     (¬ ready → exec .powerStateChoice s = .next s) ∧
     (ready → s.choose.1 = .underway → exec .powerStateChoice s = .next s) ∧
     (ready → s.choose.1 = .slack → ∃ t, exec .powerStateChoice s = .next t ∧ t.lk.st = .slack ∧ t.lk.entering = none ∧
       t.clk.stop = (!s.armedOn) ∧ t.clk.tclk = s.clk.tclk ∧ t.lk.horizon = s.choose.2 ∧ tget t.clk.resEntries 1 0 = min (2 ^ 32 - 1) (tget s.clk.resEntries 1 0 + 1)) ∧
     (ready → ∀ p, s.choose.1 = p → p = .moored ∨ p = .laidUp → ∃ t, exec .powerStateChoice s = .next t ∧ t.lk.st = .underway ∧
       t.lk.entering = some p ∧ t.lk.horizon = s.choose.2)) ∧
    (∀ p r, s.lk.entering = some p → s.lk.heldWake = some r → ∃ t, exec .sleepEntryComplete s = .next t ∧ t.lk.entering = none ∧
      t.lk.st = s.lk.st) ∧
    (∀ p, s.lk.entering = some p → s.lk.heldWake = none → s.entryOpen = false → s.handshakeOpen = false → p ≠ .laidUp ∨ s.basinCells = 0 →
      ∃ t, exec .sleepEntryComplete s = .next t ∧ t.lk.st = p ∧ t.lk.entering = none ∧ t.clk.stop = true ∧ t.clk.tclk = s.clk.tclk ∧
        (p = .laidUp → s.io.ksErr = true → t.lk.ctx = none) ∧
        (p = .laidUp → s.io.ksErr = false → ∃ c, t.lk.ctx = some c ∧ c.good = true ∧ c.saved.slots = s.chart.slots ∧ c.saved.kek = s.chart.kek ∧
          c.saved.st = s.chart.st ∧ c.saved.keygen = s.chart.keygen ∧ c.saved.exp = s.exp ∧ c.saved.ledger = s.ledger.cfg ∧
          c.saved.safety = s.assay.safety ∧ c.saved.measure = s.assay.measure ∧ c.saved.policy = s.lk.policy ∧
          c.saved.probes = s.probes.map (fun e => (e.1, e.2.cfg))) ∧
        t.chart = s.chart ∧ t.fc.slots = s.fc.slots) ∧
    (∀ a, s.lk.wakeAt = some a → s.lk.st ≠ .underway → s.lk.exiting = false → a ≤ s.now →
      exec .wakeTimer s = .next { s with lk := { s.lk with exiting := true, heldWake := some 4, wakeTs := s.ts } }) ∧
    (∀ kind,
      (∀ p, s.lk.entering = some p → s.lk.heldWake = none →
        exec (.wakeEvent kind) s = .next { s with lk := { s.lk with heldWake := some (wakeReason kind), wakeTs := s.ts } }) ∧
      (s.lk.entering = none → wakesFrom kind s.lk.st = true → s.lk.exiting = false →
        exec (.wakeEvent kind) s = .next { s with lk := { s.lk with exiting := true, heldWake := some (wakeReason kind), wakeTs := s.ts } }) ∧
      (s.lk.entering = none → s.lk.st = .underway → exec (.wakeEvent kind) s = .next s)) ∧
    (s.lk.exiting = true → s.lk.st ≠ .underway → s.handshakeOpen = false →
      let good := s.io.ksErr = false ∧ ∃ c, s.lk.ctx = some c ∧ c.good = true
      (s.lk.st ≠ .laidUp ∨ good → s.esl.waiting = [] → s.esl.deferred = [] → ∃ t, exec .sleepExitComplete s = .next t ∧
        t.lk.st = .underway ∧ t.lk.exiting = false ∧ t.clk.tclk = true ∧ t.clk.stop = false ∧ t.dev = s.dev ∧
        (s.lk.st = .laidUp → t.io.ksLabel = 4 ∧ t.io.lbRstN = true ∧ t.lk.ctx = none ∧ ∀ c, s.lk.ctx = some c →
          t.chart.slots = c.saved.slots ∧ t.chart.st = c.saved.st ∧ t.exp = c.saved.exp ∧ t.lk.policy = c.saved.policy)) ∧
      (s.lk.st = .laidUp → ¬ good → ∃ t, exec .sleepExitComplete s = .next t ∧ t.lk.st = .underway ∧ t.dev.mode = .boot ∧
        t.dev.phase = .started ∧ t.dev.lastReset = 2 ∧ ∀ c < 16, t.chState c = .inactive))

/-- FRAME_SYNC, the frame schedule, the frame plan and missed frames follow R372 to R374 (R86, R157, R372, R373, R374,
R402). A heard FRAME_SCHEDULE of period 0 clears the schedule; of 2 ms or more it sets it, ends the prediction and the
missed-frame condition. FRAME_PLAN of at most 8 steps with offsets from -5,000 to 1,000,000 us is the next plan.
FRAME_SYNC out of PORST_N asks for a snapshot 1 us later at the probes set for it; a first edge, or one at least 2 ms
after the last used one, is used, and an earlier one is ignored. FRAME_SCHEDULE_TICK at a new start begins the frame
with the next plan. FRAME_PLAN_STEP runs the first due step, and waits while the Keeper is stopped. FRAME_MISSED
counts and predicts again, and the eighth in a row raises FRAME_LOST. -/
def Obligations.FrameTiming : Prop :=
  ∀ s : State,
    (∀ pk : Pkt, Heard specFrameSchedule pk s → (pk.p 1).toNat = 0 ∨ 2000 ≤ (pk.p 1).toNat → ∃ f : State → State,
      Answers (exec (.frameSchedule pk) s) specFrameSchedule pk s [] f ∧
      let u := f (s.rung specFrameSchedule pk)
      u.frame.schedule = (if (pk.p 1).toNat = 0 then none else some ((pk.p 1).toNat, pk.cvt 2)) ∧ u.frame.plan = s.frame.plan ∧
      (2000 ≤ (pk.p 1).toNat → u.frame.predicted = none ∧ u.persisting 0x907 0 = false)) ∧
    (∀ pk : Pkt, Heard specFramePlan pk s → fld (pk.p 1) 0 4 ≤ 8 →
      (∀ i < fld (pk.p 1) 0 4, -5000 ≤ sgn 32 (pk.p (2 + 4 * i)).toNat ∧ sgn 32 (pk.p (2 + 4 * i)).toNat ≤ 1000000) → ∃ plan : List PlanStep,
      plan.length = fld (pk.p 1) 0 4 ∧
      (∀ i < plan.length, ∃ mask, plan[i]? = some ⟨sgn 32 (pk.p (2 + 4 * i)).toNat, fld (pk.p (3 + 4 * i)) 0 2, BitVec.ofNat 4 (fld (pk.p (3 + 4 * i)) 2 4), mask⟩ ∧
        mask.setWidth 32 = pk.p (4 + 4 * i)) ∧
      Answers (exec (.framePlan pk) s) specFramePlan pk s [] (fun t => { t with frame := { t.frame with nextPlan := some plan } })) ∧
    (s.dev.phase ≠ .held →
      ∃ t, exec .frameSync s = .next t ∧ t.frame.lastEdge = some s.now ∧
        (∀ p, (t.probe p).frameSnapAt = if (s.probe p).cfg.frame then some (s.ts + 4000) else (s.probe p).frameSnapAt) ∧
        (s.frame.lastUsed = none ∨ (∃ a, s.frame.lastUsed = some a ∧ a + 2000000 ≤ s.now) →
          t.frame.lastUsed = some s.now ∧ t.frame.usable = s.frame.usable + 1 ∧ t.frame.missed = 0 ∧
          (s.frame.schedule = none → t.frame.plan = s.frame.nextPlan.getD s.frame.plan ∧ t.frame.nextPlan = none)) ∧
        (∀ a, s.frame.lastUsed = some a → s.now < a + 2000000 → t.frame.lastUsed = some a ∧ t.frame.usable = 0 ∧ t.frame.plan = s.frame.plan)) ∧
    (∀ sch, s.frame.schedule = some sch → s.frame.lastStart < schedIndex sch s.cvtNs → s.asleep = false →
      ∃ t, exec .frameScheduleTick s = .next t ∧ t.frame.lastStart = schedIndex sch s.cvtNs ∧
        t.frame.plan = s.frame.nextPlan.getD s.frame.plan ∧ t.frame.nextPlan = none) ∧
    (s.dev.restarting = true → exec .framePlanStep s = .next s) ∧
    (∀ a x, s.frame.first = some (a, x) → a ≤ s.now → s.asleep = false → s.dev.restarting = false → ∃ t, exec .framePlanStep s = .next t ∧
      t.frame.due = s.frame.due.erase (a, x) ∧
      (x.action = 2 → t = { s with frame := { s.frame with due := s.frame.due.erase (a, x), gated := s.frame.gated &&& ~~~x.taps } }) ∧
      (3 ≤ x.action → t.frame.gated = s.frame.gated ||| x.taps) ∧
      (x.action < 2 → t = ({ s with frame := { s.frame with due := s.frame.due.erase (a, x) } }).requestDomains x.mask (decide (x.action = 0)) 4)) ∧
    (∀ p, s.frame.predicted = some p → s.frame.schedule = none → p + 2000000 ≤ s.now → ∃ t, exec .frameMissed s = .next t ∧
      t.frame.missed = s.frame.missed + 1 ∧
      (s.frame.missed < 7 → t.frame.predicted = some (p + s.frame.mean) ∧ t.fc = s.fc) ∧
      (7 ≤ s.frame.missed → t.frame.predicted = none ∧ t.persisting 0x907 0 = true ∧
        t.fc.pend = s.fc.pend ++ [⟨0x907, 0, 0, none, s.ts, s.now, false, false⟩]))

/-- OP_SUBMIT, OP_CANCEL, ITIN_LOAD, MODEL_LOAD, SLOT_UNLOAD, CH_ALLOT and CH_STATUS do what R399 and R400 say (R279,
R286, R287, R288, R289, R317, R399, R400). A heard OP_SUBMIT of a descriptor without the errors of R287 is accepted
with the next sequence number: a ONCE op enters the op queue with its ready time now, another is registered, a
PERIODIC one ready at the next multiple of its period. OP_CANCEL removes a queued instance, which ends BUSY, and ends
a registration. ITIN_LOAD and MODEL_LOAD of an image in memory or, for the harbourmaster, in the Logbook are accepted
and wait, their image read. SLOT_UNLOAD frees a loaded slot, or marks it while the running op uses it. CH_ALLOT writes
an owner's allotment and settles the units. CH_STATUS answers the cores, the queue, the slots and the unused units and
changes nothing. -/
def Obligations.HousePackets : Prop :=
  ∀ (pk : Pkt) (s : State),
    (Heard specOpSubmit pk s →
      let d := pk.ps
      let q := tget s.ch.seq pk.o 0
      let enc := flag (d.getD 0 0) 18
      let out := if q = BitVec.allOnes 32 then tset s.ch.seqOut pk.o true false else s.ch.seqOut
      let rings := (s.ch.standing.foldl (fun a x => a + ringsOf x.desc) (ringsOf d)) * 1024
      dfld d 0 8 5 = pk.o → opCode d ≤ 23 ∨ opCode d = 255 → (15 ≤ opCode d → opCode d ≤ 19 → pk.o = hm) → opRepeat d ≠ 3 →
      dfld d 0 21 4 ≠ 15 → (enc = true → (pk.o = hm ∨ (s.memKey pk.o).isSome = true) ∧ resultAddr d % 4096 = 0 ∧ s.seqSpent pk.o = false) →
      s.slotsOk pk.o d = true → (opRepeat d = 2 → 10 ≤ (d.getD 2 0).toNat ∧ (d.getD 2 0).toNat ≤ 1000000000) →
      (∀ j < 2, inSpace d j ≠ 7 ∧ (inSpace d j = 3 → s.ledger.st ≠ .armed ∧ s.ledger.st ≠ .post) ∧
        (1 ≤ inSpace d j → inSpace d j ≤ 3 → 4 ≤ inRing d j ∧ inRing d j ≤ 256)) →
      (opCode d = 8 → dfld d 16 0 4 ≠ 0) → (opCode d = 23 → dfld d 16 0 4 ≠ 15) → (opCode d = 21 → dfld d 18 0 4 ≠ 15) →
      (s.isDup pk.o d = true → enc = true → blockLimit d * 4032 ≤ 65536 * popcount s.ch.online) → rings ≤ 393216 →
      (opRepeat d = 0 → s.ch.queue.length < 32 → s.ownInstances pk.o < (s.allot pk.o).limit →
        Accepts (exec (.opSubmit pk) s) specOpSubmit pk s [q.toNat] (fun slot t => { t with ch := { t.ch with
          seq := tset t.ch.seq pk.o (q + 1) 0, seqOut := out
          queue := t.ch.queue ++ [⟨pk.o, q, d, s.ts, s.now, slot, pk.seq, Input.zero, Input.zero, 0⟩] } })) ∧
      (opRepeat d ≠ 0 → s.ch.standing.length < 4 →
        Accepts (exec (.opSubmit pk) s) specOpSubmit pk s [q.toNat] (fun slot t => { t with ch := { t.ch with
          seq := tset t.ch.seq pk.o (q + 1) 0, seqOut := out
          standing := t.ch.standing ++ [⟨pk.o, q, d, true, slot, pk.seq,
            if opRepeat d = 2 then (s.ts / ((d.getD 2 0).toNat * 4000) + 1) * ((d.getD 2 0).toNat * 4000) else 0, none,
            Input.begin_ s.ts, Input.begin_ s.ts⟩] } }))) ∧
    (Heard specOpCancel pk s → ∀ x : OpInst, s.ch.queue.find? (fun y => decide (y.owner = pk.o) && decide (y.seq = pk.p 1)) = some x →
      s.ch.standing.find? (fun y => decide (y.owner = pk.o) && decide (y.seq = pk.p 1)) = none →
      Answers (exec (.opCancel pk) s) specOpCancel pk s [] (fun t => ({ t with ch := { t.ch with
        queue := t.ch.queue.filter (fun y => !(decide (y.owner = pk.o) && decide (y.seq = pk.p 1))) } }).postResult x 0x30 0 0 0)) ∧
    (Heard specOpCancel pk s → ∀ x : Standing, s.ch.queue.find? (fun y => decide (y.owner = pk.o) && decide (y.seq = pk.p 1)) = none →
      s.ch.standing.find? (fun y => decide (y.owner = pk.o) && decide (y.seq = pk.p 1)) = some x →
      Answers (exec (.opCancel pk) s) specOpCancel pk s [] (fun t =>
        let u := { t with ch := { t.ch with standing := t.ch.standing.erase x } }
        if x.first = true then u.postResult ⟨x.owner, x.seq, x.desc, s.ts, s.now, x.slot, x.pseq, Input.zero, Input.zero, 0⟩ 0x30 0 0 0
        else u)) ∧
    (Heard specItinLoad pk s → flag (pk.p 1) 0 = false → (s.modelKey pk.o).isSome = true → 80 ≤ (pk.p 4).toNat → (pk.p 4).toNat % 16 = 0 →
      Accepts (exec (.itinLoad pk) s) specItinLoad pk s [] (fun slot t => { t with
        ch := { t.ch with
          loads := t.ch.loads ++ [⟨s.ch.nextLoad, true, pk.o, pk.seq, slot, false, pk.addr 2, (pk.p 4).toNat, false, 0, 0⟩]
          nextLoad := s.ch.nextLoad + 1 }
        mgr := { t.mgr with wait := t.mgr.wait ++ readReqs pk.o (pk.addr 2) (pk.p 4).toNat (.image s.ch.nextLoad) } })) ∧
    (Heard specItinLoad pk s → flag (pk.p 1) 0 = true → pk.o = hm → ∀ item, item = tget s.lb.images (fld (pk.p 2) 0 8) [] →
      item ≠ [] → itemKind item = 3 → itemLen item = (pk.p 4).toNat → 80 ≤ (pk.p 4).toNat → (pk.p 4).toNat % 16 = 0 →
      Accepts (exec (.itinLoad pk) s) specItinLoad pk s [] (fun slot t => { t with ch := { t.ch with
        loads := t.ch.loads ++ [⟨s.ch.nextLoad, true, pk.o, pk.seq, slot, true, fld (pk.p 2) 0 8, (pk.p 4).toNat, false, 0, 0⟩]
        nextLoad := s.ch.nextLoad + 1 } })) ∧
    (Heard specModelLoad pk s → flag (pk.p 1) 0 = false → (s.modelKey pk.o).isSome = true → 80 ≤ (pk.p 4).toNat → (pk.p 4).toNat % 16 = 0 →
      (pk.streamed = true → (s.allot pk.o).stage = true ∧ (pk.o = hm ∨ (s.memKey pk.o).isSome = true)) →
      Accepts (exec (.modelLoad pk) s) specModelLoad pk s [] (fun slot t => { t with
        ch := { t.ch with
          loads := t.ch.loads ++ [⟨s.ch.nextLoad, false, pk.o, pk.seq, slot, false, pk.addr 2, (pk.p 4).toNat, pk.streamed, pk.addr 5, (pk.p 7).toNat⟩]
          nextLoad := s.ch.nextLoad + 1 }
        mgr := { t.mgr with wait := t.mgr.wait ++ readReqs pk.o (pk.addr 2) (pk.p 4).toNat (.image s.ch.nextLoad) } })) ∧
    (Heard specModelLoad pk s → flag (pk.p 1) 0 = true → pk.o = hm → (pk.streamed = true → (s.allot hm).stage = true) →
      ∀ item, item = tget s.lb.images (fld (pk.p 2) 0 8) [] →
      item ≠ [] → itemKind item = 4 → itemLen item = (pk.p 4).toNat → 80 ≤ (pk.p 4).toNat → (pk.p 4).toNat % 16 = 0 →
      Accepts (exec (.modelLoad pk) s) specModelLoad pk s [] (fun slot t => { t with ch := { t.ch with
        loads := t.ch.loads ++ [⟨s.ch.nextLoad, false, pk.o, pk.seq, slot, true, fld (pk.p 2) 0 8, (pk.p 4).toNat, pk.streamed, pk.addr 5, (pk.p 7).toNat⟩]
        nextLoad := s.ch.nextLoad + 1 } })) ∧
    (Heard specSlotUnload pk s → (s.loaded? pk.o (fld (pk.p 1) 0 5)).isSome = true →
      (s.slotRuns pk.o (fld (pk.p 1) 0 5) = false → ∃ f : State → State, Answers (exec (.slotUnload pk) s) specSlotUnload pk s [] f ∧
        let t := f (s.rung specSlotUnload pk)
        t.loaded? pk.o (fld (pk.p 1) 0 5) = none ∧ t.ch.slots = s.ch.slots.filter (fun e => e.1 ≠ pk.o * 32 + fld (pk.p 1) 0 5) ∧
        t.ch.queue = s.ch.queue ∧ t.ch.run = s.ch.run ∧ t.probes = s.probes ∧ t.basins = s.basins) ∧
      (s.slotRuns pk.o (fld (pk.p 1) 0 5) = true →
        Answers (exec (.slotUnload pk) s) specSlotUnload pk s [] (fun t => { t with ch := { t.ch with slots := s.ch.slots.map (fun e =>
          (e.1, if e.1 = pk.o * 32 + fld (pk.p 1) 0 5 then { e.2 with going := true } else e.2)) } }))) ∧
    (Heard specChAllot pk s → ∀ o st md, o = fld (pk.p 1) 0 5 → st = fld (pk.p 1) 5 6 → md = fld (pk.p 1) 11 6 → s.named o →
      (((List.range 17).filter (fun x => decide (x ≠ o))).map (fun x => (s.allot x).st)).sum + st ≤ 32 →
      (((List.range 17).filter (fun x => decide (x ≠ o))).map (fun x => (s.allot x).model)).sum + md ≤ 32 →
      Answers (exec (.chAllot pk) s) specChAllot pk s [] (fun t => ({ t with ch := { t.ch with
        allot := tset t.ch.allot o ⟨st, md, fld (pk.p 1) 17 5 + 1, flag (pk.p 1) 22, flag (pk.p 1) 23⟩ Allot.zero } }).settleUnits)) ∧
    (Heard specChStatus pk s →
      Answers (exec (.chStatus pk) s) specChStatus pk s
        [popcount s.ch.online + min 31 s.ch.removed * 2 ^ 5 + s.ch.queue.length * 2 ^ 10 + min 31 (s.ownInstances pk.o) * 2 ^ 16,
         ((s.ownSlots pk.o).map (fun e => 2 ^ e.1)).sum,
         (s.stUnits pk.o).countP (fun u => !s.stUsed pk.o u) + (s.mdUnits pk.o).countP (fun u => !s.mdUsed pk.o u) * 2 ^ 6] (fun t => t))

/-- Loads end with a slot or an error, and failed cores are retried or removed, as R317 and R310 say (R306, R307, R310,
R311, R312, R317, R318, R319, R321). While the array idles, ITIN_LOAD_DONE and MODEL_LOAD_DONE take the first load of
their kind whose bytes are there and post its completion: INTERNAL without bytes, INTEGRITY when the image does not
open, BAD_PARAM when it does not fit or an itinerary's step fails, the error of R319 and R399 when there is no slot,
no unit, no key, no room for the weights or no load number, and otherwise OK with the lowest free slot and units. A
first residue mismatch of a core of the running op raises the fault and executes the op again with the next attempt
number; a second within 1 s, no step for 65,536 cycles, or a failed self-test removes the core: its memory is lost,
the removal is raised and remembered. A passed self-test leaves everything but its time. -/
def Obligations.LoadsAndCores : Prop :=
  (∀ (s : State) (itin : Bool) (l : Load) (v : State), s.ch.run = none → s.lk.st = .underway →
    s.ch.loads.find? (fun x => x.itin == itin && (s.loadBytes x).isSome) = some l →
    let ended (u : State) (st : Status) (ws : List Nat) : State := ({ u with
      ch := { u.ch with loads := u.ch.loads.erase l }
      mgr := { u.mgr with ready := u.mgr.ready.filter (fun q => q.why ≠ Purpose.image l.id) } } : State).complete
        (if itin = true then 0x52 else 0x53) l.owner l.seq l.slot st ws
    let ends (u : State) (st : Status) (ws : List Nat) : Prop :=
      (itin = true → exec .itinLoadDone s = .next (ended u st ws)) ∧ (itin = false → exec .modelLoadDone s = .next (ended u st ws))
    (s.loadBytes l = some (none, v) → ends v .internal [0, 0]) ∧
    ∀ b, s.loadBytes l = some (some b, v) →
      let h := imgHeader b
      (v.openImage l.owner b = none → ends v .integrity [0, 0]) ∧
      ∀ plain, v.openImage l.owner b = some plain →
        (h.fits itin b.length = false → ends v .badParam [0, 0]) ∧
        (∀ i, itin = true → h.fits itin b.length = true → badItin h plain = some i → ends v .badParam [0, i]) ∧
        (h.fits itin b.length = true → (itin = true → badItin h plain = none) →
          let resident := if l.streamed = true then h.plain - h.wBytes else h.plain
          let blocks := (h.wBytes + 4079) / 4080
          let keyed := l.owner = hm ∨ (v.memKey l.owner).isSome = true
          ((∀ i < 32, (v.loaded? l.owner i).isSome = true) → ends v .exhausted [0, 0]) ∧
          ∀ i < 32, (v.loaded? l.owner i).isNone = true → (∀ k < i, (v.loaded? l.owner k).isSome = true) →
          ∀ free, free = (v.mdUnits l.owner).filter (fun u => !v.mdUsed l.owner u) →
          (free.length * 65536 < resident → ends v .tooLarge [0, resident - free.length * 65536]) ∧
          (resident ≤ free.length * 65536 → l.streamed = true →
            (¬ keyed → ends v .badParam [0, 0]) ∧ (keyed → l.blocks < blocks → ends v .badParam [7, 0]) ∧
            (keyed → blocks ≤ l.blocks → 2 ^ 24 ≤ tget v.ch.loadNo l.owner 0 → ends v .exhausted [0, 0])) ∧
          (resident ≤ free.length * 65536 →
            (l.streamed = true → keyed ∧ blocks ≤ l.blocks ∧ tget v.ch.loadNo l.owner 0 < 2 ^ 24) →
            ends (v.putLoad l h plain i (free.take ((resident + 65535) / 65536))) .ok
              ((i + (resident + 65535) / 65536 * 32) :: (if itin = true then [] else
                [if l.streamed = true then rateFactor v.mgr h.wBytes else 256]))))) ∧
  (∀ (s : State) (c : Fin 16) (r : Running), s.ch.run = some r → c.val ∈ r.cores → r.failed = none →
    (tget s.ch.residue c.val 0 = 0 ∨ tget s.ch.residue c.val 0 + 1000000000 ≤ s.now → r.attempt < 3 →
      ∃ t r', exec (.coreResidueMismatch c) s = .next t ∧ t.ch.run = some r' ∧ r'.attempt = r.attempt + 1 ∧ r'.op = r.op ∧
        r'.startAt = s.now ∧ r'.cores = (List.range 16).filter (fun k => r.cores.contains k) ∧ t.ch.online = s.ch.online ∧
        t.ch.queue = s.ch.queue ∧ ⟨0x700, c.val, BitVec.ofNat 32 r.op.seq.toNat, none, s.ts, s.now, false, false⟩ ∈ t.fc.pend) ∧
    (tget s.ch.residue c.val 0 ≠ 0 → s.now < tget s.ch.residue c.val 0 + 1000000000 → s.ch.online.getLsbD c.val = true →
      ∃ t, exec (.coreResidueMismatch c) s = .next t ∧ t.ch.online = setBit s.ch.online c.val false ∧ t.ch.removed = s.ch.removed + 1 ∧
        t.core c.val = Core.zero ∧ (⟨2, c.val, 0, 0, false⟩ : MapEntry) ∈ t.ecc.map ∧
        t.ch.queue.map OpInst.seq = s.ch.queue.map OpInst.seq) ∧
    ((s.core c.val).halted = false → 65536 * 5 ≤ (s.now - (s.core c.val).stepAt) * 6 → s.ch.online.getLsbD c.val = true →
      ∃ t, exec (.coreWatchdog c) s = .next t ∧ t.ch.online = setBit s.ch.online c.val false ∧ t.ch.removed = s.ch.removed + 1 ∧
        t.core c.val = Core.zero ∧ (⟨2, c.val, 0, 0, false⟩ : MapEntry) ∈ t.ecc.map ∧
        t.ch.queue.map OpInst.seq = s.ch.queue.map OpInst.seq)) ∧
  (∀ (s : State) (c : Fin 16), s.ch.run = none → s.ch.online.getLsbD c.val = true →
    exec (.coreSelfTest c true) s = .next { s with ch := { s.ch with testAt := tset s.ch.testAt c.val s.now 0 } } ∧
    ∃ t, exec (.coreSelfTest c false) s = .next t ∧ t.ch.online = setBit s.ch.online c.val false ∧ t.ch.removed = s.ch.removed + 1 ∧
      t.core c.val = Core.zero ∧ (⟨2, c.val, 0, 0, false⟩ : MapEntry) ∈ t.ecc.map ∧
      ⟨if s.ch.removed < 4 then 0x702 else 0x703, c.val, BitVec.ofNat 32 (2 + min 31 (s.ch.removed + 1) * 256), none, s.ts, s.now, false, false⟩ ∈ t.fc.pend)

/-- PERIOD_OP_READY, OP_START, OP_DEADLINE_EXPIRY, OP_BUDGET_EXCEEDED and OP_COMPLETE run an op from ready to result
(R278, R280, R288, R289, R290, R291, R292, R293, R294, R297, R307). At its ready time a PERIODIC op's instance enters
the queue with its sequence number and the captured inputs, the next ready time set; while the previous instance is
pending or there is no room it is skipped and ends BUSY, and one whose result blocks would repeat a sequence number
ends RESOURCE_EXHAUSTED. OP_START takes the instance first in order of priority, ready time, owner and sequence number
and starts it on every online core with its work area and registers cleared and its state kept. An instance past its
deadline ends BUSY, an op past its budget RESOURCE_EXHAUSTED. OP_COMPLETE ends a stopped op with its status, a halted
itinerary with its result words, and a library op without memory inputs with what it computes; the array is then idle. -/
def Obligations.OpEvents : Prop :=
  (∀ (s : State) (idx : Fin 4) (x : Standing), s.ch.standing[idx.val]? = some x → opRepeat x.desc = 2 → x.nextTs ≤ s.ts →
    let q := if x.first = true then x.seq else tget s.ch.seq x.owner 0
    let u := if x.first = true then s else (s.takeSeq x.owner).2
    let spent := flag (x.desc.getD 0 0) 18 = true ∧ x.first = false ∧ s.seqSpent x.owner = true
    let y : OpInst := ⟨x.owner, q, x.desc, x.nextTs, s.now, if x.first = true then x.slot else 0, x.pseq, x.i0, x.i1, 0⟩
    let pending := (∃ p ∈ s.ch.queue, p.owner = x.owner ∧ some p.seq = x.cur) ∨ (∃ r, s.ch.run = some r ∧ r.op.owner = x.owner ∧ some r.op.seq = x.cur)
    (¬ pending → s.ch.queue.length < 32 → s.ownInstances x.owner < (s.allot x.owner).limit →
      let t := { u with ch := { u.ch with standing := lset s.ch.standing idx.val (fun _ => { x with
        first := false, nextTs := nextReady x.desc (max x.nextTs s.ts), cur := some q, i0 := Input.begin_ s.ts, i1 := Input.begin_ s.ts }) } }
      (¬ spent → exec (.periodOpReady idx) s = .next { t with ch := { t.ch with queue := s.ch.queue ++ [y] } }) ∧
      (spent → exec (.periodOpReady idx) s = .next (t.postResult y 0x31 0 0 0))) ∧
    (pending ∨ 32 ≤ s.ch.queue.length ∨ (s.allot x.owner).limit ≤ s.ownInstances x.owner →
      exec (.periodOpReady idx) s = .next (({ u with ch := { u.ch with standing := lset s.ch.standing idx.val (fun _ => { x with
        first := false, nextTs := nextReady x.desc (max x.nextTs s.ts) }) } } : State).postResult
          { y with i0 := Input.zero, i1 := Input.zero } 0x30 0 0 0))) ∧
  (∀ (s : State) (x : OpInst), s.nextOp = some x → x ∈ s.ch.queue ∧ s.expired x = false ∧
    ∀ y ∈ s.ch.queue, s.expired y = false → lexLt y.key x.key = false) ∧
  (∀ (s : State) (x : OpInst), s.nextOp = some x → s.ch.run = none → s.dev.restarting = false → s.dev.down = false →
    s.lk.st = .underway → s.lk.entering = none → s.coresHeld = false →
    let m := ({ s with ch := { s.ch with queue := s.ch.queue.erase x } } : State).loadWearModel x
    let cores := (List.range 16).filter (fun c => m.2.ch.online.getLsbD c)
    cores ≠ [] → m.2.slotsOk m.1.owner m.1.desc = true →
    (opRepeat m.1.desc = 0 → m.2.ringBytes + ringsOf m.1.desc * 1024 ≤ 393216) →
    ∃ t r, exec .opStart s = .next t ∧ t.ch.run = some r ∧ r.op.owner = x.owner ∧ r.op.seq = x.seq ∧ r.op.desc = m.1.desc ∧
      r.cores = cores ∧ r.attempt = 0 ∧ r.startAt = s.now ∧ r.capFrom = s.now ∧ r.w2 = 0 ∧ r.w3 = 0 ∧ r.outs = [] ∧ r.failed = none ∧
      t.ch.queue = m.2.ch.queue ∧ t.ch.standing = m.2.ch.standing ∧ t.ch.seq = m.2.ch.seq ∧ t.ch.domOn = m.2.ch.online ∧
      (x.survey ≠ 4 → x.survey ≠ 5 → m = (x, { s with ch := { s.ch with queue := s.ch.queue.erase x } })) ∧
      ∀ c ∈ cores, (t.core c).pc = 0 ∧ (t.core c).v = [] ∧ (t.core c).sr = [] ∧ (t.core c).acc = [] ∧ (t.core c).m = [] ∧
        (t.core c).work = [] ∧ (t.core c).halted = false ∧ (t.core c).store = (m.2.core c).store) ∧
  (∀ (s : State) (o : Fin 17) (seq : W32) (x : OpInst), s.ch.queue.find? (fun x => decide (x.owner = o.val) && decide (x.seq = seq)) = some x →
    dfld x.desc 3 0 24 ≠ 0 → x.readyAt + dfld x.desc 3 0 24 * 1000 < s.now →
    exec (.opDeadlineExpiry o seq) s = .next (({ s with ch := { s.ch with
      queue := s.ch.queue.filter (fun y => !(decide (y.owner = o.val) && decide (y.seq = seq))) } } : State).postResult x 0x30 0 0 0)) ∧
  (∀ (s : State) (r : Running), s.ch.run = some r →
    ((if dfld r.op.desc 4 0 24 = 0 then 2 ^ 24 else dfld r.op.desc 4 0 24) * 1024 * 5 < (s.now - r.capFrom) * 6 →
      ∃ t, exec .opBudgetExceeded s = .next t ∧ t = s.finishOp { r with poison := false } 0x31 0 0 false ∧ t.ch.run = none ∧ t.ch.idleAt = s.now) ∧
    (∀ st idx, r.failed = some (st, idx) → ∃ t, exec .opComplete s = .next t ∧ t.ch.run = none ∧ t.ch.idleAt = s.now ∧
      (st = 0x12 → t = s.finishOp { r with poison := false } 0x12 (idx % 2 ^ 16) 0 false) ∧
      (st = 0x31 → t = s.finishOp r 0x31 r.w2.toNat 0 true) ∧
      (st ≠ 0x12 → st ≠ 0x31 → t = s.finishOp { r with poison := false } st.toNat 0 0 false)) ∧
    (r.failed = none → opCode r.op.desc = 0xFF → (∀ c ∈ r.cores, (s.core c).halted = true) → r.dup = false →
      descDram r.op.desc = false → ∃ t, exec .opComplete s = .next t ∧ t = s.finishOp r 0 r.w2.toNat r.w3.toNat true ∧
      t.ch.run = none ∧ t.ch.idleAt = s.now) ∧
    (r.failed = none → opCode r.op.desc = 1 → s.stillCaptures r = false → flag (r.op.desc.getD 1 0) 5 = false → r.dup = false →
      (∀ j < 2, inSpace r.op.desc j < 5) → (∀ q ∈ r.recs, q.bad = false) → descDram r.op.desc = false →
      ∃ t r' w3, exec .opComplete s = .next t ∧ t = (s.setRun r').finishOp r' 0 (r.recs.countP (fun q => decide (q.ty = 0x12))) w3 true ∧
        r'.op = r.op ∧ r'.poison = false ∧ t.ch.run = none ∧ t.ch.idleAt = s.now))

/-- The primitives on lanes write vector d lane by lane as R305 says, under the mask, and the core goes on to its next
step (R183, R298, R299, R300, R301, R303, R304, R305). When core c of a running itinerary stands at a step of the
primitive whose format it allows, its command retires the step: vector d gets in every lane the mask lets through the
value of R305 (ADD, SUB, MUL, FMA, DIV and SQRT one exact operation rounded by R299 and R300; MIN, MAX, ABS; EXP2 and
LOG2 a value within 1 ULP of the exact one, which of them left free, as is the logarithm of 0 and below (log 6); CVT,
QUANT, DEQ and MXAPPLY a conversion to fmt2 by R301; BCAST a scalar in every lane; SEL by a mask; BITOP, FIELD and
QTREF on bits), every other bit of it stays, it is poisoned with its sources, and no other register, core, op or
memory changes. Lanes for which the manual states no value (NaN in MIN and MAX, shifts by the width) are left out. A
format the primitive does not allow stops the op with BAD_PARAM and the step. -/
def Obligations.LaneSteps : Prop :=
  ∀ (s : State) (c : Fin 16) (r : Running) (st : IStep), s.nextStep c.val = some (r, st) →
    let x := s.core c.val
    let e := envOf r.op.desc st (Config.freeValue (r.at_ c.val x))
    let n := laneCount e.fmt
    let w := laneWidth e.fmt
    let la := fun i => lane e.fmt (x.V st.a) i
    let lb := fun i => lane e.fmt (x.V st.b) i
    let pa := x.psnV st.a
    let pab := x.psnV st.a || x.psnV st.b
    (st.prim = 0x10 → e.fmt < 15 → WritesLanes (exec (.add c) s) s c.val e e.fmt (fun i => some (roundTo e.fmt (addV (e.va x i) (e.vb x i)))) pab) ∧
    (st.prim = 0x11 → e.fmt < 15 → WritesLanes (exec (.sub c) s) s c.val e e.fmt (fun i => some (roundTo e.fmt (addV (e.va x i) (negV (e.vb x i))))) pab) ∧
    (st.prim = 0x12 → e.fmt < 15 → WritesLanes (exec (.mul c) s) s c.val e e.fmt (fun i => some (roundTo e.fmt (mulV (e.va x i) (e.vb x i)))) pab) ∧
    (st.prim = 0x13 → e.fmt < 15 → WritesLanes (exec (.fma c) s) s c.val e e.fmt (fun i =>
      let v := addV (mulV (e.va x i) (e.vb x i)) (e.vc x i)
      if outside e.fmt v = true then none else some (roundTo e.fmt v)) (pab || x.psnV st.c)) ∧
    (st.prim = 0x14 → isFloat e.fmt = true → WritesLanes (exec (.div c) s) s c.val e e.fmt (fun i => some (roundTo e.fmt (divV (e.va x i) (e.vb x i)))) pab) ∧
    (st.prim = 0x15 → isFloat e.fmt = true → WritesLanes (exec (.sqrt c) s) s c.val e e.fmt (fun i => some (roundTo e.fmt (sqrtV (e.va x i)))) pa) ∧
    (st.prim = 0x16 → e.fmt < 15 → WritesLanes (exec (.min c) s) s c.val e e.fmt (fun i =>
      if ltV (e.va x i) (e.vb x i) = true then some (la i) else if ltV (e.vb x i) (e.va x i) = true then some (lb i)
      else if la i = lb i ∧ (e.va x i).isNan = false then some (la i) else none) pab) ∧
    (st.prim = 0x17 → e.fmt < 15 → WritesLanes (exec (.max c) s) s c.val e e.fmt (fun i =>
      if ltV (e.vb x i) (e.va x i) = true then some (la i) else if ltV (e.va x i) (e.vb x i) = true then some (lb i)
      else if la i = lb i ∧ (e.va x i).isNan = false then some (la i) else none) pab) ∧
    (st.prim = 0x18 → e.fmt < 15 → WritesLanes (exec (.abs c) s) s c.val e e.fmt (fun i =>
      if outside e.fmt (absV (e.va x i)) = true then none else some (roundTo e.fmt (absV (e.va x i)))) pa) ∧
    (st.prim = 0x19 → e.fmt < 3 ∨ e.fmt = 14 → WritesLanes (exec (.exp2 c) s) s c.val e e.fmt (fun i => some (exp2Lane e.fmt (Config.exp2 e.fmt (la i)) (e.va x i))) pa) ∧
    (st.prim = 0x1A → e.fmt < 3 ∨ e.fmt = 14 → WritesLanes (exec (.log2 c) s) s c.val e e.fmt (fun i => some (log2Lane e.fmt (Config.log2 e.fmt (la i)) (e.va x i))) pa) ∧
    (st.prim = 0x20 → e.fmt < 15 → WritesLanes (exec (.cvt c) s) s c.val e st.fmt2
      (fun i => if i < n then some (encode st.fmt2 e.rnd e.sat (e.va x i)) else none) pa) ∧
    (st.prim = 0x21 → isFloat e.fmt = true → WritesLanes (exec (.quant c) s) s c.val e st.fmt2 (fun i => if i < n then
      some (encode st.fmt2 e.rnd e.sat (addV (laneVal e.fmt (roundTo e.fmt (divV (e.va x i) (fmt64.decode (x.S st.b)))))
        (fmt64.decode (x.S st.c)))) else none) (pa || x.psnS st.b || x.psnS st.c)) ∧
    (st.prim = 0x22 → isNarrow e.fmt = true → WritesLanes (exec (.deq c) s) s c.val e st.fmt2 (fun i => if i < n then
      some (encode st.fmt2 .rne e.sat (mulV (addV (e.va x i) (negV (fmt64.decode (x.S st.c)))) (fmt64.decode (x.S st.b)))) else none)
      (pa || x.psnS st.b || x.psnS st.c)) ∧
    (st.prim = 0x23 → mxAllowed e.fmt = true → WritesLanes (exec (.mxapply c) s) s c.val e st.fmt2 (fun i => if i < n then
      some (encode st.fmt2 e.rnd e.sat (scaled (bits (x.V st.b) (8 * (i / 32)) 8) (e.va x i))) else none) pab) ∧
    (st.prim = 0x29 → e.fmt < 15 → WritesLanes (exec (.sel c) s) s c.val e e.fmt (fun i =>
      some (if i < 256 ∧ (x.M st.a).getLsbD i = true then lb i else lane e.fmt (x.V st.c) i)) (x.psnM st.a || x.psnV st.b || x.psnV st.c)) ∧
    (st.prim = 0x08 → e.fmt < 15 → WritesLanes (exec (.bcast c) s) s c.val e e.fmt
      (fun _ => some (encode e.fmt e.rnd e.sat (scalarVal e.fmt (x.S st.a)))) (x.psnS st.a)) ∧
    (st.prim = 0x40 → isInt e.fmt = true → WritesLanes (exec (.bitop c) s) s c.val e e.fmt (fun i =>
      if st.imm = 0 then some (la i &&& lb i) else if st.imm = 1 then some (la i ||| lb i) else if st.imm = 2 then some (la i ^^^ lb i)
      else if st.imm = 3 ∧ lb i < w then some (la i * 2 ^ lb i) else if st.imm = 4 ∧ lb i < w then some (la i / 2 ^ lb i) else none) pab) ∧
    (st.prim = 0x41 → WritesLanes (exec (.field c) s) s c.val e 14 (fun i =>
      let v := bits (lane 14 (x.V st.a) i) (bits st.imm 0 6) (bits st.imm 6 6 + 1)
      some (if st.imm.testBit 12 = true then unsgn 64 (sgn (bits st.imm 6 6 + 1) v) else v)) pa) ∧
    (st.prim = 0x42 → WritesLanes (exec (.qtref c) s) s c.val e 14 (fun i => some (fullTime (x.S st.a) (bits (lane 14 (x.V st.a) i) 20 21))) (pa || x.psnS st.a)) ∧
    (∀ q ∈ [(0x10, Instr.add c), (0x11, .sub c), (0x12, .mul c), (0x13, .fma c), (0x16, .min c), (0x17, .max c), (0x18, .abs c), (0x20, .cvt c),
      (0x29, .sel c), (0x08, .bcast c)], st.prim = q.1 → 15 ≤ e.fmt → exec q.2 s = .next (s.opFails .badParam x.pc)) ∧
    (∀ q ∈ [(0x14, Instr.div c), (0x15, .sqrt c), (0x21, .quant c)], st.prim = q.1 → isFloat e.fmt = false →
      exec q.2 s = .next (s.opFails .badParam x.pc)) ∧
    (∀ q ∈ [(0x19, Instr.exp2 c), (0x1A, .log2 c)], st.prim = q.1 → 3 ≤ e.fmt → e.fmt ≠ 14 → exec q.2 s = .next (s.opFails .badParam x.pc))

/-- The primitives that answer scalars, masks and accumulators write their one register as R305 says (R299, R300, R303,
R304, R305). At a step of theirs the commands of GETS, SOP, XLANE, MCOUNT, RED, ARGMAX, CMP, DOT, MACC, ACCRD and
ACCCLR retire the step and write the register d names alone, poisoned with its sources: a special value, the 64-bit
operation on Sa and Sb or imm, the lane as a scalar, the number of mask bits, the reduction by R299, the lowest index
of the largest lane, the compare bits of the unmasked lanes, the accumulator lane plus the sum of the products, each
accumulator lane plus its product, the accumulator lanes converted to fmt2, zeros. Under the mask the lanes left out
of an accumulator keep their values. An integer accumulation that saturates is noted for the result; what R305 states
no value for is free. -/
def Obligations.ScalarSteps : Prop :=
  ∀ (s : State) (c : Fin 16) (r : Running) (st : IStep), s.nextStep c.val = some (r, st) →
    let x := s.core c.val
    let e := envOf r.op.desc st (Config.freeValue (r.at_ c.val x))
    let n := laneCount e.fmt
    let k := accKind e.fmt
    let sated (b : Bool) : State := if b = true then s.setRun { r with sat := true } else s
    (st.prim = 0x06 → ∀ v, (st.imm = 0 ∧ v = r.index c.val) ∨ (st.imm = 1 ∧ v = r.cores.length) ∨ (st.imm = 2 ∧ v = r.op.seq.toNat) ∨
        (st.imm = 3 ∧ v = r.attempt) ∨ (st.imm = 4 ∧ v = r.op.readyTs) ∨ (st.imm = 5 ∧ v = r.op.lost) ∨
        (st.imm = 6 ∧ v = r.op.i0.recs.length) ∨ (st.imm = 7 ∧ v = r.op.i1.recs.length) ∨ (7 < st.imm ∧ v = e.free) →
      exec (.gets c) s = .next (s.retire c.val (x.setS st.d v false))) ∧
    (st.prim = 0x07 → ∀ a b v : Nat, a = x.S st.a → b = (if st.b = 0 then st.imm else x.S st.b) → b < 2 ^ 64 →
      (st.c = 0 ∧ v = (a + b) % 2 ^ 64) ∨ (st.c = 1 ∧ v = (a + 2 ^ 64 - b) % 2 ^ 64) ∨ (st.c = 2 ∧ v = a * b % 2 ^ 64) ∨ (st.c = 3 ∧ v = a &&& b) ∨
        (st.c = 4 ∧ v = a ||| b) ∨ (st.c = 5 ∧ v = a ^^^ b) ∨ (st.c = 6 ∧ b < 64 ∧ v = a * 2 ^ b % 2 ^ 64) ∨ (st.c = 7 ∧ b < 64 ∧ v = a / 2 ^ b) ∨
        (st.c = 8 ∧ sgn 64 v = min (sgn 64 a) (sgn 64 b) ∧ v < 2 ^ 64) ∨ (st.c = 9 ∧ sgn 64 v = max (sgn 64 a) (sgn 64 b) ∧ v < 2 ^ 64) ∨ (st.c = 10 ∧ v = b) ∨
        ((st.c = 6 ∨ st.c = 7) ∧ 64 ≤ b ∧ v = e.free % 2 ^ 64) ∨ (10 < st.c ∧ v = e.free % 2 ^ 64) →
      exec (.sop c) s = .next (s.retire c.val (x.setS st.d v ((x.psnS st.a && decide (st.c ≠ 10)) || (decide (st.b ≠ 0) && x.psnS st.b))))) ∧
    (st.prim = 0x09 → e.fmt < 15 → ∃ v, exec (.xlane c) s = .next (s.retire c.val (x.setS st.d v (x.psnV st.a))) ∧
      (st.imm < n → v = laneScalar e.fmt (lane e.fmt (x.V st.a) st.imm))) ∧
    (st.prim = 0x2A → exec (.mcount c) s = .next (s.retire c.val (x.setS st.d (popcount (x.M st.a)) (x.psnM st.a)))) ∧
    (st.prim = 0x30 → e.fmt < 15 →
      (st.imm = 0 → exec (.red c) s = .next ((sated (accAdd k 0 (sumV (vals e.fmt (x.V st.a)))).2).retire c.val
        (x.setS st.d (k.scalar (accAdd k 0 (sumV (vals e.fmt (x.V st.a)))).1) (x.psnV st.a)))) ∧
      (st.imm ≤ 3 → st.imm ≠ 0 → (∀ v ∈ vals e.fmt (x.V st.a), v.isNan = false) →
        ∃ v b, exec (.red c) s = .next (s.retire c.val (x.setS st.d v (x.psnV st.a))) ∧ b ∈ (vals e.fmt (x.V st.a)).map (fun y => if st.imm = 3 then absV y else y) ∧
          v = (match b with
            | .fin q z => if isInt e.fmt = true then unsgn 64 (roundInt .rtz q) else encode 14 .rne false (.fin q z)
            | y => encode 14 .rne false y) ∧
          ∀ y ∈ (vals e.fmt (x.V st.a)).map (fun y => if st.imm = 3 then absV y else y), if st.imm = 1 then ltV y b = false else ltV b y = false) ∧
      (3 < st.imm ∨ (st.imm ≠ 0 ∧ ∃ v ∈ vals e.fmt (x.V st.a), v.isNan = true) → ∃ v, exec (.red c) s = .next (s.retire c.val (x.setS st.d v (x.psnV st.a))))) ∧
    (st.prim = 0x31 → e.fmt < 15 → (∀ i < n, (e.va x i).isNan = true) → exec (.argmax c) s = .next (s.retire c.val (x.setS st.d e.free (x.psnV st.a)))) ∧
    (st.prim = 0x31 → e.fmt < 15 → ∀ i < n, (e.va x i).isNan = false →
      (∀ j < n, ltV (e.va x i) (e.va x j) = false) → (∀ j < i, (e.va x j).isNan = true ∨ ltV (e.va x j) (e.va x i) = true) →
      exec (.argmax c) s = .next (s.retire c.val (x.setS st.d i (x.psnV st.a)))) ∧
    (st.prim = 0x28 → e.fmt < 15 → ∃ m : BitVec 256,
      exec (.cmp c) s = .next (s.retire c.val (x.setM st.d m (x.psnV st.a || x.psnV st.b || (st.msk && (x.psnM 0 || x.psnM st.d))))) ∧
      ∀ i < 256, m.getLsbD i = if n ≤ i ∨ e.masked x i = true then (x.M st.d).getLsbD i
        else if st.imm = 0 then ltV (e.va x i) (e.vb x i) else if st.imm = 1 then ltV (e.va x i) (e.vb x i) || eqV (e.va x i) (e.vb x i)
        else if st.imm = 2 then eqV (e.va x i) (e.vb x i) else if st.imm = 3 then !eqV (e.va x i) (e.vb x i) else e.free.testBit i) ∧
    (st.prim = 0x38 → e.fmt < 15 → (k.lanes ≤ x.S st.c ∨ e.masked x (x.S st.c) = true) → exec (.dot c) s = .next (s.retire c.val x)) ∧
    (st.prim = 0x38 → e.fmt < 15 → x.S st.c < k.lanes → e.masked x (x.S st.c) = false →
      let q := accAdd k (accGet x.acc st.d k (x.S st.c)) (sumV ((vals e.fmt (x.V st.a)).zipWith mulV (vals e.fmt (x.V st.b))))
      exec (.dot c) s = .next ((sated q.2).retire c.val
        (x.setAcc st.d (accSet x.acc st.d k (x.S st.c) q.1) (x.psnA st.d || x.psnV st.a || x.psnV st.b || x.psnS st.c || (st.msk && x.psnM 0))))) ∧
    (st.prim = 0x39 → e.fmt < 15 → ∃ (acc : Tab (BitVec 32)) (b : Bool),
      exec (.macc c) s = .next ((sated b).retire c.val (x.setAcc st.d acc (x.psnA st.d || x.psnV st.a || x.psnV st.b || (st.msk && x.psnM 0)))) ∧
      (∀ i < k.lanes, accGet acc st.d k i = if n ≤ i ∨ e.masked x i = true then accGet x.acc st.d k i
        else (accAdd k (accGet x.acc st.d k i) (mulV (e.va x i) (e.vb x i))).1 % 2 ^ (if k = .f64 then 64 else 32)) ∧
      (∀ j, j / 256 ≠ st.d → tget acc j 0 = tget x.acc j 0) ∧
      (b = true ↔ ∃ i < k.lanes, i < n ∧ e.masked x i = false ∧ (accAdd k (accGet x.acc st.d k i) (mulV (e.va x i) (e.vb x i))).2 = true)) ∧
    (st.prim = 0x3A → e.fmt < 15 → WritesLanes (exec (.accrd c) s) s c.val e st.fmt2
      (fun i => if st.imm + i < k.lanes then some (encode st.fmt2 e.rnd e.sat (laneVal k.code (accGet x.acc st.a k (st.imm + i)))) else none)
      (x.psnA st.a)) ∧
    (st.prim = 0x3B → ∃ acc : Tab (BitVec 32), exec (.accclr c) s = .next (s.retire c.val (x.setAcc st.d acc (st.msk && (x.psnA st.d || x.psnM 0)))) ∧
      ∀ j, tget acc j 0 = if j / 256 = st.d ∧ e.masked x (j % 256) = false then 0 else tget x.acc j 0)

/-- LD, ST, LDM, RECV, EMIT, HIST and LUT move data between a core's registers, its memory, its inputs and its results
(R280, R284, R292, R294, R303, R305, R307, R315, R320). LD and ST at an aligned place in the work area or the owner's
partition move 256 bytes, ST changing no other byte; a place outside or misaligned stops the op with BAD_PARAM and the
step, a poisoned word executes it again. LDM takes 256 bytes of the model slot. RECV delivers the next whole records
that fit 256 bytes, 256 bytes of a DRAM input or of the core's state, zero-filled, with the bytes in S15, and moves on
in its input. EMIT writes the result words with the poison of their last values, or appends 256 bytes, full blocks
leaving at once, beyond the allowed blocks stopping the op. HIST adds to saturating 32-bit counts and counts what it
drops; LUT looks elements of fmt2 up. -/
def Obligations.MemorySteps : Prop :=
  ∀ (s : State) (c : Fin 16) (r : Running) (st : IStep), s.nextStep c.val = some (r, st) →
    let x := s.core c.val
    let e := envOf r.op.desc st (Config.freeValue (r.at_ c.val x))
    let n := laneCount e.fmt
    let o := r.op.owner
    let a := (x.S st.a + st.imm % 2 ^ 32) % 2 ^ 64
    let inside (q : Nat) : Prop := a % 256 = 0 ∧ ((st.imm.testBit 63 = false ∧ a + 256 ≤ s.workBytes ∧ q = a) ∨
      (st.imm.testBit 63 = true ∧ a + 256 ≤ (s.stUnits o).length * 4096 ∧ q = 393216 + s.statePlace o a))
    let byteOf (v i : Nat) : Byte := BitVec.ofNat 8 (v / 256 ^ i)
    (∀ q, inside q → (st.prim = 0x01 →
      ((s.localRead c.val q 256).1 = true → exec (.ld c) s = .next (s.localRead c.val q 256).2.reExec) ∧
      ((s.localRead c.val q 256).1 = false → ∃ v : BitVec 2048,
        exec (.ld c) s = .next ((s.localRead c.val q 256).2.retire c.val (x.setV st.d v
          (x.marked q 256 || x.psnS st.a || (st.msk && (x.psnV st.d || x.psnM 0))))) ∧
        (st.msk = false → v = BitVec.ofNat 2048 (ofLe (x.load q 256))) ∧
        (st.msk = true → ∀ i < n, lane e.fmt v.toNat i = lane e.fmt (if e.masked x i = true then x.V st.d else ofLe (x.load q 256)) i))) ∧
      (st.prim = 0x02 → (st.msk = true → (s.localRead c.val q 256).1 = false) → ∃ (v : BitVec 2048) (y : Core),
        exec (.st c) s = .next (((List.range 16).foldl (fun t i => t.writeWord (12 + c.val) (q / 16 + i))
          (if st.msk = true then (s.localRead c.val q 256).2 else s)).retire c.val y) ∧
        y = { x with work := y.work, store := y.store, psn := y.psn } ∧
        (st.msk = false → v = tget x.v st.a 0) ∧
        (st.msk = true → ∀ i < n, lane e.fmt v.toNat i = lane e.fmt (if e.masked x i = true then ofLe (x.load q 256) else x.V st.a) i) ∧
        (∀ b, tget y.work b 0 = if q < 393216 ∧ q ≤ b ∧ b < q + 256 then byteOf v.toNat (b - q) else tget x.work b 0) ∧
        (∀ b, tget y.store b 0 = if 393216 ≤ q ∧ q ≤ b + 393216 ∧ b + 393216 < q + 256 then byteOf v.toNat (b + 393216 - q) else tget x.store b 0))) ∧
    ((∀ q, ¬ inside q) → (st.prim = 0x01 → exec (.ld c) s = .next (s.opFails .badParam x.pc)) ∧
      (st.prim = 0x02 → exec (.st c) s = .next (s.opFails .badParam x.pc))) ∧
    (st.prim = 0x03 → flag (r.op.desc.getD 1 0) 5 = true → ∀ l, s.loaded? o (dfld r.op.desc 1 0 5) = some l → l.itin = false →
      e.addr x st.imm % 256 = 0 → e.addr x st.imm + 256 ≤ l.size →
      let as := (List.range 256).map (fun i => e.addr x st.imm + i)
      let got := s.ldmBlocks o (dfld r.op.desc 1 0 5) l as
      (∀ g ∈ got, ∃ bs p, g.2 = some (some bs, p)) → ∃ (v : BitVec 2048) (p : Bool) (u : State),
        exec (.ldm c) s = .next (u.retire c.val (x.setV st.d v p)) ∧ (got = [] → u = (s.readModel l as).2) ∧
        (st.msk = false → ∀ i < 256, byteOf v.toNat i = modelByte l got (e.addr x st.imm + i))) ∧
    (st.prim = 0x04 →
      let j := st.imm % 2
      let gives (t u : State) (bs : List Byte) (k : Nat) (bad : Bool) : Prop := ∃ v : BitVec 2048,
        t = (u.retire c.val { (x.setV st.d v (bad || (st.msk && (x.psnV st.d || x.psnM 0)))).setS 15 bs.length false with
          pos := tset x.pos j (tget x.pos j 0 + k) 0 }).releaseKept ∧
        (st.msk = false → v = BitVec.ofNat 2048 (ofLe bs)) ∧
        (st.msk = true → ∀ i < n, lane e.fmt v.toNat i = lane e.fmt (if e.masked x i = true then x.V st.d else ofLe bs) i)
      (inSpace r.op.desc j = 0 → ∃ t, exec (.recv c) s = .next t ∧ gives t s [] 0 false) ∧
      (inSpace r.op.desc j ≠ 0 → inSpace r.op.desc j ≠ 5 → inSpace r.op.desc j ≠ 6 →
        let mine := (((r.op.input j).recs.filter (fun q => decide (q.1 = r.index c.val))).map Prod.snd).drop (tget x.pos j 0)
        ∀ k ≤ mine.length, ((mine.take k).flatMap RingRec.words).length ≤ 32 →
          (∀ g, mine[k]? = some g → 32 < ((mine.take k).flatMap RingRec.words).length + g.words.length) →
          k ≠ 0 ∨ inSpace r.op.desc j ≠ 1 ∨ r.captures s.now j = false →
          ∃ t, exec (.recv c) s = .next t ∧ gives t s (bytes64 ((mine.take k).flatMap RingRec.words)) k ((mine.take k).any RingRec.bad)) ∧
      (inSpace r.op.desc j = 5 → ∀ q k, q = 256 * (r.index c.val + tget x.pos j 0 * r.cores.length) → k = min 256 (inLen r.op.desc j - q) →
        (k = 0 → ∃ t, exec (.recv c) s = .next t ∧ gives t s [] 0 false) ∧
        (k ≠ 0 → ∀ bs bad u, s.inputBytes r j q k = some (bs, bad, u) → ∃ t, exec (.recv c) s = .next t ∧ gives t u bs 1 bad)) ∧
      (inSpace r.op.desc j = 6 → ∀ q k, q = 256 * tget x.pos j 0 → k = min 256 (inLen r.op.desc j - q) →
        (k = 0 → ∃ t, exec (.recv c) s = .next t ∧ gives t s [] 0 false) ∧
        let b := inAddr r.op.desc j % 2 ^ 32 + q
        let ps := (List.range k).map (fun i => 393216 + s.statePlace o (b + i))
        (k ≠ 0 → b + k ≤ (s.stUnits o).length * 4096 → (s.readStore c.val ps).1 = false → ∃ t bad, exec (.recv c) s = .next t ∧
          gives t (s.readStore c.val ps).2 (ps.map (fun p => tget x.store (p - 393216) 0)) 1 bad))) ∧
    (st.prim = 0x05 →
      (st.imm % 2 = 0 → exec (.emit c) s = .next ((s.setRun { r with
        w2 := tget x.sr st.a 0, w3 := tget x.sr st.b 0, poison := x.psnS st.a || x.psnS st.b }).retire c.val x)) ∧
      (st.imm % 2 = 1 → ∃ r' : Running,
        r' = { r with outs := r'.outs, outBad := r'.outBad } ∧
        tget r'.outs (r.index c.val) [] = tget r.outs (r.index c.val) [] ++
          (if x.psnV st.a = true then List.replicate 256 0 else leBytes 256 (x.V st.a)) ∧
        (∀ l, l ≠ r.index c.val → tget r'.outs l [] = tget r.outs l []) ∧
        (descDram r.op.desc = false ∨ r'.stream.1.length ≤ 4032 * blockLimit r.op.desc →
          exec (.emit c) s = .next ((s.setRun r').retire c.val x).writeBlocks) ∧
        (descDram r.op.desc = true → 4032 * blockLimit r.op.desc < r'.stream.1.length →
          exec (.emit c) s = .next (((s.setRun r').retire c.val x).writeBlocks.opFails .exhausted 0)))) ∧
    (st.prim = 0x3C → isInt e.fmt = true → x.S st.a % 4 = 0 →
      let idx (i : Nat) : Int := match e.va x i with | .fin q _ => roundInt .rtz q | _ => -1
      let used := (List.range n).filter (fun i => !(e.st.msk && !(decide (i < 256) && (x.M 0).getLsbD i)))
      let good := used.filter (fun i => decide (0 ≤ idx i) && decide ((idx i).toNat ≤ x.S st.b))
      let ps := good.map (fun i => x.S st.a + 4 * (idx i).toNat)
      (∀ p ∈ ps, p + 4 ≤ s.workBytes) → (s.readStore c.val ps).1 = false → ∃ t, exec (.hist c) s = .next t ∧
        (t.core c.val).S st.d = (x.S st.d + (used.length - good.length)) % 2 ^ 64 ∧ (t.core c.val).pc = x.pc + 1 ∧
        (∀ k, x.S st.a + 4 * k + 4 ≤ s.workBytes → ofLe ((t.core c.val).load (x.S st.a + 4 * k) 4) =
          min (2 ^ 32 - 1) (ofLe (x.load (x.S st.a + 4 * k) 4) + good.countP (fun i => decide (idx i = (k : Int))))) ∧
        (∀ b, (∀ p ∈ ps, b < p ∨ p + 4 ≤ b) → tget (t.core c.val).work b 0 = tget x.work b 0) ∧
        (t.core c.val).store = x.store ∧ (t.core c.val).v = x.v ∧ t.ch.run = s.ch.run) ∧
    (st.prim = 0x3D → isInt e.fmt = true →
      let w2 := laneWidth st.fmt2
      let m := min n (laneCount st.fmt2)
      let idx (i : Nat) : Int := match e.va x i with | .fin q _ => roundInt .rtz q | _ => -1
      let bit (i : Nat) : Nat := x.S st.a * 8 + w2 * (idx i).toNat
      let used := (List.range m).filter (fun i => !(e.st.msk && !(decide (i < 256) && (x.M 0).getLsbD i)))
      let ps := used.flatMap (fun i => [bit i / 128 * 16, (bit i + w2 - 1) / 128 * 16])
      x.S st.a % (max 1 (w2 / 8)) = 0 → (∀ i ∈ used, 0 ≤ idx i ∧ bit i + w2 ≤ s.workBytes * 8) → (s.readStore c.val ps).1 = false →
      ∃ (u : State) (bad : Bool), u = { (s.readStore c.val ps).2 with free := (s.readStore c.val ps).2.free + 1 } ∧
        WritesLanes (exec (.lut c) s) u c.val e st.fmt2
          (fun i => if i < m then some (bits (ofLe (x.load (bit i / 8) 9)) (bit i % 8) w2) else none) bad)

/-- The cores wait for one another at ALLRED, XCHG and BAR, and LOOP, ENDL, BRZ and HALT move a core on, as R305 says
(R299, R303, R305, R307). A core at an ALLRED, XCHG or BAR that some core of the op has not reached waits; the last
one lets every core go on, ALLRED with the lane-wise sum (by R299, in logical order), minimum or maximum over the
cores, XCHG with the vector of the core imm further, modulo C. ALLRED and XCHG while a core has halted stop the op.
LOOP opens a loop of Sa or imm rounds or skips its body when it is zero; ENDL goes back until the rounds are done; BRZ
goes to step imm when Sa is 0; HALT ends the core's part, and stops the op when another core waits at an ALLRED or
XCHG. -/
def Obligations.FlowSteps : Prop :=
  ∀ (s : State) (c : Fin 16) (r : Running) (st : IStep), s.nextStep c.val = some (r, st) →
    let x := s.core c.val
    let e := envOf r.op.desc st (Config.freeValue (r.at_ c.val x))
    let n := laneCount e.fmt
    let others (p : Core → Prop) : Prop := ∀ k ∈ r.cores, k ≠ c.val → p (s.core k)
    let there (y : Core) : Prop := y.waiting = true ∧ y.pc = x.pc ∧ y.halted = false
    let once (l : Nat) : Prop := ∀ m < r.cores.length, m ≠ l → r.cores.getD m 0 ≠ r.cores.getD l 0
    let goesOn (t : State) (l : Nat) (y : Core) : Prop := once l → t.core (r.cores.getD l 0) =
      { y with pc := x.pc + 1, stepAt := s.now, waiting := false }
    let waits (i : Instr) : Prop := (∃ k ∈ r.cores, k ≠ c.val ∧ ¬ there (s.core k)) →
      exec i s = .next (s.setCore c.val { x with waiting := true })
    (st.prim = 0x4A → waits (.bar c) ∧ (others there → ∃ t, exec (.bar c) s = .next t ∧ t.ch.run = s.ch.run ∧
      ∀ l < r.cores.length, goesOn t l (s.core (r.cores.getD l 0)))) ∧
    (st.prim = 0x49 → (∀ k ∈ r.cores, (s.core k).halted = false) → waits (.xchg c) ∧
      (others there → ∃ t, exec (.xchg c) s = .next t ∧ t.ch.run = s.ch.run ∧ ∀ l < r.cores.length,
        let y := s.core (r.cores.getD l 0)
        let z := s.core (r.cores.getD ((l + st.imm) % r.cores.length) 0)
        (st.msk = false → goesOn t l (y.setV st.d (tget z.v st.a 0) (z.psnV st.a))) ∧
        (st.msk = true → once l → ∀ i < n, lane e.fmt ((t.core (r.cores.getD l 0)).V st.d) i =
          if e.masked y i = true then lane e.fmt (y.V st.d) i else lane e.fmt (z.V st.a) i))) ∧
    (st.prim = 0x48 → e.fmt < 15 → (∀ k ∈ r.cores, (s.core k).halted = false) → waits (.allred c) ∧
      (others there → ∃ t, exec (.allred c) s = .next t ∧ ∀ l < r.cores.length, once l →
        let y := s.core (r.cores.getD l 0)
        let z := t.core (r.cores.getD l 0)
        z.pc = x.pc + 1 ∧ z.waiting = false ∧ z.sr = y.sr ∧ z.acc = y.acc ∧ z.m = y.m ∧ (∀ j, j ≠ st.d → tget z.v j 0 = tget y.v j 0) ∧
        ∀ i < n, (e.masked y i = true → lane e.fmt (z.V st.d) i = lane e.fmt (y.V st.d) i) ∧
          let all := r.cores.map (fun k => lane e.fmt ((s.core k).V st.a) i)
          (e.masked y i = false →
            (st.imm = 0 → lane e.fmt (z.V st.d) i = encode e.fmt .rne false (laneVal (accKind e.fmt).code
              (all.foldl (fun a v => (accAdd (accKind e.fmt) a (laneVal e.fmt v)).1) 0)) % 2 ^ laneWidth e.fmt) ∧
            (st.imm = 1 ∨ st.imm = 2 → (∀ v ∈ all, (laneVal e.fmt v).isNan = false) → lane e.fmt (z.V st.d) i ∈ all ∧
              ∀ v ∈ all, if st.imm = 1 then ltV (laneVal e.fmt v) (laneVal e.fmt (lane e.fmt (z.V st.d) i)) = false
                else ltV (laneVal e.fmt (lane e.fmt (z.V st.d) i)) (laneVal e.fmt v) = false)))) ∧
    (st.prim = 0x48 ∨ st.prim = 0x49 → (∃ k ∈ r.cores, (s.core k).halted = true) →
      exec (if st.prim = 0x48 then .allred c else .xchg c) s = .next (s.opFails .badParam x.pc)) ∧
    (st.prim = 0x50 → ∀ m, m = (if st.a = 0 then st.imm else x.S st.a) →
      (m ≠ 0 → exec (.loop c) s = .next (s.retire c.val { x with loops := (x.pc + 1, m - 1) :: x.loops })) ∧
      (m = 0 → ∀ l q, s.loaded? r.op.owner (dfld r.op.desc 1 8 5) = some l → x.pc < q → q ≤ x.pc + 4096 →
        let count (k i : Nat) := (List.range (i - x.pc)).countP (fun j => match l.step (x.pc + 1 + j) with | some z => decide (z.prim = k) | none => false)
        (∀ i, x.pc < i → i ≤ q → (l.step i).isSome = true) → (∀ i, x.pc < i → i < q → count 0x51 i ≤ count 0x50 i) →
        count 0x51 q = count 0x50 q + 1 →
        exec (.loop c) s = .next (s.setCore c.val { x with pc := q + 1, stepAt := s.now }))) ∧
    (st.prim = 0x51 →
      (∀ p m rest, x.loops = (p, m + 1) :: rest → exec (.endl c) s = .next (s.setCore c.val { x with pc := p, loops := (p, m) :: rest, stepAt := s.now })) ∧
      (∀ p rest, x.loops = (p, 0) :: rest → exec (.endl c) s = .next (s.retire c.val { x with loops := rest }))) ∧
    (st.prim = 0x52 →
      (x.S st.a = 0 → exec (.brz c) s = .next (s.setCore c.val { x with pc := st.imm, stepAt := s.now })) ∧
      (x.S st.a ≠ 0 → exec (.brz c) s = .next (s.retire c.val x))) ∧
    (st.prim = 0x53 →
      (others (fun y => y.waiting = false) →
        exec (.halt c) s = .next (s.setCore c.val { x with halted := true, stepAt := s.now }).writeBlocks) ∧
      (∀ l, s.loaded? r.op.owner (dfld r.op.desc 1 8 5) = some l →
        ((∃ k ∈ r.cores, k ≠ c.val ∧ (s.core k).waiting = true ∧ ∃ z, l.step (s.core k).pc = some z ∧ (z.prim = 0x48 ∨ z.prim = 0x49)) →
          ∃ i, exec (.halt c) s = .next ((s.setCore c.val { x with halted := true, stepAt := s.now }).writeBlocks.opFails .badParam i))))

/-- The packets 0x80 to 0x87 and the turnover's events change charters and key slots as R407 to R432 say (R293, R403,
R407, R413, R415, R416, R417, R418, R419, R423, R431, R432). A heard CHARTER_BEGIN makes an INACTIVE charter ACTIVE
without a KEK. CHARTER_END is accepted; with no earlier packet of the charter open it is ENDING at once, its
generation one higher, its KEK, ID mode and domains gone, no op of it left and no probe object its own.
CHARTER_SCRUB_START, 100 us later, clears its register page and queues; CHARTER_SCRUB_DONE, 1.3 ms after T0, returns
its units and completes with its generation, or INTERNAL. ATTEST answers the evidence of R413 and a signature.
KEY_AGREE answers a public key and sets the KEK, or BAD_PARAM. Both ask the key store for label 1 and answer INTERNAL
when it fails. KEY_INSTALL of an unwrapped key takes the lowest free slot, or INTEGRITY. KEY_ZEROISE frees a slot, or
keeps it out of use. LINK_MODE sets a link's mode. CHARTER_STATUS answers the active set, the generation and the
charter's slots and units. -/
def Obligations.ChartersAndKeys : Prop :=
  (∀ (pk : Pkt) (s : State),
    (Heard specCharterBegin pk s → s.chState (fld (pk.p 1) 0 4) = .inactive →
      Answers (exec (.charterBegin pk) s) specCharterBegin pk s [] (fun t => { t with chart := { t.chart with
        st := tset t.chart.st (fld (pk.p 1) 0 4) .active .inactive, kek := tset t.chart.kek (fld (pk.p 1) 0 4) none none } })) ∧
    (Heard specCharterEnd pk s → ∀ c, c = fld (pk.p 1) 0 4 → s.active c = true → pk.o = hm ∨ pk.o = c → s.chart.turnover = none →
      (s.packetsOpen c = true → Accepts (exec (.charterEnd pk) s) specCharterEnd pk s [] (fun slot t => { t with chart := { t.chart with
        turnover := some ⟨c, pk.o, pk.seq, slot, false, s.now, false⟩ } })) ∧
      (s.packetsOpen c = false → ∃ f : Nat → State → State, Accepts (exec (.charterEnd pk) s) specCharterEnd pk s [] f ∧
        let u := f (slotFor specCharterEnd pk s) (s.rung specCharterEnd pk)
        u.chart.turnover = some ⟨c, pk.o, pk.seq, slotFor specCharterEnd pk s, true, s.now, false⟩ ∧
        u.chart.st = tset s.chart.st c .ending .inactive ∧ u.keygen c = min 255 (s.keygen c + 1) ∧ tget u.chart.kek c none = none ∧
        u.esl.idMode.getLsbD c = false ∧ tget u.lk.assign c 0 = 0 ∧ (u.export_ c).openL = none ∧
        (∀ x ∈ u.ch.queue, x.owner ≠ c) ∧ (∀ x ∈ u.ch.standing, x.owner ≠ c) ∧ (∀ r, u.ch.run = some r → r.op.owner ≠ c) ∧
        (∀ p, (u.probe p).cfg.fixedOwner ≠ c ∧ (u.probe p).cfg.samplerOwner ≠ c ∧ (u.probe p).cfg.cmdOwner ≠ c ∧
          (u.probe p).cfg.edgeOwner ≠ c ∧ (∀ i < 8, tget (u.probe p).cfg.pmcOwner i hm ≠ c) ∧ ∀ i < 4, tget (u.probe p).cfg.rangeOwner i hm ≠ c))) ∧
    (Heard specAttest pk s → s.io.ksErr = true → exec (.attest pk) s = .next (finish specAttest pk (slotFor specAttest pk s) false (s.rung specAttest pk)
      (.done .internal [0, 0] ((s.rung specAttest pk).askKey 1)))) ∧
    (Heard specAttest pk s → s.io.ksErr = false → ∃ images : List Byte,
      images = (s.ownSlots pk.o).flatMap (fun e => leBytes 1 e.1 ++ beBytes 32 e.2.digest.toNat) ∧ ∀ ev : List Nat,
      ev = [s.dev.mode.code + pk.o * 8] ++ digestWords (if s.dev.mode = .recovery then Config.recoveryDigest else s.dev.image.digest) ++
        digestWords s.dev.settingsDigest ++ digestWords (Config.sha256 images) ++
        [b2n s.ident.secureBoot + b2n s.ident.debugLock * 2 + b2n s.ident.testLock * 4 + min 65535 s.ident.sparesFused * 2 ^ 16] ++
        pk.ps.map (·.toNat) →
      Answers (exec (.attest pk) s) specAttest pk s
        (ev ++ pairWords (Config.ecSign s.fresh.1 identityKey (Config.sha256 (beOfWords ev))) ++ pairWords (Config.ecPublic identityKey))
        (fun t => { t with free := t.free + 1, io := { t.io with ksLabel := 1 } })) ∧
    (Heard specKeyAgree pk s → ∀ host : BitVec 512, host = BitVec.ofNat 512 (ofBeWords (pk.ps.take 16)) →
      (Config.ecValid host = false → exec (.keyAgree pk) s = .next ((s.rung specKeyAgree pk).reply 0x83 pk .badParam [1, 0])) ∧
      (Config.ecValid host = true → s.io.ksErr = true → exec (.keyAgree pk) s = .next (finish specKeyAgree pk (slotFor specKeyAgree pk s) false
        (s.rung specKeyAgree pk) (.done .internal [0, 0] ((s.rung specKeyAgree pk).askKey 1)))) ∧
      (Config.ecValid host = true → s.io.ksErr = false →
        let eph := Config.ephemeral s.free
        let kek := Config.hkdf (BitVec.ofNat 256 (ofBeWords (pk.ps.drop 16))) (Config.ecdh eph host) (kekInfo pk.o s.chip)
        let signed := beOfWords ((pk.ps.take 16).map (·.toNat) ++ pairWords (Config.ecPublic eph) ++ (pk.ps.drop 16).map (·.toNat))
        Answers (exec (.keyAgree pk) s) specKeyAgree pk s
          (pairWords (Config.ecPublic eph) ++ pairWords (Config.ecSign (Config.freeValue (s.free + 1)) identityKey (Config.sha256 signed)))
          (fun t => { t with
            free := t.free + 2, io := { t.io with ksLabel := 1 }, chart := { t.chart with kek := tset t.chart.kek pk.o (some kek) none } }))) ∧
    (Heard specKeyInstall pk s → ∀ (kek : W256) (i kind link : Nat), tget s.chart.kek pk.o none = some kek → kind = fld (pk.p 1) 0 2 →
      link = fld (pk.p 1) 2 2 → kind ≠ 3 → (kind = 2 → pk.o = hm) → (kind = 0 → s.keygen pk.o < 255 ∧ s.keyBusy pk.o = false) →
      i < 64 → (s.keySlot i).st = .free → (∀ k < i, (s.keySlot k).st ≠ .free) →
      match Config.keyUnwrap kek (BitVec.ofNat 320 (ofBeWords (pk.ps.drop 1))) with
      | none => exec (.keyInstall pk) s = .next ((s.rung specKeyInstall pk).reply 0x84 pk .integrity [2, 0])
      | some key => ∃ f : State → State, Answers (exec (.keyInstall pk) s) specKeyInstall pk s
          [i + (if kind = 0 then s.keygen pk.o + 1 else s.keygen pk.o) * 2 ^ 6] f ∧
          let u := f (s.rung specKeyInstall pk)
          (kind = 0 → u.keySlot i = ⟨.current, key, pk.o, 0, 0⟩ ∧ u.keygen pk.o = s.keygen pk.o + 1 ∧ tget u.ch.seq pk.o 0 = 0 ∧
            tget u.ledger.readNext pk.o 0 = 0 ∧ (u.export_ pk.o).seq = 0 ∧ (u.export_ pk.o).openL = none ∧
            ∀ j k, s.memKey pk.o = some (j, k) → j ≠ i → u.keySlot j = KeySlot.zero) ∧
          (kind = 1 → u.keySlot i = ⟨.current, key, pk.o, 1, 0⟩ ∧ u.keygen pk.o = s.keygen pk.o ∧
            ∀ j k, s.modelKey pk.o = some (j, k) → j ≠ i → u.keySlot j = KeySlot.zero) ∧
          (kind = 2 → link = 3 ∨ s.linkKey link false = none → u.keySlot i = ⟨.current, key, hm, 2, link⟩) ∧
          (kind = 2 → link ≠ 3 → s.linkKey link false ≠ none → u.keySlot i = ⟨.next, key, hm, 2, link⟩)) ∧
    (Heard specKeyZeroise pk s → ∀ (i : Nat) (readback : W256), i = fld (pk.p 1) 0 6 → (s.keySlot i).st ≠ .free → (s.keySlot i).st ≠ .dead →
      (s.keySlot i).owner = pk.o → ∃ f : State → State, Answers (exec (.keyZeroise pk readback) s) specKeyZeroise pk s [] f ∧
      let u := f (s.rung specKeyZeroise pk)
      (u.keySlot i = if readback = 0 then KeySlot.zero else { KeySlot.zero with st := .dead }) ∧
      (∀ j, j ≠ i → u.keySlot j = s.keySlot j) ∧ u.chart.st = s.chart.st ∧ u.chart.keygen = s.chart.keygen ∧ u.chart.kek = s.chart.kek ∧
      (readback ≠ 0 → (⟨0xA01, i, 0, none, s.ts, s.now, false, false⟩ : Pend) ∈ u.fc.pend) ∧
      ((s.keySlot i).kind = 0 → (u.export_ pk.o).openL = none)) ∧
    (Heard specLinkMode pk s → ∀ (j : Nat) (m : Bool), j = fld (pk.p 1) 0 2 → m = flag (pk.p 1) 2 →
      (m = true → j ≠ 3 ∧ ∃ x h, (s.peer j).hello = some (x, h) ∧ h.toNat = setHousing s.dev.settings ∧ setHousing s.dev.settings ≠ 0) →
      (j = 3 ∨ (s.peer j).sealMode = m → Answers (exec (.linkMode pk) s) specLinkMode pk s [] (fun t => t)) ∧
      (j ≠ 3 → (s.peer j).sealMode ≠ m → ∃ f : State → State, Answers (exec (.linkMode pk) s) specLinkMode pk s [] f ∧
        let u := f (s.rung specLinkMode pk)
        (u.peer j).sealMode = m ∧ ((u.peer j).lane false).up = false ∧ ((u.peer j).lane true).up = false ∧
        (∀ k, k ≠ j → u.peer k = s.peer k) ∧ u.chart = s.chart)) ∧
    (Heard specCharterStatus pk s →
      Answers (exec (.charterStatus pk) s) specCharterStatus pk s
        [2 ^ 16 + ((List.range 16).map (fun c => b2n (s.active c) * 2 ^ c)).sum,
         s.keygen pk.o + s.chart.slots.countP (fun e => decide (e.2.owner = pk.o) && decide (e.2.st ≠ .free) && decide (e.2.st ≠ .dead)) * 2 ^ 8 +
           (s.units pk.o).length * 2 ^ 14] (fun t => t))) ∧
  (∀ (s : State) (x : Turnover), s.chart.turnover = some x → x.charter < 16 →
    (x.begun = false → s.packetsOpen x.charter = false → ∃ t, exec .charterScrubStart s = .next t ∧
      t.chart.turnover = some { x with begun := true, t0At := s.now } ∧ t.chart.st = tset s.chart.st x.charter .ending .inactive) ∧
    (x.begun = true → x.scrub = false → x.t0At + 100000 ≤ s.now → ∃ t, exec .charterScrubStart s = .next t ∧
      t.chart = { s.chart with turnover := some { x with scrub := true } } ∧ t.apt x.charter = Apt.zero ∧
      t.export_ x.charter = Export.zero ∧ t.irqStatus x.charter = 0 ∧ t.charterQ x.charter = [] ∧
      (∀ o, o ≠ x.charter → t.apt o = s.apt o ∧ t.export_ o = s.export_ o ∧ t.irqStatus o = s.irqStatus o ∧ t.charterQ o = s.charterQ o) ∧
      t.probes = s.probes ∧ t.ch = s.ch ∧ t.time = s.time) ∧
    (x.scrub = true → x.t0At + 1300000 ≤ s.now →
      (∃ v : State, exec (.charterScrubDone true) s = .next (v.complete 0x81 x.by_ x.seq x.slot .ok [s.keygen x.charter]) ∧
        v.chart = { s.chart with turnover := none, st := tset s.chart.st x.charter .inactive .inactive } ∧
        (∀ u < 32, tget v.ch.stUnit u 31 ≠ x.charter ∧ tget v.ch.mdUnit u 31 ≠ x.charter) ∧ v.allot x.charter = Allot.zero ∧
        v.quotaOf x.charter = 0 ∧ v.probes = s.probes ∧ v.esl = s.esl) ∧
      exec (.charterScrubDone false) s = .next (((({ s with chart := { s.chart with turnover := none } } : State)).raise 0xA05 0 x.charter).complete
        0x81 x.by_ x.seq x.slot .internal [0, 0])))

/-- The packets 0x90 to 0x94 and Survey's scans, ticks, entries and recalibration do what R324 to R343 and R404 say (R323,
R324, R327, R328, R329, R331, R336, R338, R339, R341, R343, R404). A heard SURVEY_SET sets the period (1 to 600 s) and
the levels; SURVEY_PREDICT queues a WEAR_PREDICT op, SURVEY_CHECKPOINT and SURVEY_RECAL are accepted; SURVEY_READ
answers a site's latest values. SENSOR_SCAN counts each good reading, less its offset, in its bin and marks a sensor
failed at the third failure in a row. SURVEY_TICK takes the totals from their verified pages, shadows the live
accumulators less those with a parity error, whose sites set GAP, starts them anew, moves the shadow into Survey's
state units and queues the three ops, or without the units adds by itself. JOURNAL_ENTRY queues its two ops,
JOURNAL_CHECKPOINT and SURVEY_CHECKPOINT_DONE write a checkpoint while the Logbook and the key are there, and without
the key the first raises KEY_STORE_ERROR instead and the second is INTERNAL, SURVEY_PREDICT_DONE answers the op's end,
and SURVEY_RECAL_DONE stores the offsets within 5 degrees and the zero points, counts a missing answer as a failed
read, and leaves the totals. -/
def Obligations.SurveyCommands : Prop :=
  (∀ (pk : Pkt) (s : State),
    (Heard specSurveySet pk s → 1 ≤ fld (pk.p 1) 0 10 → fld (pk.p 1) 0 10 ≤ 600 →
      Answers (exec (.surveySet pk) s) specSurveySet pk s [] (fun t => { t with survey := { t.survey with
        period := fld (pk.p 1) 0 10, advUpper := pk.p 2, advYears := pk.p 3, warnUpper := pk.p 4, warnYears := pk.p 5 } })) ∧
    (Heard specSurveyPredict pk s → s.findJob 0x91 = none → s.ch.queue.length < 32 → s.ownInstances hm < (s.allot hm).limit →
      Accepts (exec (.surveyPredict pk) s) specSurveyPredict pk s [] (fun slot t => { t with
        ch := { (t.takeSeq hm).2.ch with
          queue := t.ch.queue ++ [⟨hm, tget t.ch.seq hm 0, surveyDesc 0x13 0 s.surveyUnits, s.ts, s.now, 0, 0, Input.zero, Input.zero, 5⟩] }
        esl := { t.esl with jobs := t.esl.jobs ++ [⟨0x91, pk.o, pk.seq, slot, 0, 0, 0, s.now⟩] } })) ∧
    (Heard specSurveyCheckpoint pk s → s.findJob 0x92 = none →
      Accepts (exec (.surveyCheckpoint pk) s) specSurveyCheckpoint pk s [] (fun slot t => { t with
        esl := { t.esl with jobs := t.esl.jobs ++ [⟨0x92, pk.o, pk.seq, slot, 0, 0, 0, s.now⟩] } })) ∧
    (Heard specSurveyRecal pk s → s.findJob 0x93 = none → s.recalReady = true →
      Accepts (exec (.surveyRecal pk) s) specSurveyRecal pk s [] (fun slot t => { t with
        esl := { t.esl with jobs := t.esl.jobs ++ [⟨0x93, pk.o, pk.seq, slot, 0, 0, 0, s.now⟩] } })) ∧
    (Heard specSurveyRead pk s → ∀ l, l = tget s.survey.latest (fld (pk.p 1) 0 8 * 16 + fld (pk.p 1) 8 4) Latest.zero →
      siteKind (fld (pk.p 1) 0 8) (fld (pk.p 1) 8 4) = true →
      Answers (exec (.surveyRead pk) s) specSurveyRead pk s
        [l.value.toNat, l.lower.toNat, l.upper.toNat, l.eol.toNat % 2 ^ 32, l.eol.toNat / 2 ^ 32, l.entry.toNat] (fun t => t))) ∧
  (∀ (s : State) (rs : List SensorReply), s.dev.phase ≠ .held → s.survey.lastScanAt + 10000000 ≤ s.now →
    ∃ t, exec (.sensorScan rs) s = .next t ∧ t.survey.lastScanAt = s.now ∧ t.ch = s.ch ∧ t.env = s.env ∧ t.survey.totals = s.survey.totals ∧
      ∀ z < 32,
        (∀ d T, replyOf rs (72 + z) = some d → T = sgn 16 d.toNat → -7040 ≤ T → T ≤ 19200 → s.sensorFailed (72 + z) = false →
          let u := T - tget s.survey.thermOff z 0
          let k := z * 64 + min 47 ((u + 5120) / 512).toNat
          tget t.survey.temp z 0 = BitVec.ofInt 16 u ∧ tget t.survey.failRun (72 + z) 0 = 0 ∧ t.sensorFailed (72 + z) = false ∧
          tget t.survey.live.hist k 0 = min 65535 (tget s.survey.live.hist k 0 + 1) ∧
          (∀ j < 64, z * 64 + j ≠ k → tget t.survey.live.hist (z * 64 + j) 0 = tget s.survey.live.hist (z * 64 + j) 0)) ∧
        (replyOf rs (72 + z) = none → tget t.survey.failRun (72 + z) 0 = tget s.survey.failRun (72 + z) 0 + 1 ∧
          (t.sensorFailed (72 + z) = true ↔ s.sensorFailed (72 + z) = true ∨ tget s.survey.failRun (72 + z) 0 = 2) ∧
          (tget s.survey.failRun (72 + z) 0 = 2 → s.sensorFailed (72 + z) = false →
            (⟨0x800, 72 + z, 0, none, s.ts, s.now, false, false⟩ : Pend) ∈ t.fc.pend)) ∧
        t.survey.subst.getLsbD z = t.sensorFailed (72 + z)) ∧
  (∀ (s : State) (rs : List SensorReply) (bad : BitVec 96) (pages : List (Bool × Nat)) (ks : Bool), s.keeperRuns = true → s.survey.left = [] → s.coresHeld = false →
    s.survey.tickAt + s.survey.period * 1000000000 ≤ s.now ∨ (∃ e ∈ s.survey.live.tp, 48 ≤ e.2.length) →
    let hours := if bad.getLsbD 81 = true then 0 else hoursOf (s.now - s.survey.tickAt)
    ∃ t, exec (.surveyTick ⟨rs, bad, pages, ks⟩) s = .next t ∧ t.io.ksErr = ks ∧ t.survey.tickAt = s.now ∧ t.survey.mirror = t.survey.totals ∧
      t.survey.consts = s.calibItem ∧
      ((∀ p, (false, p) ∉ pages) → t.survey.totals.h = add64 s.survey.totals.h hours ∧ t.survey.gap = s.survey.gap ||| s.gapsOf bad) ∧
      ((∃ p < 3, (false, p) ∈ pages ∧ (true, p) ∈ pages) → (⟨0x801, 0, 0, none, s.ts, s.now, false, false⟩ : Pend) ∈ t.fc.pend) ∧
      t.survey.live = { Accum.zero with tp := t.survey.live.tp } ∧
      (∀ m < 72, ∀ x, replyOf rs m = some x → x ≠ 0xFFFF → tget s.survey.monZero m 0 = 0 → tget t.survey.monitors m 0 = x) ∧
      (s.surveyUnits = false → t.survey.left = [] ∧ t.survey.shadow = none ∧ t.survey.keeperPath = true ∧ t.ch = s.ch) ∧
      (s.surveyUnits = true → s.ch.queue.length ≤ 29 → s.ownInstances hm + 3 ≤ (s.allot hm).limit →
        t.survey.left = [1, 2, 3] ∧ t.survey.shadow = some (s.survey.live.without bad) ∧ t.survey.live = Accum.zero ∧ t.ch.run = s.ch.run ∧
        (∀ c < 16, s.ch.online.getLsbD c = true → (∀ k < c, s.ch.online.getLsbD k = false) → ∀ i < 4096,
          tget (t.core c).store (4096 * (s.stUnits hm).headD 31 + i) 0 = (s.survey.live.without bad).bytes.getD i 0) ∧
        ∃ x y z : OpInst, t.ch.queue = s.ch.queue ++ [x, y, z] ∧ opCode x.desc = 0x10 ∧ opCode y.desc = 0x11 ∧ opCode z.desc = 0x0F ∧
          ∀ i ∈ [x, y, z], i.owner = hm ∧ opRepeat i.desc = 0 ∧ dfld i.desc 0 13 2 = 3 ∧ dfld i.desc 3 0 24 = 500000 ∧ i.readyAt = s.now)) ∧
  (∀ s : State, s.keeperRuns = true →
    (s.survey.entryAt + entryPeriod ≤ s.now → s.ch.queue.length ≤ 30 → s.ownInstances hm + 2 ≤ (s.allot hm).limit →
      ∃ t x y, exec .journalEntry s = .next t ∧ t.survey = { s.survey with entryAt := s.now } ∧ t.ch.queue = s.ch.queue ++ [x, y] ∧
        opCode x.desc = 0x12 ∧ opCode y.desc = 0x13 ∧ x.owner = hm ∧ y.owner = hm ∧ y.survey = 4 ∧ t.ch.run = s.ch.run) ∧
    (s.survey.ckptAt + ckptPeriod ≤ s.now → s.io.ksErr = false → s.lb.present = true → s.survey.owed = [] → ∃ t b, exec .journalCheckpoint s = .next t ∧
      t.survey = { s.survey with ckptAt := s.now } ∧ b = s.entryBytes true [] ∧
      (s.lb.ckptNext = false → t.lb.ckptA = b ∧ t.lb.ckptNext = true ∧ t.lb.ckptB = s.lb.ckptB) ∧
      (s.lb.ckptNext = true → t.lb.ckptB = b ∧ t.lb.ckptNext = false ∧ t.lb.ckptA = s.lb.ckptA) ∧
      t.lb.journal = s.lb.journal ∧ t.lb.journalFirst = s.lb.journalFirst ∧ t.ch = s.ch) ∧
    (s.survey.ckptAt + ckptPeriod ≤ s.now → s.io.ksErr = true → ∃ t, exec .journalCheckpoint s = .next t ∧
      t.survey = { s.survey with ckptAt := s.now } ∧ t.lb = s.lb ∧ ∃ p ∈ t.fc.pend, p.code = 0xA00 ∧ p.unit = 3)) ∧
  (∀ (s : State) (j : Job),
    (s.findJob 0x91 = some j → j.a = 1 → exec .surveyPredictDone s = .next (({ s with esl := { s.esl with jobs := s.esl.jobs.erase j } }).complete
      0x91 j.owner j.seq j.slot .ok [42, j.b])) ∧
    (s.findJob 0x92 = some j → j.a = 0 → s.io.ksErr = false → s.lb.present = true → s.survey.owed = [] → ∃ v : State,
      exec .surveyCheckpointDone s = .next (v.complete 0x92 j.owner j.seq j.slot .ok []) ∧ v.survey = { s.survey with ckptAt := s.now } ∧
      (if s.lb.ckptNext = true then v.lb.ckptB else v.lb.ckptA) = s.entryBytes true [] ∧ v.ch = s.ch) ∧
    (s.findJob 0x92 = some j → j.a = 0 → s.io.ksErr = true → ∃ v : State,
      exec .surveyCheckpointDone s = .next (v.complete 0x92 j.owner j.seq j.slot .internal [0, 0]) ∧ v.lb = s.lb ∧
      ∃ p ∈ v.fc.pend, p.code = 0xA00 ∧ p.unit = 3) ∧
    (s.findJob 0x93 = some j → ∀ (rs : List SensorReply) (tin : Int), tin = (match s.env.report with | some r => r.1 | none => 0) →
      ∃ v : State, exec (.surveyRecalDone rs) s = .next (v.endJob j .ok []) ∧ v.survey.totals = s.survey.totals ∧ v.survey.ckptAt = s.now ∧ v.ch = s.ch ∧
      (∀ z < 32, ∀ ts, ts = (rs.filter (fun r => decide (r.addr.toNat = 72 + z))).filterMap (fun r => thermal r.data) → ∀ off : Int,
        off = roundInt .rna ((ts.sum : Rat) / ((ts.length : Nat) : Rat)) - tin →
        (16 ≤ ts.length → -640 ≤ off → off ≤ 640 → tget v.survey.thermOff z 0 = off ∧ v.sensorFailed (72 + z) = false ∧ v.survey.subst.getLsbD z = false) ∧
        (ts.length < 16 ∨ off < -640 ∨ 640 < off → tget v.survey.thermOff z 0 = tget s.survey.thermOff z 0 ∧
          (s.sensorFailed (72 + z) = true → v.sensorFailed (72 + z) = true) ∧
          ((∀ r ∈ rs, r.addr.toNat = 72 + z → (thermal r.data).isSome = true) → v.sensorFailed (72 + z) = s.sensorFailed (72 + z)))) ∧
      (∀ m < 72, (∀ x, replyOf rs m = some x → x ≠ 0xFFFF → tget v.survey.monZero m 0 = x ∧ v.sensorFailed m = false) ∧
        (replyOf rs m = none ∨ replyOf rs m = some 0xFFFF → tget v.survey.monZero m 0 = tget s.survey.monZero m 0 ∧
          v.sensorFailed m = (s.sensorFailed m || decide (tget s.survey.failRun m 0 = 2))))))

/-- Raises open, escalate and overflow the fault queue, and the packets 0xA0 to 0xA3 read, release, set and inject, as
R467 to R470 say (R19, R405, R463, R464, R466, R467, R468, R469, R470, R483). FAULT_RAISE of a classified code,
FAULT_RAISE for a raise that waits, and CLASS_TABLE_FALLBACK for one 800 ns old or with the Keeper stopped, handle the
raise with its class: the raise count of its code and unit advances; class 0 opens nothing; an open entry of the key
becomes min(3, max(c_new, c_open + 1)), marked escalated when that exceeds c_new; otherwise it takes the lowest free
slot, or, with 8 open, displaces the entry of the youngest raise of the lowest class when that is lower, and the ninth
entry opens at class 3. The raise is one after which no probe is disabled. A class 2 or 3 raise, or an enabled one,
sets the fault interrupt and triggers an armed ledger (the model counts the class after escalation, log 37).
FAULT_READ answers the entries, highest class first; FAULT_RELEASE closes one whose condition is over and is BUSY
otherwise; FAULT_POLICY sets the code's enables; FAULT_INJECT latches a raise. -/
def Obligations.FaultQueue : Prop :=
  (∀ (s : State) (p : Pend) (u : State) (cls : Nat), s.fc.pend = [] →
    let key := fKey p.code p.unit
    let open_ := s.fc.slots.find? (fun e => decide (e.2.code = p.code) && decide (e.2.unit = p.unit))
    let ways := (u = s ∧ p.cls = none ∧ p.fatal = false ∧ p.fixed3 = false ∧ p.ts = s.ts ∧ p.rAt = s.now) ∨
      u = { s with fc := { s.fc with pend := [p] } }
    let after (t : State) : Prop :=
      tget t.fc.counts key 0 = min 255 (tget s.fc.counts key 0 + 1) ∧ (∀ k, k ≠ key → k ≠ fKey 0x102 0 → tget t.fc.counts k 0 = tget s.fc.counts k 0) ∧
      (cls = 0 → t.fc.slots = s.fc.slots ∧ t.fc.ninth = s.fc.ninth) ∧
      (∀ i e c, 1 ≤ cls → open_ = some (i, e) → c = min 3 (max cls (e.cls + 1)) →
        tget t.fc.slots i FEntry.none = { e with cls := c, escalated := e.escalated || decide (cls < c), detail := p.detail, fatal := e.fatal || p.fatal, last := s.fc.order } ∧
        (∀ j, j ≠ i → tget t.fc.slots j FEntry.none = tget s.fc.slots j FEntry.none) ∧ t.fc.ninth = s.fc.ninth ∧
        (2 ≤ c ∨ p.code ∈ s.fc.irqOn → (t.irqStatus hm).getLsbD 5 = true) ∧
        (2 ≤ c ∨ p.code ∈ s.fc.ledgerOn → s.ledger.st = .armed → t.ledger.st ≠ .armed)) ∧
      (∀ i, 1 ≤ cls → open_ = none → s.freeEntry = some i →
        tget t.fc.slots i FEntry.none = ⟨p.code, p.unit, cls, false, p.fatal, p.detail, s.fc.order, s.fc.order⟩ ∧
        (∀ j, j ≠ i → tget t.fc.slots j FEntry.none = tget s.fc.slots j FEntry.none) ∧ t.fc.ninth = s.fc.ninth ∧
        (2 ≤ cls ∨ p.code ∈ s.fc.irqOn → (t.irqStatus hm).getLsbD 5 = true)) ∧
      (1 ≤ cls → open_ = none → s.freeEntry = none →
        (t.fc.ninth.map FEntry.cls = some 3 ∨ s.fc.ninth.isSome = true) ∧ t.fc.ninth.isSome = true ∧
        ((∀ e ∈ s.openEntries, cls ≤ e.cls) → cls ≤ 3 → t.fc.slots = s.fc.slots) ∧
        (∀ i, s.victimEntry cls = some i →
          tget t.fc.slots i FEntry.none = ⟨p.code, p.unit, cls, false, p.fatal, p.detail, s.fc.order, s.fc.order⟩ ∧
          (∀ j, j ≠ i → tget t.fc.slots j FEntry.none = tget s.fc.slots j FEntry.none)))
    ways → p.code ≠ 0x102 → p.cls.getD (classOf p.code) = cls → p.fatal = false → p.fixed3 = false →
    ((p.code ≠ 0x401 ∧ p.code ≠ 0x400 ∧ p.code ≠ 0x305 ∧ p.code ≠ 0x304) ∨ (s.probe p.unit).disabled = true) →
    (∀ r : FaultRaise, u = s → r.code.toNat = p.code → r.unit.toNat = p.unit → r.detail = p.detail → faultEntry p.code = some (cls, 0) →
      ∃ t, exec (.faultRaise (some r)) u = .next t ∧ after t ∧ t.fc.pend = []) ∧
    (u.fc.pend = [p] → ∃ t, exec (.faultRaise none) u = .next t ∧ after t ∧ t.fc.pend = []) ∧
    (u.fc.pend = [p] → p.rAt + 800 ≤ s.now ∨ s.dev.restarting = true ∨ s.asleep = true →
      ∃ t, exec .classTableFallback u = .next t ∧ after t ∧ t.fc.pend = [])) ∧
  (∀ (pk : Pkt) (s : State),
    (Heard specFaultRead pk s → ∃ es : List FEntry, es.Perm s.openEntries ∧
      es.Pairwise (fun a b => b.cls < a.cls ∨ (a.cls = b.cls ∧ a.order ≤ b.order)) ∧
      Answers (exec (.faultRead pk) s) specFaultRead pk s (s.fc.slots.length :: es.flatMap (fun e =>
        [e.code + e.cls * 2 ^ 16 + b2n e.escalated * 2 ^ 18 + b2n e.fatal * 2 ^ 19, e.unit + tget s.fc.counts (fKey e.code e.unit) 0 * 2 ^ 16,
         e.detail.toNat])) (fun t => t)) ∧
    (Heard specFaultRelease pk s → ∀ code unit, code = fld (pk.p 1) 0 16 → unit = fld (pk.p 1) 16 16 →
      (code ≠ 0x102 → ∀ i e, s.fc.slots.find? (fun e => decide (e.2.code = code) && decide (e.2.unit = unit)) = some (i, e) →
        (s.persisting code unit = true → exec (.faultRelease pk) s = .next ((s.rung specFaultRelease pk).reply 0xA1 pk .busy [1, 0])) ∧
        (s.persisting code unit = false → Answers (exec (.faultRelease pk) s) specFaultRelease pk s
          [(s.fc.slots.filter (fun e => decide (e.1 ≠ i))).length]
          (fun t => { t with fc := { t.fc with slots := t.fc.slots.filter (fun e => decide (e.1 ≠ i)) } }))) ∧
      (code = 0x102 → s.fc.ninth.isSome = true → s.fc.slots.length ≠ 8 → Answers (exec (.faultRelease pk) s) specFaultRelease pk s
        [s.fc.slots.length] (fun t => { t with fc := { t.fc with ninth := none } }))) ∧
    (Heard specFaultPolicy pk s → ∀ code, code = fld (pk.p 1) 0 16 → (faultEntry code).isSome = true → ∃ l i : List Nat,
      Answers (exec (.faultPolicy pk) s) specFaultPolicy pk s [] (fun t => { t with fc := { t.fc with ledgerOn := l, irqOn := i } }) ∧
      (code ∈ l ↔ flag (pk.p 1) 16 = true) ∧ (code ∈ i ↔ flag (pk.p 1) 17 = true) ∧
      (∀ k, k ≠ code → (k ∈ l ↔ k ∈ s.fc.ledgerOn) ∧ (k ∈ i ↔ k ∈ s.fc.irqOn))) ∧
    (Heard specFaultInject pk s → ∀ code, code = fld (pk.p 1) 0 16 → (faultEntry code).isSome = true →
      Answers (exec (.faultInject pk) s) specFaultInject pk s [] (fun t => { t with fc := { t.fc with pend := t.fc.pend ++
        [⟨code, fld (pk.p 1) 16 16, 0, some (classOf code), s.ts, s.now, false, false⟩] } })))

/-- The Keeper's faults, its restart, the self-tests, HEARTBEAT and the AON_REF monitor act as R475, R472 and R482 say
(R20, R78, R79, R80, R445, R465, R469, R472, R475, R476, R482). Once PORST_N is released KEEPER_LOCKSTEP_MISMATCH,
KEEPER_WATCHDOG_EXPIRY and KEEPER_MEM_UE, and a failed LOCKSTEP_SELF_TEST while the Keeper runs, stop the Keeper and
open a class 3 entry; the memory fault also has the image reloaded. KEEPER_RESTART restarts it, from the image the
Logbook gives where it is to be reloaded, else within a trial's second from the old one; KEEPER_RESTART_COMPLETE ends
the BUSY replies. FC_SELF_TEST passed ends the start-up state and a self-check failure; failed, as AON_MONITOR_TEST
failed, it stops HEARTBEAT and shows class 3. HEARTBEAT_TOGGLE inverts HEARTBEAT 500 us after the last edge while the
collector is healthy. AON_REF_LOSS sets or ends the loss. -/
def Obligations.SafetyMechanisms : Prop :=
  ∀ s : State,
    let opens (t : State) (code unit : Nat) (detail : W32) : Prop :=
      (∀ i, s.fc.slots.find? (fun e => decide (e.2.code = code) && decide (e.2.unit = unit)) = none → s.freeEntry = some i →
        tget t.fc.slots i FEntry.none = ⟨code, unit, 3, false, false, detail, s.fc.order, s.fc.order⟩ ∧
        (∀ j, j ≠ i → tget t.fc.slots j FEntry.none = tget s.fc.slots j FEntry.none)) ∧
      (∀ i e, s.fc.slots.find? (fun e => decide (e.2.code = code) && decide (e.2.unit = unit)) = some (i, e) →
        tget t.fc.slots i FEntry.none = { e with cls := 3, detail := detail, last := s.fc.order })
    let stopped (t : State) (code : Nat) : Prop := opens t code 0 0 ∧
      t.dev = { s.dev with restarting := true, down := true } ∧ t.ch = s.ch ∧ t.time = s.time
    let failed (t : State) (unit : Nat) : Prop := opens t 0x103 unit 0 ∧ t.fc.selfFail = true ∧
      t.persisting 0x103 unit = true ∧ t.faultNLow = true ∧ t.errClass = 3 ∧ t.dev = s.dev
    (s.dev.phase ≠ .held → (∃ t, exec .keeperLockstepMismatch s = .next t ∧ stopped t 0x200) ∧
      (∃ t, exec .keeperWatchdogExpiry s = .next t ∧ stopped t 0x201) ∧
      (∀ word : BitVec 32, ∃ t, exec (.keeperMemUe word) s = .next t ∧ opens t 0x202 0 (BitVec.ofNat 32 (word.toNat % bankWords 30)) ∧
        t.dev = { s.dev with restarting := true, down := true, reload := true }) ∧
      exec (.fcSelfTest none) s = .next (
        let u := ((s.setPersist 0x103 0 false).setPersist 0x103 1 false).setPersist 0x103 2 false
        { u with fc := { u.fc with tested := true, selfFail := false, hbAt := if s.fc.tested = true then s.fc.hbAt else s.now } }) ∧
      (∀ unit : BitVec 16, ∃ t, exec (.fcSelfTest (some unit)) s = .next t ∧ failed t unit.toNat)) ∧
    (s.dev.mode ≠ .boot → s.dev.restarting = false → s.asleep = false →
      (∃ t, exec (.lockstepSelfTest false) s = .next t ∧ stopped t 0x200) ∧ exec (.lockstepSelfTest true) s = .next s ∧
      (∃ t, exec (.aonMonitorTest false) s = .next t ∧ failed t 2) ∧ exec (.aonMonitorTest true) s = .next s) ∧
    (s.dev.down = true → (s.dev.reload = true ∨ s.imageBad = true → s.lb.present = true) → ∃ t, exec .keeperRestart s = .next t ∧ t.dev.down = false ∧ t.dev.reload = false ∧ t.dev.restarting = s.dev.restarting ∧
      t.fc.slots = s.fc.slots ∧ t.chart = s.chart ∧ t.esl = s.esl ∧
      (∀ old u, s.dev.reload = false → s.imageBad = false → s.dev.trialUntil = some u → s.now < u → s.dev.oldImage = some old →
        t.dev.image = old ∧ t.dev.codeBank = !s.dev.codeBank ∧ t.dev.oldImage = none) ∧
      (s.dev.trialUntil = none ∨ s.dev.reload = true ∨ s.imageBad = true → t.dev.image = s.dev.image ∧ t.dev.codeBank = s.dev.codeBank ∧ t.dev.oldImage = s.dev.oldImage)) ∧
    (s.dev.restarting = true → s.dev.down = false → s.findJob trialOp = none → (∀ j ∈ s.esl.jobs, j.op ≠ 0xB2) →
      exec .keeperRestartComplete s = .next { s with
        dev := { s.dev with restarting := false }
        ident := { s.ident with fw := if s.dev.phase = .running ∧ s.dev.mode ≠ .recovery then s.dev.image.version else 0 } }) ∧
    (s.fc.tested = true → s.fc.selfFail = false → s.fc.refLost = false → s.fc.hbAt + 500000 ≤ s.now →
      exec .heartbeatToggle s = .next { s with fc := { s.fc with hb := !s.fc.hb, hbAt := s.now } }) ∧
    (s.fc.refLost = false → ∃ t, exec (.aonRefLoss true) s = .next t ∧ opens t 0x104 0 0 ∧ t.fc.refLost = true ∧ t.persisting 0x104 0 = true ∧
      t.faultNLow = true ∧ t.errClass = 3 ∧ t.dev = s.dev) ∧
    (∃ t, exec (.aonRefLoss false) s = .next t ∧ t.fc.refLost = false ∧ t.persisting 0x104 0 = false ∧ t.fc.slots = s.fc.slots)

/-- PORST_N, the cold start, the warm resets, the image check, the firmware's start and its replacement act as R486 to
R501 say (R26, R27, R29, R34, R42, R88, R114, R237, R486, R489, R490, R499). PORST_N leaves the reset state but for
what R490 keeps: the integration values, the frozen ledger with its banks, the handshake lines. COLD_START samples the
chip index, reads the flash's SFDP and its fastest mode, treats one without the entries of R492 as absent, and records
a faulty row with its spare. A warm reset, by WRST_N or by a commit in RECOVERY, keeps the fault queue, CVT, epoch and
correction in HOLDOVER (a DETACHED that only PORST_N ends stays, log 92), the key generations, the ledger, the survey
and the button, and ends every charter. The image check starts a verified image in STARTUP, or one merely formed
without secure boot, and otherwise enters RECOVERY, READY, with the cause. FIRMWARE_START ends READY. FIRMWARE_RESTART
at a safe point swaps the code bank; after 1 s the trial ends. -/
def Obligations.ResetsAndStart : Prop :=
  ∀ s : State,
    let frozen := s.ledger.st = .frozen ∨ s.ledger.st = .seald
    let keeps (k : Nat) : Bool := (decide (8 ≤ k / 2 ^ 25) && decide (k / 2 ^ 25 ≤ 11)) || decide (k / 2 ^ 25 = 33)
    (∃ t, exec .porstNAssert s = .next t ∧ t.pending = s.pending ∧ t.dev = Dev.reset ∧ t.io = Io.reset ∧ t.time = TimeU.reset ∧ t.fc = Fc.reset ∧
      t.faultNLow = true ∧ t.errClass = 3 ∧ t.chart = State.reset.chart ∧ t.win = State.reset.win ∧ t.esl = State.reset.esl ∧
      t.basins = State.reset.basins ∧ t.ch = Ch.reset ∧ t.svc = Svc.reset ∧ t.env = Env.reset ∧ t.exp = [] ∧ t.assay = Assay.reset ∧
      t.ident = { s.ident with fw := 0, fuseErr := 0 } ∧ t.lb.firmware = s.lb.firmware ∧ t.lb.settings = s.lb.settings ∧
      (∀ h < 72, (t.dom h).req = (s.ident.pswDefault.getLsbD h && decide (h < s.ident.hostDomains)) ∧ (t.dom h).ack = (s.dom h).ack) ∧
      (∀ p, (t.probe p).cfg = ProbeCfg.zero ∧ (t.probe p).disabled = false) ∧
      (frozen → t.ledger.st = s.ledger.st ∧ t.ledger.recs = s.ledger.recs ∧ t.ledger.sealBlk = s.ledger.sealBlk) ∧
      (¬ frozen → t.ledger.st = Ledger.reset.st ∧ t.ledger.recs = []) ∧
      (∀ k, tget t.ecc.word k EccWord.plain =
        if (s.ledger.st = .frozen ∨ s.ledger.st = .seald) ∧ keeps k = true then tget s.ecc.word k EccWord.plain else EccWord.plain)) ∧
    (∀ (strap : BitVec 2) (faulty : List RowFault) (sfdp : List Byte) (fuseBad : List Nat) (ks : Bool), s.dev.phase = .held →
      (∃ t, exec (.coldStart strap ⟨faulty, sfdp, fuseBad, ks⟩) s = .next t ∧
        t.dev = { s.dev with phase := .started, lastReset := 0, wrst := false } ∧ t.ident.chip = strap ∧ t.clk.tclk = true ∧
        t.io.htRdy = true ∧ t.io.lbRstN = true ∧ t.io.ksErr = ks ∧ t.ident.fuseBad = fuseBad ∧ t.time = s.time ∧
        (sfdpFits sfdp = true → t.lb = { s.lb with present := true, sfdp := sfdp, flash := flashMode sfdp }) ∧
        (sfdpFits sfdp = false → t.lb.present = false ∧ t.persisting 0x203 0 = true ∧ (⟨0x203, 0, 0, none, s.ts, s.now, false, false⟩ : Pend) ∈ t.fc.pend) ∧
        t.ledger = s.ledger ∧ t.chart = s.chart ∧ t.lk.doms = s.lk.doms ∧
        (faulty = [] → s.ident.fuseWords = [] → t.ecc = s.ecc ∧ (sfdpFits sfdp = true → t.fc = s.fc)) ∧
        (∀ r : RowFault, faulty = [r] → s.ident.fuseWords = [] → r.row < bankRows r.bank → 0 < bankSpares r.bank →
          (∀ m ∈ s.ecc.map, m.kind = 0 → m.bank ≠ r.bank.val) →
          t.ecc.map = s.ecc.map ++ [⟨0, r.bank.val, r.row, 0, false⟩] ∧ (sfdpFits sfdp = true → t.fc = s.fc)))) ∧
    (∀ src : ResetCause, (src = .wrst ∧ s.dev.phase ≠ .held) ∨ (src = .internal ∧ s.recoveryReset = true) → s.chart.turnover = none →
      ∃ t, exec (.warmReset src) s = .next t ∧ t.pending = s.pending ∧
        t.dev = { Dev.reset with phase := .started, lastReset := if src = .wrst then 1 else 2, wrst := decide (src = .wrst) } ∧
        t.fc.slots = s.fc.slots ∧ t.fc.ninth = s.fc.ninth ∧ t.fc.counts = s.fc.counts ∧ t.errClass = s.errClass ∧ t.faultNLow = s.faultNLow ∧
        t.time.cvt = s.time.cvt ∧ t.time.epoch = s.time.epoch ∧ t.time.f = s.time.f ∧
        (s.time.stuck = false → t.time.st = .holdover) ∧ (s.time.stuck = true → t.time.st = .detached) ∧
        t.chart.keygen = s.chart.keygen ∧ t.chart.st = [] ∧
        (∀ k, tget t.chart.slots k KeySlot.zero = KeySlot.zero ∨ (tget t.chart.slots k KeySlot.zero).st = .dead) ∧
        t.ledger = { s.ledger with jobs := [] } ∧ t.survey.live = s.survey.live ∧ t.ecc.map = s.ecc.map ∧
        (∀ k, tget t.ecc.word k EccWord.plain = if keeps k = true then tget s.ecc.word k EccWord.plain else EccWord.plain) ∧
        t.lk.doms = s.lk.doms ∧ t.win.irqStatus = s.win.irqStatus ∧ t.win.irqEnable = s.win.irqEnable ∧
        t.svc.button = s.svc.button ∧ t.svc.present = s.svc.present ∧ t.svc.presses = s.svc.presses ∧
        t.basins = State.reset.basins ∧ t.ch = Ch.reset ∧ t.assay = Assay.reset ∧ t.esl = State.reset.esl ∧ t.exp = [] ∧
        (∀ p, (t.probe p).cfg = ProbeCfg.zero)) ∧
    exec .wrstNRelease s = .next { s with dev := { s.dev with wrst := false } } ∧
    (s.dev.phase = .started → s.dev.wrst = false → ∃ t, exec .bootImageCheck s = .next t ∧
      let found := if s.lb.present = false then 3 else if s.lb.firmware = [] then 1 else if itemOk 0 s.lb.firmware = true then 0
        else if s.ident.secureBoot = false ∧ itemFormed 0 s.lb.firmware = true ∧ itemAuth s.lb.firmware = 0 then 0 else 2
      t.chart = s.chart ∧ t.time = s.time ∧
      (found = 0 → t.dev = { s.dev with
          mode := .startup, phase := .imageRead, recovery := 0, unsignedFw := !itemOk 0 s.lb.firmware, codeBank := false
          image := ⟨itemVersion s.lb.firmware, Config.sha256 (itemPayload s.lb.firmware)⟩ } ∧
        t.ident.fw = itemVersion s.lb.firmware ∧ t.env = s.env) ∧
      (found ≠ 0 → t.dev = { s.dev with mode := .recovery, phase := .running, ready := true, recovery := found } ∧ t.ident = s.ident ∧
        t.env.pCont = 160 ∧ t.env.pBurst = 240 ∧ t.env.tBurst = 1000 ∧ t.env.shed = [])) ∧
    (s.dev.phase = .imageRead → s.dev.wrst = false → ∃ t, exec .firmwareStart s = .next t ∧ t.dev.ready = true ∧ t.dev.phase = .running ∧
      (s.lb.present = false ∨ s.lb.settings = [] → t.dev.mode = s.dev.mode ∧ t.dev.settingsDefault = true ∧ t.time = s.time ∧
        t.chart = s.chart)) ∧
    (∀ img, s.dev.newImage = some img → s.dev.mode ≠ .recovery → s.dev.restarting = false → s.asleep = false → s.safePoint = true →
      exec .firmwareRestart s = .next { s with
        dev := { s.dev with
          restarting := true, codeBank := !s.dev.codeBank, oldImage := some s.dev.image, image := img, newImage := none
          trialUntil := some (s.now + 1000000000) }
        ident := { s.ident with fw := img.version } }) ∧
    (∀ at_, s.dev.trialUntil = some at_ → at_ ≤ s.now → s.dev.restarting = false → s.dev.mode ≠ .recovery →
      exec .firmwareTrialExpiry s = .next { s with
        dev := { s.dev with oldImage := none, trialUntil := none }
        esl := { s.esl with jobs := s.esl.jobs.filter (fun j => decide (j.op ≠ trialOp)) } })

/-- The update packets and their commit, the Logbook reads, SETTINGS_SAVE's end, SPARE_FUSE and CORE_RETEST act as R395,
R406, R456, R500 and R503 say (R395, R406, R454, R456, R494, R496, R499, R500, R501, R503). UPDATE_BEGIN of a kind,
index and length that fit opens an update; UPDATE_DATA at the next offset appends its bytes, and is BUSY with the 64
KiB buffer full; SCRATCH_PROGRAM writes a page; UPDATE_COMMIT of a whole update is accepted. Its end, with scratch
written, puts an item that verifies into its region and nothing else, firmware waiting for its safe point, and fails
with SIGNATURE_FAIL otherwise, every region as before. UPDATE_ABORT ends an update. LOGBOOK_READ answers the region's
bytes. SETTINGS_SAVE ends with the item of the present settings, or with INTERNAL. SPARE_FUSE marks each row entry
whose word was programmed as fused, while the spare-row range has words left, CORE_RETEST returns a core that passes.
Without a Logbook, or for a save without a key, they end with INTERNAL. -/
def Obligations.UpdatesAndRepair : Prop :=
  (∀ (pk : Pkt) (s : State),
    (Heard specUpdateBegin pk s → ∀ kind index n, kind = fld (pk.p 1) 0 4 → index = fld (pk.p 1) 4 8 → n = (pk.p 2).toNat →
      kind ≤ 4 → (s.dev.mode = .recovery → kind = 0) → (kind < 3 → index = 0) → index ≤ 249 →
      n ≤ [393408, 65536, 65536, 1048576, 1048576].getD kind 0 → s.lb.update = none → s.findJob 0xB2 = none →
      Answers (exec (.updateBegin pk) s) specUpdateBegin pk s [] (fun t => { t with lb := { t.lb with update := some ⟨kind, index, n, [], 0⟩ } })) ∧
    (Heard specUpdateData pk s → ∀ u n, s.lb.update = some u → n = fld (pk.ps.getD 1 0) 0 10 → (pk.p 1).toNat = u.bytes.length →
      4 ≤ n → n ≤ 1012 → n % 4 = 0 → u.bytes.length + n ≤ u.total →
      (s.findJob 0xB2 = none → u.bytes.length - u.programmed + n ≤ 65536 →
        Answers (exec (.updateData pk) s) specUpdateData pk s []
          (fun t => { t with lb := { t.lb with update := some { u with bytes := u.bytes ++ bytes32 (pk.ps.drop 2) } } })) ∧
      (65536 < u.bytes.length - u.programmed + n →
        exec (.updateData pk) s = .next ((s.rung specUpdateData pk).reply 0xB1 pk .busy [0, 0]))) ∧
    (Heard specUpdateCommit pk s → ∀ u, s.lb.update = some u → u.total ≤ u.bytes.length → s.findJob 0xB2 = none →
      Accepts (exec (.updateCommit pk) s) specUpdateCommit pk s [] (fun slot t => t.addJob 0xB2 pk slot 0 0 0)) ∧
    (Heard specUpdateAbort pk s → s.lb.update.isSome = true → s.findJob 0xB2 = none →
      Answers (exec (.updateAbort pk) s) specUpdateAbort pk s [] (fun t => { t with lb := { t.lb with update := none } })) ∧
    (Heard specLogbookRead pk s → ∀ bs size off n, s.lb.region (fld (pk.p 1) 0 4) (fld (pk.p 1) 4 8) = some (bs, size) →
      off = (pk.p 2).toNat → n = fld (pk.p 3) 0 10 → off + n ≤ size → 4 ≤ n → n ≤ 1000 → n % 4 = 0 → s.lb.present = true →
      ∃ ws : List Nat, ws.length = n / 4 ∧
        (∀ i < n / 4, ws[i]? = some (ofLe ((List.range 4).map (fun k => bs.getD (off + 4 * i + k) 0xFF)))) ∧
        Answers (exec (.logbookRead pk) s) specLogbookRead pk s ws
          (fun t => ({ t with lb := { t.lb with fails := [], down := false } }).setPersist 0x203 0 false)) ∧
    (Heard specSpareFuse pk s → s.findJob 0xB7 = none →
      Accepts (exec (.spareFuse pk) s) specSpareFuse pk s [] (fun slot t => t.addJob 0xB7 pk slot 0 0 0)) ∧
    (Heard specCoreRetest pk s → s.ch.online.getLsbD (fld (pk.p 1) 0 4) = false → s.findJob 0xB8 = none →
      Accepts (exec (.coreRetest pk) s) specCoreRetest pk s [] (fun slot t => t.addJob 0xB8 pk slot (fld (pk.p 1) 0 4) 0 0))) ∧
  (∀ s : State,
    let ready := ({ s with lb := { s.lb with fails := [], down := false } }).setPersist 0x203 0 false
    (∀ u, s.lb.update = some u → u.programmed < u.bytes.length → s.lb.present = true →
      exec .scratchProgram s = .next
        { ready with lb := { ready.lb with update := some { u with programmed := min u.bytes.length (u.programmed + 256) } } }) ∧
    (∀ j u, s.findJob 0xB2 = some j → j.a = 0 → s.lb.update = some u →
      (s.lb.present = false → ∃ t : State, exec .updateCommitDone s = .next (t.endJob j .internal [0, 0]) ∧ t.lb.update = none ∧
        t.lb.firmware = s.lb.firmware ∧ t.lb.settings = s.lb.settings ∧ t.lb.calibration = s.lb.calibration ∧ t.lb.images = s.lb.images) ∧
      (s.lb.present = true → u.bytes.length ≤ u.programmed →
        let passed := itemOk u.kind u.bytes = true ∧ itemIndex u.bytes = u.index
        let base := { ready with lb := { ready.lb with update := none } }
        let version := itemVersion u.bytes
        ∃ t, exec .updateCommitDone s = .next t ∧
          (¬ passed → t = base.endJob j .signature [0, 0]) ∧
          (passed → u.kind = 0 → t.lb = { base.lb with firmware := u.bytes } ∧
            t.dev.newImage = some ⟨version, Config.sha256 (itemPayload u.bytes)⟩ ∧ t.dev.image = s.dev.image ∧
            (s.dev.mode ≠ .recovery → t.dev.trialUntil = s.dev.trialUntil ∧ t.esl.apt = s.esl.apt ∧
              ∀ x, x ∈ t.esl.jobs → ∃ y ∈ s.esl.jobs, x = if y = j then { j with a := 1 } else y) ∧
            (s.dev.mode = .recovery → t.dev.trialUntil = some (s.now + 1000000))) ∧
          (passed → u.kind = 1 → t = ({ base with lb := { base.lb with settings := u.bytes } }).endJob j .ok []) ∧
          (passed → u.kind = 2 → t.lb.calibration = u.bytes ∧ t.lb.settings = s.lb.settings ∧ t.lb.firmware = s.lb.firmware ∧
            (itemOk 2 u.bytes = true → ∀ k < 6, tget t.lb.asym k none = Config.calibLane (itemPayload u.bytes) k)) ∧
          (passed → 3 ≤ u.kind → t = ({ base with lb :=
            { base.lb with images := tset base.lb.images u.index u.bytes [], dirGen := base.lb.dirGen + 1 } }).endJob j .ok []))) ∧
    (∀ j, s.findJob 0x03 = some j →
      (s.lb.present = true → s.io.ksErr = false → exec .settingsSaveDone s = .next (
        let item := macItem 1 0 0 ready.settingsPayload
        ({ ready with io := { s.io with ksLabel := 5 }, lb := { ready.lb with settings := item }
                      dev := { s.dev with settingsDigest := Config.sha256 item } }).endJob j .ok [])) ∧
      (s.lb.present = false ∨ s.io.ksErr = true → ∃ t : State, exec .settingsSaveDone s = .next (t.endJob j .internal []) ∧
        t.lb.settings = s.lb.settings ∧ t.dev = s.dev ∧ (s.io.ksErr = true → ∃ p ∈ t.fc.pend, p.code = 0xA00 ∧ p.unit = 5))) ∧
    (∀ (j : Job) (results : List Bool), s.findJob 0xB7 = some j → s.lb.present = true →
      ∃ map t, exec (.spareFuseDone results) s = .next t ∧
      map.length = s.ecc.map.length ∧
      (∀ (i : Nat) (m m' : MapEntry), s.ecc.map[i]? = some m → map[i]? = some m' → m' = m ∨ (m.kind = 0 ∧ m.fused = false ∧ m' = { m with fused := true })) ∧
      (results = [] → map = s.ecc.map) ∧ (s.ident.fuseCount.toNat ≤ s.ident.fuseWords.length → map = s.ecc.map) ∧
      (∀ m ms rs, s.ecc.map = m :: ms → m.kind = 0 → m.fused = false → results = true :: rs → s.ident.fuseWords.length < s.ident.fuseCount.toNat →
        map.head? = some { m with fused := true }) ∧
      (let words := ((s.ecc.map.zip map).filter (fun e => !e.1.fused && e.2.fused)).map (fun e => fuseWord e.1)
      t.ecc.map = map ∧ t.lb.spareMap = map ∧ t.ident.fuseWords = s.ident.fuseWords ++ words ∧
      t.ident.sparesFused = s.ident.sparesFused + words.length ∧ t.ch = s.ch ∧ t.dev = s.dev ∧ t.chart = s.chart ∧
      t.esl = (s.endJob j .ok [words.length]).esl)) ∧
    (∀ j, s.findJob 0xB8 = some j → exec (.coreRetestDone false) s = .next (s.endJob j .ok [0]) ∧
      (j.a < 16 → ∃ t, exec (.coreRetestDone true) s = .next t ∧
        t.ecc.map = s.ecc.map.filter (fun m => !(decide (m.kind = 2 ∧ m.bank = j.a) || decide (m.kind = 1 ∧ m.bank = 12 + j.a))) ∧
        (∀ c < 16, t.ch.online.getLsbD c = (decide (c = j.a) || s.ch.online.getLsbD c) ∧ t.ch.domOn.getLsbD c = (decide (c = j.a) || s.ch.domOn.getLsbD c)) ∧
        t.ch.queue = s.ch.queue ∧ t.ch.cores = s.ch.cores ∧ (t.bank (2 * (12 + j.a))).failed = false ∧
        (∀ k, k ≠ 2 * (12 + j.a) → t.bank k = s.bank k) ∧ (s.lb.present = true → t.lb.spareMap = t.ecc.map) ∧
        t.esl = (s.endJob j .ok [1]).esl)))

/-- Plug-in, the button, the Service Trace Port's lanes and frames, STP_CONTROL and SERVICE_STATUS act as R504 to R512 say
(R406, R425, R427, R504, R505, R506, R507, R508, R509, R510, R511, R512). With the block awake, a plug-in trains the
lanes that are up and, with stp_auto, streams when link 3 holds a key; an unplug ends streaming, discards and counts
the lighters, aborts a frame and drops the short press. A press is timed 10 ms before its recognition, a release
within 2 s is a short press that acts 50 ms later: a MARKER record of source 138 to the harbourmaster and to each
ACTIVE charter in marker mode, then the trigger SERVICE_MARK. A hold of 2 s toggles streaming, one of 20 s is stuck.
More than 5 edges in 100 ms is a noisy window. A lane trains, idles 90 ms after 10 ms without TRAIN_ACK, is UP with
it, pauses, and carries frames, an SOF and 515 data words, under its counter. -/
def Obligations.ServicePort : Prop :=
  (∀ (pk : Pkt) (s : State),
    (Heard specStpControl pk s → (flag (pk.p 1) 0 = true → (s.linkKey 3 false).isSome = true) →
      Answers (exec (.stpControl pk) s) specStpControl pk s [] (fun t => { t with svc :=
        { t.svc with streaming := flag (pk.p 1) 0, autoOn := t.svc.autoOn && flag (pk.p 1) 0 } })) ∧
    (Heard specServiceStatus pk s → Answers (exec (.serviceStatus pk) s) specServiceStatus pk s
      [b2n s.svc.present + b2n s.svc.streaming * 2 + b2n s.svc.lane0.up * 4 + b2n s.svc.lane1.up * 8 + b2n s.svc.stuck * 16 + b2n s.svc.noise * 32,
        s.svc.missed] (fun t => t))) ∧
  (∀ s : State, s.lk.st = .underway → s.lk.entering = none →
    let v := s.svc
    let keyed := (s.linkKey 3 false).isSome
    let acts := s.dev.mode = .startup ∨ s.dev.mode = .service ∨ s.dev.mode = .test
    let may := v.limiting = false ∨ (∀ a, v.lastAct = some a → a + 1000000000 ≤ s.now)
    let lanes (f : Bool → StpLane) : State := { s with svc := { v with lane0 := f false, lane1 := f true } }
    let training (x : StpLane) : StpLane := if x.up then { x with st := 1, since := s.now, pauseUntil := none, word := 1 } else x
    (v.present = false → exec .svcPlugIn s = .next { s with svc := { v with
      present := true, lane0 := training v.lane0, lane1 := training v.lane1
      streaming := v.streaming || (v.stpAuto && keyed), autoOn := if v.stpAuto = true then !keyed else v.autoOn } }) ∧
    (v.present = true → ∃ t, exec .svcUnplug s = .next t ∧ t.svc.present = false ∧ t.svc.streaming = false ∧ t.svc.button = .released ∧
      t.svc.shortDue = none ∧ t.svc.buf = [] ∧ t.svc.missed = min (2 ^ 32 - 1) (v.missed + v.buf.length) ∧
      (∀ l, (t.svc.lane l).st = 0 ∧ (t.svc.lane l).word = (if (v.lane l).st = 3 then 3 else 1) ∧ (t.svc.lane l).ctr = (v.lane l).ctr) ∧
      t.persisting 0xC00 0 = false ∧ t.fc.slots = s.fc.slots ∧ t.chart = s.chart ∧ t.dev = s.dev) ∧
    (v.present = true → v.button = .released → exec .buttonPress s = .next { s with svc := { v with
      button := .pressed, pressAt := s.now - 10000000, pressTs := s.ts - 4 * s.clk.phase - 40000000 } }) ∧
    (v.button = .pressed → exec .buttonRelease s = .next { s with svc := { v with
      button := .released
      shortDue := if s.now - 10000000 < v.pressAt + 2000000000 then some (s.now + 50000000) else v.shortDue } }) ∧
    (v.button = .held → exec .buttonRelease s = .next { s with svc := { v with button := .released } }) ∧
    (v.button = .stuck → ∃ t, exec .buttonRelease s = .next t ∧ t.svc = { v with button := .released, stuck := false } ∧
      t.persisting 0xC00 0 = false ∧ t.fc.slots = s.fc.slots) ∧
    (v.button = .pressed → v.pressAt + 2000000000 ≤ s.now → ∃ u : Svc, exec .buttonHold s = .next { s with svc := u } ∧ u.button = .held ∧
      u.presses = v.presses ∧ u.lane0 = v.lane0 ∧ u.buf = v.buf ∧
      (acts → may → u.lastAct = some s.now ∧ u.streaming = (if v.streaming = false ∧ keyed = true then true else false)) ∧
      (¬ acts → u = { v with button := .held }) ∧
      (acts → ¬ may → u = { v with button := .held, dropped := v.dropped + 1 })) ∧
    (v.button = .held → v.pressAt + 20000000000 ≤ s.now →
      exec .buttonStuck s = .next ((({ s with svc := { v with button := .stuck, stuck := true } }).raise 0xC00 0 0).setPersist 0xC00 0 true)) ∧
    (∀ due, v.shortDue = some due → due ≤ s.now →
      let n := (v.presses + 1) % 2 ^ 16
      let pressed := { s with svc := { v with shortDue := none, presses := n } }
      (¬ acts → exec .shortPress s = .next pressed) ∧
      (acts → ¬ may → exec .shortPress s = .next { pressed with svc := { pressed.svc with dropped := v.dropped + 1 } }) ∧
      (acts → may → ∃ os : List Nat, (∀ o, o ∈ os ↔ o < 16 ∧ s.active o = true ∧ s.esl.marker.getLsbD o = true) ∧ os.Nodup ∧
        exec .shortPress s = .next (((16 :: os).foldl (fun (t : State) o => t.emit 138 o 0x0E 1 v.pressTs (n + 2 ^ 16) [0])
          { pressed with svc := { pressed.svc with lastAct := some s.now } }).fireTrigger 3 0))) ∧
    (∀ edges, 5 < edges → exec (.buttonNoiseWindow edges) s = .next (
      let noisy := { s with svc := { v with noisyRun := v.noisyRun + 1, quietRun := 0, limiting := true } }
      if v.noisyRun + 1 = 100 then ({ noisy with svc := { noisy.svc with noise := true } }).raise 0xC01 0 0 else noisy)) ∧
    (∀ edges, edges ≤ 5 → exec (.buttonNoiseWindow edges) s = .next { s with svc := { v with
      noisyRun := 0, quietRun := v.quietRun + 1, limiting := v.limiting && decide (v.quietRun < 9), noise := v.noise && decide (v.quietRun < 9) } }) ∧
    (∀ up : BitVec 2, ∃ y : Bool → StpLane, exec (.stpLaneUp up) s = .next (lanes y) ∧ ∀ l, let x := v.lane l
      (y l).up = up.getLsbD (if l then 1 else 0) ∧ (y l).ctr = x.ctr ∧ ((y l).up = x.up → y l = x) ∧
      ((y l).up = true → x.up = false → (y l).st = (if v.present = true then 1 else 0) ∧ (y l).since = s.now) ∧
      ((y l).up = false → x.up = true → (y l).st = 0 ∧ (y l).word = 1)) ∧
    exec .stpTrain s = .next (lanes (fun l => let x := v.lane l
      let train := BitVec.ofNat 64 (0x10 + s.chip * 2 ^ 8 + (if l then 1 else 0) * 2 ^ 10 + x.ctr / 2 ^ 32 % 2 ^ 32 * 2 ^ 32)
      if x.st = 1 then { x with word := train } else x)) ∧
    (∀ ok : BitVec 2, v.present = true → v.lane0.up = true → exec (.trainAck ok) s = .next (lanes (fun l => let x := v.lane l
      if x.st = 1 ∧ ok.getLsbD (if l then 1 else 0) = true then { x with st := 3, since := s.now, word := 1 } else x))) ∧
    exec .stpTrainTimeout s = .next (lanes (fun l => let x := v.lane l
      if x.st = 1 ∧ x.since + 10000000 ≤ s.now then { x with st := 2, since := s.now, word := 1 } else x)) ∧
    exec .stpTrainRetry s = .next (lanes (fun l => let x := v.lane l
      if x.st = 2 ∧ x.since + 90000000 ≤ s.now then { x with st := 1, since := s.now } else x)) ∧
    (∀ (named : BitVec 2) (dur : BitVec 10), dur.toNat ≤ 1000 → v.lane0.up = true → exec (.pause named dur) s = .next (lanes (fun l =>
      let x := v.lane l
      if named.getLsbD (if l then 1 else 0) = true ∧ x.st = 3 then
        (if dur = 0 then { x with pauseUntil := none } else { x with pauseUntil := some (s.now + dur.toNat * 1000), word := 1 }) else x))) ∧
    (∀ (lane : Bool) (until_ : Nat), (v.lane lane).pauseUntil = some until_ → until_ ≤ s.now →
      exec (.pauseEnd lane) s = .next (lanes (fun l => if l = lane then { v.lane l with pauseUntil := none } else v.lane l))) ∧
    (∀ lane : Bool, keyed = true → (v.lane lane).st = 3 → (v.lane lane).pauseUntil = none → (v.lane lane).ctr + 1 < 2 ^ 64 →
      ((v.lane !lane).st ≠ 3 ∨ (v.lane !lane).pauseUntil ≠ none ∨ v.next = lane) → ∃ (x : Bool → StpLane) (words : List W64),
      exec (.stpFrame lane) s = .next { s with svc := { v with
        lane0 := x false, lane1 := x true, buf := if v.streaming = true ∧ v.buf ≠ [] then v.buf.drop 1 else v.buf
        next := !lane, sent := some (lane, (true, BitVec.ofNat 64 (2 + 515 * 2 ^ 8)) :: words.map (fun w => (false, w))) } } ∧
      x lane = { v.lane lane with ctr := (v.lane lane).ctr + 1, word := BitVec.ofNat 64 (2 + 515 * 2 ^ 8) } ∧ x (!lane) = v.lane (!lane) ∧
      words.length = 515 ∧ ∀ i k b, s.linkKey 3 false = some (i, k) → b = (v.buf.head?.map (·.2)).getD [] →
        let h := (if v.streaming = true ∧ v.buf ≠ [] then 1 else 2) + s.chip * 2 ^ 8 + 0xFF * 2 ^ 16 + (if lane then 1 else 0) * 2 ^ 24 +
          (v.lane lane).ctr % 2 ^ 32 * 2 ^ 32
        let nonce := leBytes 1 7 ++ leBytes 1 s.chip ++ leBytes 1 0xFF ++ leBytes 1 (if lane then 1 else 0) ++ leBytes 8 (v.lane lane).ctr
        let data := bytes64 (if v.streaming = true ∧ v.buf ≠ [] then b else List.replicate 512 0)
        words.head? = some (BitVec.ofNat 64 h) ∧
        (words.drop 1).take 512 = fillWords 512 (words64 (gcmText k.key nonce data)) ∧
        (words.getD 513 0).toNat = (gcmTag k.key nonce (leBytes 8 h) data).toNat % 2 ^ 64 ∧
        (words.getD 514 0).toNat = (gcmTag k.key nonce (leBytes 8 h) data).toNat / 2 ^ 64))

/-- The patrol's visits, the checker self-test, row sparing, the suspect table, the leaky buckets and the merge timeout
act as R443 to R458 say (R438, R441, R443, R444, R447, R448, R450, R451, R452, R453, R457, R458). A due visit of a
clocked bank, with no word passed over left, moves on by one word. A side vote is only counted. A correction is
counted, fills the bucket, writes the word back and puts it into the suspect table; an uncorrectable word is counted
and rewritten poisoned with UE_PATROL, stopping the Keeper in bank 30 and raising LEDGER_INTEGRITY in the ledger's
banks; a bank with uncorrectable words in 4 rows fails, is fenced and enters the map. A checker self-test starts the
pass, raises ECC_CHECKER when it fails, and fails the bank the second time. A finished migration spends the lowest
free spare, enters the map and raises ROW_SPARED. A suspect older than 72 h leaves. Each bucket leaks 1 per 10 s. A
partial merge entry 64 bank cycles old is completed, its word decoded first, or written poisoned on a parity error. -/
def Obligations.StoredWords : Prop :=
  ∀ (bank : Fin 34) (copy : Bool) (s : State),
    let b := bank.val
    let k := 2 * b + (if copy = true ∧ b = 32 then 1 else 0)
    let x := s.bank k
    let clocked := s.lk.st = .underway ∧ s.dev.phase = .running ∧ (b < 12 ∨ 28 ≤ b ∨ s.ch.domOn.getLsbD (b - 12) = true)
    let raised (t : State) (code unit detail : Nat) : Prop := ∃ p ∈ t.fc.pend, p.code = code ∧ p.unit = unit ∧ p.detail = BitVec.ofNat 32 detail
    let fails (t : State) : Prop := (t.bank k).failed = true ∧ ∃ m ∈ t.ecc.map, m.kind = 1 ∧ m.bank = b
    (clocked → x.failed = false → x.fourRows = true → ∀ obs, ∃ t, exec (.patrolVisit bank copy obs) s = .next t ∧ (b < 12 ∨ 28 ≤ b ∨ s.ch.run = none → fails t)) ∧
    (clocked → x.failed = false → x.ueRows.length < 3 → x.passNo ≠ 0 → x.pos < s.duePos b x → (∀ e ∈ x.merge, e.word ≠ x.pos) → x.nextWord = none →
      ∀ obs, ∃ t, exec (.patrolVisit bank copy obs) s = .next t ∧
        (obs = .sideVote → s.patrolSees b copy x.pos obs = 0 → (t.bank k).ce = min (2 ^ 32 - 1) (x.ce + 1) ∧ (t.bank k).bucket = min 16 (x.bucket + 1) ∧
          (t.bank k).suspects = x.suspects ∧ (t.bank k).pos = x.pos + 1) ∧
        (obs ≠ .sideVote → (s.opReads b x.pos = false → (t.bank k).pos = x.pos + 1) ∧
        match s.patrolSees b copy x.pos obs with
        | 1 =>
          (t.bank k).ce = min (2 ^ 32 - 1) (x.ce + 1) ∧ (t.bank k).bucket = min 16 (x.bucket + 1) ∧ (t.bank k).ue = x.ue ∧
          (∀ e ∈ x.suspects, e.word = x.pos → { e with count := e.count + 1 } ∈ (t.bank k).suspects) ∧
          ((∀ e ∈ x.suspects, e.word ≠ x.pos) → ⟨x.pos, 1, s.clk.powered⟩ ∈ (t.bank k).suspects ∧ (t.bank k).suspects.length ≤ max 32 x.suspects.length) ∧
          ((∀ e ∈ (t.bank k).suspects, e.count < 3) → (t.bank k).migrating = x.migrating) ∧
          (∀ e ∈ (t.bank k).suspects, 3 ≤ e.count → x.migrating = none → s.freeSpare b ≠ none → (t.bank k).migrating.isSome = true) ∧
          (x.bucket = 16 → s.win.eccOvf.getLsbD b = false → t.win.eccOvf.getLsbD b = true ∧ raised t 0xB02 b 0) ∧
          (∀ w, s.word? b copy x.pos = some w → ∃ y, t.word? b copy x.pos = some y ∧ y.data = w.read b x.pos ∧ y.valid = true ∧ y.poison = false ∧
            y.check = Config.eccCheck (if b = 30 ∨ b = 32 then 32 else 128) x.pos y.data)
        | 2 =>
          (b = 32 ∧ s.mirrorOk copy x.pos = true → (t.bank k).ce = min (2 ^ 32 - 1) (x.ce + 1) ∧ (t.bank k).ue = x.ue ∧ t.word? b copy x.pos = none) ∧
          (¬ (b = 32 ∧ s.mirrorOk copy x.pos = true) → s.opReads b x.pos = false →
            (t.bank k).ue = min (2 ^ 32 - 1) (x.ue + 1) ∧ (t.bank k).ce = x.ce ∧ (∃ y, t.word? b copy x.pos = some y ∧ y.data = 0 ∧ y.poison = true) ∧
            (b ≠ 30 → raised t 0xB01 b x.pos ∧ t.dev = s.dev) ∧ (8 ≤ b ∧ b < 12 ∨ b = 33 → raised t 0x501 b 0) ∧
            (b = 30 → t.dev = { s.dev with restarting := true, down := true, reload := true }))
        | _ => t = s.setBank k { x with pos := x.pos + 1 })) ∧
    (clocked → x.failed = false → x.passNo = 0 ∨ (x.pos = bankWords b ∧ x.passAt + s.passNs ≤ s.now) → ∀ pass, ∃ t,
      exec (.checkerSelfTest bank copy pass) s = .next t ∧
      let at_ := if x.passNo = 0 then s.now else x.passAt + s.passNs
      let u := s.setBank k { x with passNo := x.passNo + 1, pos := 0, again := [], passAt := at_, selfFails := (if pass then 0 else x.selfFails + 1) }
      (pass = true → t = u) ∧ (pass = false → x.selfFails = 0 → t = u.raise 0xB05 b 0) ∧ (pass = false → x.selfFails ≠ 0 → b < 12 ∨ 28 ≤ b ∨ s.ch.run = none → fails t)) ∧
    (∀ row spare, x.migrating = some row → s.freeSpare b = some spare → ∃ t, exec (.rowMigrationDone bank copy) s = .next t ∧
      spare < bankSpares b ∧ (∀ i < spare, i ∈ s.sparesUsed b) ∧ (⟨0, b, row, spare, false⟩ : MapEntry) ∈ t.ecc.map ∧
      (t.bank k).spares = x.spares + 1 ∧ raised t 0xB03 b (row + spare * 1024) ∧
      (∀ e, e ∈ (t.bank k).suspects ↔ e ∈ x.suspects ∧ ¬ (e.word / (if b = 30 ∨ b = 32 then 256 else 64) = row ∧ 3 ≤ e.count)) ∧
      ((∀ e ∈ (t.bank k).suspects, e.count < 3) → (t.bank k).migrating = none)) ∧
    (let young := x.suspects.filter (fun e => decide (s.clk.powered ≤ e.first + 6480000000000))
     exec (.suspectExpiry bank copy) s = .next (s.setBank k { x with suspects := young })) ∧
    (∃ banks, exec .eccBucketLeak s = .next { s with ecc := { s.ecc with bank := banks } } ∧
      (∀ q, (∀ e ∈ s.ecc.bank, e.1 ≠ q) → tget banks q Bank.zero = Bank.zero) ∧
      ∀ pre post q (y : Bank), s.ecc.bank = pre ++ (q, y) :: post → (∀ e ∈ pre ++ post, e.1 ≠ q) → tget banks q Bank.zero =
        if s.now < y.leakAt + 10000000000 then y
        else { y with bucket := y.bucket - 1, leakAt := s.now / 10000000000 * 10000000000 }) ∧
    (∀ e rest, (s.bank (2 * b)).merge = e :: rest → s.lk.st = .underway → e.atNs + (if 12 ≤ b ∧ b < 28 then 54 else 32) ≤ s.now →
      (∃ t, exec (.mergeRmwTimeout ⟨bank, true⟩) s = .next t ∧ e ∉ (t.bank (2 * b)).merge ∧ t.fc = s.fc ∧
        ∃ y, t.word? b false e.word = some y ∧ y.data = 0 ∧ y.poison = true) ∧
      ∃ t, exec (.mergeRmwTimeout ⟨bank, false⟩) s = .next t ∧ (s.opReads b e.word = false → e ∉ (t.bank (2 * b)).merge) ∧
        match s.word? b false e.word with
        | none => t.word? b false e.word = none ∧ t.fc = s.fc
        | some w =>
          match w.result b e.word with
          | 0 => t.word? b false e.word = none ∧ t.fc = s.fc
          | 1 => t.word? b false e.word = none ∧ (t.bank (2 * b)).ce = min (2 ^ 32 - 1) ((s.bank (2 * b)).ce + 1)
          | 2 => s.opReads b e.word = false → (t.bank (2 * b)).ue = min (2 ^ 32 - 1) ((s.bank (2 * b)).ue + 1) ∧ raised t 0xB01 b e.word ∧
              ∃ y, t.word? b false e.word = some y ∧ y.data = 0 ∧ y.poison = true
          | _ => t.word? b false e.word = some w)

/-- At a probe that captures, issues, retires, samples, stages, event edges, charter switches and HCLK edges act as 04
says (R138, R139, R147, R154, R159, R160, R163, R165, R169, R170, R178, R539). An issue steps the LFSR, enters the
command into those in flight, tags it when random tagging selects it and fewer than 4 are tagged, and emits CMD_ISSUE,
after LAYER_ENTER when a charter with layer identification changes its layer. A retire takes it out, with its latency
in edges, steps the precise sampler in SERVICE, and emits CMD_RETIRE and the tagged SAMPLE. PRECISE_SAMPLE and
STAGE_ENTRY emit theirs or lose them with the buffer full. An enabled EVT edge is emitted, or suppressed within 63
edges. CHARTER_SWITCH is recorded. An HCLK edge adds each enabled counter's increment modulo its width, lands writes
and clears, counts the tallies, shows a change that a stream owes, and lets the writes answer. COUNTER_WRAP sets OVF,
the record and the interrupt. -/
def Obligations.PaiEvents : Prop :=
  ∀ (p : Fin 128) (s : State), s.probeRuns p.val = true →
    let x := s.probe p.val
    let ts := s.probeTs p.val
    let idOn (c : PaiCmd) := c.priv = false ∧ s.esl.idMode.getLsbD c.charter.toNat = true ∧ s.active c.charter.toNat = true
    let word2 (c : PaiCmd) (lat : Nat) := c.tag.toNat + c.op.toNat * 2 ^ 24 + min 0xFFFFF lat * 2 ^ 40
    let others (c : PaiCmd) := x.inflight.filter (fun f => decide (f.cmd.tag.toNat % 256 ≠ c.tag.toNat % 256))
    (∀ c : PaiCmd,
      let l := if x.lfsr.getLsbD 31 = true then (x.lfsr <<< 1) ^^^ 0x00400007 else x.lfsr <<< 1
      let sel := decide (s.dev.mode = .startup ∨ s.dev.mode = .test ∨ s.dev.mode = .recovery) && x.cfg.sampler.enable &&
        x.cfg.sampler.flt.cmd x.cfg c && decide (l.toNat % 2 ^ x.cfg.sampler.k = 0)
      let tag := sel && decide (x.tagged.length < 4)
      let y := { x with
        lfsr := l, inflight := others c ++ [⟨c, x.edge + 1, ts, false⟩]
        tagged := if tag = true then x.tagged ++ [⟨c.tag, x.edge + 1, ts, x.cfg.sampler.flt.sampleOwner⟩] else x.tagged
        ev := { x.ev with iss := some c, issTagged := tag, issSkipped := sel && !tag } }
      let record (t : State) := if x.cfg.cmdOn = true ∧ x.cfg.cmdFlt.cmd x.cfg c = true then
        t.emit p.val x.cfg.cmdOwner 0x10 3 ts (c.cls.toNat + c.mid.toNat * 16) [c.addr.toNat + c.layer.toNat * 2 ^ 48, word2 c 0] else t
      (∃ t : State, exec (.commandIssue p c) s = .next t ∧ (t.probe p.val).lfsr = y.lfsr ∧ (t.probe p.val).inflight = y.inflight ∧
        (t.probe p.val).tagged = y.tagged ∧ (t.probe p.val).cnt = x.cnt ∧ (t.probe p.val).cfg = x.cfg) ∧
      (¬ idOn c ∨ tget x.curLayer c.charter.toNat 0 = c.layer.toNat + 1 → exec (.commandIssue p c) s = .next (record (s.setProbe p.val y))) ∧
      (idOn c → tget x.curLayer c.charter.toNat 0 ≠ c.layer.toNat + 1 → (∀ r ∈ x.layers, r.charter ≠ c.charter) →
        exec (.commandIssue p c) s = .next (record
          (((s.setProbe p.val y).emit p.val c.charter.toNat 0x0C 1 ts c.layer.toNat [c.tag.toNat + c.op.toNat * 2 ^ 24]).setProbe p.val
            { y with curLayer := tset x.curLayer c.charter.toNat (c.layer.toNat + 1) 0, layers := x.layers ++ [⟨c.charter, c.layer, c.op, false⟩] })))) ∧
    (∀ (c : PaiCmd) (flushed : Bool),
      let pass := x.cfg.sampler.enable && decide (s.dev.mode = .service) && !flushed && x.cfg.sampler.flt.cmd x.cfg c
      (∃ t : State, exec (.commandRetire p c flushed) s = .next t ∧ (t.probe p.val).inflight = others c ∧
        (t.probe p.val).tagged = x.tagged.filter (fun e => decide (e.tag ≠ c.tag)) ∧ (t.probe p.val).cnt = x.cnt ∧ (t.probe p.val).cfg = x.cfg ∧
        (t.probe p.val).countdown = if pass = true ∧ x.countdown ≤ 1 then x.interval else if pass = true then x.countdown - 1 else x.countdown) ∧
      (∀ f, x.inflight.find? (fun f => decide (f.cmd.tag.toNat % 256 = c.tag.toNat % 256)) = some f → (∀ r ∈ x.layers, r.superseded = false) →
        let lat := x.edge + 1 - f.edge
        let str := f.stretched
        let y := { x with
          inflight := others c, tagged := x.tagged.filter (fun e => decide (e.tag ≠ c.tag))
          countdown := if pass = true ∧ x.countdown ≤ 1 then x.interval else if pass = true then x.countdown - 1 else x.countdown
          due := if pass = true ∧ x.countdown ≤ 1 then some (c, lat, ts - f.ts, ts, str) else x.due
          ev := { x.ev with ret := some c, retFlushed := flushed, retLat := lat } }
        let u := if x.cfg.cmdOn = true ∧ x.cfg.cmdFlt.cmd x.cfg c = true then (s.setProbe p.val y).emit p.val x.cfg.cmdOwner 0x11 3 ts
          (c.cls.toNat + c.mid.toNat * 16 + b2n flushed * 2 ^ 12) [c.addr.toNat + c.layer.toNat * 2 ^ 48, word2 c lat] else s.setProbe p.val y
        ((∀ e ∈ x.tagged, e.tag ≠ c.tag) → exec (.commandRetire p c flushed) s = .next u) ∧
        (∀ e, x.tagged.find? (fun e => decide (e.tag = c.tag)) = some e → ((u.queue p.val).filter (fun r => r.inBuffer p.val)).length < 64 →
          exec (.commandRetire p c flushed) s =
            .next (u.emit p.val e.owner 0x12 2 ts (min 0xFFFFF lat) (sampleWords c lat (ts - f.ts) true flushed str))))) ∧
    (∀ c lat latQt at_ str, x.due = some (c, lat, latQt, at_, str) →
      let u := s.setProbe p.val { x with due := none }
      let full := 64 ≤ ((s.queue p.val).filter (fun r => r.inBuffer p.val)).length
      let o := x.cfg.sampler.flt.sampleOwner
      (¬ full → exec (.preciseSample p) s = .next ((u.emit p.val o 0x12 2 at_ (min 0xFFFFF lat) (sampleWords c lat latQt false false str)).setProbe p.val
        { x with due := none, ev := { x.ev with sampled := true } })) ∧
      (full → s.canEmit p.val o = true → ∃ t : State, exec (.preciseSample p) s = .next t ∧
        t.probe p.val = { x with due := none, ev := { x.ev with sampled := true, lost := true } } ∧ t.queue p.val = s.queue p.val)) ∧
    (∀ (stage : Fin 8) (tid : BitVec 8),
      let y := { x with ev := { x.ev with stages := setBit x.ev.stages stage.val true } }
      let mine := x.tagged.filter (fun e => decide (e.tag.toNat % 256 = tid.toNat))
      (∃ t : State, exec (.stageEntry p stage tid) s = .next t ∧ (t.probe p.val).ev.stages = y.ev.stages ∧ (t.probe p.val).tagged = x.tagged ∧
        (t.probe p.val).cnt = x.cnt) ∧
      (mine = [] → exec (.stageEntry p stage tid) s = .next (s.setProbe p.val y)) ∧
      (∀ e, mine = [e] → ((s.queue p.val).filter (fun r => r.inBuffer p.val)).length < 64 → exec (.stageEntry p stage tid) s = .next
        ((s.setProbe p.val y).emit p.val e.owner 0x13 2 ts (min 0xFFFFF (x.edge + 1 - e.edge)) [e.tag.toNat + stage.val * 2 ^ 24]))) ∧
    (∀ (line : Fin 64) (rising : Bool) (levels : BitVec 64), x.evt.getLsbD line.val ≠ rising → levels.getLsbD line.val = rising →
      (if rising then x.cfg.rise else x.cfg.fall).getLsbD line.val = true →
      let w := tget x.windows line.val ⟨0, 0, 0⟩
      let put (v : EvtWin) := tset x.windows line.val v ⟨0, 0, 0⟩
      (w.start ≠ 0 → x.edge + 1 ≤ w.start + 63 → exec (.evtEdge p line rising levels) s = .next (s.setProbe p.val { x with
        windows := put ⟨w.start, w.count + 1, if w.count = 0 then ts else w.first⟩, ev := { x.ev with suppressed := x.ev.suppressed + 1 } })) ∧
      (w.start = 0 ∨ w.start + 63 < x.edge + 1 → w.count = 0 → exec (.evtEdge p line rising levels) s = .next
        ((s.setProbe p.val { x with windows := put ⟨x.edge + 1, 0, 0⟩ }).emit p.val x.cfg.edgeOwner 0x16 2 ts (line.val + b2n rising * 64)
          [levels.toNat])) ∧
      (w.start = 0 ∨ w.start + 63 < x.edge + 1 → w.count ≠ 0 → exec (.evtEdge p line rising levels) s = .next
        ((((s.setProbe p.val { x with windows := put ⟨w.start, 0, 0⟩ }).emit p.val x.cfg.edgeOwner 0x0B 1 w.first
            (line.val + min 63 w.count * 64) []).setProbe p.val
          { x with windows := tset (put ⟨w.start, 0, 0⟩) line.val ⟨x.edge + 1, 0, 0⟩ ⟨0, 0, 0⟩ }).emit p.val x.cfg.edgeOwner 0x16 2 ts
          (line.val + b2n rising * 64) [levels.toNat]))) ∧
    (∀ line : Fin 64,
      let w := tget x.windows line.val ⟨0, 0, 0⟩
      w.count ≠ 0 → w.start + 63 ≤ x.edge → exec (.rateExceeded p line) s = .next
        ((s.setProbe p.val { x with windows := tset x.windows line.val ⟨w.start, 0, 0⟩ ⟨0, 0, 0⟩ }).emit p.val x.cfg.edgeOwner 0x0B 1 w.first
          (line.val + min 63 w.count * 64) [])) ∧
    (∀ (charter : BitVec 4) (priv : Bool),
      let code (v : Bool) (c : BitVec 4) := if v then 16 else c.toNat
      let new := code priv charter
      let prev := code x.curPriv x.curCharter
      new ≠ prev → exec (.charterSwitch p charter priv) s = .next
        (let u := s.setProbe p.val { x with curCharter := charter, curPriv := priv }
        if x.cfg.cswitch = true then u.emit p.val 16 0x07 1 ts (new + prev * 32) [] else u)) ∧
    (∀ e : PaiEdge, ∃ y : Probe, exec (.hclkEdge p e) s = .next (((s.setProbe p.val y).paySync p.val ts).settleWrites) ∧
      ((∀ o < 17, (s.stream p.val o).owe = false) → s.esl.applying = [] → exec (.hclkEdge p e) s = .next (s.setProbe p.val y)) ∧
      let counts := x.cfg.fixedOwner = 16 ∨ (e.curPriv = false ∧ e.curCharter.toNat = x.cfg.fixedOwner)
      let inc (i : Nat) := if x.cfg.enable.getLsbD i = false then 0
        else if 5 ≤ i then eventInc x e (s.probeUnits p.val) (s.probeW p.val) (tget x.cfg.pmc (i - 5) Pmc.zero)
        else if ¬ counts then 0 else if i = 0 then 1
        else ((List.range (s.probeW p.val)).filter (fun j => decide (bits e.slotCls.toNat (2 * j) 2 = i - 1))).length
      y.edge = x.edge + 1 ∧ y.lastEdgeTs = ts ∧ y.prevEdgeTs = x.lastEdgeTs ∧ y.evt = e.evt ∧ y.curCharter = e.curCharter ∧ y.curPriv = e.curPriv ∧
      y.stretch = e.stretch ∧ y.cfg = x.cfg ∧ y.ovf = x.ovf &&& ~~~x.clr ∧ y.wr = [] ∧ y.clr = 0 ∧ y.tagged = x.tagged ∧ y.shadow = x.shadow ∧
      (∀ i < 13, (tget x.wr i 0 = 0 → tget y.cnt i 0 = (tget x.cnt i 0 + inc i) % 2 ^ (if i = 0 then 64 else 48)) ∧
        (tget x.wr i 0 ≠ 0 → tget y.cnt i 0 = tget x.wr i 0 - 1) ∧
        y.carry.getLsbD i = (x.carry.getLsbD i || decide (2 ^ (if i = 0 then 64 else 48) ≤ tget x.cnt i 0 + inc i))) ∧
      (∀ u < 64, tget y.busy u 0 = (if x.cfg.enable.getLsbD 0 = true ∧ counts ∧ e.busy.getLsbD u = true then (tget x.busy u 0 + 1) % 2 ^ 24 else tget x.busy u 0) ∧
        tget y.stall u 0 = (if x.cfg.enable.getLsbD 0 = true ∧ counts ∧ e.stall.getLsbD u = true then (tget x.stall u 0 + 1) % 2 ^ 24 else tget x.stall u 0))) ∧
    (∀ i : Fin 13, x.carry.getLsbD i.val = true →
      let u := s.setProbe p.val { x with carry := setBit x.carry i.val false, ovf := setBit x.ovf i.val true }
      let m := tget x.cfg.pmc (i.val - 5) Pmc.zero
      let o := tget x.cfg.pmcOwner (i.val - 5) 16
      let v := if m.ovfRec = true then u.emit p.val o 0x15 2 x.lastEdgeTs i.val [] else u
      (i.val < 5 → exec (.counterWrap p i) s = .next u) ∧
      (5 ≤ i.val → exec (.counterWrap p i) s = .next (if m.ovfIrq = true then { v with win := { v.win with
        ovfProbe := tset v.win.ovfProbe o (setBit (tget v.win.ovfProbe o 0) p.val true) 0 } } else v)))

/-- Dumps, snapshots, the slot invariant, stretch, halt, HRST_N, power-up and a probe's own faults act as 02 and 04 say
(R54, R101, R136, R137, R141, R152, R153, R154, R156, R157, R158, R171). TALLY_DUMP and SLOT_INVARIANT_CHECK act at
their edges; a broken invariant raises INVARIANT, re-bases and asks a snapshot. SNAPSHOT_TAKE copies the counters with
their edge's values into the shadow under the next number, raising PARITY for bad ones, or merges into a copy in
progress; SNAPSHOT_COPY_DONE ends it and serves the owners that triggered it; the periodic and FRAME_SYNC instants ask
one each. CLK_STRETCH_REPORT and _END, CLK_HALT and CLK_RESUME emit their records to each owner. HRST_N clears the
probe and its release takes a RESET snapshot. Power-up clears it and owes a LOAD. FATAL_IN, FATAL_RAIL, TCLK_LOSS and
an output link error raise theirs, the last disabling the probe. -/
def Obligations.ProbeUpkeep : Prop :=
  ∀ (p : Fin 128) (s : State), p.val < s.ident.nProbes →
    let x := s.probe p.val
    let ts := s.probeTs p.val
    let live := s.probeLive p.val
    let owners := s.probeOwnersList p.val
    let toAll (t : State) (f : State → Nat → State) : State := owners.foldl f t
    (∀ badT : BitVec 128, live = true → x.cfg.enable.getLsbD 0 = true → 2 ^ x.tallyCur ≤ x.tallyEdges → ∃ u : State, u.probes = s.probes ∧
      (badT = 0 → u = s) ∧ (∀ i < 128, badT.getLsbD i = true → ∃ q ∈ u.fc.pend, q.code = 0x401 ∧ q.unit = p.val ∧ q.detail = BitVec.ofNat 32 (13 + i)) ∧
      exec (.tallyDump ⟨p, badT⟩) s = .next
      ((u.emitTallies p.val x.cfg.fixedOwner x.lastEdgeTs 16 x.busy x.stall).setProbe p.val
        { x with busy := [], stall := [], tallyEdges := 0, tallyCur := x.cfg.tallyK })) ∧
    (live = true → 65536 ≤ x.invEdges →
      let w := s.probeW p.val
      let broken := x.cfg.enable.toNat % 32 = 31 ∧ (w * (tget x.cnt 0 0 + 2 ^ 64 - x.refCyc)) % 2 ^ 48 ≠
        (tget x.cnt 1 0 + tget x.cnt 2 0 + tget x.cnt 3 0 + tget x.cnt 4 0 + 2 ^ 50 - x.refSlots) % 2 ^ 48
      (¬ broken → exec (.slotInvariantCheck p) s = .next (s.setProbe p.val { x with invEdges := 0 })) ∧
      (broken → ∃ y : Probe, exec (.slotInvariantCheck p) s = .next (((s.setProbe p.val { x with invEdges := 0 }).setProbe p.val y).raise 0x400 p.val 0) ∧
        y.invariant = true ∧ y.refCyc = tget x.cnt 0 0 ∧ y.cnt = x.cnt ∧ y.cfg = x.cfg ∧
        y.snapReq = x.snapReq ++ [⟨6, false, true, some x.cfg.fixedOwner, none, x.edge⟩])) ∧
    (∀ (bad : BitVec 13) (badT : BitVec 128), live = true →
      let now_ := x.snapReq.filter (fun r => x.haltTs.isSome || decide (r.edge < x.edge))
      now_ ≠ [] → ∃ t : State, exec (.snapshotTake p ⟨bad, badT⟩) s = .next t ∧ (t.probe p.val).cnt = x.cnt ∧ (t.probe p.val).cfg = x.cfg ∧
        (t.probe p.val).copying = x.copying ++ now_ ∧
        (x.copying ≠ [] → (t.probe p.val).shadow = { x.shadow with
            merged := true, invariant := x.shadow.invariant || now_.any (fun r => decide (r.trigger = 6)) } ∧
          (t.probe p.val).snapReq = x.snapReq.filter (fun r => !now_.contains r)) ∧
        (x.copying = [] → let h := (t.probe p.val).shadow
          h.snapNo = (if x.shadow.snapNo = 0xFFFF then 1 else x.shadow.snapNo + 1) ∧ h.trigger = (now_.head?.map (·.trigger)).getD 0 ∧
          h.merged = decide (1 < now_.length) ∧ h.invariant = now_.any (fun r => decide (r.trigger = 6)) ∧ h.busy = true ∧ h.reset = false ∧ h.halted = x.haltTs.isSome ∧ h.invalid = bad ∧
          h.ovf = x.ovf ||| x.carry ||| x.wasOvf ∧ h.ts = (if x.haltTs.isSome then ts else x.lastEdgeTs) ∧
          (∀ i < 13, tget h.cnt i 0 = ((x.was.find? (fun e => decide (e.1 = i))).map Prod.snd).getD (tget x.cnt i 0)) ∧
          (∀ i < 13, bad.getLsbD i = true → ∃ q ∈ t.fc.pend, q.code = 0x401 ∧ q.unit = p.val ∧ q.detail = BitVec.ofNat 32 i) ∧
          (∀ i < 128, badT.getLsbD i = true → ∃ q ∈ t.fc.pend, q.code = 0x401 ∧ q.unit = p.val ∧ q.detail = BitVec.ofNat 32 (13 + i)))) ∧
    (x.copying ≠ [] → ∃ t : State, exec (.snapshotCopyDone p) s = .next t ∧
      t.probe p.val = { x with copying := [], shadow := { x.shadow with busy := false } } ∧ t.fc = s.fc ∧
      ((∀ r ∈ x.copying, r.win = none) → t.win = s.win) ∧
      (∀ r ∈ x.copying, ∀ o, r.win = some o → (t.snapWin o).pendingP.getLsbD p.val = false ∧
        ((s.snapWin o).pendingP = BitVec.ofNat 128 (2 ^ p.val) → (t.irqStatus o).getLsbD 4 = true ∧ (t.snapWin o).pending = false))) ∧
    (live = true → x.cfg.period ≠ 0 → ts / (4000 * x.cfg.period) ≠ x.lastPeriodic → exec (.periodicSnapshot p) s = .next (s.setProbe p.val
      { x with lastPeriodic := ts / (4000 * x.cfg.period), snapReq := x.snapReq ++ [⟨2, false, true, none, none, x.edge⟩] })) ∧
    (∀ at_, live = true → x.frameSnapAt = some at_ → at_ ≤ ts → exec (.frameSyncSnapshot p) s = .next (s.setProbe p.val
      { x with frameSnapAt := none, snapReq := x.snapReq ++ [⟨3, false, true, none, none, x.edge⟩] })) ∧
    (s.probeRuns p.val = true → x.stretch = true →
      let d := x.lastEdgeTs - x.prevEdgeTs
      d ≠ 0 → x.stretchReported = 0 ∨ (x.stretchReported < 8 * (max d x.stretchReported - min d x.stretchReported) ∧ x.stretchEdge + 64 ≤ x.edge) →
      exec (.clkStretchReport p) s = .next (toAll (s.setProbe p.val { x with stretchReported := d, stretchEdge := x.edge })
        (fun t o => t.emit p.val o 0x08 1 x.lastEdgeTs (min 0xFFFFF d) []))) ∧
    (live = true → x.stretch = false → x.stretchReported ≠ 0 → exec (.clkStretchEnd p) s = .next
      (toAll (s.setProbe p.val { x with stretchReported := 0 }) (fun t o => t.emit p.val o 0x08 1 ts 0 []))) ∧
    (s.probeRuns p.val = true → ∃ y : Probe,
      exec (.clkHalt p) s = .next ((((toAll s (fun t o => t.emit p.val o 0x09 1 x.lastEdgeTs 0 (s.fullTime p.val x.lastEdgeTs))).setProbe p.val y).stopStreams
        p.val).settleWrites) ∧
      y.haltTs = some x.lastEdgeTs ∧ y.wr = [] ∧ y.clr = 0 ∧ y.ovf = x.ovf &&& ~~~x.clr ∧ y.cfg = x.cfg ∧ y.edge = x.edge ∧
      (x.wr = [] → y.cnt = x.cnt) ∧ (∀ i v, x.wr = [(i, v)] → tget y.cnt i 0 = v - 1)) ∧
    (live = true → x.haltTs.isSome = true → exec (.clkResume p) s = .next (
      let u := s.setProbe p.val { x with haltTs := none }
      toAll u (fun t o => t.emitBare p.val o 0x0A 1 ts 0 (u.fullTime p.val ts)))) ∧
    (x.hrst = false → ∃ t : State, exec (.hrstNAssert p) s = .next t ∧
      let y := t.probe p.val
      y.hrst = true ∧ y.cnt = [] ∧ y.ovf = 0 ∧ y.carry = 0 ∧ y.busy = [] ∧ y.stall = [] ∧ y.tagged = [] ∧ y.inflight = [] ∧ y.due = none ∧
      y.snapReq = [] ∧ y.haltTs = none ∧ y.cfg = x.cfg ∧ y.disabled = x.disabled ∧ t.fc = s.fc ∧
      (∀ r ∈ t.queue p.val, r.ty ≠ 0x12 ∧ r.ty ≠ 0x13)) ∧
    (x.hrst = true →
      let u := s.setProbe p.val { x with
        hrst := false, lastEdgeTs := ts, edgeEpoch := x.replica.epoch, edgePart := x.replica.part, edgeSt := x.replica.st }
      (x.up = false ∨ x.disabled = true → exec (.hrstNRelease p) s = .next u) ∧
      (x.up = true → x.disabled = false → ∃ t : State, exec (.hrstNRelease p) s = .next t ∧ (t.probe p.val).hrst = false ∧
        (t.probe p.val).cnt = x.cnt ∧ (t.probe p.val).shadow.reset = true ∧ (t.probe p.val).shadow.trigger = 5 ∧ (t.probe p.val).shadow.busy = true ∧
        (x.cnt = [] → x.was = [] → ∀ i < 13, tget (t.probe p.val).shadow.cnt i 0 = 0) ∧ t.fc = s.fc)) ∧
    (x.up = false → s.probePowered p.val = true → ∃ y : Probe, exec (.probePowerUp p) s = .next
        { (s.markCut p.val).setProbe p.val y with
          time := { s.time with oweLoad := true }
          clk := { s.clk with tclk := s.clk.tclk || (decide (s.lk.st = .slack) && s.armed p.val)
                              stop := s.clk.stop && !(decide (s.lk.st = .slack) && s.armed p.val) } } ∧
      (x.cut = false → s.markCut p.val = s) ∧ y.cut = false ∧
      y.up = true ∧ y.cfg = x.cfg ∧ y.cnt = [] ∧ y.ovf = 0 ∧ y.busy = [] ∧ y.inflight = [] ∧ y.snapReq = [] ∧ y.replica.loaded = false ∧ y.hrst = x.hrst) ∧
    (∀ pos : Bool, x.up = true →
      let u := (s.setProbe p.val { x with fatalSeen := pos, railSeen := false }).setPersist 0x101 p.val false
      exec (.fatalIn p pos !pos) s = .next (if pos = false then u.setPersist 0x100 p.val false
        else if x.fatalSeen = true then u else (u.raiseFatal 0x100 p.val).setPersist 0x100 p.val true)) ∧
    (∀ v, x.railSeen = false → x.up = true → exec (.fatalRail p v) s =
      .next ((((s.setProbe p.val { x with railSeen := true, fatalSeen := false }).setPersist 0x100 p.val false).raiseFatal 0x101 p.val).setPersist 0x101 p.val true)) ∧
    (x.tclkLost = false → s.armed p.val = true → x.up = true → exec (.tclkLoss p true) s =
      .next (((s.setProbe p.val { x with tclkLost := true }).raiseFixed 0x309 p.val 0).setPersist 0x309 p.val true)) ∧
    exec (.tclkLoss p false) s = .next ((s.setProbe p.val { x with tclkLost := false }).setPersist 0x309 p.val false) ∧
    (x.disabled = false → ∃ t : State, exec (.probeOutputLinkError p) s = .next ((t.raise 0x402 p.val 0).settleWrites) ∧ (t.probe p.val).disabled = true ∧
      (t.probe p.val).inflight = [] ∧ (t.probe p.val).tagged = [] ∧ (t.probe p.val).cfg = x.cfg ∧ t.queue p.val = [] ∧ t.fc = s.fc ∧
      (∀ o, o ∈ (t.probe p.val).disabledFor ↔ o = 16 ∨ (o < 16 ∧ x.cfg.streams s.esl.idMode o = true ∧ s.active o = true)))

/-- The spine's grants, drops at a source, loss tokens and the weir engine act as R184 to R220 say (R171, R184, R188,
R189, R190, R205, R206, R207, R213, R216, R218, R219). With the spine clocked, the records that generators hold and
the beats that the probes' credits allow come first; then a channel serves a source whose head record has the lowest
class of the channel; a lone record goes into its owner's charter queue, or, not admitted, is lost, a class 1 record
holding its stream, which then takes class 0 only. Records of classes 1 to 3 that waited 2^19 qt are dropped and
noted. A loss token counts each noted loss of an ACTIVE owner in the accumulator of its key, opening one, or in the
overflow accumulator with the table full (how a closed overflow mark goes on counting is the model's, log 70). An
accumulator closes 16,384 ns after its last loss. WEIR_MARK_WRITE sends the oldest closed mark of an owner with a
destination to its priority queue, 128 ns after the last, and keeps one without room. A silent stream gives UNKNOWN
marks of cause SOURCE_SILENT from its last delivered record to now, a disabled probe standing marks of cause
PROBE_FAILED to each ACTIVE owner it served at the disable, no mark longer than 2^19 qt. -/
def Obligations.CanalFlow : Prop :=
  ∀ s : State,
    let chain (ms : List Weir) (a b : Nat) : Prop := (ms.head?.map Weir.first = some a) ∧ (ms.getLast?.map Weir.last = some b) ∧
      (∀ i x y, ms[i]? = some x → ms[i + 1]? = some y → y.first = x.last) ∧
      (∀ w ∈ ms, w.last ≤ w.first + 2 ^ 19 ∧ w.words = 2 ^ 32 - 1 ∧ w.n1 = 2 ^ 32 - 1 ∧ w.n2 = 2 ^ 32 - 1 ∧ w.n3 = 2 ^ 32 - 1)
    (∀ ch : Bool, s.lk.st = .underway →
      let c := if ch then 1 else 0
      let u := (s.payFaults.payTrigger).linkAll c
      let at_ (t : State) (src : Nat) : List Rec := if src < 128 then t.poundQ src else t.queue src
      (s.fc.owed = [] → s.ledger.owed = none → (∀ p < 128, s.queue p = []) → u = s) ∧
      ((∀ k ∈ requesters c, ∀ src ∈ sourcesOf k, u.srcHead src = none) → exec (.basinAdmit ch) s = .next u) ∧
      (∀ k m cr src, u.pickReq c = some (k, m, cr) → u.pickSource k m = some src →
        (∃ h, u.srcHead src = some h ∧ h.2.cls = m) ∧ (∀ k' ∈ requesters c, ∀ src' ∈ sourcesOf k', ∀ h, u.srcHead src' = some h → m ≤ h.2.cls) ∧
        ∃ t : State, exec (.basinAdmit ch) s = .next t ∧ t.rr (10 + c) = k + 1 ∧ t.rr k = src + 1 ∧ t.dev = s.dev ∧ t.chart = s.chart ∧ t.time = s.time) ∧
      (∀ k src (r : Rec), k ∈ requesters c → src ∈ sourcesOf k → at_ u src = [r] → u.srcHead src = some (0, r) →
        (∀ k' ∈ requesters c, ∀ src' ∈ sourcesOf k', src' ≠ src → u.srcHead src' = none) →
        r.src.toNat = src → r.len ≤ 8 → r.cls ≤ 3 → tget u.canal.losses src [] = [] → s.active r.owner = true → src ≠ 136 → src ≠ 137 →
        let held := (u.stream src r.owner).held
        ∃ t : State, exec (.basinAdmit ch) s = .next t ∧ at_ t src = [] ∧ (t.stream src r.owner).seen = true ∧
          (t.stream src r.owner).lastDeliv = s.ts ∧ (t.stream src r.owner).lastTs = r.ts ∧
          (held = false ∨ r.cls = 0 → (u.admitTo r).isSome = true →
            (t.charterQ r.owner).getLast?.bind (fun c => c.recs.getLast?) = some r ∧ t.canal.acc = u.canal.acc) ∧
          (held = false ∨ r.cls = 0 → u.admitTo r = none → t.basins = u.basins ∧ (t.stream src r.owner).held = (held || decide (r.cls = 1))) ∧
          (held = true → r.cls ≠ 0 → t.basins = u.basins ∧ (t.stream src r.owner).held = true))) ∧
    (∀ src : BitVec 8,
      let q := s.queue src.toNat
      let old (r : Rec) := decide (r.cls ≠ 0 ∧ r.inAt + 131072 ≤ s.now)
      ∃ (t : State) (ls : List Loss), exec (.sourceRecordTimeout src) s = .next t ∧ t.queue src.toNat = q.filter (fun r => !old r) ∧
        (∀ j, j ≠ src.toNat → t.queue j = s.queue j ∧ tget t.canal.losses j [] = tget s.canal.losses j []) ∧
        tget t.canal.losses src.toNat [] = tget s.canal.losses src.toNat [] ++ ls ∧
        ls.map (fun l => (l.owner, l.cls, l.words, l.ts)) = (q.filter old).map (fun r => (r.owner, r.cls, r.len, r.ts)) ∧
        (∀ r ∈ q, old r = true → r.cls = 1 → (t.stream src.toNat r.owner).resync = true) ∧ t.basins = s.basins ∧ t.canal.acc = s.canal.acc) ∧
    (s.lk.st = .underway → ∀ src : BitVec 8,
      let v := src.toNat
      let key (lost : Nat) (l : Loss) (w : Weir) := decide (w.owner = l.owner ∧ w.lost = lost ∧ w.cause = 1)
      let fresh (lost : Nat) (l : Loss) : Weir :=
        ⟨l.owner, lost, 1, l.ts, l.ts, l.words, b2n (l.cls = 1), b2n (l.cls = 2), b2n (l.cls = 3), l.epoch, l.part, 0, 0, s.now⟩
      ∃ t : State, exec (.lossToken src) s = .next t ∧ tget t.canal.losses v [] = [] ∧ t.queue v = s.queue v ∧ t.basins = s.basins ∧
        (tget s.canal.losses v [] = [] → t.canal.acc = s.canal.acc ∧ t.canal.closed = s.canal.closed) ∧
        (∀ l, tget s.canal.losses v [] = [l] →
          (s.active l.owner = false → t.canal.acc = s.canal.acc ∧ t.canal.closed = s.canal.closed) ∧
          (s.active l.owner = true → (∀ w ∈ s.canal.acc, key v l w = false) → s.canal.tableUsed < 512 →
            t.canal.acc = s.canal.acc ++ [fresh v l] ∧ t.canal.closed = s.canal.closed) ∧
          (s.active l.owner = true → (∀ w ∈ s.canal.acc, key v l w = false ∧ key 255 l w = false) → 512 ≤ s.canal.tableUsed →
            ((∀ w ∈ s.canal.closed, key 255 l w = false) → t.canal.acc = s.canal.acc ++ [fresh 255 l] ∧ t.canal.closed = s.canal.closed) ∧
            ((∃ w ∈ s.canal.closed, key 255 l w = true) → v ≠ 255 → t.canal.acc = s.canal.acc ∧ t.canal.closed.length = s.canal.closed.length)) ∧
          (∀ w, s.active l.owner = true → s.canal.acc = [w] → key v l w = true → s.canal.tableUsed < 512 →
            let fits := l.epoch = w.epoch ∧ l.part = w.part ∧ w.first ≤ l.ts ∧ l.ts < w.first + 2 ^ 18
            (fits → t.canal.closed = s.canal.closed ∧ t.canal.acc = [{ w with
              last := max w.last l.ts, words := w.words + l.words, lastAt := s.now
              n1 := w.n1 + b2n (l.cls = 1), n2 := w.n2 + b2n (l.cls = 2), n3 := w.n3 + b2n (l.cls = 3) }]) ∧
            (¬ fits → t.canal.closed = s.canal.closed ++ [w] ∧ t.canal.acc = [fresh v l])))) ∧
    (∀ idx w, s.canal.acc[idx]? = some w → s.lk.st = .underway →
      (w.lastAt + 16384 ≤ s.now → exec (.weirAccumTimeout idx) s = .next { s with canal := { s.canal with
        acc := s.canal.acc.take idx ++ s.canal.acc.drop (idx + 1), closed := s.canal.closed ++ [w] } }) ∧
      (s.now < w.lastAt + 16384 → s.used w.owner * 8 ≤ s.baseCells w.owner * 7 → ∃ t : State, exec (.weirAccumTimeout idx) s = .next t ∧
        ∀ x, x ∈ s.canal.acc →
          (x.owner = w.owner ∧ x.cause = 0 ∧ x.lost ≠ 255 ∧ (s.stream x.lost w.owner).held = true → x ∈ t.canal.closed ∧ x ∉ t.canal.acc) ∧
          (x.owner ≠ w.owner ∨ x.cause ≠ 0 → x ∈ t.canal.acc)) ∧
      (s.now < w.lastAt + 16384 → s.baseCells w.owner * 7 < s.used w.owner * 8 → exec (.weirAccumTimeout idx) s = .next s)) ∧
    (∀ w ws, s.canal.closed = w :: ws → s.lk.st = .underway → s.canal.lastMarkAt = 0 ∨ s.canal.lastMarkAt + 128 ≤ s.now →
      (s.canEmit 137 w.owner = false → exec .weirMarkWrite s = .next { s with canal := { s.canal with closed := ws, lastMarkAt := s.now } }) ∧
      (s.canEmit 137 w.owner = true → (∀ r : Rec, r.owner = w.owner → s.prioRoom r = false) → exec .weirMarkWrite s = .next s) ∧
      (s.freeCell (s.basins.head.take 2) ≠ none → s.canEmit 137 w.owner = true → s.queue 137 = [] → (s.stream 137 w.owner).active = true →
        (s.stream 137 w.owner).resync = false → (s.stream 137 w.owner).owe = false → ∃ t : State, exec .weirMarkWrite s = .next t ∧
        t.canal.lastMarkAt = s.now ∧ ((∀ src, (s.stream src w.owner).held = false) → t.canal.closed = ws) ∧
        (w.lost < 256 → w.flags.toNat ≤ 3 → ∃ c ∈ t.prioQ w.owner, ∃ r ∈ c.recs, r.ty = 3 ∧ r.src = 137 ∧ r.cls = 0 ∧ r.ts = w.first ∧ r.owner = w.owner ∧ r.len = 4 ∧
            r.payload.toNat / 2 ^ 8 % 2 ^ 8 = w.lost ∧ r.payload.toNat / 2 ^ 16 = w.cause % 16))) ∧
    (∀ (src : BitVec 8) (o : Fin 17),
      let x := s.stream src.toNat o.val
      x.seen = true → x.explained = false → x.lastDeliv + 2 ^ 20 ≤ s.ts → s.active o.val = true → ∃ ms : List Weir,
        exec (.sourceSilent src o) s = .next (({ s with canal := { s.canal with closed := s.canal.closed ++ ms } }).setStream src.toNat o.val
          { x with seen := false }) ∧ chain ms x.lastTs s.ts ∧ ∀ w ∈ ms, w.owner = o.val ∧ w.lost = src.toNat ∧ w.cause = 5 ∧ w.flags = 2) ∧
    (∀ p : Fin 128,
      let x := s.probe p.val
      x.disabled = true → x.markTs < s.ts → x.markTs = x.disabledTs ∨ x.markTs + 2 ^ 19 ≤ s.ts → x.disabledFor.Nodup → ∃ ms : List Weir,
        exec (.standingWeirMark p) s = .next (({ s with canal := { s.canal with closed := s.canal.closed ++ ms } }).setProbe p.val
          { x with markTs := s.ts }) ∧
        (∀ w ∈ ms, w.lost = p.val ∧ w.cause = 3 ∧ w.flags = 3) ∧
        (∀ o ∈ x.disabledFor, s.active o = true → chain (ms.filter (fun w => decide (w.owner = o))) x.markTs s.ts) ∧
        (∀ w ∈ ms, w.owner ∈ x.disabledFor ∧ s.active w.owner = true))

end
end

