-- ==== Sys2Proof/Laws/Bytes.lean ====
section
/-! SUPPORT. Byte strings and AES-256-GCM: numbers survive their bytes, and a sealed text opens. -/

namespace Sys2Proof.Machine

@[simp] theorem length_leBytes (n x : Nat) : (leBytes n x).length = n := by
  induction n generalizing x with
  | zero => rfl
  | succ n ih => simp [leBytes, ih]

@[simp] theorem length_beBytes (n x : Nat) : (beBytes n x).length = n := by simp [beBytes]

theorem ofLe_leBytes (n x : Nat) : ofLe (leBytes n x) = x % 256 ^ n := by
  induction n generalizing x with
  | zero => simp [leBytes, ofLe, Nat.mod_one]
  | succ n ih => simp only [leBytes, ofLe, ih, BitVec.toNat_ofNat]; rw [show (256 : Nat) ^ (n + 1) = 256 * 256 ^ n by ring]; exact Nat.mod_mul.symm

theorem ofBe_beBytes (n x : Nat) : ofBe (beBytes n x) = x % 256 ^ n := by simp [ofBe, beBytes, ofLe_leBytes]

theorem ofBe_beBytes_tag (t : BitVec 128) : BitVec.ofNat 128 (ofBe (beBytes 16 t.toNat)) = t := by
  have h : t.toNat % 256 ^ 16 = t.toNat := Nat.mod_eq_of_lt t.isLt
  rw [ofBe_beBytes, h, BitVec.ofNat_toNat, BitVec.setWidth_eq]

@[simp] theorem length_gcmText (key : W256) (nonce text : List Byte) : (gcmText key nonce text).length = text.length := by
  simp [gcmText]

/-- The key stream twice is the text again. -/
@[simp] theorem gcmText_gcmText (key : W256) (nonce text : List Byte) : gcmText key nonce (gcmText key nonce text) = text := by
  apply List.ext_getElem (by simp)
  intro i h1 h2
  simp [gcmText]

/-- What was sealed under a key, a nonce and additional data opens under them. -/
theorem gcmOpen_gcmTag (key : W256) (nonce aad text : List Byte) :
    gcmOpen key nonce aad (gcmText key nonce text) (gcmTag key nonce aad text) = some text := by simp [gcmOpen, gcmTag]

end Sys2Proof.Machine
end

