-- ==== Sys2Proof/Laws/Tab.lean ====
section
/-! SUPPORT. Sparse tables: what a write leaves to be read, and that it keeps the canonical form. -/

namespace Sys2Proof.Machine

variable {α : Type}

/-- Read after a write of the same key. -/
@[simp] theorem tget_tset_same [DecidableEq α] (t : Tab α) (k : Nat) (v d : α) : tget (tset t k v d) k d = v := by
  induction t with
  | nil => by_cases h : v = d <;> simp [tset, tget, h]
  | cons e t ih =>
    obtain ⟨k', v'⟩ := e
    simp only [tset]
    split
    · split
      · exact ih
      · simp [tget]
    · split
      · simp [tget]
      · simp [tget, *]

/-- A write leaves every other key. -/
theorem tget_tset_other [DecidableEq α] (t : Tab α) (k j : Nat) (v d : α) (h : j ≠ k) :
    tget (tset t k v d) j d = tget t j d := by
  induction t with
  | nil => by_cases h : v = d <;> simp [tset, tget, *]
  | cons e t ih =>
    obtain ⟨k', v'⟩ := e
    simp only [tset]
    split
    · next hk =>
      subst hk
      split
      · simp [tget, h, ih]
      · simp [tget, h]
    · split
      · simp [tget, h]
      · simp only [tget, ih]

theorem tget_tset [DecidableEq α] (t : Tab α) (k j : Nat) (v d : α) :
    tget (tset t k v d) j d = if j = k then v else tget t j d := by
  split
  · next h => subst h; exact tget_tset_same ..
  · next h => exact tget_tset_other _ _ _ _ _ h

theorem twfFrom_mono [DecidableEq α] (d : α) (t : Tab α) {lo lo' : Nat} (h : lo ≤ lo') (w : twfFrom d lo' t = true) :
    twfFrom d lo t = true := by
  cases t with
  | nil => rfl
  | cons e t =>
    obtain ⟨k, v⟩ := e
    simp only [twfFrom, Bool.and_eq_true, decide_eq_true_eq] at *
    exact ⟨⟨by omega, w.1.2⟩, w.2⟩

theorem twfFrom_filter [DecidableEq α] (d : α) (p : Nat × α → Bool) (t : Tab α) (lo : Nat) (w : twfFrom d lo t = true) :
    twfFrom d lo (t.filter p) = true := by
  induction t generalizing lo with
  | nil => rfl
  | cons e t ih =>
    obtain ⟨k, v⟩ := e
    simp only [twfFrom, Bool.and_eq_true, decide_eq_true_eq] at w
    by_cases h : p (k, v) = true
    · simp only [List.filter, h, twfFrom, Bool.and_eq_true, decide_eq_true_eq]
      exact ⟨w.1, ih _ w.2⟩
    · simp only [List.filter, h]
      exact ih _ (twfFrom_mono d t (by omega) w.2)

/-- Removing entries keeps the canonical form. -/
theorem twf_filter [DecidableEq α] (d : α) (p : Nat × α → Bool) (t : Tab α) (w : twf d t = true) :
    twf d (t.filter p) = true := twfFrom_filter d p t 0 w

theorem twfFrom_tset [DecidableEq α] (d : α) (t : Tab α) (k : Nat) (v : α) (lo : Nat) (hk : lo ≤ k)
    (w : twfFrom d lo t = true) : twfFrom d lo (tset t k v d) = true := by
  induction t generalizing lo with
  | nil => by_cases h : v = d <;> simp [tset, twfFrom, hk, h]
  | cons e t ih =>
    obtain ⟨k', v'⟩ := e
    simp only [twfFrom, Bool.and_eq_true, decide_eq_true_eq] at w
    simp only [tset]
    split
    · next h =>
      subst h
      split
      · next hv =>
        subst hv
        have := twfFrom_mono v t (Nat.le_succ k) w.2
        exact ih lo hk (twfFrom_mono v t w.1.1 this)
      · next hv => simp only [twfFrom, Bool.and_eq_true, decide_eq_true_eq]; exact ⟨⟨hk, by simp [hv]⟩, w.2⟩
    · split
      · next h =>
        simp only [twfFrom, Bool.and_eq_true, decide_eq_true_eq]
        exact ⟨⟨hk, by simp [h.2]⟩, ⟨by omega, w.1.2⟩, w.2⟩
      · next h h' =>
        simp only [twfFrom, Bool.and_eq_true, decide_eq_true_eq]
        refine ⟨w.1, ?_⟩
        by_cases hv : v = d
        · subst hv
          have gen : ∀ (u : Tab α) (lo : Nat), twfFrom v lo u = true → twfFrom v lo (tset u k v v) = true := by
            intro u
            induction u with
            | nil => intro lo _; simp [tset, twfFrom]
            | cons e u ih =>
              obtain ⟨k2, v2⟩ := e
              intro lo w
              simp only [twfFrom, Bool.and_eq_true, decide_eq_true_eq] at w
              simp only [tset]
              split
              · simp only [if_true]
                exact ih lo (twfFrom_mono v u (by omega) w.2)
              · simp only [ne_eq, not_true_eq_false, and_false, if_false, twfFrom, Bool.and_eq_true, decide_eq_true_eq]
                exact ⟨w.1, ih _ w.2⟩
          exact gen t _ w.2
        · have : ¬ k < k' := fun hh => h' ⟨hh, hv⟩
          exact ih _ (by omega) w.2

/-- A write keeps the canonical form. -/
theorem twf_tset [DecidableEq α] (d : α) (t : Tab α) (k : Nat) (v : α) (w : twf d t = true) : twf d (tset t k v d) = true :=
  twfFrom_tset d t k v 0 (by omega) w

end Sys2Proof.Machine
end

