-- ==== Sys2Proof/Laws/State.lean ====
section
/-! SUPPORT. One lemma per field and per update of the state: an update of one part leaves every other part as it is, and
reads back what it wrote; and the stored words keep their canonical form under every operation on them. -/

namespace Sys2Proof.Machine

/-! ## setProbe -/

section

variable (s : State) (p : Nat) (x : Probe)

@[simp] theorem State.setProbe_pending : (s.setProbe p x).pending = s.pending := rfl
@[simp] theorem State.setProbe_ident : (s.setProbe p x).ident = s.ident := rfl
@[simp] theorem State.setProbe_dev : (s.setProbe p x).dev = s.dev := rfl
@[simp] theorem State.setProbe_clk : (s.setProbe p x).clk = s.clk := rfl
@[simp] theorem State.setProbe_time : (s.setProbe p x).time = s.time := rfl
@[simp] theorem State.setProbe_convoy : (s.setProbe p x).convoy = s.convoy := rfl
@[simp] theorem State.setProbe_canal : (s.setProbe p x).canal = s.canal := rfl
@[simp] theorem State.setProbe_basins : (s.setProbe p x).basins = s.basins := rfl
@[simp] theorem State.setProbe_exp : (s.setProbe p x).exp = s.exp := rfl
@[simp] theorem State.setProbe_mgr : (s.setProbe p x).mgr = s.mgr := rfl
@[simp] theorem State.setProbe_ledger : (s.setProbe p x).ledger = s.ledger := rfl
@[simp] theorem State.setProbe_esl : (s.setProbe p x).esl = s.esl := rfl
@[simp] theorem State.setProbe_chart : (s.setProbe p x).chart = s.chart := rfl
@[simp] theorem State.setProbe_fc : (s.setProbe p x).fc = s.fc := rfl
@[simp] theorem State.setProbe_lk : (s.setProbe p x).lk = s.lk := rfl
@[simp] theorem State.setProbe_env : (s.setProbe p x).env = s.env := rfl
@[simp] theorem State.setProbe_frame : (s.setProbe p x).frame = s.frame := rfl
@[simp] theorem State.setProbe_win : (s.setProbe p x).win = s.win := rfl
@[simp] theorem State.setProbe_ecc : (s.setProbe p x).ecc = s.ecc := rfl
@[simp] theorem State.setProbe_lb : (s.setProbe p x).lb = s.lb := rfl
@[simp] theorem State.setProbe_svc : (s.setProbe p x).svc = s.svc := rfl
@[simp] theorem State.setProbe_assay : (s.setProbe p x).assay = s.assay := rfl
@[simp] theorem State.setProbe_ch : (s.setProbe p x).ch = s.ch := rfl
@[simp] theorem State.setProbe_survey : (s.setProbe p x).survey = s.survey := rfl
@[simp] theorem State.setProbe_io : (s.setProbe p x).io = s.io := rfl
@[simp] theorem State.setProbe_free : (s.setProbe p x).free = s.free := rfl

theorem State.setProbe_probe (j' : Nat) : (s.setProbe p x).probe j' = if j' = p then x else s.probe j' := tget_tset ..
@[simp] theorem State.setProbe_probe_same : (s.setProbe p x).probe p = x := tget_tset_same ..

end

/-! ## setPeer -/

section

variable (s : State) (j : Nat) (x : Peer)

@[simp] theorem State.setPeer_pending : (s.setPeer j x).pending = s.pending := rfl
@[simp] theorem State.setPeer_ident : (s.setPeer j x).ident = s.ident := rfl
@[simp] theorem State.setPeer_dev : (s.setPeer j x).dev = s.dev := rfl
@[simp] theorem State.setPeer_clk : (s.setPeer j x).clk = s.clk := rfl
@[simp] theorem State.setPeer_time : (s.setPeer j x).time = s.time := rfl
@[simp] theorem State.setPeer_probes : (s.setPeer j x).probes = s.probes := rfl
@[simp] theorem State.setPeer_canal : (s.setPeer j x).canal = s.canal := rfl
@[simp] theorem State.setPeer_basins : (s.setPeer j x).basins = s.basins := rfl
@[simp] theorem State.setPeer_exp : (s.setPeer j x).exp = s.exp := rfl
@[simp] theorem State.setPeer_mgr : (s.setPeer j x).mgr = s.mgr := rfl
@[simp] theorem State.setPeer_ledger : (s.setPeer j x).ledger = s.ledger := rfl
@[simp] theorem State.setPeer_esl : (s.setPeer j x).esl = s.esl := rfl
@[simp] theorem State.setPeer_chart : (s.setPeer j x).chart = s.chart := rfl
@[simp] theorem State.setPeer_fc : (s.setPeer j x).fc = s.fc := rfl
@[simp] theorem State.setPeer_lk : (s.setPeer j x).lk = s.lk := rfl
@[simp] theorem State.setPeer_env : (s.setPeer j x).env = s.env := rfl
@[simp] theorem State.setPeer_frame : (s.setPeer j x).frame = s.frame := rfl
@[simp] theorem State.setPeer_win : (s.setPeer j x).win = s.win := rfl
@[simp] theorem State.setPeer_ecc : (s.setPeer j x).ecc = s.ecc := rfl
@[simp] theorem State.setPeer_lb : (s.setPeer j x).lb = s.lb := rfl
@[simp] theorem State.setPeer_svc : (s.setPeer j x).svc = s.svc := rfl
@[simp] theorem State.setPeer_assay : (s.setPeer j x).assay = s.assay := rfl
@[simp] theorem State.setPeer_ch : (s.setPeer j x).ch = s.ch := rfl
@[simp] theorem State.setPeer_survey : (s.setPeer j x).survey = s.survey := rfl
@[simp] theorem State.setPeer_io : (s.setPeer j x).io = s.io := rfl
@[simp] theorem State.setPeer_free : (s.setPeer j x).free = s.free := rfl

theorem State.setPeer_peer (j' : Nat) : (s.setPeer j x).peer j' = if j' = j then x else s.peer j' := tget_tset ..
@[simp] theorem State.setPeer_peer_same : (s.setPeer j x).peer j = x := tget_tset_same ..

end

/-! ## setApt -/

section

variable (s : State) (o : Nat) (x : Apt)

@[simp] theorem State.setApt_pending : (s.setApt o x).pending = s.pending := rfl
@[simp] theorem State.setApt_ident : (s.setApt o x).ident = s.ident := rfl
@[simp] theorem State.setApt_dev : (s.setApt o x).dev = s.dev := rfl
@[simp] theorem State.setApt_clk : (s.setApt o x).clk = s.clk := rfl
@[simp] theorem State.setApt_time : (s.setApt o x).time = s.time := rfl
@[simp] theorem State.setApt_convoy : (s.setApt o x).convoy = s.convoy := rfl
@[simp] theorem State.setApt_probes : (s.setApt o x).probes = s.probes := rfl
@[simp] theorem State.setApt_canal : (s.setApt o x).canal = s.canal := rfl
@[simp] theorem State.setApt_basins : (s.setApt o x).basins = s.basins := rfl
@[simp] theorem State.setApt_exp : (s.setApt o x).exp = s.exp := rfl
@[simp] theorem State.setApt_mgr : (s.setApt o x).mgr = s.mgr := rfl
@[simp] theorem State.setApt_ledger : (s.setApt o x).ledger = s.ledger := rfl
@[simp] theorem State.setApt_chart : (s.setApt o x).chart = s.chart := rfl
@[simp] theorem State.setApt_fc : (s.setApt o x).fc = s.fc := rfl
@[simp] theorem State.setApt_lk : (s.setApt o x).lk = s.lk := rfl
@[simp] theorem State.setApt_env : (s.setApt o x).env = s.env := rfl
@[simp] theorem State.setApt_frame : (s.setApt o x).frame = s.frame := rfl
@[simp] theorem State.setApt_win : (s.setApt o x).win = s.win := rfl
@[simp] theorem State.setApt_ecc : (s.setApt o x).ecc = s.ecc := rfl
@[simp] theorem State.setApt_lb : (s.setApt o x).lb = s.lb := rfl
@[simp] theorem State.setApt_svc : (s.setApt o x).svc = s.svc := rfl
@[simp] theorem State.setApt_assay : (s.setApt o x).assay = s.assay := rfl
@[simp] theorem State.setApt_ch : (s.setApt o x).ch = s.ch := rfl
@[simp] theorem State.setApt_survey : (s.setApt o x).survey = s.survey := rfl
@[simp] theorem State.setApt_io : (s.setApt o x).io = s.io := rfl
@[simp] theorem State.setApt_free : (s.setApt o x).free = s.free := rfl

theorem State.setApt_apt (j' : Nat) : (s.setApt o x).apt j' = if j' = o then x else s.apt j' := tget_tset ..
@[simp] theorem State.setApt_apt_same : (s.setApt o x).apt o = x := tget_tset_same ..

end

/-! ## setExport -/

section

variable (s : State) (o : Nat) (x : Export)

@[simp] theorem State.setExport_pending : (s.setExport o x).pending = s.pending := rfl
@[simp] theorem State.setExport_ident : (s.setExport o x).ident = s.ident := rfl
@[simp] theorem State.setExport_dev : (s.setExport o x).dev = s.dev := rfl
@[simp] theorem State.setExport_clk : (s.setExport o x).clk = s.clk := rfl
@[simp] theorem State.setExport_time : (s.setExport o x).time = s.time := rfl
@[simp] theorem State.setExport_convoy : (s.setExport o x).convoy = s.convoy := rfl
@[simp] theorem State.setExport_probes : (s.setExport o x).probes = s.probes := rfl
@[simp] theorem State.setExport_canal : (s.setExport o x).canal = s.canal := rfl
@[simp] theorem State.setExport_basins : (s.setExport o x).basins = s.basins := rfl
@[simp] theorem State.setExport_mgr : (s.setExport o x).mgr = s.mgr := rfl
@[simp] theorem State.setExport_ledger : (s.setExport o x).ledger = s.ledger := rfl
@[simp] theorem State.setExport_esl : (s.setExport o x).esl = s.esl := rfl
@[simp] theorem State.setExport_chart : (s.setExport o x).chart = s.chart := rfl
@[simp] theorem State.setExport_fc : (s.setExport o x).fc = s.fc := rfl
@[simp] theorem State.setExport_lk : (s.setExport o x).lk = s.lk := rfl
@[simp] theorem State.setExport_env : (s.setExport o x).env = s.env := rfl
@[simp] theorem State.setExport_frame : (s.setExport o x).frame = s.frame := rfl
@[simp] theorem State.setExport_win : (s.setExport o x).win = s.win := rfl
@[simp] theorem State.setExport_ecc : (s.setExport o x).ecc = s.ecc := rfl
@[simp] theorem State.setExport_lb : (s.setExport o x).lb = s.lb := rfl
@[simp] theorem State.setExport_svc : (s.setExport o x).svc = s.svc := rfl
@[simp] theorem State.setExport_assay : (s.setExport o x).assay = s.assay := rfl
@[simp] theorem State.setExport_ch : (s.setExport o x).ch = s.ch := rfl
@[simp] theorem State.setExport_survey : (s.setExport o x).survey = s.survey := rfl
@[simp] theorem State.setExport_io : (s.setExport o x).io = s.io := rfl
@[simp] theorem State.setExport_free : (s.setExport o x).free = s.free := rfl

theorem State.setExport_export_ (j' : Nat) : (s.setExport o x).export_ j' = if j' = o then x else s.export_ j' := tget_tset ..
@[simp] theorem State.setExport_export__same : (s.setExport o x).export_ o = x := tget_tset_same ..

end

/-! ## setDom -/

section

variable (s : State) (h : Nat) (x : HostDom)

@[simp] theorem State.setDom_pending : (s.setDom h x).pending = s.pending := rfl
@[simp] theorem State.setDom_ident : (s.setDom h x).ident = s.ident := rfl
@[simp] theorem State.setDom_dev : (s.setDom h x).dev = s.dev := rfl
@[simp] theorem State.setDom_clk : (s.setDom h x).clk = s.clk := rfl
@[simp] theorem State.setDom_time : (s.setDom h x).time = s.time := rfl
@[simp] theorem State.setDom_convoy : (s.setDom h x).convoy = s.convoy := rfl
@[simp] theorem State.setDom_probes : (s.setDom h x).probes = s.probes := rfl
@[simp] theorem State.setDom_canal : (s.setDom h x).canal = s.canal := rfl
@[simp] theorem State.setDom_basins : (s.setDom h x).basins = s.basins := rfl
@[simp] theorem State.setDom_exp : (s.setDom h x).exp = s.exp := rfl
@[simp] theorem State.setDom_mgr : (s.setDom h x).mgr = s.mgr := rfl
@[simp] theorem State.setDom_ledger : (s.setDom h x).ledger = s.ledger := rfl
@[simp] theorem State.setDom_esl : (s.setDom h x).esl = s.esl := rfl
@[simp] theorem State.setDom_chart : (s.setDom h x).chart = s.chart := rfl
@[simp] theorem State.setDom_fc : (s.setDom h x).fc = s.fc := rfl
@[simp] theorem State.setDom_env : (s.setDom h x).env = s.env := rfl
@[simp] theorem State.setDom_frame : (s.setDom h x).frame = s.frame := rfl
@[simp] theorem State.setDom_win : (s.setDom h x).win = s.win := rfl
@[simp] theorem State.setDom_ecc : (s.setDom h x).ecc = s.ecc := rfl
@[simp] theorem State.setDom_lb : (s.setDom h x).lb = s.lb := rfl
@[simp] theorem State.setDom_svc : (s.setDom h x).svc = s.svc := rfl
@[simp] theorem State.setDom_assay : (s.setDom h x).assay = s.assay := rfl
@[simp] theorem State.setDom_ch : (s.setDom h x).ch = s.ch := rfl
@[simp] theorem State.setDom_survey : (s.setDom h x).survey = s.survey := rfl
@[simp] theorem State.setDom_io : (s.setDom h x).io = s.io := rfl
@[simp] theorem State.setDom_free : (s.setDom h x).free = s.free := rfl

theorem State.setDom_dom (j' : Nat) : (s.setDom h x).dom j' = if j' = h then x else s.dom j' := tget_tset ..
@[simp] theorem State.setDom_dom_same : (s.setDom h x).dom h = x := tget_tset_same ..

end

/-! ## setBank -/

section

variable (s : State) (k : Nat) (x : Bank)

@[simp] theorem State.setBank_pending : (s.setBank k x).pending = s.pending := rfl
@[simp] theorem State.setBank_ident : (s.setBank k x).ident = s.ident := rfl
@[simp] theorem State.setBank_dev : (s.setBank k x).dev = s.dev := rfl
@[simp] theorem State.setBank_clk : (s.setBank k x).clk = s.clk := rfl
@[simp] theorem State.setBank_time : (s.setBank k x).time = s.time := rfl
@[simp] theorem State.setBank_convoy : (s.setBank k x).convoy = s.convoy := rfl
@[simp] theorem State.setBank_probes : (s.setBank k x).probes = s.probes := rfl
@[simp] theorem State.setBank_canal : (s.setBank k x).canal = s.canal := rfl
@[simp] theorem State.setBank_basins : (s.setBank k x).basins = s.basins := rfl
@[simp] theorem State.setBank_exp : (s.setBank k x).exp = s.exp := rfl
@[simp] theorem State.setBank_mgr : (s.setBank k x).mgr = s.mgr := rfl
@[simp] theorem State.setBank_ledger : (s.setBank k x).ledger = s.ledger := rfl
@[simp] theorem State.setBank_esl : (s.setBank k x).esl = s.esl := rfl
@[simp] theorem State.setBank_chart : (s.setBank k x).chart = s.chart := rfl
@[simp] theorem State.setBank_fc : (s.setBank k x).fc = s.fc := rfl
@[simp] theorem State.setBank_lk : (s.setBank k x).lk = s.lk := rfl
@[simp] theorem State.setBank_env : (s.setBank k x).env = s.env := rfl
@[simp] theorem State.setBank_frame : (s.setBank k x).frame = s.frame := rfl
@[simp] theorem State.setBank_win : (s.setBank k x).win = s.win := rfl
@[simp] theorem State.setBank_lb : (s.setBank k x).lb = s.lb := rfl
@[simp] theorem State.setBank_svc : (s.setBank k x).svc = s.svc := rfl
@[simp] theorem State.setBank_assay : (s.setBank k x).assay = s.assay := rfl
@[simp] theorem State.setBank_ch : (s.setBank k x).ch = s.ch := rfl
@[simp] theorem State.setBank_survey : (s.setBank k x).survey = s.survey := rfl
@[simp] theorem State.setBank_io : (s.setBank k x).io = s.io := rfl
@[simp] theorem State.setBank_free : (s.setBank k x).free = s.free := rfl

theorem State.setBank_bank (j' : Nat) : (s.setBank k x).bank j' = if j' = k then x else s.bank j' := tget_tset ..
@[simp] theorem State.setBank_bank_same : (s.setBank k x).bank k = x := tget_tset_same ..

end

/-! ## setKeySlot -/

section

variable (s : State) (i : Nat) (x : KeySlot)

@[simp] theorem State.setKeySlot_pending : (s.setKeySlot i x).pending = s.pending := rfl
@[simp] theorem State.setKeySlot_ident : (s.setKeySlot i x).ident = s.ident := rfl
@[simp] theorem State.setKeySlot_dev : (s.setKeySlot i x).dev = s.dev := rfl
@[simp] theorem State.setKeySlot_clk : (s.setKeySlot i x).clk = s.clk := rfl
@[simp] theorem State.setKeySlot_time : (s.setKeySlot i x).time = s.time := rfl
@[simp] theorem State.setKeySlot_convoy : (s.setKeySlot i x).convoy = s.convoy := rfl
@[simp] theorem State.setKeySlot_probes : (s.setKeySlot i x).probes = s.probes := rfl
@[simp] theorem State.setKeySlot_canal : (s.setKeySlot i x).canal = s.canal := rfl
@[simp] theorem State.setKeySlot_basins : (s.setKeySlot i x).basins = s.basins := rfl
@[simp] theorem State.setKeySlot_exp : (s.setKeySlot i x).exp = s.exp := rfl
@[simp] theorem State.setKeySlot_mgr : (s.setKeySlot i x).mgr = s.mgr := rfl
@[simp] theorem State.setKeySlot_ledger : (s.setKeySlot i x).ledger = s.ledger := rfl
@[simp] theorem State.setKeySlot_esl : (s.setKeySlot i x).esl = s.esl := rfl
@[simp] theorem State.setKeySlot_fc : (s.setKeySlot i x).fc = s.fc := rfl
@[simp] theorem State.setKeySlot_lk : (s.setKeySlot i x).lk = s.lk := rfl
@[simp] theorem State.setKeySlot_env : (s.setKeySlot i x).env = s.env := rfl
@[simp] theorem State.setKeySlot_frame : (s.setKeySlot i x).frame = s.frame := rfl
@[simp] theorem State.setKeySlot_win : (s.setKeySlot i x).win = s.win := rfl
@[simp] theorem State.setKeySlot_ecc : (s.setKeySlot i x).ecc = s.ecc := rfl
@[simp] theorem State.setKeySlot_lb : (s.setKeySlot i x).lb = s.lb := rfl
@[simp] theorem State.setKeySlot_svc : (s.setKeySlot i x).svc = s.svc := rfl
@[simp] theorem State.setKeySlot_assay : (s.setKeySlot i x).assay = s.assay := rfl
@[simp] theorem State.setKeySlot_ch : (s.setKeySlot i x).ch = s.ch := rfl
@[simp] theorem State.setKeySlot_survey : (s.setKeySlot i x).survey = s.survey := rfl
@[simp] theorem State.setKeySlot_io : (s.setKeySlot i x).io = s.io := rfl
@[simp] theorem State.setKeySlot_free : (s.setKeySlot i x).free = s.free := rfl

theorem State.setKeySlot_keySlot (j' : Nat) : (s.setKeySlot i x).keySlot j' = if j' = i then x else s.keySlot j' := tget_tset ..
@[simp] theorem State.setKeySlot_keySlot_same : (s.setKeySlot i x).keySlot i = x := tget_tset_same ..

end

/-! ## setTap -/

section

variable (s : State) (j : Nat) (x : Tap)

@[simp] theorem State.setTap_pending : (s.setTap j x).pending = s.pending := rfl
@[simp] theorem State.setTap_ident : (s.setTap j x).ident = s.ident := rfl
@[simp] theorem State.setTap_dev : (s.setTap j x).dev = s.dev := rfl
@[simp] theorem State.setTap_clk : (s.setTap j x).clk = s.clk := rfl
@[simp] theorem State.setTap_time : (s.setTap j x).time = s.time := rfl
@[simp] theorem State.setTap_convoy : (s.setTap j x).convoy = s.convoy := rfl
@[simp] theorem State.setTap_probes : (s.setTap j x).probes = s.probes := rfl
@[simp] theorem State.setTap_canal : (s.setTap j x).canal = s.canal := rfl
@[simp] theorem State.setTap_basins : (s.setTap j x).basins = s.basins := rfl
@[simp] theorem State.setTap_exp : (s.setTap j x).exp = s.exp := rfl
@[simp] theorem State.setTap_mgr : (s.setTap j x).mgr = s.mgr := rfl
@[simp] theorem State.setTap_ledger : (s.setTap j x).ledger = s.ledger := rfl
@[simp] theorem State.setTap_esl : (s.setTap j x).esl = s.esl := rfl
@[simp] theorem State.setTap_chart : (s.setTap j x).chart = s.chart := rfl
@[simp] theorem State.setTap_fc : (s.setTap j x).fc = s.fc := rfl
@[simp] theorem State.setTap_lk : (s.setTap j x).lk = s.lk := rfl
@[simp] theorem State.setTap_env : (s.setTap j x).env = s.env := rfl
@[simp] theorem State.setTap_frame : (s.setTap j x).frame = s.frame := rfl
@[simp] theorem State.setTap_win : (s.setTap j x).win = s.win := rfl
@[simp] theorem State.setTap_ecc : (s.setTap j x).ecc = s.ecc := rfl
@[simp] theorem State.setTap_lb : (s.setTap j x).lb = s.lb := rfl
@[simp] theorem State.setTap_svc : (s.setTap j x).svc = s.svc := rfl
@[simp] theorem State.setTap_ch : (s.setTap j x).ch = s.ch := rfl
@[simp] theorem State.setTap_survey : (s.setTap j x).survey = s.survey := rfl
@[simp] theorem State.setTap_io : (s.setTap j x).io = s.io := rfl
@[simp] theorem State.setTap_free : (s.setTap j x).free = s.free := rfl

theorem State.setTap_tap (j' : Nat) : (s.setTap j x).tap j' = if j' = j then x else s.tap j' := tget_tset ..
@[simp] theorem State.setTap_tap_same : (s.setTap j x).tap j = x := tget_tset_same ..

end

/-! ## setSlot -/

section

variable (s : State) (k : Nat) (x : Watch)

@[simp] theorem State.setSlot_pending : (s.setSlot k x).pending = s.pending := rfl
@[simp] theorem State.setSlot_ident : (s.setSlot k x).ident = s.ident := rfl
@[simp] theorem State.setSlot_dev : (s.setSlot k x).dev = s.dev := rfl
@[simp] theorem State.setSlot_clk : (s.setSlot k x).clk = s.clk := rfl
@[simp] theorem State.setSlot_time : (s.setSlot k x).time = s.time := rfl
@[simp] theorem State.setSlot_convoy : (s.setSlot k x).convoy = s.convoy := rfl
@[simp] theorem State.setSlot_probes : (s.setSlot k x).probes = s.probes := rfl
@[simp] theorem State.setSlot_canal : (s.setSlot k x).canal = s.canal := rfl
@[simp] theorem State.setSlot_basins : (s.setSlot k x).basins = s.basins := rfl
@[simp] theorem State.setSlot_exp : (s.setSlot k x).exp = s.exp := rfl
@[simp] theorem State.setSlot_mgr : (s.setSlot k x).mgr = s.mgr := rfl
@[simp] theorem State.setSlot_ledger : (s.setSlot k x).ledger = s.ledger := rfl
@[simp] theorem State.setSlot_esl : (s.setSlot k x).esl = s.esl := rfl
@[simp] theorem State.setSlot_chart : (s.setSlot k x).chart = s.chart := rfl
@[simp] theorem State.setSlot_fc : (s.setSlot k x).fc = s.fc := rfl
@[simp] theorem State.setSlot_lk : (s.setSlot k x).lk = s.lk := rfl
@[simp] theorem State.setSlot_env : (s.setSlot k x).env = s.env := rfl
@[simp] theorem State.setSlot_frame : (s.setSlot k x).frame = s.frame := rfl
@[simp] theorem State.setSlot_win : (s.setSlot k x).win = s.win := rfl
@[simp] theorem State.setSlot_ecc : (s.setSlot k x).ecc = s.ecc := rfl
@[simp] theorem State.setSlot_lb : (s.setSlot k x).lb = s.lb := rfl
@[simp] theorem State.setSlot_svc : (s.setSlot k x).svc = s.svc := rfl
@[simp] theorem State.setSlot_ch : (s.setSlot k x).ch = s.ch := rfl
@[simp] theorem State.setSlot_survey : (s.setSlot k x).survey = s.survey := rfl
@[simp] theorem State.setSlot_io : (s.setSlot k x).io = s.io := rfl
@[simp] theorem State.setSlot_free : (s.setSlot k x).free = s.free := rfl

theorem State.setSlot_slot (j' : Nat) : (s.setSlot k x).slot j' = if j' = k then x else s.slot j' := tget_tset ..
@[simp] theorem State.setSlot_slot_same : (s.setSlot k x).slot k = x := tget_tset_same ..

end

/-! ## setCore -/

section

variable (s : State) (c : Nat) (x : Core)

@[simp] theorem State.setCore_pending : (s.setCore c x).pending = s.pending := rfl
@[simp] theorem State.setCore_ident : (s.setCore c x).ident = s.ident := rfl
@[simp] theorem State.setCore_dev : (s.setCore c x).dev = s.dev := rfl
@[simp] theorem State.setCore_clk : (s.setCore c x).clk = s.clk := rfl
@[simp] theorem State.setCore_time : (s.setCore c x).time = s.time := rfl
@[simp] theorem State.setCore_convoy : (s.setCore c x).convoy = s.convoy := rfl
@[simp] theorem State.setCore_probes : (s.setCore c x).probes = s.probes := rfl
@[simp] theorem State.setCore_canal : (s.setCore c x).canal = s.canal := rfl
@[simp] theorem State.setCore_basins : (s.setCore c x).basins = s.basins := rfl
@[simp] theorem State.setCore_exp : (s.setCore c x).exp = s.exp := rfl
@[simp] theorem State.setCore_mgr : (s.setCore c x).mgr = s.mgr := rfl
@[simp] theorem State.setCore_ledger : (s.setCore c x).ledger = s.ledger := rfl
@[simp] theorem State.setCore_esl : (s.setCore c x).esl = s.esl := rfl
@[simp] theorem State.setCore_chart : (s.setCore c x).chart = s.chart := rfl
@[simp] theorem State.setCore_fc : (s.setCore c x).fc = s.fc := rfl
@[simp] theorem State.setCore_lk : (s.setCore c x).lk = s.lk := rfl
@[simp] theorem State.setCore_env : (s.setCore c x).env = s.env := rfl
@[simp] theorem State.setCore_frame : (s.setCore c x).frame = s.frame := rfl
@[simp] theorem State.setCore_win : (s.setCore c x).win = s.win := rfl
@[simp] theorem State.setCore_ecc : (s.setCore c x).ecc = s.ecc := rfl
@[simp] theorem State.setCore_lb : (s.setCore c x).lb = s.lb := rfl
@[simp] theorem State.setCore_svc : (s.setCore c x).svc = s.svc := rfl
@[simp] theorem State.setCore_assay : (s.setCore c x).assay = s.assay := rfl
@[simp] theorem State.setCore_survey : (s.setCore c x).survey = s.survey := rfl
@[simp] theorem State.setCore_io : (s.setCore c x).io = s.io := rfl
@[simp] theorem State.setCore_free : (s.setCore c x).free = s.free := rfl

theorem State.setCore_core (j' : Nat) : (s.setCore c x).core j' = if j' = c then x else s.core j' := tget_tset ..
@[simp] theorem State.setCore_core_same : (s.setCore c x).core c = x := tget_tset_same ..

end

/-! ## setQueue -/

section

variable (s : State) (k : Nat) (q : List Rec)

@[simp] theorem State.setQueue_pending : (s.setQueue k q).pending = s.pending := rfl
@[simp] theorem State.setQueue_ident : (s.setQueue k q).ident = s.ident := rfl
@[simp] theorem State.setQueue_dev : (s.setQueue k q).dev = s.dev := rfl
@[simp] theorem State.setQueue_clk : (s.setQueue k q).clk = s.clk := rfl
@[simp] theorem State.setQueue_time : (s.setQueue k q).time = s.time := rfl
@[simp] theorem State.setQueue_convoy : (s.setQueue k q).convoy = s.convoy := rfl
@[simp] theorem State.setQueue_probes : (s.setQueue k q).probes = s.probes := rfl
@[simp] theorem State.setQueue_basins : (s.setQueue k q).basins = s.basins := rfl
@[simp] theorem State.setQueue_exp : (s.setQueue k q).exp = s.exp := rfl
@[simp] theorem State.setQueue_mgr : (s.setQueue k q).mgr = s.mgr := rfl
@[simp] theorem State.setQueue_ledger : (s.setQueue k q).ledger = s.ledger := rfl
@[simp] theorem State.setQueue_esl : (s.setQueue k q).esl = s.esl := rfl
@[simp] theorem State.setQueue_chart : (s.setQueue k q).chart = s.chart := rfl
@[simp] theorem State.setQueue_fc : (s.setQueue k q).fc = s.fc := rfl
@[simp] theorem State.setQueue_lk : (s.setQueue k q).lk = s.lk := rfl
@[simp] theorem State.setQueue_env : (s.setQueue k q).env = s.env := rfl
@[simp] theorem State.setQueue_frame : (s.setQueue k q).frame = s.frame := rfl
@[simp] theorem State.setQueue_win : (s.setQueue k q).win = s.win := rfl
@[simp] theorem State.setQueue_ecc : (s.setQueue k q).ecc = s.ecc := rfl
@[simp] theorem State.setQueue_lb : (s.setQueue k q).lb = s.lb := rfl
@[simp] theorem State.setQueue_svc : (s.setQueue k q).svc = s.svc := rfl
@[simp] theorem State.setQueue_assay : (s.setQueue k q).assay = s.assay := rfl
@[simp] theorem State.setQueue_ch : (s.setQueue k q).ch = s.ch := rfl
@[simp] theorem State.setQueue_survey : (s.setQueue k q).survey = s.survey := rfl
@[simp] theorem State.setQueue_io : (s.setQueue k q).io = s.io := rfl
@[simp] theorem State.setQueue_free : (s.setQueue k q).free = s.free := rfl

theorem State.setQueue_queue (j' : Nat) : (s.setQueue k q).queue j' = if j' = k then q else s.queue j' := tget_tset ..
@[simp] theorem State.setQueue_queue_same : (s.setQueue k q).queue k = q := tget_tset_same ..

end

/-! ## setSnapWin -/

section

variable (s : State) (o : Nat) (x : SnapWin)

@[simp] theorem State.setSnapWin_pending : (s.setSnapWin o x).pending = s.pending := rfl
@[simp] theorem State.setSnapWin_ident : (s.setSnapWin o x).ident = s.ident := rfl
@[simp] theorem State.setSnapWin_dev : (s.setSnapWin o x).dev = s.dev := rfl
@[simp] theorem State.setSnapWin_clk : (s.setSnapWin o x).clk = s.clk := rfl
@[simp] theorem State.setSnapWin_time : (s.setSnapWin o x).time = s.time := rfl
@[simp] theorem State.setSnapWin_convoy : (s.setSnapWin o x).convoy = s.convoy := rfl
@[simp] theorem State.setSnapWin_probes : (s.setSnapWin o x).probes = s.probes := rfl
@[simp] theorem State.setSnapWin_canal : (s.setSnapWin o x).canal = s.canal := rfl
@[simp] theorem State.setSnapWin_basins : (s.setSnapWin o x).basins = s.basins := rfl
@[simp] theorem State.setSnapWin_exp : (s.setSnapWin o x).exp = s.exp := rfl
@[simp] theorem State.setSnapWin_mgr : (s.setSnapWin o x).mgr = s.mgr := rfl
@[simp] theorem State.setSnapWin_ledger : (s.setSnapWin o x).ledger = s.ledger := rfl
@[simp] theorem State.setSnapWin_esl : (s.setSnapWin o x).esl = s.esl := rfl
@[simp] theorem State.setSnapWin_chart : (s.setSnapWin o x).chart = s.chart := rfl
@[simp] theorem State.setSnapWin_fc : (s.setSnapWin o x).fc = s.fc := rfl
@[simp] theorem State.setSnapWin_lk : (s.setSnapWin o x).lk = s.lk := rfl
@[simp] theorem State.setSnapWin_env : (s.setSnapWin o x).env = s.env := rfl
@[simp] theorem State.setSnapWin_frame : (s.setSnapWin o x).frame = s.frame := rfl
@[simp] theorem State.setSnapWin_ecc : (s.setSnapWin o x).ecc = s.ecc := rfl
@[simp] theorem State.setSnapWin_lb : (s.setSnapWin o x).lb = s.lb := rfl
@[simp] theorem State.setSnapWin_svc : (s.setSnapWin o x).svc = s.svc := rfl
@[simp] theorem State.setSnapWin_assay : (s.setSnapWin o x).assay = s.assay := rfl
@[simp] theorem State.setSnapWin_ch : (s.setSnapWin o x).ch = s.ch := rfl
@[simp] theorem State.setSnapWin_survey : (s.setSnapWin o x).survey = s.survey := rfl
@[simp] theorem State.setSnapWin_io : (s.setSnapWin o x).io = s.io := rfl
@[simp] theorem State.setSnapWin_free : (s.setSnapWin o x).free = s.free := rfl

theorem State.setSnapWin_snapWin (j' : Nat) : (s.setSnapWin o x).snapWin j' = if j' = o then x else s.snapWin j' := tget_tset ..
@[simp] theorem State.setSnapWin_snapWin_same : (s.setSnapWin o x).snapWin o = x := tget_tset_same ..

end

/-! ## setCharterQ -/

section

variable (s : State) (o : Nat) (q : List Cell)

@[simp] theorem State.setCharterQ_pending : (s.setCharterQ o q).pending = s.pending := rfl
@[simp] theorem State.setCharterQ_ident : (s.setCharterQ o q).ident = s.ident := rfl
@[simp] theorem State.setCharterQ_dev : (s.setCharterQ o q).dev = s.dev := rfl
@[simp] theorem State.setCharterQ_clk : (s.setCharterQ o q).clk = s.clk := rfl
@[simp] theorem State.setCharterQ_time : (s.setCharterQ o q).time = s.time := rfl
@[simp] theorem State.setCharterQ_convoy : (s.setCharterQ o q).convoy = s.convoy := rfl
@[simp] theorem State.setCharterQ_probes : (s.setCharterQ o q).probes = s.probes := rfl
@[simp] theorem State.setCharterQ_canal : (s.setCharterQ o q).canal = s.canal := rfl
@[simp] theorem State.setCharterQ_exp : (s.setCharterQ o q).exp = s.exp := rfl
@[simp] theorem State.setCharterQ_mgr : (s.setCharterQ o q).mgr = s.mgr := rfl
@[simp] theorem State.setCharterQ_ledger : (s.setCharterQ o q).ledger = s.ledger := rfl
@[simp] theorem State.setCharterQ_esl : (s.setCharterQ o q).esl = s.esl := rfl
@[simp] theorem State.setCharterQ_chart : (s.setCharterQ o q).chart = s.chart := rfl
@[simp] theorem State.setCharterQ_fc : (s.setCharterQ o q).fc = s.fc := rfl
@[simp] theorem State.setCharterQ_lk : (s.setCharterQ o q).lk = s.lk := rfl
@[simp] theorem State.setCharterQ_env : (s.setCharterQ o q).env = s.env := rfl
@[simp] theorem State.setCharterQ_frame : (s.setCharterQ o q).frame = s.frame := rfl
@[simp] theorem State.setCharterQ_win : (s.setCharterQ o q).win = s.win := rfl
@[simp] theorem State.setCharterQ_ecc : (s.setCharterQ o q).ecc = s.ecc := rfl
@[simp] theorem State.setCharterQ_lb : (s.setCharterQ o q).lb = s.lb := rfl
@[simp] theorem State.setCharterQ_svc : (s.setCharterQ o q).svc = s.svc := rfl
@[simp] theorem State.setCharterQ_assay : (s.setCharterQ o q).assay = s.assay := rfl
@[simp] theorem State.setCharterQ_ch : (s.setCharterQ o q).ch = s.ch := rfl
@[simp] theorem State.setCharterQ_survey : (s.setCharterQ o q).survey = s.survey := rfl
@[simp] theorem State.setCharterQ_io : (s.setCharterQ o q).io = s.io := rfl
@[simp] theorem State.setCharterQ_free : (s.setCharterQ o q).free = s.free := rfl

theorem State.setCharterQ_charterQ (j' : Nat) : (s.setCharterQ o q).charterQ j' = if j' = o then q else s.charterQ j' := tget_tset ..
@[simp] theorem State.setCharterQ_charterQ_same : (s.setCharterQ o q).charterQ o = q := tget_tset_same ..

end

/-! ## setPrioQ -/

section

variable (s : State) (o : Nat) (q : List Cell)

@[simp] theorem State.setPrioQ_pending : (s.setPrioQ o q).pending = s.pending := rfl
@[simp] theorem State.setPrioQ_ident : (s.setPrioQ o q).ident = s.ident := rfl
@[simp] theorem State.setPrioQ_dev : (s.setPrioQ o q).dev = s.dev := rfl
@[simp] theorem State.setPrioQ_clk : (s.setPrioQ o q).clk = s.clk := rfl
@[simp] theorem State.setPrioQ_time : (s.setPrioQ o q).time = s.time := rfl
@[simp] theorem State.setPrioQ_convoy : (s.setPrioQ o q).convoy = s.convoy := rfl
@[simp] theorem State.setPrioQ_probes : (s.setPrioQ o q).probes = s.probes := rfl
@[simp] theorem State.setPrioQ_canal : (s.setPrioQ o q).canal = s.canal := rfl
@[simp] theorem State.setPrioQ_exp : (s.setPrioQ o q).exp = s.exp := rfl
@[simp] theorem State.setPrioQ_mgr : (s.setPrioQ o q).mgr = s.mgr := rfl
@[simp] theorem State.setPrioQ_ledger : (s.setPrioQ o q).ledger = s.ledger := rfl
@[simp] theorem State.setPrioQ_esl : (s.setPrioQ o q).esl = s.esl := rfl
@[simp] theorem State.setPrioQ_chart : (s.setPrioQ o q).chart = s.chart := rfl
@[simp] theorem State.setPrioQ_fc : (s.setPrioQ o q).fc = s.fc := rfl
@[simp] theorem State.setPrioQ_lk : (s.setPrioQ o q).lk = s.lk := rfl
@[simp] theorem State.setPrioQ_env : (s.setPrioQ o q).env = s.env := rfl
@[simp] theorem State.setPrioQ_frame : (s.setPrioQ o q).frame = s.frame := rfl
@[simp] theorem State.setPrioQ_win : (s.setPrioQ o q).win = s.win := rfl
@[simp] theorem State.setPrioQ_ecc : (s.setPrioQ o q).ecc = s.ecc := rfl
@[simp] theorem State.setPrioQ_lb : (s.setPrioQ o q).lb = s.lb := rfl
@[simp] theorem State.setPrioQ_svc : (s.setPrioQ o q).svc = s.svc := rfl
@[simp] theorem State.setPrioQ_assay : (s.setPrioQ o q).assay = s.assay := rfl
@[simp] theorem State.setPrioQ_ch : (s.setPrioQ o q).ch = s.ch := rfl
@[simp] theorem State.setPrioQ_survey : (s.setPrioQ o q).survey = s.survey := rfl
@[simp] theorem State.setPrioQ_io : (s.setPrioQ o q).io = s.io := rfl
@[simp] theorem State.setPrioQ_free : (s.setPrioQ o q).free = s.free := rfl

theorem State.setPrioQ_prioQ (j' : Nat) : (s.setPrioQ o q).prioQ j' = if j' = o then q else s.prioQ j' := tget_tset ..
@[simp] theorem State.setPrioQ_prioQ_same : (s.setPrioQ o q).prioQ o = q := tget_tset_same ..

end

/-! ## setUnitOwner -/

section

variable (s : State) (u o : Nat)

@[simp] theorem State.setUnitOwner_pending : (s.setUnitOwner u o).pending = s.pending := rfl
@[simp] theorem State.setUnitOwner_ident : (s.setUnitOwner u o).ident = s.ident := rfl
@[simp] theorem State.setUnitOwner_dev : (s.setUnitOwner u o).dev = s.dev := rfl
@[simp] theorem State.setUnitOwner_clk : (s.setUnitOwner u o).clk = s.clk := rfl
@[simp] theorem State.setUnitOwner_time : (s.setUnitOwner u o).time = s.time := rfl
@[simp] theorem State.setUnitOwner_convoy : (s.setUnitOwner u o).convoy = s.convoy := rfl
@[simp] theorem State.setUnitOwner_probes : (s.setUnitOwner u o).probes = s.probes := rfl
@[simp] theorem State.setUnitOwner_canal : (s.setUnitOwner u o).canal = s.canal := rfl
@[simp] theorem State.setUnitOwner_exp : (s.setUnitOwner u o).exp = s.exp := rfl
@[simp] theorem State.setUnitOwner_mgr : (s.setUnitOwner u o).mgr = s.mgr := rfl
@[simp] theorem State.setUnitOwner_ledger : (s.setUnitOwner u o).ledger = s.ledger := rfl
@[simp] theorem State.setUnitOwner_esl : (s.setUnitOwner u o).esl = s.esl := rfl
@[simp] theorem State.setUnitOwner_chart : (s.setUnitOwner u o).chart = s.chart := rfl
@[simp] theorem State.setUnitOwner_fc : (s.setUnitOwner u o).fc = s.fc := rfl
@[simp] theorem State.setUnitOwner_lk : (s.setUnitOwner u o).lk = s.lk := rfl
@[simp] theorem State.setUnitOwner_env : (s.setUnitOwner u o).env = s.env := rfl
@[simp] theorem State.setUnitOwner_frame : (s.setUnitOwner u o).frame = s.frame := rfl
@[simp] theorem State.setUnitOwner_win : (s.setUnitOwner u o).win = s.win := rfl
@[simp] theorem State.setUnitOwner_ecc : (s.setUnitOwner u o).ecc = s.ecc := rfl
@[simp] theorem State.setUnitOwner_lb : (s.setUnitOwner u o).lb = s.lb := rfl
@[simp] theorem State.setUnitOwner_svc : (s.setUnitOwner u o).svc = s.svc := rfl
@[simp] theorem State.setUnitOwner_assay : (s.setUnitOwner u o).assay = s.assay := rfl
@[simp] theorem State.setUnitOwner_ch : (s.setUnitOwner u o).ch = s.ch := rfl
@[simp] theorem State.setUnitOwner_survey : (s.setUnitOwner u o).survey = s.survey := rfl
@[simp] theorem State.setUnitOwner_io : (s.setUnitOwner u o).io = s.io := rfl
@[simp] theorem State.setUnitOwner_free : (s.setUnitOwner u o).free = s.free := rfl

theorem State.setUnitOwner_unitOwner (j' : Nat) : (s.setUnitOwner u o).unitOwner j' = if j' = u then o else s.unitOwner j' := tget_tset ..
@[simp] theorem State.setUnitOwner_unitOwner_same : (s.setUnitOwner u o).unitOwner u = o := tget_tset_same ..

end

/-! ## setRr -/

section

variable (s : State) (k v : Nat)

@[simp] theorem State.setRr_pending : (s.setRr k v).pending = s.pending := rfl
@[simp] theorem State.setRr_ident : (s.setRr k v).ident = s.ident := rfl
@[simp] theorem State.setRr_dev : (s.setRr k v).dev = s.dev := rfl
@[simp] theorem State.setRr_clk : (s.setRr k v).clk = s.clk := rfl
@[simp] theorem State.setRr_time : (s.setRr k v).time = s.time := rfl
@[simp] theorem State.setRr_convoy : (s.setRr k v).convoy = s.convoy := rfl
@[simp] theorem State.setRr_probes : (s.setRr k v).probes = s.probes := rfl
@[simp] theorem State.setRr_basins : (s.setRr k v).basins = s.basins := rfl
@[simp] theorem State.setRr_exp : (s.setRr k v).exp = s.exp := rfl
@[simp] theorem State.setRr_mgr : (s.setRr k v).mgr = s.mgr := rfl
@[simp] theorem State.setRr_ledger : (s.setRr k v).ledger = s.ledger := rfl
@[simp] theorem State.setRr_esl : (s.setRr k v).esl = s.esl := rfl
@[simp] theorem State.setRr_chart : (s.setRr k v).chart = s.chart := rfl
@[simp] theorem State.setRr_fc : (s.setRr k v).fc = s.fc := rfl
@[simp] theorem State.setRr_lk : (s.setRr k v).lk = s.lk := rfl
@[simp] theorem State.setRr_env : (s.setRr k v).env = s.env := rfl
@[simp] theorem State.setRr_frame : (s.setRr k v).frame = s.frame := rfl
@[simp] theorem State.setRr_win : (s.setRr k v).win = s.win := rfl
@[simp] theorem State.setRr_ecc : (s.setRr k v).ecc = s.ecc := rfl
@[simp] theorem State.setRr_lb : (s.setRr k v).lb = s.lb := rfl
@[simp] theorem State.setRr_svc : (s.setRr k v).svc = s.svc := rfl
@[simp] theorem State.setRr_assay : (s.setRr k v).assay = s.assay := rfl
@[simp] theorem State.setRr_ch : (s.setRr k v).ch = s.ch := rfl
@[simp] theorem State.setRr_survey : (s.setRr k v).survey = s.survey := rfl
@[simp] theorem State.setRr_io : (s.setRr k v).io = s.io := rfl
@[simp] theorem State.setRr_free : (s.setRr k v).free = s.free := rfl

theorem State.setRr_rr (j' : Nat) : (s.setRr k v).rr j' = if j' = k then v else s.rr j' := tget_tset ..
@[simp] theorem State.setRr_rr_same : (s.setRr k v).rr k = v := tget_tset_same ..

end

/-! ## setCredit -/

section

variable (s : State) (k v : Nat)

@[simp] theorem State.setCredit_pending : (s.setCredit k v).pending = s.pending := rfl
@[simp] theorem State.setCredit_ident : (s.setCredit k v).ident = s.ident := rfl
@[simp] theorem State.setCredit_dev : (s.setCredit k v).dev = s.dev := rfl
@[simp] theorem State.setCredit_clk : (s.setCredit k v).clk = s.clk := rfl
@[simp] theorem State.setCredit_time : (s.setCredit k v).time = s.time := rfl
@[simp] theorem State.setCredit_convoy : (s.setCredit k v).convoy = s.convoy := rfl
@[simp] theorem State.setCredit_probes : (s.setCredit k v).probes = s.probes := rfl
@[simp] theorem State.setCredit_basins : (s.setCredit k v).basins = s.basins := rfl
@[simp] theorem State.setCredit_exp : (s.setCredit k v).exp = s.exp := rfl
@[simp] theorem State.setCredit_mgr : (s.setCredit k v).mgr = s.mgr := rfl
@[simp] theorem State.setCredit_ledger : (s.setCredit k v).ledger = s.ledger := rfl
@[simp] theorem State.setCredit_esl : (s.setCredit k v).esl = s.esl := rfl
@[simp] theorem State.setCredit_chart : (s.setCredit k v).chart = s.chart := rfl
@[simp] theorem State.setCredit_fc : (s.setCredit k v).fc = s.fc := rfl
@[simp] theorem State.setCredit_lk : (s.setCredit k v).lk = s.lk := rfl
@[simp] theorem State.setCredit_env : (s.setCredit k v).env = s.env := rfl
@[simp] theorem State.setCredit_frame : (s.setCredit k v).frame = s.frame := rfl
@[simp] theorem State.setCredit_win : (s.setCredit k v).win = s.win := rfl
@[simp] theorem State.setCredit_ecc : (s.setCredit k v).ecc = s.ecc := rfl
@[simp] theorem State.setCredit_lb : (s.setCredit k v).lb = s.lb := rfl
@[simp] theorem State.setCredit_svc : (s.setCredit k v).svc = s.svc := rfl
@[simp] theorem State.setCredit_assay : (s.setCredit k v).assay = s.assay := rfl
@[simp] theorem State.setCredit_ch : (s.setCredit k v).ch = s.ch := rfl
@[simp] theorem State.setCredit_survey : (s.setCredit k v).survey = s.survey := rfl
@[simp] theorem State.setCredit_io : (s.setCredit k v).io = s.io := rfl
@[simp] theorem State.setCredit_free : (s.setCredit k v).free = s.free := rfl

theorem State.setCredit_credit (j' : Nat) : (s.setCredit k v).credit j' = if j' = k then v else s.credit j' := tget_tset ..
@[simp] theorem State.setCredit_credit_same : (s.setCredit k v).credit k = v := tget_tset_same ..

end

/-! ## setStream -/

section

variable (s : State) (src o : Nat) (x : Stream)

@[simp] theorem State.setStream_pending : (s.setStream src o x).pending = s.pending := rfl
@[simp] theorem State.setStream_ident : (s.setStream src o x).ident = s.ident := rfl
@[simp] theorem State.setStream_dev : (s.setStream src o x).dev = s.dev := rfl
@[simp] theorem State.setStream_clk : (s.setStream src o x).clk = s.clk := rfl
@[simp] theorem State.setStream_time : (s.setStream src o x).time = s.time := rfl
@[simp] theorem State.setStream_convoy : (s.setStream src o x).convoy = s.convoy := rfl
@[simp] theorem State.setStream_probes : (s.setStream src o x).probes = s.probes := rfl
@[simp] theorem State.setStream_basins : (s.setStream src o x).basins = s.basins := rfl
@[simp] theorem State.setStream_exp : (s.setStream src o x).exp = s.exp := rfl
@[simp] theorem State.setStream_mgr : (s.setStream src o x).mgr = s.mgr := rfl
@[simp] theorem State.setStream_ledger : (s.setStream src o x).ledger = s.ledger := rfl
@[simp] theorem State.setStream_esl : (s.setStream src o x).esl = s.esl := rfl
@[simp] theorem State.setStream_chart : (s.setStream src o x).chart = s.chart := rfl
@[simp] theorem State.setStream_fc : (s.setStream src o x).fc = s.fc := rfl
@[simp] theorem State.setStream_lk : (s.setStream src o x).lk = s.lk := rfl
@[simp] theorem State.setStream_env : (s.setStream src o x).env = s.env := rfl
@[simp] theorem State.setStream_frame : (s.setStream src o x).frame = s.frame := rfl
@[simp] theorem State.setStream_win : (s.setStream src o x).win = s.win := rfl
@[simp] theorem State.setStream_ecc : (s.setStream src o x).ecc = s.ecc := rfl
@[simp] theorem State.setStream_lb : (s.setStream src o x).lb = s.lb := rfl
@[simp] theorem State.setStream_svc : (s.setStream src o x).svc = s.svc := rfl
@[simp] theorem State.setStream_assay : (s.setStream src o x).assay = s.assay := rfl
@[simp] theorem State.setStream_ch : (s.setStream src o x).ch = s.ch := rfl
@[simp] theorem State.setStream_survey : (s.setStream src o x).survey = s.survey := rfl
@[simp] theorem State.setStream_io : (s.setStream src o x).io = s.io := rfl
@[simp] theorem State.setStream_free : (s.setStream src o x).free = s.free := rfl

end

/-! ## setRun -/

section

variable (s : State) (r : Running)

@[simp] theorem State.setRun_pending : (s.setRun r).pending = s.pending := rfl
@[simp] theorem State.setRun_ident : (s.setRun r).ident = s.ident := rfl
@[simp] theorem State.setRun_dev : (s.setRun r).dev = s.dev := rfl
@[simp] theorem State.setRun_clk : (s.setRun r).clk = s.clk := rfl
@[simp] theorem State.setRun_time : (s.setRun r).time = s.time := rfl
@[simp] theorem State.setRun_convoy : (s.setRun r).convoy = s.convoy := rfl
@[simp] theorem State.setRun_probes : (s.setRun r).probes = s.probes := rfl
@[simp] theorem State.setRun_canal : (s.setRun r).canal = s.canal := rfl
@[simp] theorem State.setRun_basins : (s.setRun r).basins = s.basins := rfl
@[simp] theorem State.setRun_exp : (s.setRun r).exp = s.exp := rfl
@[simp] theorem State.setRun_mgr : (s.setRun r).mgr = s.mgr := rfl
@[simp] theorem State.setRun_ledger : (s.setRun r).ledger = s.ledger := rfl
@[simp] theorem State.setRun_esl : (s.setRun r).esl = s.esl := rfl
@[simp] theorem State.setRun_chart : (s.setRun r).chart = s.chart := rfl
@[simp] theorem State.setRun_fc : (s.setRun r).fc = s.fc := rfl
@[simp] theorem State.setRun_lk : (s.setRun r).lk = s.lk := rfl
@[simp] theorem State.setRun_env : (s.setRun r).env = s.env := rfl
@[simp] theorem State.setRun_frame : (s.setRun r).frame = s.frame := rfl
@[simp] theorem State.setRun_win : (s.setRun r).win = s.win := rfl
@[simp] theorem State.setRun_ecc : (s.setRun r).ecc = s.ecc := rfl
@[simp] theorem State.setRun_lb : (s.setRun r).lb = s.lb := rfl
@[simp] theorem State.setRun_svc : (s.setRun r).svc = s.svc := rfl
@[simp] theorem State.setRun_assay : (s.setRun r).assay = s.assay := rfl
@[simp] theorem State.setRun_survey : (s.setRun r).survey = s.survey := rfl
@[simp] theorem State.setRun_io : (s.setRun r).io = s.io := rfl
@[simp] theorem State.setRun_free : (s.setRun r).free = s.free := rfl

end

/-! ## setIrq -/

section

variable (s : State) (o b : Nat)

@[simp] theorem State.setIrq_pending : (s.setIrq o b).pending = s.pending := rfl
@[simp] theorem State.setIrq_ident : (s.setIrq o b).ident = s.ident := rfl
@[simp] theorem State.setIrq_dev : (s.setIrq o b).dev = s.dev := rfl
@[simp] theorem State.setIrq_clk : (s.setIrq o b).clk = s.clk := rfl
@[simp] theorem State.setIrq_time : (s.setIrq o b).time = s.time := rfl
@[simp] theorem State.setIrq_convoy : (s.setIrq o b).convoy = s.convoy := rfl
@[simp] theorem State.setIrq_probes : (s.setIrq o b).probes = s.probes := rfl
@[simp] theorem State.setIrq_canal : (s.setIrq o b).canal = s.canal := rfl
@[simp] theorem State.setIrq_basins : (s.setIrq o b).basins = s.basins := rfl
@[simp] theorem State.setIrq_exp : (s.setIrq o b).exp = s.exp := rfl
@[simp] theorem State.setIrq_mgr : (s.setIrq o b).mgr = s.mgr := rfl
@[simp] theorem State.setIrq_ledger : (s.setIrq o b).ledger = s.ledger := rfl
@[simp] theorem State.setIrq_esl : (s.setIrq o b).esl = s.esl := rfl
@[simp] theorem State.setIrq_chart : (s.setIrq o b).chart = s.chart := rfl
@[simp] theorem State.setIrq_fc : (s.setIrq o b).fc = s.fc := rfl
@[simp] theorem State.setIrq_lk : (s.setIrq o b).lk = s.lk := rfl
@[simp] theorem State.setIrq_env : (s.setIrq o b).env = s.env := rfl
@[simp] theorem State.setIrq_frame : (s.setIrq o b).frame = s.frame := rfl
@[simp] theorem State.setIrq_ecc : (s.setIrq o b).ecc = s.ecc := rfl
@[simp] theorem State.setIrq_lb : (s.setIrq o b).lb = s.lb := rfl
@[simp] theorem State.setIrq_svc : (s.setIrq o b).svc = s.svc := rfl
@[simp] theorem State.setIrq_assay : (s.setIrq o b).assay = s.assay := rfl
@[simp] theorem State.setIrq_ch : (s.setIrq o b).ch = s.ch := rfl
@[simp] theorem State.setIrq_survey : (s.setIrq o b).survey = s.survey := rfl
@[simp] theorem State.setIrq_io : (s.setIrq o b).io = s.io := rfl
@[simp] theorem State.setIrq_free : (s.setIrq o b).free = s.free := rfl

end

/-! ## setPersist -/

section

variable (s : State) (code unit : Nat) (on : Bool)

@[simp] theorem State.setPersist_pending : (s.setPersist code unit on).pending = s.pending := rfl
@[simp] theorem State.setPersist_ident : (s.setPersist code unit on).ident = s.ident := rfl
@[simp] theorem State.setPersist_dev : (s.setPersist code unit on).dev = s.dev := rfl
@[simp] theorem State.setPersist_clk : (s.setPersist code unit on).clk = s.clk := rfl
@[simp] theorem State.setPersist_time : (s.setPersist code unit on).time = s.time := rfl
@[simp] theorem State.setPersist_convoy : (s.setPersist code unit on).convoy = s.convoy := rfl
@[simp] theorem State.setPersist_probes : (s.setPersist code unit on).probes = s.probes := rfl
@[simp] theorem State.setPersist_canal : (s.setPersist code unit on).canal = s.canal := rfl
@[simp] theorem State.setPersist_basins : (s.setPersist code unit on).basins = s.basins := rfl
@[simp] theorem State.setPersist_exp : (s.setPersist code unit on).exp = s.exp := rfl
@[simp] theorem State.setPersist_mgr : (s.setPersist code unit on).mgr = s.mgr := rfl
@[simp] theorem State.setPersist_ledger : (s.setPersist code unit on).ledger = s.ledger := rfl
@[simp] theorem State.setPersist_esl : (s.setPersist code unit on).esl = s.esl := rfl
@[simp] theorem State.setPersist_chart : (s.setPersist code unit on).chart = s.chart := rfl
@[simp] theorem State.setPersist_lk : (s.setPersist code unit on).lk = s.lk := rfl
@[simp] theorem State.setPersist_env : (s.setPersist code unit on).env = s.env := rfl
@[simp] theorem State.setPersist_frame : (s.setPersist code unit on).frame = s.frame := rfl
@[simp] theorem State.setPersist_win : (s.setPersist code unit on).win = s.win := rfl
@[simp] theorem State.setPersist_ecc : (s.setPersist code unit on).ecc = s.ecc := rfl
@[simp] theorem State.setPersist_lb : (s.setPersist code unit on).lb = s.lb := rfl
@[simp] theorem State.setPersist_svc : (s.setPersist code unit on).svc = s.svc := rfl
@[simp] theorem State.setPersist_assay : (s.setPersist code unit on).assay = s.assay := rfl
@[simp] theorem State.setPersist_ch : (s.setPersist code unit on).ch = s.ch := rfl
@[simp] theorem State.setPersist_survey : (s.setPersist code unit on).survey = s.survey := rfl
@[simp] theorem State.setPersist_io : (s.setPersist code unit on).io = s.io := rfl
@[simp] theorem State.setPersist_free : (s.setPersist code unit on).free = s.free := rfl

end

/-! ## raiseAs -/

section

variable (s : State) (code unit detail : Nat) (cls : Option Nat) (ts : Nat)

@[simp] theorem State.raiseAs_pending : (s.raiseAs code unit detail cls ts).pending = s.pending := rfl
@[simp] theorem State.raiseAs_ident : (s.raiseAs code unit detail cls ts).ident = s.ident := rfl
@[simp] theorem State.raiseAs_dev : (s.raiseAs code unit detail cls ts).dev = s.dev := rfl
@[simp] theorem State.raiseAs_clk : (s.raiseAs code unit detail cls ts).clk = s.clk := rfl
@[simp] theorem State.raiseAs_time : (s.raiseAs code unit detail cls ts).time = s.time := rfl
@[simp] theorem State.raiseAs_convoy : (s.raiseAs code unit detail cls ts).convoy = s.convoy := rfl
@[simp] theorem State.raiseAs_probes : (s.raiseAs code unit detail cls ts).probes = s.probes := rfl
@[simp] theorem State.raiseAs_canal : (s.raiseAs code unit detail cls ts).canal = s.canal := rfl
@[simp] theorem State.raiseAs_basins : (s.raiseAs code unit detail cls ts).basins = s.basins := rfl
@[simp] theorem State.raiseAs_exp : (s.raiseAs code unit detail cls ts).exp = s.exp := rfl
@[simp] theorem State.raiseAs_mgr : (s.raiseAs code unit detail cls ts).mgr = s.mgr := rfl
@[simp] theorem State.raiseAs_ledger : (s.raiseAs code unit detail cls ts).ledger = s.ledger := rfl
@[simp] theorem State.raiseAs_esl : (s.raiseAs code unit detail cls ts).esl = s.esl := rfl
@[simp] theorem State.raiseAs_chart : (s.raiseAs code unit detail cls ts).chart = s.chart := rfl
@[simp] theorem State.raiseAs_lk : (s.raiseAs code unit detail cls ts).lk = s.lk := rfl
@[simp] theorem State.raiseAs_env : (s.raiseAs code unit detail cls ts).env = s.env := rfl
@[simp] theorem State.raiseAs_frame : (s.raiseAs code unit detail cls ts).frame = s.frame := rfl
@[simp] theorem State.raiseAs_win : (s.raiseAs code unit detail cls ts).win = s.win := rfl
@[simp] theorem State.raiseAs_ecc : (s.raiseAs code unit detail cls ts).ecc = s.ecc := rfl
@[simp] theorem State.raiseAs_lb : (s.raiseAs code unit detail cls ts).lb = s.lb := rfl
@[simp] theorem State.raiseAs_svc : (s.raiseAs code unit detail cls ts).svc = s.svc := rfl
@[simp] theorem State.raiseAs_assay : (s.raiseAs code unit detail cls ts).assay = s.assay := rfl
@[simp] theorem State.raiseAs_ch : (s.raiseAs code unit detail cls ts).ch = s.ch := rfl
@[simp] theorem State.raiseAs_survey : (s.raiseAs code unit detail cls ts).survey = s.survey := rfl
@[simp] theorem State.raiseAs_io : (s.raiseAs code unit detail cls ts).io = s.io := rfl
@[simp] theorem State.raiseAs_free : (s.raiseAs code unit detail cls ts).free = s.free := rfl

end

/-! ## setWord -/

section

variable (s : State) (b : Nat) (copy : Bool) (w : Nat) (x : EccWord)

@[simp] theorem State.setWord_pending : (s.setWord b copy w x).pending = s.pending := rfl
@[simp] theorem State.setWord_ident : (s.setWord b copy w x).ident = s.ident := rfl
@[simp] theorem State.setWord_dev : (s.setWord b copy w x).dev = s.dev := rfl
@[simp] theorem State.setWord_clk : (s.setWord b copy w x).clk = s.clk := rfl
@[simp] theorem State.setWord_time : (s.setWord b copy w x).time = s.time := rfl
@[simp] theorem State.setWord_convoy : (s.setWord b copy w x).convoy = s.convoy := rfl
@[simp] theorem State.setWord_probes : (s.setWord b copy w x).probes = s.probes := rfl
@[simp] theorem State.setWord_canal : (s.setWord b copy w x).canal = s.canal := rfl
@[simp] theorem State.setWord_basins : (s.setWord b copy w x).basins = s.basins := rfl
@[simp] theorem State.setWord_exp : (s.setWord b copy w x).exp = s.exp := rfl
@[simp] theorem State.setWord_mgr : (s.setWord b copy w x).mgr = s.mgr := rfl
@[simp] theorem State.setWord_ledger : (s.setWord b copy w x).ledger = s.ledger := rfl
@[simp] theorem State.setWord_esl : (s.setWord b copy w x).esl = s.esl := rfl
@[simp] theorem State.setWord_chart : (s.setWord b copy w x).chart = s.chart := rfl
@[simp] theorem State.setWord_fc : (s.setWord b copy w x).fc = s.fc := rfl
@[simp] theorem State.setWord_lk : (s.setWord b copy w x).lk = s.lk := rfl
@[simp] theorem State.setWord_env : (s.setWord b copy w x).env = s.env := rfl
@[simp] theorem State.setWord_frame : (s.setWord b copy w x).frame = s.frame := rfl
@[simp] theorem State.setWord_win : (s.setWord b copy w x).win = s.win := rfl
@[simp] theorem State.setWord_lb : (s.setWord b copy w x).lb = s.lb := rfl
@[simp] theorem State.setWord_svc : (s.setWord b copy w x).svc = s.svc := rfl
@[simp] theorem State.setWord_assay : (s.setWord b copy w x).assay = s.assay := rfl
@[simp] theorem State.setWord_ch : (s.setWord b copy w x).ch = s.ch := rfl
@[simp] theorem State.setWord_survey : (s.setWord b copy w x).survey = s.survey := rfl
@[simp] theorem State.setWord_io : (s.setWord b copy w x).io = s.io := rfl
@[simp] theorem State.setWord_free : (s.setWord b copy w x).free = s.free := rfl

end

/-! ## dropWord -/

section

variable (s : State) (b : Nat) (copy : Bool) (w : Nat)

@[simp] theorem State.dropWord_pending : (s.dropWord b copy w).pending = s.pending := rfl
@[simp] theorem State.dropWord_ident : (s.dropWord b copy w).ident = s.ident := rfl
@[simp] theorem State.dropWord_dev : (s.dropWord b copy w).dev = s.dev := rfl
@[simp] theorem State.dropWord_clk : (s.dropWord b copy w).clk = s.clk := rfl
@[simp] theorem State.dropWord_time : (s.dropWord b copy w).time = s.time := rfl
@[simp] theorem State.dropWord_convoy : (s.dropWord b copy w).convoy = s.convoy := rfl
@[simp] theorem State.dropWord_probes : (s.dropWord b copy w).probes = s.probes := rfl
@[simp] theorem State.dropWord_canal : (s.dropWord b copy w).canal = s.canal := rfl
@[simp] theorem State.dropWord_basins : (s.dropWord b copy w).basins = s.basins := rfl
@[simp] theorem State.dropWord_exp : (s.dropWord b copy w).exp = s.exp := rfl
@[simp] theorem State.dropWord_mgr : (s.dropWord b copy w).mgr = s.mgr := rfl
@[simp] theorem State.dropWord_ledger : (s.dropWord b copy w).ledger = s.ledger := rfl
@[simp] theorem State.dropWord_esl : (s.dropWord b copy w).esl = s.esl := rfl
@[simp] theorem State.dropWord_chart : (s.dropWord b copy w).chart = s.chart := rfl
@[simp] theorem State.dropWord_fc : (s.dropWord b copy w).fc = s.fc := rfl
@[simp] theorem State.dropWord_lk : (s.dropWord b copy w).lk = s.lk := rfl
@[simp] theorem State.dropWord_env : (s.dropWord b copy w).env = s.env := rfl
@[simp] theorem State.dropWord_frame : (s.dropWord b copy w).frame = s.frame := rfl
@[simp] theorem State.dropWord_win : (s.dropWord b copy w).win = s.win := rfl
@[simp] theorem State.dropWord_lb : (s.dropWord b copy w).lb = s.lb := rfl
@[simp] theorem State.dropWord_svc : (s.dropWord b copy w).svc = s.svc := rfl
@[simp] theorem State.dropWord_assay : (s.dropWord b copy w).assay = s.assay := rfl
@[simp] theorem State.dropWord_ch : (s.dropWord b copy w).ch = s.ch := rfl
@[simp] theorem State.dropWord_survey : (s.dropWord b copy w).survey = s.survey := rfl
@[simp] theorem State.dropWord_io : (s.dropWord b copy w).io = s.io := rfl
@[simp] theorem State.dropWord_free : (s.dropWord b copy w).free = s.free := rfl

end

/-! ## writeRange -/

section

variable (s : State) (b w n : Nat)

@[simp] theorem State.writeRange_pending : (s.writeRange b w n).pending = s.pending := rfl
@[simp] theorem State.writeRange_ident : (s.writeRange b w n).ident = s.ident := rfl
@[simp] theorem State.writeRange_dev : (s.writeRange b w n).dev = s.dev := rfl
@[simp] theorem State.writeRange_clk : (s.writeRange b w n).clk = s.clk := rfl
@[simp] theorem State.writeRange_time : (s.writeRange b w n).time = s.time := rfl
@[simp] theorem State.writeRange_convoy : (s.writeRange b w n).convoy = s.convoy := rfl
@[simp] theorem State.writeRange_probes : (s.writeRange b w n).probes = s.probes := rfl
@[simp] theorem State.writeRange_canal : (s.writeRange b w n).canal = s.canal := rfl
@[simp] theorem State.writeRange_basins : (s.writeRange b w n).basins = s.basins := rfl
@[simp] theorem State.writeRange_exp : (s.writeRange b w n).exp = s.exp := rfl
@[simp] theorem State.writeRange_mgr : (s.writeRange b w n).mgr = s.mgr := rfl
@[simp] theorem State.writeRange_ledger : (s.writeRange b w n).ledger = s.ledger := rfl
@[simp] theorem State.writeRange_esl : (s.writeRange b w n).esl = s.esl := rfl
@[simp] theorem State.writeRange_chart : (s.writeRange b w n).chart = s.chart := rfl
@[simp] theorem State.writeRange_fc : (s.writeRange b w n).fc = s.fc := rfl
@[simp] theorem State.writeRange_lk : (s.writeRange b w n).lk = s.lk := rfl
@[simp] theorem State.writeRange_env : (s.writeRange b w n).env = s.env := rfl
@[simp] theorem State.writeRange_frame : (s.writeRange b w n).frame = s.frame := rfl
@[simp] theorem State.writeRange_win : (s.writeRange b w n).win = s.win := rfl
@[simp] theorem State.writeRange_lb : (s.writeRange b w n).lb = s.lb := rfl
@[simp] theorem State.writeRange_svc : (s.writeRange b w n).svc = s.svc := rfl
@[simp] theorem State.writeRange_assay : (s.writeRange b w n).assay = s.assay := rfl
@[simp] theorem State.writeRange_ch : (s.writeRange b w n).ch = s.ch := rfl
@[simp] theorem State.writeRange_survey : (s.writeRange b w n).survey = s.survey := rfl
@[simp] theorem State.writeRange_io : (s.writeRange b w n).io = s.io := rfl
@[simp] theorem State.writeRange_free : (s.writeRange b w n).free = s.free := rfl

end

/-! ## setRate -/

section

variable (s : State) (f sl : Rat)

@[simp] theorem State.setRate_pending : (s.setRate f sl).pending = s.pending := rfl
@[simp] theorem State.setRate_ident : (s.setRate f sl).ident = s.ident := rfl
@[simp] theorem State.setRate_dev : (s.setRate f sl).dev = s.dev := rfl
@[simp] theorem State.setRate_clk : (s.setRate f sl).clk = s.clk := rfl
@[simp] theorem State.setRate_convoy : (s.setRate f sl).convoy = s.convoy := rfl
@[simp] theorem State.setRate_probes : (s.setRate f sl).probes = s.probes := rfl
@[simp] theorem State.setRate_canal : (s.setRate f sl).canal = s.canal := rfl
@[simp] theorem State.setRate_basins : (s.setRate f sl).basins = s.basins := rfl
@[simp] theorem State.setRate_exp : (s.setRate f sl).exp = s.exp := rfl
@[simp] theorem State.setRate_mgr : (s.setRate f sl).mgr = s.mgr := rfl
@[simp] theorem State.setRate_ledger : (s.setRate f sl).ledger = s.ledger := rfl
@[simp] theorem State.setRate_esl : (s.setRate f sl).esl = s.esl := rfl
@[simp] theorem State.setRate_chart : (s.setRate f sl).chart = s.chart := rfl
@[simp] theorem State.setRate_fc : (s.setRate f sl).fc = s.fc := rfl
@[simp] theorem State.setRate_lk : (s.setRate f sl).lk = s.lk := rfl
@[simp] theorem State.setRate_env : (s.setRate f sl).env = s.env := rfl
@[simp] theorem State.setRate_frame : (s.setRate f sl).frame = s.frame := rfl
@[simp] theorem State.setRate_win : (s.setRate f sl).win = s.win := rfl
@[simp] theorem State.setRate_ecc : (s.setRate f sl).ecc = s.ecc := rfl
@[simp] theorem State.setRate_lb : (s.setRate f sl).lb = s.lb := rfl
@[simp] theorem State.setRate_svc : (s.setRate f sl).svc = s.svc := rfl
@[simp] theorem State.setRate_assay : (s.setRate f sl).assay = s.assay := rfl
@[simp] theorem State.setRate_ch : (s.setRate f sl).ch = s.ch := rfl
@[simp] theorem State.setRate_survey : (s.setRate f sl).survey = s.survey := rfl
@[simp] theorem State.setRate_io : (s.setRate f sl).io = s.io := rfl
@[simp] theorem State.setRate_free : (s.setRate f sl).free = s.free := rfl

end

/-! ## setPoundQ -/

section

variable (s : State) (p : Nat) (q : List Rec)

@[simp] theorem State.setPoundQ_pending : (s.setPoundQ p q).pending = s.pending := rfl
@[simp] theorem State.setPoundQ_ident : (s.setPoundQ p q).ident = s.ident := rfl
@[simp] theorem State.setPoundQ_dev : (s.setPoundQ p q).dev = s.dev := rfl
@[simp] theorem State.setPoundQ_clk : (s.setPoundQ p q).clk = s.clk := rfl
@[simp] theorem State.setPoundQ_time : (s.setPoundQ p q).time = s.time := rfl
@[simp] theorem State.setPoundQ_convoy : (s.setPoundQ p q).convoy = s.convoy := rfl
@[simp] theorem State.setPoundQ_probes : (s.setPoundQ p q).probes = s.probes := rfl
@[simp] theorem State.setPoundQ_basins : (s.setPoundQ p q).basins = s.basins := rfl
@[simp] theorem State.setPoundQ_exp : (s.setPoundQ p q).exp = s.exp := rfl
@[simp] theorem State.setPoundQ_mgr : (s.setPoundQ p q).mgr = s.mgr := rfl
@[simp] theorem State.setPoundQ_ledger : (s.setPoundQ p q).ledger = s.ledger := rfl
@[simp] theorem State.setPoundQ_esl : (s.setPoundQ p q).esl = s.esl := rfl
@[simp] theorem State.setPoundQ_chart : (s.setPoundQ p q).chart = s.chart := rfl
@[simp] theorem State.setPoundQ_fc : (s.setPoundQ p q).fc = s.fc := rfl
@[simp] theorem State.setPoundQ_lk : (s.setPoundQ p q).lk = s.lk := rfl
@[simp] theorem State.setPoundQ_env : (s.setPoundQ p q).env = s.env := rfl
@[simp] theorem State.setPoundQ_frame : (s.setPoundQ p q).frame = s.frame := rfl
@[simp] theorem State.setPoundQ_win : (s.setPoundQ p q).win = s.win := rfl
@[simp] theorem State.setPoundQ_ecc : (s.setPoundQ p q).ecc = s.ecc := rfl
@[simp] theorem State.setPoundQ_lb : (s.setPoundQ p q).lb = s.lb := rfl
@[simp] theorem State.setPoundQ_svc : (s.setPoundQ p q).svc = s.svc := rfl
@[simp] theorem State.setPoundQ_assay : (s.setPoundQ p q).assay = s.assay := rfl
@[simp] theorem State.setPoundQ_ch : (s.setPoundQ p q).ch = s.ch := rfl
@[simp] theorem State.setPoundQ_survey : (s.setPoundQ p q).survey = s.survey := rfl
@[simp] theorem State.setPoundQ_io : (s.setPoundQ p q).io = s.io := rfl
@[simp] theorem State.setPoundQ_free : (s.setPoundQ p q).free = s.free := rfl

theorem State.setPoundQ_poundQ (j : Nat) : (s.setPoundQ p q).poundQ j = if j = p then q else s.poundQ j := tget_tset ..
@[simp] theorem State.setPoundQ_poundQ_same : (s.setPoundQ p q).poundQ p = q := tget_tset_same ..
@[simp] theorem State.setPoundQ_queue (j : Nat) : (s.setPoundQ p q).queue j = s.queue j := rfl

end

/-! ## respond -/

section

variable (s : State) (id : BitVec 8) (err : BitVec 2) (data : W64)

@[simp] theorem State.respond_pending : (s.respond id err data).pending = s.pending := rfl
@[simp] theorem State.respond_ident : (s.respond id err data).ident = s.ident := rfl
@[simp] theorem State.respond_dev : (s.respond id err data).dev = s.dev := rfl
@[simp] theorem State.respond_clk : (s.respond id err data).clk = s.clk := rfl
@[simp] theorem State.respond_time : (s.respond id err data).time = s.time := rfl
@[simp] theorem State.respond_convoy : (s.respond id err data).convoy = s.convoy := rfl
@[simp] theorem State.respond_probes : (s.respond id err data).probes = s.probes := rfl
@[simp] theorem State.respond_canal : (s.respond id err data).canal = s.canal := rfl
@[simp] theorem State.respond_basins : (s.respond id err data).basins = s.basins := rfl
@[simp] theorem State.respond_exp : (s.respond id err data).exp = s.exp := rfl
@[simp] theorem State.respond_mgr : (s.respond id err data).mgr = s.mgr := rfl
@[simp] theorem State.respond_ledger : (s.respond id err data).ledger = s.ledger := rfl
@[simp] theorem State.respond_esl : (s.respond id err data).esl = s.esl := rfl
@[simp] theorem State.respond_chart : (s.respond id err data).chart = s.chart := rfl
@[simp] theorem State.respond_fc : (s.respond id err data).fc = s.fc := rfl
@[simp] theorem State.respond_lk : (s.respond id err data).lk = s.lk := rfl
@[simp] theorem State.respond_env : (s.respond id err data).env = s.env := rfl
@[simp] theorem State.respond_frame : (s.respond id err data).frame = s.frame := rfl
@[simp] theorem State.respond_win : (s.respond id err data).win = s.win := rfl
@[simp] theorem State.respond_ecc : (s.respond id err data).ecc = s.ecc := rfl
@[simp] theorem State.respond_lb : (s.respond id err data).lb = s.lb := rfl
@[simp] theorem State.respond_svc : (s.respond id err data).svc = s.svc := rfl
@[simp] theorem State.respond_assay : (s.respond id err data).assay = s.assay := rfl
@[simp] theorem State.respond_ch : (s.respond id err data).ch = s.ch := rfl
@[simp] theorem State.respond_survey : (s.respond id err data).survey = s.survey := rfl
@[simp] theorem State.respond_free : (s.respond id err data).free = s.free := rfl

/-- What a response leaves on the host target port. -/
@[simp] theorem State.respond_io : (s.respond id err data).io = { s.io with rspVld := true, rspId := id, rspErr := err, rdata := data } := rfl

end

/-! ## Stored words -/

/-- Every operation on the stored words keeps their canonical form: addresses rise, and none is listed that reads as an
unlisted one does. -/
def State.wordsWf (s : State) : Bool := twf EccWord.plain s.ecc.word

theorem reset_wordsWf : State.reset.wordsWf = true := rfl

theorem setWord_wordsWf (s : State) (b : Nat) (copy : Bool) (w : Nat) (x : EccWord) (h : s.wordsWf = true) :
    (s.setWord b copy w x).wordsWf = true := twf_tset _ _ _ _ h

theorem dropWord_wordsWf (s : State) (b : Nat) (copy : Bool) (w : Nat) (h : s.wordsWf = true) :
    (s.dropWord b copy w).wordsWf = true := twf_filter _ _ _ h

theorem writeRange_wordsWf (s : State) (b w n : Nat) (h : s.wordsWf = true) : (s.writeRange b w n).wordsWf = true :=
  twf_filter _ _ _ h

theorem poisonWord_wordsWf (s : State) (b : Nat) (copy : Bool) (w : Nat) (h : s.wordsWf = true) :
    (s.poisonWord b copy w).wordsWf = true := setWord_wordsWf _ _ _ _ _ h

theorem clearBank_wordsWf (s : State) (b : Nat) (h : s.wordsWf = true) : (s.clearBank b).wordsWf = true :=
  twf_filter EccWord.plain _ s.ecc.word h

theorem clearBanks_wordsWf (s : State) (bs : List Nat) (h : s.wordsWf = true) : (s.clearBanks bs).wordsWf = true := by
  induction bs generalizing s with
  | nil => exact h
  | cons b bs ih => exact ih _ (clearBank_wordsWf s b h)

/-- Reading a word back after writing it, and any other word after that. -/
theorem setWord_word (s : State) (b : Nat) (copy : Bool) (w : Nat) (x : EccWord) (k : Nat) :
    tget (s.setWord b copy w x).ecc.word k EccWord.plain = if k = eccKey b copy w then x else tget s.ecc.word k EccWord.plain :=
  tget_tset ..

end Sys2Proof.Machine
end

