-- ==== Sys2Proof/Laws/Emit.lean ====
section
/-! SUPPORT. What emitting a record can do: it changes the canal alone (its queues, its streams, its losses). -/

namespace Sys2Proof.Machine

/-- The second state differs from the first in the canal alone. -/
def CanalOnly (s t : State) : Prop := t = { s with canal := t.canal }

theorem CanalOnly.rfl {s : State} : CanalOnly s s := Eq.refl s

theorem CanalOnly.trans {s t u : State} (h : CanalOnly s t) (k : CanalOnly t u) : CanalOnly s u := by
  unfold CanalOnly at *
  rw [k, h]

theorem CanalOnly.ite {s a b : State} (c : Prop) [Decidable c] (ha : CanalOnly s a) (hb : CanalOnly s b) :
    CanalOnly s (if c then a else b) := by split <;> assumption

theorem CanalOnly.foldl {α : Type} (f : State → α → State) (h : ∀ s a, CanalOnly s (f s a)) (l : List α) (s : State) :
    CanalOnly s (l.foldl f s) := by
  induction l generalizing s with
  | nil => exact .rfl
  | cons a l ih => exact (h s a).trans (ih _)

theorem setStream_canal (s : State) (src o : Nat) (x : Stream) : CanalOnly s (s.setStream src o x) := Eq.refl _
theorem setQueue_canal (s : State) (src : Nat) (q : List Rec) : CanalOnly s (s.setQueue src q) := Eq.refl _

theorem noteLoss_canal (s : State) (src : Nat) (r : Rec) : CanalOnly s (s.noteLoss src r) := by
  unfold State.noteLoss
  exact .ite _ (Eq.refl _) (Eq.refl _)

theorem pushRec_canal (s : State) (src : Nat) (r : Rec) : CanalOnly s (s.pushRec src r) :=
  (setQueue_canal s src _).trans (.foldl _ (fun s d => noteLoss_canal s src d) _ _)

theorem emitSync_canal (s : State) (src o ts : Nat) (a b : Bool) : CanalOnly s (s.emitSync src o ts a b) :=
  (setStream_canal s src o _).trans (pushRec_canal ..)

/-- Emitting a record: nothing without a destination, and the canal alone with one. -/
theorem emit_canal (s : State) (src o ty cls ts payload : Nat) (extra : List Nat) :
    CanalOnly s (s.emit src o ty cls ts payload extra) := by
  unfold State.emit
  refine .ite _ ?_ .rfl
  refine CanalOnly.trans (t := if ((s.stream src o).active && !(s.stream src o).resync && !s.showsChange src o ts) || s.halted src
    then s else s.emitSync src o ts (s.stream src o).resync false) (.ite _ .rfl (emitSync_canal ..)) ?_
  exact (setStream_canal ..).trans (pushRec_canal ..)

theorem emitBare_canal (s : State) (src o ty cls ts payload : Nat) (extra : List Nat) :
    CanalOnly s (s.emitBare src o ty cls ts payload extra) := by
  unfold State.emitBare
  exact .ite _ (pushRec_canal ..) .rfl

theorem emitRec_canal (s : State) (r : Rec) : CanalOnly s (s.emitRec r) := emit_canal ..

theorem stopStreams_canal (s : State) (src : Nat) : CanalOnly s (s.stopStreams src) :=
  .foldl _ (fun _ _ => setStream_canal ..) _ _

theorem syncOf_canal (s : State) (srcs : List Nat) : CanalOnly s (s.syncOf srcs) :=
  .foldl _ (fun s _ => .foldl _ (fun _ _ => .ite _ (emitSync_canal ..) .rfl) _ s) _ _

theorem emit_without_destination (s : State) (src o ty cls ts payload : Nat) (extra : List Nat) (h : s.canEmit src o = false) :
    s.emit src o ty cls ts payload extra = s := by
  simp [State.emit, h]

end Sys2Proof.Machine
end

