-- ==== Sys2Proof/Laws/Keep.lean ====
section
/-! SUPPORT. What most operations leave alone: the queue, the integration values, the device mode, the block power state,
Convoy Time, the charter table and the key generations. One lemma for each operation, so that no proof about these unfolds
it. -/

namespace Sys2Proof.Machine

/-- The parts of the state that few commands change. -/
structure Rest where
  pending : List Instr
  ident : Ident
  mode : Mode
  phase : BootPhase
  ready : Bool
  power : Power
  entering : Option Power
  cvt : Nat
  charters : Tab ChState
  keygen : Tab Nat
  powered : Nat

def State.rest (s : State) : Rest :=
  ⟨s.pending, s.ident, s.dev.mode, s.dev.phase, s.dev.ready, s.lk.st, s.lk.entering, s.time.cvt, s.chart.st, s.chart.keygen,
    s.clk.powered⟩

@[simp] theorem rest_mk (pending ident dev clk time convoy probes canal basins exp mgr ledger esl chart fc lk env frame win
    ecc lb svc assay ch survey io free) :
    State.rest ⟨pending, ident, dev, clk, time, convoy, probes, canal, basins, exp, mgr, ledger, esl, chart, fc, lk, env,
      frame, win, ecc, lb, svc, assay, ch, survey, io, free⟩ =
    ⟨pending, ident, dev.mode, dev.phase, dev.ready, lk.st, lk.entering, time.cvt, chart.st, chart.keygen, clk.powered⟩ := rfl

@[simp] theorem rest_eta (s : State) :
    Rest.mk s.pending s.ident s.dev.mode s.dev.phase s.dev.ready s.lk.st s.lk.entering s.time.cvt s.chart.st s.chart.keygen
      s.clk.powered = s.rest := rfl

@[simp] theorem rest_ite (c : Prop) [Decidable c] (a b : State) : (if c then a else b).rest = if c then a.rest else b.rest := by
  split <;> rfl

@[simp] theorem foldl_rest {α : Type} (f : State → α → State) (h : ∀ s a, (f s a).rest = s.rest) (l : List α) (s : State) :
    (l.foldl f s).rest = s.rest := by
  induction l generalizing s with
  | nil => rfl
  | cons a l ih => rw [List.foldl_cons, ih, h]

@[simp] theorem foldl_snd_rest {α β : Type} (f : β × State → α → β × State) (h : ∀ x a, (f x a).2.rest = x.2.rest) (l : List α) (x : β × State) :
    (l.foldl f x).2.rest = x.2.rest := by
  induction l generalizing x with
  | nil => rfl
  | cons a l ih => rw [List.foldl_cons, ih, h]

@[simp] theorem foldl_fst_rest {α β : Type} (f : State × β → α → State × β) (h : ∀ x a, (f x a).1.rest = x.1.rest) (l : List α) (x : State × β) :
    (l.foldl f x).1.rest = x.1.rest := by
  induction l generalizing x with
  | nil => rfl
  | cons a l ih => rw [List.foldl_cons, ih, h]

/-- A command that answers a next state and leaves these parts alone. -/
def Kept (s : State) (r : Res) : Prop := ∃ t, r = .next t ∧ t.rest = s.rest

@[simp] theorem kept_next (s t) : Kept s (.next t) ↔ t.rest = s.rest :=
  ⟨fun ⟨_, h, k⟩ => by cases h; exact k, fun h => ⟨t, rfl, h⟩⟩

@[simp] theorem kept_ite (s) (c : Prop) [Decidable c] (a b : Res) : Kept s (if c then a else b) ↔ if c then Kept s a else Kept s b := by
  split <;> rfl

theorem kept_of_ite {s} {c : Prop} [Decidable c] {a b : Res} (ha : Kept s a) (hb : Kept s b) : Kept s (if c then a else b) := by
  split <;> assumption

theorem rest_of_ite {x : Rest} {c : Prop} [Decidable c] {a b : State} (ha : a.rest = x) (hb : b.rest = x) :
    (if c then a else b).rest = x := by split <;> assumption

theorem fst_of_ite {β : Type} {x : Rest} {c : Prop} [Decidable c] {a b : State × β} (ha : a.1.rest = x) (hb : b.1.rest = x) :
    (if c then a else b).1.rest = x := by split <;> assumption

theorem snd_of_ite {β : Type} {x : Rest} {c : Prop} [Decidable c] {a b : β × State} (ha : a.2.rest = x) (hb : b.2.rest = x) :
    (if c then a else b).2.rest = x := by split <;> assumption

/-- What a packet's body leaves alone. -/
def Verdict.keeps (s : State) : Verdict → Prop
  | .reject _ _ _ => True
  | .done _ _ t => t.rest = s.rest
  | .accept _ t => t.rest = s.rest

@[simp] theorem keeps_reject (s st a b) : Verdict.keeps s (.reject st a b) ↔ True := Iff.rfl
@[simp] theorem keeps_done (s st ws t) : Verdict.keeps s (.done st ws t) ↔ t.rest = s.rest := Iff.rfl
@[simp] theorem keeps_accept (s ws t) : Verdict.keeps s (.accept ws t) ↔ t.rest = s.rest := Iff.rfl

@[simp] theorem keeps_ite (s) (c : Prop) [Decidable c] (a b : Verdict) :
    Verdict.keeps s (if c then a else b) ↔ if c then Verdict.keeps s a else Verdict.keeps s b := by split <;> rfl

@[simp] theorem keeps_chk (s bad st i k) : Verdict.keeps s (chk bad st i k) ↔ (bad = true ∨ Verdict.keeps s k) := by
  cases bad <;> simp [chk]

@[simp] theorem keeps_concern (s' o i s k) (h : Verdict.keeps s' k) : Verdict.keeps s' (concern o i s k) := by
  simp [concern, h]

theorem keeps_checkList (s' ps s owned k) (h : ∀ ps, Verdict.keeps s' (k ps)) : Verdict.keeps s' (checkList ps s owned k) := by
  unfold checkList
  split
  · trivial
  · split
    · trivial
    · exact h _

@[simp] theorem keeps_checkSet (s' pk s owned k) (h : ∀ ps, Verdict.keeps s' (k ps)) : Verdict.keeps s' (checkSet pk s owned k) :=
  keeps_checkList _ _ _ _ _ h

end Sys2Proof.Machine
end

