-- ==== Sys2Proof/Laws/KeepCore.lean ====
section
/-! SUPPORT. What the operations of these files leave alone (Laws/Keep): the shared operations, packets, stored words and device commands. -/

namespace Sys2Proof.Machine

/-! ## Machine/Ops.lean -/

@[simp] theorem State.setProbe_rest (s : State) (p : Nat) (x : Probe) : (State.setProbe s p x).rest = s.rest := by
  simp [State.setProbe]
@[simp] theorem State.modProbe_rest (s : State) (p : Nat) (f : Probe → Probe) : (State.modProbe s p f).rest = s.rest := by
  simp [State.modProbe]
@[simp] theorem State.setPeer_rest (s : State) (j : Nat) (x : Peer) : (State.setPeer s j x).rest = s.rest := by
  simp [State.setPeer]
@[simp] theorem State.modPeer_rest (s : State) (j : Nat) (f : Peer → Peer) : (State.modPeer s j f).rest = s.rest := by
  simp [State.modPeer]
@[simp] theorem State.setApt_rest (s : State) (o : Nat) (x : Apt) : (State.setApt s o x).rest = s.rest := by
  simp [State.setApt]
@[simp] theorem State.modApt_rest (s : State) (o : Nat) (f : Apt → Apt) : (State.modApt s o f).rest = s.rest := by
  simp [State.modApt]
@[simp] theorem State.setExport_rest (s : State) (o : Nat) (x : Export) : (State.setExport s o x).rest = s.rest := by
  simp [State.setExport]
@[simp] theorem State.setDom_rest (s : State) (h : Nat) (x : HostDom) : (State.setDom s h x).rest = s.rest := by
  simp [State.setDom]
@[simp] theorem State.modDom_rest (s : State) (h : Nat) (f : HostDom → HostDom) : (State.modDom s h f).rest = s.rest := by
  simp [State.modDom]
@[simp] theorem State.setBank_rest (s : State) (k : Nat) (x : Bank) : (State.setBank s k x).rest = s.rest := by
  simp [State.setBank]
@[simp] theorem State.modBank_rest (s : State) (k : Nat) (f : Bank → Bank) : (State.modBank s k f).rest = s.rest := by
  simp [State.modBank]
@[simp] theorem State.setKeySlot_rest (s : State) (i : Nat) (x : KeySlot) : (State.setKeySlot s i x).rest = s.rest := by
  simp [State.setKeySlot]
@[simp] theorem State.setTap_rest (s : State) (t : Nat) (x : Tap) : (State.setTap s t x).rest = s.rest := by
  simp [State.setTap]
@[simp] theorem State.modTap_rest (s : State) (t : Nat) (f : Tap → Tap) : (State.modTap s t f).rest = s.rest := by
  simp [State.modTap]
@[simp] theorem State.setSlot_rest (s : State) (k : Nat) (x : Watch) : (State.setSlot s k x).rest = s.rest := by
  simp [State.setSlot]
@[simp] theorem State.setCore_rest (s : State) (c : Nat) (x : Core) : (State.setCore s c x).rest = s.rest := by
  simp [State.setCore]
@[simp] theorem State.setStream_rest (s : State) (src : Nat) (o : Nat) (x : Stream) : (State.setStream s src o x).rest = s.rest := by
  simp [State.setStream]
@[simp] theorem State.setQueue_rest (s : State) (src : Nat) (q : List Rec) : (State.setQueue s src q).rest = s.rest := by
  simp [State.setQueue]
@[simp] theorem State.setSnapWin_rest (s : State) (o : Nat) (x : SnapWin) : (State.setSnapWin s o x).rest = s.rest := by
  simp [State.setSnapWin]
@[simp] theorem State.fresh_rest (s : State) : (State.fresh s).2.rest = s.rest := by
  simp [State.fresh]
@[simp] theorem State.freshIf_rest (s : State) (need : Bool) : (State.freshIf s need).2.rest = s.rest := by
  simp only [State.freshIf]; (repeat' split) <;> simp
@[simp] theorem State.setIrq_rest (s : State) (o : Nat) (b : Nat) : (State.setIrq s o b).rest = s.rest := by
  simp [State.setIrq]
@[simp] theorem State.setPoundQ_rest (s : State) (p : Nat) (q : List Rec) : (State.setPoundQ s p q).rest = s.rest := by
  simp [State.setPoundQ]
@[simp] theorem State.noteLoss_rest (s : State) (src : Nat) (r : Rec) : (State.noteLoss s src r).rest = s.rest := by
  simp [State.noteLoss]
@[simp] theorem State.pushRec_rest (s : State) (src : Nat) (r : Rec) : (State.pushRec s src r).rest = s.rest := by
  simp [State.pushRec]
@[simp] theorem State.emitSync_rest (s : State) (src : Nat) (o : Nat) (ts : Nat) (resync : Bool) (idle : Bool) : (State.emitSync s src o ts resync idle).rest = s.rest := by
  simp [State.emitSync]
@[simp] theorem State.emit_rest (s : State) (src : Nat) (o : Nat) (ty : Nat) (cls : Nat) (ts : Nat) (payload : Nat) (extra : List Nat) : (State.emit s src o ty cls ts payload extra).rest = s.rest := by
  simp [State.emit]
@[simp] theorem State.emitRec_rest (s : State) (r : Rec) : (State.emitRec s r).rest = s.rest := by
  simp [State.emitRec]
@[simp] theorem State.emitBare_rest (s : State) (src : Nat) (o : Nat) (ty : Nat) (cls : Nat) (ts : Nat) (payload : Nat) (extra : List Nat) : (State.emitBare s src o ty cls ts payload extra).rest = s.rest := by
  simp [State.emitBare]
@[simp] theorem State.syncOf_rest (s : State) (srcs : List Nat) : (State.syncOf s srcs).rest = s.rest := by
  simp [State.syncOf]
@[simp] theorem State.oweSync_rest (s : State) (src : Nat) : (State.oweSync s src).rest = s.rest := by
  simp [State.oweSync]
@[simp] theorem State.paySync_rest (s : State) (src : Nat) (ts : Nat) : (State.paySync s src ts).rest = s.rest := by
  simp [State.paySync]
@[simp] theorem State.stopStreams_rest (s : State) (src : Nat) : (State.stopStreams s src).rest = s.rest := by
  simp [State.stopStreams]
@[simp] theorem State.cutStreams_rest (s : State) (src : Nat) : (State.cutStreams s src).rest = s.rest := by
  simp [State.cutStreams]
@[simp] theorem State.wake_rest (s : State) (k : WakeKind) : (State.wake s k).rest = s.rest := by
  simp only [State.wake]; (repeat' split) <;> simp
@[simp] theorem State.emitTrigger_rest (s : State) (trig : Nat) (code : Nat) (ignored : Bool) (ts : Nat) : (State.emitTrigger s trig code ignored ts).rest = s.rest := by
  simp [State.emitTrigger]
@[simp] theorem State.countTrigger_rest (s : State) (trig : Nat) (code : Nat) : (State.countTrigger s trig code).rest = s.rest := by
  simp only [State.countTrigger]; (repeat' split) <;> first | (simp; done) | (simp; rfl)
@[simp] theorem State.swapTrigger_rest (s : State) (trig : Nat) (code : Nat) : (State.swapTrigger s trig code).2.rest = s.rest := by
  simp only [State.swapTrigger]; (repeat' split) <;> first | (simp; done) | (simp; rfl)
@[simp] theorem State.fireTrigger_rest (s : State) (trig : Nat) (code : Nat) : (State.fireTrigger s trig code).rest = s.rest := by
  simp only [State.fireTrigger]; (repeat' split) <;> simp
@[simp] theorem State.setPersist_rest (s : State) (code : Nat) (unit : Nat) (on : Bool) : (State.setPersist s code unit on).rest = s.rest := by
  simp [State.setPersist]
@[simp] theorem State.raiseAs_rest (s : State) (code : Nat) (unit : Nat) (detail : Nat) (cls : Option Nat) (ts : Nat) : (State.raiseAs s code unit detail cls ts).rest = s.rest := by
  simp [State.raiseAs]
@[simp] theorem State.raise_rest (s : State) (code : Nat) (unit : Nat) (detail : Nat) : (State.raise s code unit detail).rest = s.rest := by
  simp [State.raise]
@[simp] theorem State.sendFault_rest (s : State) (r : Rec) : (State.sendFault s r).rest = s.rest := by
  simp [State.sendFault]
@[simp] theorem State.emitFault_rest (s : State) (key : Nat) (r : Rec) : (State.emitFault s key r).rest = s.rest := by
  simp only [State.emitFault]; (repeat' split) <;> simp
@[simp] theorem State.payFaults_rest (s : State) : (State.payFaults s).rest = s.rest := by
  simp only [State.payFaults]; (repeat' split) <;> first | (simp; done) | (simp; rfl)
@[simp] theorem State.payTrigger_rest (s : State) : (State.payTrigger s).rest = s.rest := by
  simp only [State.payTrigger]; (repeat' split) <;> simp
@[simp] theorem State.countRaise_rest (s : State) (key : Nat) : (State.countRaise s key).rest = s.rest := by
  simp [State.countRaise]
@[simp] theorem State.classEffects_rest (s : State) (code : Nat) (cls : Nat) : (State.classEffects s code cls).rest = s.rest := by
  simp [State.classEffects]
@[simp] theorem State.openNinth_rest (s : State) (ts : Nat) : (State.openNinth s ts).rest = s.rest := by
  simp [State.openNinth]
@[simp] theorem State.winSkip_rest (s : State) (p : Nat) (rs : List SnapReq) : (State.winSkip s p rs).rest = s.rest := by
  unfold State.winSkip; (repeat' (first | (dsimp only; done) | rfl | assumption | (simp; done) | (refine (foldl_rest _ (fun s a => ?_) _ _).trans ?_) | (refine (foldl_snd_rest _ (fun x a => ?_) _ _).trans ?_) | (refine (foldl_fst_rest _ (fun x a => ?_) _ _).trans ?_) | (refine kept_of_ite ?_ ?_) | (refine rest_of_ite ?_ ?_) | (refine fst_of_ite ?_ ?_) | (refine snd_of_ite ?_ ?_) | (split) | (dsimp only) | simp))
@[simp] theorem State.dropQueue_rest (s : State) (src : Nat) : (State.dropQueue s src).rest = s.rest := by
  simp [State.dropQueue]
@[simp] theorem State.disableProbe_rest (s : State) (p : Nat) : (State.disableProbe s p).rest = s.rest := by
  simp [State.disableProbe]
@[simp] theorem State.probeRaise_rest (s : State) (code : Nat) (p : Nat) : (State.probeRaise s code p).rest = s.rest := by
  simp [State.probeRaise]
@[simp] theorem State.takeRaise_rest (s : State) (p : Pend) : (State.takeRaise s p).rest = s.rest := by
  simp only [State.takeRaise]; (repeat' split) <;> simp
@[simp] theorem State.raiseFixed_rest (s : State) (code : Nat) (unit : Nat) (detail : Nat) : (State.raiseFixed s code unit detail).rest = s.rest := by
  simp [State.raiseFixed]
@[simp] theorem State.raiseFatal_rest (s : State) (code : Nat) (unit : Nat) : (State.raiseFatal s code unit).rest = s.rest := by
  simp [State.raiseFatal]
@[simp] theorem State.zeroise_rest (s : State) (i : Nat) (readback : W256) : (State.zeroise s i readback).rest = s.rest := by
  simp [State.zeroise]
@[simp] theorem State.askKey_rest (s : State) (label : Nat) : (State.askKey s label).rest = s.rest := by
  simp [State.askKey]

/-! ## Machine/Packet.lean -/

@[simp] theorem State.reply_rest (s : State) (op : Nat) (pk : Pkt) (st : Status) (ws : List Nat) : (State.reply s op pk st ws).rest = s.rest := by
  simp [State.reply]
@[simp] theorem State.complete_rest (s : State) (op : Nat) (o : Nat) (seq : BitVec 8) (slot : Nat) (st : Status) (ws : List Nat) : (State.complete s op o seq slot st ws).rest = s.rest := by
  simp [State.complete]
@[simp] theorem State.answer_rest (s : State) (op : Nat) (pk : Pkt) (slot : Nat) (st : Status) (ws : List Nat) : (State.answer s op pk slot st ws).rest = s.rest := by
  simp [State.answer]
@[simp] theorem State.settleWrites_rest (s : State) : (State.settleWrites s).rest = s.rest := by
  simp [State.settleWrites]
theorem finish_rest (sp : OpSpec) (pk : Pkt) (slot : Nat) (un : Bool) (s : State) (v : Verdict) (h : v.keeps s) : (finish sp pk slot un s v).rest = s.rest := by
  cases v with
  | reject => simp [finish]
  | done st ws t => simp only [keeps_done] at h; simp [finish, h]
  | accept ws t => simp only [keeps_accept] at h; simp [finish, h]
theorem runPacket_rest (sp : OpSpec) (body : Pkt → Nat → State → Verdict) (pk : Pkt) (s : State) (h : ∀ slot, (body pk slot s).keeps s) : (runPacket sp body pk s).rest = s.rest := by
  unfold runPacket
  cases preCheck sp pk s with
  | some st => simp
  | none =>
    dsimp only
    generalize (if sp.needsSlot pk s then (s.apt pk.o).freeSlot.getD 0 else 0) = slot
    have hv := h slot
    generalize body pk slot s = v at hv ⊢
    cases v <;> (try simp only []) <;> (first | (simp; done) | (cases sp.at_ pk <;> simp [finish_rest, hv]))
@[simp] theorem State.respond_rest (s : State) (id : BitVec 8) (err : BitVec 2) (data : W64) : (State.respond s id err data).rest = s.rest := by
  simp [State.respond]
@[simp] theorem State.hostAccess_rest (s : State) : (State.hostAccess s).rest = s.rest := by
  simp [State.hostAccess]
@[simp] theorem State.discard_rest (s : State) (o : Nat) (n : Nat) : (State.discard s o n).rest = s.rest := by
  simp [State.discard]
@[simp] theorem launch_rest (sp : OpSpec) (body : Pkt → Nat → State → Verdict) (pk : Pkt) (s : State) (h : ∀ slot s, (body pk slot s).keeps s) : (launch sp body pk s).rest = s.rest := by
  unfold launch; dsimp only; repeat' split
  all_goals simp [runPacket_rest, h]
@[simp] theorem State.addJob_rest (s : State) (op : Nat) (pk : Pkt) (slot : Nat) (a : Nat) (b : Nat) (c : Nat) : (State.addJob s op pk slot a b c).rest = s.rest := by
  simp [State.addJob]
@[simp] theorem State.endJob_rest (s : State) (j : Job) (st : Status) (ws : List Nat) : (State.endJob s j st ws).rest = s.rest := by
  simp [State.endJob]

/-! ## Machine/Banks.lean -/

@[simp] theorem State.setWord_rest (s : State) (b : Nat) (copy : Bool) (w : Nat) (x : EccWord) : (State.setWord s b copy w x).rest = s.rest := by
  simp [State.setWord]
@[simp] theorem State.dropWord_rest (s : State) (b : Nat) (copy : Bool) (w : Nat) : (State.dropWord s b copy w).rest = s.rest := by
  simp [State.dropWord]
@[simp] theorem State.poisonWord_rest (s : State) (b : Nat) (copy : Bool) (w : Nat) : (State.poisonWord s b copy w).rest = s.rest := by
  simp [State.poisonWord]
@[simp] theorem State.countCe_rest (s : State) (b : Nat) (copy : Bool) : (State.countCe s b copy).rest = s.rest := by
  simp only [State.countCe]; (repeat' split) <;> first | (simp; done) | (simp; rfl)
@[simp] theorem State.countUe_rest (s : State) (b : Nat) (copy : Bool) (w : Nat) : (State.countUe s b copy w).rest = s.rest := by
  simp [State.countUe]
@[simp] theorem State.readWord_rest (s : State) (b : Nat) (copy : Bool) (w : Nat) : (State.readWord s b copy w).2.rest = s.rest := by
  simp only [State.readWord]; (repeat' split) <;> simp
@[simp] theorem State.readRange_rest (s : State) (b : Nat) (w : Nat) (n : Nat) : (State.readRange s b w n).2.rest = s.rest := by
  simp only [State.readRange]; (repeat' split) <;> simp
@[simp] theorem State.writeRange_rest (s : State) (b : Nat) (w : Nat) (n : Nat) : (State.writeRange s b w n).rest = s.rest := by
  simp [State.writeRange]
@[simp] theorem State.clearBank_rest (s : State) (b : Nat) : (State.clearBank s b).rest = s.rest := by
  simp [State.clearBank]
@[simp] theorem State.clearBanks_rest (s : State) (bs : List Nat) : (State.clearBanks s bs).rest = s.rest := by
  simp [State.clearBanks]
@[simp] theorem State.bankOff_rest (s : State) (b : Nat) : (State.bankOff s b).rest = s.rest := by
  simp [State.bankOff]
@[simp] theorem State.leaveTest_rest (s : State) : (State.leaveTest s).rest = s.rest := by
  simp [State.leaveTest]

/-! ## Machine/Items.lean -/

@[simp] theorem State.lbAccess_rest (s : State) : (State.lbAccess s).2.rest = s.rest := by
  simp only [State.lbAccess]; (repeat' split) <;> simp
@[simp] theorem State.lbWrite_rest (s : State) (f : Logbook → Logbook) : (State.lbWrite s f).rest = s.rest := by
  simp [State.lbWrite]

/-! ## Machine/Device.lean -/

@[simp] theorem execPacketBadOpcode_rest (op : BitVec 8) (pk : Pkt) (s : State) : Kept s (execPacketBadOpcode op pk s) := by
  unfold execPacketBadOpcode; split
  · exact ⟨_, rfl, rfl⟩
  · exact ⟨_, rfl, launch_rest _ _ _ _ (fun _ _ => by simp)⟩
@[simp] theorem execReplySlotRelease_rest (o : Fin 17) (slot : Fin 4) (s : State) : Kept s (execReplySlotRelease o slot s) := by
  simp [execReplySlotRelease]
@[simp] theorem bodyNop_rest (u0 : Pkt) (u1 : Nat) (s : State) : Verdict.keeps s (bodyNop u0 u1 s) := by
  simp [bodyNop]
@[simp] theorem execNop_rest (pk : Pkt) (s : State) : Kept s (execNop pk s) := by
  simp [execNop]
@[simp] theorem bodyIdentify_rest (u0 : Pkt) (u1 : Nat) (s : State) : Verdict.keeps s (bodyIdentify u0 u1 s) := by
  simp [bodyIdentify]
@[simp] theorem execIdentify_rest (pk : Pkt) (s : State) : Kept s (execIdentify pk s) := by
  simp [execIdentify]
@[simp] theorem State.freshIntervals_rest (s : State) : (State.freshIntervals s).rest = s.rest := by
  simp [State.freshIntervals]
@[simp] theorem bodySettingsSave_rest (pk : Pkt) (slot : Nat) (s : State) : Verdict.keeps s (bodySettingsSave pk slot s) := by
  simp [bodySettingsSave]
@[simp] theorem execSettingsSave_rest (pk : Pkt) (s : State) : Kept s (execSettingsSave pk s) := by
  simp [execSettingsSave]
@[simp] theorem execSettingsSaveDone_rest (s : State) : Kept s (execSettingsSaveDone s) := by
  simp only [execSettingsSaveDone]; (repeat' split) <;> first | (simp; done) | (simp; rfl)
@[simp] theorem bodyHealthCfg_rest (pk : Pkt) (u1 : Nat) (s : State) : Verdict.keeps s (bodyHealthCfg pk u1 s) := by
  simp [bodyHealthCfg]
@[simp] theorem execHealthCfg_rest (pk : Pkt) (s : State) : Kept s (execHealthCfg pk s) := by
  simp [execHealthCfg]

end Sys2Proof.Machine
end

