-- ==== Sys2Proof/Laws/KeepProbe.lean ====
section
/-! SUPPORT. What the operations of these files leave alone (Laws/Keep): probes, snapshots and the power packets. -/

namespace Sys2Proof.Machine

/-! ## Machine/ProbeOps.lean -/

@[simp] theorem State.emitSample_rest (s : State) (p : Nat) (o : Nat) (ty : Nat) (ts : Nat) (payload : Nat) (extra : List Nat) : (State.emitSample s p o ty ts payload extra).2.rest = s.rest := by
  simp only [State.emitSample]; (repeat' split) <;> simp
@[simp] theorem State.checkInvariant_rest (s : State) (p : Nat) : (State.checkInvariant s p).rest = s.rest := by
  simp [State.checkInvariant]
@[simp] theorem State.emitTallies_rest (s : State) (p : Nat) (o : Nat) (ts : Nat) (flags : Nat) (busy : Tab Nat) (stall : Tab Nat) : (State.emitTallies s p o ts flags busy stall).rest = s.rest := by
  simp [State.emitTallies]
@[simp] theorem State.emitGroup_rest (s : State) (p : Nat) (o : Nat) (tallies : Bool) : (State.emitGroup s p o tallies).rest = s.rest := by
  simp [State.emitGroup]
@[simp] theorem State.emitGroups_rest (s : State) (p : Nat) (served : List SnapReq) (now : List SnapReq) : (State.emitGroups s p served now).rest = s.rest := by
  simp [State.emitGroups]
@[simp] theorem State.raiseParity_rest (s : State) (p : Nat) (bad : BitVec 13) (badT : BitVec 128) : (State.raiseParity s p bad badT).rest = s.rest := by
  simp [State.raiseParity]
@[simp] theorem State.takeSnap_rest (s : State) (p : Nat) (rs : List SnapReq) (bad : BitVec 13) (badT : BitVec 128) (reset : Bool) : (State.takeSnap s p rs bad badT reset).rest = s.rest := by
  simp [State.takeSnap]

/-! ## Machine/ProbePackets.lean -/

@[simp] theorem onProbes_rest (ps : List Nat) (f : Nat → Probe → Probe) (s : State) : (onProbes ps f s).rest = s.rest := by
  simp [onProbes]
@[simp] theorem bodyProbeOwners_rest (pk : Pkt) (u1 : Nat) (s : State) : Verdict.keeps s (bodyProbeOwners pk u1 s) := by
  simp only [bodyProbeOwners]; (repeat' split) <;> simp
@[simp] theorem execProbeOwners_rest (pk : Pkt) (s : State) : Kept s (execProbeOwners pk s) := by
  simp [execProbeOwners]
@[simp] theorem bodyRangeSet_rest (pk : Pkt) (u1 : Nat) (s : State) : Verdict.keeps s (bodyRangeSet pk u1 s) := by
  simp [bodyRangeSet]
@[simp] theorem execRangeSet_rest (pk : Pkt) (s : State) : Kept s (execRangeSet pk s) := by
  simp [execRangeSet]
@[simp] theorem bodyPmcConfig_rest (pk : Pkt) (u1 : Nat) (s : State) : Verdict.keeps s (bodyPmcConfig pk u1 s) := by
  simp [bodyPmcConfig]
@[simp] theorem execPmcConfig_rest (pk : Pkt) (s : State) : Kept s (execPmcConfig pk s) := by
  simp [execPmcConfig]
@[simp] theorem bodyCounterEnable_rest (pk : Pkt) (u1 : Nat) (s : State) : Verdict.keeps s (bodyCounterEnable pk u1 s) := by
  simp [bodyCounterEnable]
@[simp] theorem execCounterEnable_rest (pk : Pkt) (s : State) : Kept s (execCounterEnable pk s) := by
  simp [execCounterEnable]
@[simp] theorem bodyCounterWrite_rest (pk : Pkt) (u1 : Nat) (s : State) : Verdict.keeps s (bodyCounterWrite pk u1 s) := by
  simp [bodyCounterWrite]
@[simp] theorem execCounterWrite_rest (pk : Pkt) (s : State) : Kept s (execCounterWrite pk s) := by
  simp [execCounterWrite]
@[simp] theorem bodyOvfClear_rest (pk : Pkt) (u1 : Nat) (s : State) : Verdict.keeps s (bodyOvfClear pk u1 s) := by
  simp [bodyOvfClear]
@[simp] theorem execOvfClear_rest (pk : Pkt) (s : State) : Kept s (execOvfClear pk s) := by
  simp [execOvfClear]
@[simp] theorem bodySnapshot_rest (pk : Pkt) (u1 : Nat) (s : State) : Verdict.keeps s (bodySnapshot pk u1 s) := by
  simp [bodySnapshot]
@[simp] theorem execSnapshot_rest (pk : Pkt) (s : State) : Kept s (execSnapshot pk s) := by
  simp [execSnapshot]
@[simp] theorem bodyProbeTiming_rest (pk : Pkt) (u1 : Nat) (s : State) : Verdict.keeps s (bodyProbeTiming pk u1 s) := by
  simp [bodyProbeTiming]
@[simp] theorem execProbeTiming_rest (pk : Pkt) (s : State) : Kept s (execProbeTiming pk s) := by
  simp [execProbeTiming]
@[simp] theorem bodyTallySet_rest (pk : Pkt) (u1 : Nat) (s : State) : Verdict.keeps s (bodyTallySet pk u1 s) := by
  simp [bodyTallySet]
@[simp] theorem execTallySet_rest (pk : Pkt) (s : State) : Kept s (execTallySet pk s) := by
  simp [execTallySet]
@[simp] theorem bodySamplerConfig_rest (pk : Pkt) (u1 : Nat) (s : State) : Verdict.keeps s (bodySamplerConfig pk u1 s) := by
  simp [bodySamplerConfig]
@[simp] theorem execSamplerConfig_rest (pk : Pkt) (s : State) : Kept s (execSamplerConfig pk s) := by
  simp [execSamplerConfig]
@[simp] theorem bodyCmdStream_rest (pk : Pkt) (u1 : Nat) (s : State) : Verdict.keeps s (bodyCmdStream pk u1 s) := by
  simp [bodyCmdStream]
@[simp] theorem execCmdStream_rest (pk : Pkt) (s : State) : Kept s (execCmdStream pk s) := by
  simp [execCmdStream]
@[simp] theorem bodyEdgeStream_rest (pk : Pkt) (u1 : Nat) (s : State) : Verdict.keeps s (bodyEdgeStream pk u1 s) := by
  simp [bodyEdgeStream]
@[simp] theorem execEdgeStream_rest (pk : Pkt) (s : State) : Kept s (execEdgeStream pk s) := by
  simp [execEdgeStream]
@[simp] theorem bodyTieMode_rest (pk : Pkt) (u1 : Nat) (s : State) : Verdict.keeps s (bodyTieMode pk u1 s) := by
  simp [bodyTieMode]
@[simp] theorem execTieMode_rest (pk : Pkt) (s : State) : Kept s (execTieMode pk s) := by
  simp [execTieMode]
@[simp] theorem bodyProbeStatus_rest (pk : Pkt) (u1 : Nat) (s : State) : Verdict.keeps s (bodyProbeStatus pk u1 s) := by
  simp [bodyProbeStatus]
@[simp] theorem execProbeStatus_rest (pk : Pkt) (s : State) : Kept s (execProbeStatus pk s) := by
  simp [execProbeStatus]
@[simp] theorem State.winForget_rest (s : State) (o : Nat) : (State.winForget s o).rest = s.rest := by
  simp [State.winForget]
@[simp] theorem State.snapStart_rest (s : State) (o : Nat) (set : BitVec 128) (w : W32) : (State.snapStart s o set w).rest = s.rest := by
  simp [State.snapStart]
@[simp] theorem State.runDeferred_rest (s : State) : (State.runDeferred s).rest = s.rest := by
  simp [State.runDeferred]
@[simp] theorem State.snapWrite_rest (s : State) (o : Nat) (w : W32) : (State.snapWrite s o w).rest = s.rest := by
  simp [State.snapWrite]

/-! ## Machine/Lock.lean -/

@[simp] theorem State.emitDomain_rest (s : State) (h : Nat) (on : Bool) (reason : Nat) : (State.emitDomain s h on reason).rest = s.rest := by
  simp [State.emitDomain]
@[simp] theorem State.emitPower_rest (s : State) (new : Power) (old : Power) (reason : Nat) (horizon : Nat) (ts : Nat) : (State.emitPower s new old reason horizon ts).rest = s.rest := by
  simp [State.emitPower]
@[simp] theorem State.requestDomain_rest (s : State) (h : Nat) (on : Bool) (reason : Nat) : (State.requestDomain s h on reason).rest = s.rest := by
  simp [State.requestDomain]
@[simp] theorem State.requestDomains_rest (s : State) (mask : BitVec 72) (on : Bool) (reason : Nat) : (State.requestDomains s mask on reason).rest = s.rest := by
  simp [State.requestDomains]
@[simp] theorem State.powerDownProbe_rest (s : State) (p : Nat) (byHost : Bool) : (State.powerDownProbe s p byHost).rest = s.rest := by
  simp [State.powerDownProbe]
@[simp] theorem execHostDomainOffStart_rest (h : Fin 72) (s : State) : Kept s (execHostDomainOffStart h s) := by
  simp only [execHostDomainOffStart]; (repeat' split) <;> simp
@[simp] theorem execHostDomainOnStart_rest (h : Fin 72) (s : State) : Kept s (execHostDomainOnStart h s) := by
  simp only [execHostDomainOnStart]; (repeat' split) <;> simp
@[simp] theorem execPswReqIssue_rest (s : State) : Kept s (execPswReqIssue s) := by
  simp only [execPswReqIssue]; (repeat' split) <;> first | (simp; done) | (simp; rfl)
@[simp] theorem State.closeHandshake_rest (s : State) (h : Nat) (d : HostDom) : (State.closeHandshake s h d).rest = s.rest := by
  simp only [State.closeHandshake]; (repeat' split) <;> simp
@[simp] theorem execPswAck_rest (h : Fin 72) (level : Bool) (s : State) : Kept s (execPswAck h level s) := by
  simp [execPswAck]
@[simp] theorem execPswTimeout_rest (h : Fin 72) (s : State) : Kept s (execPswTimeout h s) := by
  simp only [execPswTimeout]; (repeat' split) <;> first | (simp; done) | (simp; rfl)
@[simp] theorem execHostSwitchedDomainOff_rest (h : Fin 72) (s : State) : Kept s (execHostSwitchedDomainOff h s) := by
  simp [execHostSwitchedDomainOff]
@[simp] theorem execCoreIdleOff_rest (s : State) : Kept s (execCoreIdleOff s) := by
  simp [execCoreIdleOff]
@[simp] theorem State.applyLevel_rest (s : State) : (State.applyLevel s).rest = s.rest := by
  simp [State.applyLevel]
@[simp] theorem execEnvelopeLoop_rest (upset : Bool) (s : State) : Kept s (execEnvelopeLoop upset s) := by
  simp [execEnvelopeLoop]
@[simp] theorem execEnvelopeShed_rest (s : State) : Kept s (execEnvelopeShed s) := by
  simp only [execEnvelopeShed]; (repeat' split) <;> simp
@[simp] theorem execEnvelopeInputLost_rest (ch : Fin 8) (s : State) : Kept s (execEnvelopeInputLost ch s) := by
  simp [execEnvelopeInputLost]
@[simp] theorem execCoolantReportLost_rest (s : State) : Kept s (execCoolantReportLost s) := by
  simp [execCoolantReportLost]
@[simp] theorem bodyPowerPolicy_rest (pk : Pkt) (u1 : Nat) (s : State) : Verdict.keeps s (bodyPowerPolicy pk u1 s) := by
  simp [bodyPowerPolicy]
@[simp] theorem execPowerPolicy_rest (pk : Pkt) (s : State) : Kept s (execPowerPolicy pk s) := by
  simp [execPowerPolicy]
@[simp] theorem bodyEnvelopeSet_rest (pk : Pkt) (u1 : Nat) (s : State) : Verdict.keeps s (bodyEnvelopeSet pk u1 s) := by
  simp only [bodyEnvelopeSet]; (repeat' split) <;> simp
@[simp] theorem execEnvelopeSet_rest (pk : Pkt) (s : State) : Kept s (execEnvelopeSet pk s) := by
  simp [execEnvelopeSet]
@[simp] theorem bodyDerateSet_rest (pk : Pkt) (u1 : Nat) (s : State) : Verdict.keeps s (bodyDerateSet pk u1 s) := by
  simp [bodyDerateSet]
@[simp] theorem execDerateSet_rest (pk : Pkt) (s : State) : Kept s (execDerateSet pk s) := by
  simp [execDerateSet]
@[simp] theorem keeps_checkDomains (s' ds own k) (h : Verdict.keeps s' k) : Verdict.keeps s' (checkDomains ds own k) := by
  unfold checkDomains; split
  · trivial
  · exact h
@[simp] theorem bodyDomainSet_rest (pk : Pkt) (slot : Nat) (s : State) : Verdict.keeps s (bodyDomainSet pk slot s) := by
  simp [bodyDomainSet]
@[simp] theorem execDomainSet_rest (pk : Pkt) (s : State) : Kept s (execDomainSet pk s) := by
  simp [execDomainSet]
@[simp] theorem execDomainSetDone_rest (s : State) : Kept s (execDomainSetDone s) := by
  simp only [execDomainSetDone]; (repeat' split) <;> simp
@[simp] theorem bodyDomainAssign_rest (pk : Pkt) (u1 : Nat) (s : State) : Verdict.keeps s (bodyDomainAssign pk u1 s) := by
  simp [bodyDomainAssign]
@[simp] theorem execDomainAssign_rest (pk : Pkt) (s : State) : Kept s (execDomainAssign pk s) := by
  simp [execDomainAssign]
@[simp] theorem bodyFrameSchedule_rest (pk : Pkt) (u1 : Nat) (s : State) : Verdict.keeps s (bodyFrameSchedule pk u1 s) := by
  simp [bodyFrameSchedule]
@[simp] theorem execFrameSchedule_rest (pk : Pkt) (s : State) : Kept s (execFrameSchedule pk s) := by
  simp [execFrameSchedule]
@[simp] theorem bodyFramePlan_rest (pk : Pkt) (u1 : Nat) (s : State) : Verdict.keeps s (bodyFramePlan pk u1 s) := by
  simp only [bodyFramePlan]; (repeat' split) <;> simp
@[simp] theorem execFramePlan_rest (pk : Pkt) (s : State) : Kept s (execFramePlan pk s) := by
  simp [execFramePlan]
@[simp] theorem bodyPowerStatus_rest (u0 : Pkt) (u1 : Nat) (s : State) : Verdict.keeps s (bodyPowerStatus u0 u1 s) := by
  simp [bodyPowerStatus]
@[simp] theorem execPowerStatus_rest (pk : Pkt) (s : State) : Kept s (execPowerStatus pk s) := by
  simp [execPowerStatus]

/-! ## Machine/ProbeEvents.lean -/

@[simp] theorem State.emitLayer_rest (s : State) (p : Nat) (ty : Nat) (ts : Nat) (layer : BitVec 16) (early : Bool) (c : PaiCmd) : (State.emitLayer s p ty ts layer early c).rest = s.rest := by
  simp [State.emitLayer]
@[simp] theorem State.layerIssue_rest (s : State) (p : Nat) (ts : Nat) (c : PaiCmd) : (State.layerIssue s p ts c).rest = s.rest := by
  simp [State.layerIssue]
@[simp] theorem State.layerRetire_rest (s : State) (p : Nat) (ts : Nat) (c : PaiCmd) : (State.layerRetire s p ts c).rest = s.rest := by
  simp [State.layerRetire]
@[simp] theorem execCommandIssue_rest (p : Fin 128) (c : PaiCmd) (s : State) : Kept s (execCommandIssue p c s) := by
  simp [execCommandIssue]
@[simp] theorem execCommandRetire_rest (p : Fin 128) (c : PaiCmd) (flushed : Bool) (s : State) : Kept s (execCommandRetire p c flushed s) := by
  unfold execCommandRetire
  split
  · exact ⟨_, rfl, rfl⟩
  · refine ⟨_, rfl, ?_⟩
    dsimp only
    have hf := State.freshIf_rest s ((s.probe p.val).inflight.find? (fun f => f.cmd.tag.toNat % 256 = c.tag.toNat % 256)).isNone
    generalize (s.freshIf _) = fr at hf ⊢
    rw [← hf]
    generalize fr.2 = s
    generalize List.find? (fun t => decide (t.tag = c.tag)) (s.probe p.val).tagged = tg
    cases tg <;> simp
@[simp] theorem execPreciseSample_rest (p : Fin 128) (s : State) : Kept s (execPreciseSample p s) := by
  simp only [execPreciseSample]; (repeat' split) <;> simp
@[simp] theorem execStageEntry_rest (p : Fin 128) (stage : Fin 8) (tid : BitVec 8) (s : State) : Kept s (execStageEntry p stage tid s) := by
  simp [execStageEntry]
@[simp] theorem State.closeWindow_rest (s : State) (p : Nat) (line : Nat) : (State.closeWindow s p line).rest = s.rest := by
  simp [State.closeWindow]
@[simp] theorem execEvtEdge_rest (p : Fin 128) (line : Fin 64) (rising : Bool) (levels : W64) (s : State) : Kept s (execEvtEdge p line rising levels s) := by
  simp [execEvtEdge]
@[simp] theorem execRateExceeded_rest (p : Fin 128) (line : Fin 64) (s : State) : Kept s (execRateExceeded p line s) := by
  simp [execRateExceeded]
@[simp] theorem execCharterSwitch_rest (p : Fin 128) (charter : BitVec 4) (priv : Bool) (s : State) : Kept s (execCharterSwitch p charter priv s) := by
  simp [execCharterSwitch]
@[simp] theorem execHclkEdge_rest (p : Fin 128) (e : PaiEdge) (s : State) : Kept s (execHclkEdge p e s) := by
  simp [execHclkEdge]
@[simp] theorem execCounterWrap_rest (p : Fin 128) (i : Fin 13) (s : State) : Kept s (execCounterWrap p i s) := by
  simp [execCounterWrap]
@[simp] theorem execTallyDump_rest (d : TallyRead) (s : State) : Kept s (execTallyDump d s) := by
  simp [execTallyDump]
@[simp] theorem execSlotInvariantCheck_rest (p : Fin 128) (s : State) : Kept s (execSlotInvariantCheck p s) := by
  simp [execSlotInvariantCheck]
@[simp] theorem execSnapshotTake_rest (p : Fin 128) (bad : ParityBad) (s : State) : Kept s (execSnapshotTake p bad s) := by
  unfold execSnapshotTake; (repeat' (first | (dsimp only; done) | rfl | assumption | (simp; done) | (refine (foldl_rest _ (fun s a => ?_) _ _).trans ?_) | (refine (foldl_snd_rest _ (fun x a => ?_) _ _).trans ?_) | (refine (foldl_fst_rest _ (fun x a => ?_) _ _).trans ?_) | (refine kept_of_ite ?_ ?_) | (refine rest_of_ite ?_ ?_) | (refine fst_of_ite ?_ ?_) | (refine snd_of_ite ?_ ?_) | (split) | (dsimp only) | simp))
@[simp] theorem State.winDone_rest (s : State) (p : Nat) (o : Nat) (no : BitVec 16) : (State.winDone s p o no).rest = s.rest := by
  simp [State.winDone]
@[simp] theorem State.endCopy_rest (s : State) (p : Nat) : (State.endCopy s p).rest = s.rest := by
  unfold State.endCopy; (repeat' (first | (dsimp only; done) | rfl | assumption | (simp; done) | (refine (foldl_rest _ (fun s a => ?_) _ _).trans ?_) | (refine (foldl_snd_rest _ (fun x a => ?_) _ _).trans ?_) | (refine (foldl_fst_rest _ (fun x a => ?_) _ _).trans ?_) | (refine kept_of_ite ?_ ?_) | (refine rest_of_ite ?_ ?_) | (refine fst_of_ite ?_ ?_) | (refine snd_of_ite ?_ ?_) | (split) | (dsimp only) | simp))
@[simp] theorem execSnapshotCopyDone_rest (p : Fin 128) (s : State) : Kept s (execSnapshotCopyDone p s) := by
  unfold execSnapshotCopyDone; (repeat' (first | (dsimp only; done) | rfl | assumption | (simp; done) | (refine (foldl_rest _ (fun s a => ?_) _ _).trans ?_) | (refine (foldl_snd_rest _ (fun x a => ?_) _ _).trans ?_) | (refine (foldl_fst_rest _ (fun x a => ?_) _ _).trans ?_) | (refine kept_of_ite ?_ ?_) | (refine rest_of_ite ?_ ?_) | (refine fst_of_ite ?_ ?_) | (refine snd_of_ite ?_ ?_) | (split) | (dsimp only) | simp))
@[simp] theorem execPeriodicSnapshot_rest (p : Fin 128) (s : State) : Kept s (execPeriodicSnapshot p s) := by
  simp [execPeriodicSnapshot]
@[simp] theorem execFrameSyncSnapshot_rest (p : Fin 128) (s : State) : Kept s (execFrameSyncSnapshot p s) := by
  simp only [execFrameSyncSnapshot]; (repeat' split) <;> simp
@[simp] theorem execClkStretchReport_rest (p : Fin 128) (s : State) : Kept s (execClkStretchReport p s) := by
  simp [execClkStretchReport]
@[simp] theorem execClkStretchEnd_rest (p : Fin 128) (s : State) : Kept s (execClkStretchEnd p s) := by
  simp [execClkStretchEnd]
@[simp] theorem execClkHalt_rest (p : Fin 128) (s : State) : Kept s (execClkHalt p s) := by
  simp [execClkHalt]
@[simp] theorem execClkResume_rest (p : Fin 128) (s : State) : Kept s (execClkResume p s) := by
  simp [execClkResume]
@[simp] theorem State.dropSamples_rest (s : State) (p : Nat) : (State.dropSamples s p).rest = s.rest := by
  simp [State.dropSamples]
@[simp] theorem execHrstNAssert_rest (p : Fin 128) (s : State) : Kept s (execHrstNAssert p s) := by
  simp [execHrstNAssert]
@[simp] theorem execHrstNRelease_rest (p : Fin 128) (s : State) : Kept s (execHrstNRelease p s) := by
  simp [execHrstNRelease]
@[simp] theorem State.markCut_rest (s : State) (p : Nat) : (State.markCut s p).rest = s.rest := by
  unfold State.markCut; (repeat' (first | (dsimp only; done) | rfl | assumption | (simp; done) | (refine (foldl_rest _ (fun s a => ?_) _ _).trans ?_) | (refine (foldl_snd_rest _ (fun x a => ?_) _ _).trans ?_) | (refine (foldl_fst_rest _ (fun x a => ?_) _ _).trans ?_) | (refine kept_of_ite ?_ ?_) | (refine rest_of_ite ?_ ?_) | (refine fst_of_ite ?_ ?_) | (refine snd_of_ite ?_ ?_) | (split) | (dsimp only) | simp))
@[simp] theorem execProbePowerUp_rest (p : Fin 128) (s : State) : Kept s (execProbePowerUp p s) := by
  simp [execProbePowerUp]
@[simp] theorem execFatalIn_rest (p : Fin 128) (pos : Bool) (neg : Bool) (s : State) : Kept s (execFatalIn p pos neg s) := by
  simp [execFatalIn]
@[simp] theorem execFatalRail_rest (p : Fin 128) (u1 : Bool) (s : State) : Kept s (execFatalRail p u1 s) := by
  simp [execFatalRail]
@[simp] theorem execTclkLoss_rest (p : Fin 128) (absent : Bool) (s : State) : Kept s (execTclkLoss p absent s) := by
  simp [execTclkLoss]
@[simp] theorem execProbeOutputLinkError_rest (p : Fin 128) (s : State) : Kept s (execProbeOutputLinkError p s) := by
  simp [execProbeOutputLinkError]

end Sys2Proof.Machine
end

