-- ==== Sys2Proof/Laws/KeepTime.lean ====
section
/-! SUPPORT. What the operations of these files leave alone (Laws/Keep): time, the Convoy and the inputs of the Counting House. -/

namespace Sys2Proof.Machine

/-! ## Machine/Time.lean -/

@[simp] theorem State.showState_rest (s : State) : (State.showState s).rest = s.rest := by
  simp [State.showState]
@[simp] theorem State.setTState_rest (s : State) (st : TState) : (State.setTState s st).rest = s.rest := by
  simp [State.setTState]
@[simp] theorem State.setRate_rest (s : State) (f : Rat) (sl : Rat) : (State.setRate s f sl).rest = s.rest := by
  simp [State.setRate]
@[simp] theorem State.enterHoldover_rest (s : State) : (State.enterHoldover s).rest = s.rest := by
  simp [State.enterHoldover]
@[simp] theorem State.pi_rest (s : State) (d : Rat) (slew : Rat) (ns : Rat) : (State.pi s d slew ns).rest = s.rest := by
  simp only [State.pi]; (repeat' split) <;> first | (simp; done) | (simp; rfl)
@[simp] theorem State.slewBy_rest (s : State) (d : Rat) (slew : Rat) (ns : Rat) : (State.slewBy s d slew ns).rest = s.rest := by
  simp only [State.slewBy]; (repeat' split) <;> first | (simp; done) | (simp; rfl)
@[simp] theorem State.exhaust_rest (s : State) : (State.exhaust s).rest = s.rest := by
  simp [State.exhaust]
@[simp] theorem State.detach_rest (s : State) : (State.detach s).rest = s.rest := by
  refine (State.setTState_rest _ _).trans ?_
  change (State.setRate _ _ _).rest = _
  rw [State.setRate_rest]
  split
  · exact State.exhaust_rest _
  · rfl
@[simp] theorem State.decideStep_rest (s : State) (d : Int) (slew : Rat) (cause : Nat) (re : Bool) (ns : Rat) : (State.decideStep s d slew cause re ns).rest = s.rest := by
  unfold State.decideStep
  refine rest_of_ite ?_ (State.setTState_rest _ _)
  have h : ∀ u : State, u.rest = s.rest → (if -qMs10 ≤ d then u.slewBy d slew ns else u.detach).rest = s.rest := fun u hu =>
    rest_of_ite ((State.slewBy_rest ..).trans hu) ((State.detach_rest _).trans hu)
  refine h _ (rest_of_ite ?_ (State.exhaust_rest _))
  split
  · exact (State.complete_rest ..).trans (State.exhaust_rest _)
  · exact State.exhaust_rest _
@[simp] theorem State.jump_rest (s : State) (d : Int) (slew : Rat) (ns : Rat) : (State.jump s d slew ns).rest = s.rest :=
  rest_of_ite (State.decideStep_rest ..) (rest_of_ite (State.slewBy_rest ..) (State.detach_rest _))
@[simp] theorem State.detachedSample_rest (s : State) (x : Sample) (d : Int) (ns : Rat) : (State.detachedSample s x d ns).rest = s.rest :=
  rest_of_ite rfl (rest_of_ite (State.decideStep_rest ..) (rest_of_ite (State.decideStep_rest ..) (rest_of_ite rfl
    (rest_of_ite (State.decideStep_rest ..) (rest_of_ite (State.slewBy_rest ..) rfl)))))
@[simp] theorem State.servoSample_rest (a : State × Bool) (x : Sample) (re : Bool) (ns : Rat) : (State.servoSample a x re ns).1.rest = a.1.rest := by
  refine fst_of_ite (State.decideStep_rest ..) ?_
  split
  · exact State.detachedSample_rest ..
  · exact (State.jump_rest ..).trans (State.setPersist_rest ..)
  · exact fst_of_ite (State.jump_rest ..) (fst_of_ite (fst_of_ite (State.jump_rest ..) rfl) (State.pi_rest ..))
@[simp] theorem State.emitMapping_rest (s : State) (x : Sample) : (State.emitMapping s x).rest = s.rest := by
  simp [State.emitMapping]
@[simp] theorem State.mapDetached_rest (s : State) : (State.mapDetached s).rest = s.rest := by
  simp only [State.mapDetached]; (repeat' split) <;> simp
@[simp] theorem State.servoBatch_rest (s : State) (b : List (Sample × Bool)) (ns : Rat) : (State.servoBatch s b ns).rest = s.rest := by
  have h := foldl_fst_rest (fun a x => State.servoSample a x.1 x.2 ns) (fun a x => State.servoSample_rest a x.1 x.2 ns) b (s, false)
  exact rest_of_ite ((State.raise_rest ..).trans h) h
@[simp] theorem State.servoFar_rest (s : State) (b : List (Sample × Bool)) : (State.servoFar s b).rest = s.rest := by
  simp [State.servoFar]
@[simp] theorem execServoRun_rest (s : State) : Kept s (execServoRun s) := by
  simp [execServoRun]
@[simp] theorem execTinSample_rest (sec : BitVec 48) (ns : BitVec 30) (step : Bool) (phase : BitVec 2) (s : State) : Kept s (execTinSample sec ns step phase s) := by
  simp [execTinSample]
@[simp] theorem execPpsEdge_rest (phase : BitVec 2) (s : State) : Kept s (execPpsEdge phase s) := by
  simp [execPpsEdge]
@[simp] theorem execTimeInputLost_rest (s : State) : Kept s (execTimeInputLost s) := by
  simp [execTimeInputLost]
@[simp] theorem State.badFrame_rest (s : State) (p : Nat) : (State.badFrame s p).rest = s.rest := by
  simp [State.badFrame]
theorem State.broadcast_rest (s : State) (n body : Nat) (flips : Tab Nat) (take : State → Nat → Nat → State)
    (h : ∀ s p rx, (take s p rx).rest = s.rest) : (s.broadcast n body flips take).rest = s.rest := by
  refine foldl_rest _ (fun s p => ?_) _ _
  split
  · exact (h ..).trans (State.modProbe_rest ..)
  · exact State.badFrame_rest ..
@[simp] theorem State.takeFields_rest (s : State) (p : Nat) (rx : Nat) : (State.takeFields s p rx).rest = s.rest := by
  simp [State.takeFields]
@[simp] theorem State.takeCvt_rest (s : State) (p : Nat) (rx : Nat) : (State.takeCvt s p rx).rest = s.rest := by
  simp [State.takeCvt]
@[simp] theorem execTsyncLoad_rest (flips : Tab Nat) (s : State) : Kept s (execTsyncLoad flips s) := by
  unfold execTsyncLoad; (repeat' (first | (dsimp only; done) | rfl | assumption | (simp; done) | (refine (foldl_rest _ (fun s a => ?_) _ _).trans ?_) | (refine (foldl_snd_rest _ (fun x a => ?_) _ _).trans ?_) | (refine (foldl_fst_rest _ (fun x a => ?_) _ _).trans ?_) | (refine kept_of_ite ?_ ?_) | (refine rest_of_ite ?_ ?_) | (refine fst_of_ite ?_ ?_) | (refine snd_of_ite ?_ ?_) | (split) | (dsimp only) | simp))
@[simp] theorem execTsyncRate_rest (flips : Tab Nat) (s : State) : Kept s (execTsyncRate flips s) := by
  unfold execTsyncRate; (repeat' (first | (dsimp only; done) | rfl | assumption | (simp; done) | (refine (foldl_rest _ (fun s a => ?_) _ _).trans ?_) | (refine (foldl_snd_rest _ (fun x a => ?_) _ _).trans ?_) | (refine (foldl_fst_rest _ (fun x a => ?_) _ _).trans ?_) | (refine kept_of_ite ?_ ?_) | (refine rest_of_ite ?_ ?_) | (refine fst_of_ite ?_ ?_) | (refine snd_of_ite ?_ ?_) | (split) | (dsimp only) | simp))
@[simp] theorem execTsyncStatus_rest (flips : Tab Nat) (s : State) : Kept s (execTsyncStatus flips s) := by
  unfold execTsyncStatus; (repeat' (first | (dsimp only; done) | rfl | assumption | (simp; done) | (refine (foldl_rest _ (fun s a => ?_) _ _).trans ?_) | (refine (foldl_snd_rest _ (fun x a => ?_) _ _).trans ?_) | (refine (foldl_fst_rest _ (fun x a => ?_) _ _).trans ?_) | (refine kept_of_ite ?_ ?_) | (refine rest_of_ite ?_ ?_) | (refine fst_of_ite ?_ ?_) | (refine snd_of_ite ?_ ?_) | (split) | (dsimp only) | simp))
@[simp] theorem execTsyncCheck_rest (flips : Tab Nat) (s : State) : Kept s (execTsyncCheck flips s) := by
  unfold execTsyncCheck; (repeat' (first | (dsimp only; done) | rfl | assumption | (simp; done) | (refine (foldl_rest _ (fun s a => ?_) _ _).trans ?_) | (refine (foldl_snd_rest _ (fun x a => ?_) _ _).trans ?_) | (refine (foldl_fst_rest _ (fun x a => ?_) _ _).trans ?_) | (refine kept_of_ite ?_ ?_) | (refine rest_of_ite ?_ ?_) | (refine fst_of_ite ?_ ?_) | (refine snd_of_ite ?_ ?_) | (split) | (dsimp only) | simp))
@[simp] theorem execTimeSyncDue_rest (s : State) : Kept s (execTimeSyncDue s) := by
  simp [execTimeSyncDue]
@[simp] theorem bodyTimeStatus_rest (u0 : Pkt) (u1 : Nat) (s : State) : Verdict.keeps s (bodyTimeStatus u0 u1 s) := by
  simp [bodyTimeStatus]
@[simp] theorem execTimeStatus_rest (pk : Pkt) (s : State) : Kept s (execTimeStatus pk s) := by
  simp [execTimeStatus]
@[simp] theorem bodyServoSet_rest (pk : Pkt) (u1 : Nat) (s : State) : Verdict.keeps s (bodyServoSet pk u1 s) := by
  simp [bodyServoSet]
@[simp] theorem execServoSet_rest (pk : Pkt) (s : State) : Kept s (execServoSet pk s) := by
  simp [execServoSet]
@[simp] theorem bodyReanchor_rest (pk : Pkt) (slot : Nat) (s : State) : Verdict.keeps s (bodyReanchor pk slot s) := by
  simp [bodyReanchor]
@[simp] theorem execReanchor_rest (pk : Pkt) (s : State) : Kept s (execReanchor pk s) := by
  simp [execReanchor]
@[simp] theorem State.modLane_rest (s : State) (j : Nat) (b : Bool) (f : Lane → Lane) : (State.modLane s j b f).rest = s.rest := by
  simp [State.modLane]
@[simp] theorem bodyLaneAsym_rest (pk : Pkt) (u1 : Nat) (s : State) : Verdict.keeps s (bodyLaneAsym pk u1 s) := by
  simp [bodyLaneAsym]
@[simp] theorem execLaneAsym_rest (pk : Pkt) (s : State) : Kept s (execLaneAsym pk s) := by
  simp [execLaneAsym]

/-! ## Machine/Convoy.lean -/

@[simp] theorem State.setActive_rest (s : State) (j : Nat) (a : Nat) : (State.setActive s j a).rest = s.rest := by
  simp [State.setActive]
@[simp] theorem State.beUncertain_rest (s : State) (rtt : Rat) : (State.beUncertain s rtt).rest = s.rest := by
  simp [State.beUncertain]
@[simp] theorem State.checkLane_rest (s : State) (j : Nat) : (State.checkLane s j).rest = s.rest := by
  simp [State.checkLane]
@[simp] theorem State.loseLink_rest (s : State) (j : Nat) : (State.loseLink s j).rest = s.rest := by
  simp only [State.loseLink]; (repeat' split) <;> first | (simp; done) | (simp; rfl)
@[simp] theorem State.laneDown_rest (s : State) (j : Nat) (b : Bool) : (State.laneDown s j b).rest = s.rest := by
  simp [State.laneDown]
@[simp] theorem State.failExchange_rest (s : State) (j : Nat) (b : Bool) : (State.failExchange s j b).rest = s.rest := by
  simp [State.failExchange]
@[simp] theorem execConvoyExchangeFail_rest (peer : Fin 3) (lane : Bool) (s : State) : Kept s (execConvoyExchangeFail peer lane s) := by
  simp [execConvoyExchangeFail]
@[simp] theorem execLaneARestore_rest (peer : Fin 3) (s : State) : Kept s (execLaneARestore peer s) := by
  simp [execLaneARestore]
@[simp] theorem State.takeLane_rest (s : State) (j : Nat) (lane : Bool) : (State.takeLane s j lane).rest = s.rest := by
  simp [State.takeLane]
@[simp] theorem execHello_rest (peer : Fin 3) (lane : Bool) (chip : BitVec 2) (sealedMode : Bool) (housing : BitVec 32) (s : State) : Kept s (execHello peer lane chip sealedMode housing s) := by
  simp [execHello]
@[simp] theorem State.switchKey_rest (s : State) (j : Nat) : (State.switchKey s j).rest = s.rest := by
  simp only [State.switchKey]; (repeat' split) <;> simp
@[simp] theorem State.hear_rest (s : State) (j : Nat) : (State.hear s j).rest = s.rest := by
  simp [State.hear]
@[simp] theorem State.acceptFrame_rest (s : State) (fr : LinkFrame) : (State.acceptFrame s fr).2.rest = s.rest := by
  simp only [State.acceptFrame]; (repeat' split) <;> simp
@[simp] theorem State.sendFrame_rest (s : State) (j : Nat) (b : Bool) : (State.sendFrame s j b).rest = s.rest := by
  simp [State.sendFrame]
@[simp] theorem execSync_rest (fr : LinkFrame) (t1 : BitVec 96) (s : State) : Kept s (execSync fr t1 s) := by
  simp [execSync]
@[simp] theorem execSyncAck_rest (fr : LinkFrame) (t2 : BitVec 96) (t3 : BitVec 96) (s : State) : Kept s (execSyncAck fr t2 t3 s) := by
  simp [execSyncAck]
@[simp] theorem State.emitLeadMapping_rest (s : State) (theta : Rat) : (State.emitLeadMapping s theta).rest = s.rest := by
  simp [State.emitLeadMapping]
@[simp] theorem State.rejoin_rest (s : State) (j : Nat) (theta : Rat) : (State.rejoin s j theta).rest = s.rest := by
  simp only [State.rejoin]; (repeat' split) <;> first | (simp; done) | (simp; rfl)
@[simp] theorem State.followState_rest (s : State) (d rtt : Rat) (cal : Bool) : (State.followState s d rtt cal).rest = s.rest := by
  refine rest_of_ite (State.beUncertain_rest ..) ?_
  split
  · exact State.setTState_rest ..
  · exact rest_of_ite (State.setTState_rest ..) rfl
  · rfl
@[simp] theorem State.follow_rest (s : State) (j : Nat) (theta : Rat) (rtt : Rat) (cal : Bool) : (State.follow s j theta rtt cal).rest = s.rest := by
  unfold State.follow
  dsimp only
  refine rest_of_ite rfl (rest_of_ite (State.rejoin_rest ..) ?_)
  split
  · exact rest_of_ite (State.emitLeadMapping_rest ..) (State.slewBy_rest ..)
  · exact State.setTState_rest ..
  · exact (State.followState_rest ..).trans (rest_of_ite ((State.raise_rest ..).trans (State.pi_rest ..)) (State.pi_rest ..))
@[simp] theorem execSyncRsp_rest (fr : LinkFrame) (t4 : BitVec 96) (s : State) : Kept s (execSyncRsp fr t4 s) := by
  simp [execSyncRsp]
@[simp] theorem execAsymMeasureDone_rest (peer : Fin 3) (s : State) : Kept s (execAsymMeasureDone peer s) := by
  simp [execAsymMeasureDone]
@[simp] theorem execEpochMsg_rest (fr : LinkFrame) (epoch : BitVec 16) (step : BitVec 64) (cvt : BitVec 96) (s : State) : Kept s (execEpochMsg fr epoch step cvt s) := by
  simp [execEpochMsg]
@[simp] theorem execState_rest (fr : LinkFrame) (tstate : BitVec 3) (part : BitVec 2) (sleep : Option (BitVec 96)) (s : State) : Kept s (execState fr tstate part sleep s) := by
  simp [execState]
@[simp] theorem State.announceSleep_rest (s : State) (wake : Option Nat) : (State.announceSleep s wake).rest = s.rest := by
  simp [State.announceSleep]
@[simp] theorem execPeerSleepTimeout_rest (peer : Fin 3) (s : State) : Kept s (execPeerSleepTimeout peer s) := by
  simp only [execPeerSleepTimeout]; (repeat' split) <;> simp
@[simp] theorem execPartitionSplit_rest (reach : BitVec 4) (s : State) : Kept s (execPartitionSplit reach s) := by
  simp [execPartitionSplit]

/-! ## Machine/ChInput.lean -/

@[simp] theorem State.retime_rest (s : State) (old : Nat) : (State.retime s old).rest = s.rest := by
  simp [State.retime]
@[simp] theorem State.streamIn_rest (s : State) (r : Rec) : (State.streamIn s r).rest = s.rest := by
  simp [State.streamIn]
@[simp] theorem State.basinIn_rest (s : State) (cell : Nat) (r : Rec) : (State.basinIn s cell r).rest = s.rest := by
  simp [State.basinIn]
@[simp] theorem State.assayIn_rest (s : State) (t : Nat) (o : Nat) (tid : BitVec 16) (r : Rec) : (State.assayIn s t o tid r).rest = s.rest := by
  simp [State.assayIn]

end Sys2Proof.Machine
end

