-- ==== Sys2Proof/Laws/KeepStream.lean ====
section
/-! SUPPORT. What the operations of these files leave alone (Laws/Keep): streams, basins, the ledger, the manager port, the STP, keys and faults. -/

namespace Sys2Proof.Machine

/-! ## Machine/Merge.lean -/

@[simp] theorem State.dropMerge_rest (s : State) (b : Nat) (w : Nat) : (State.dropMerge s b w).rest = s.rest := by
  simp [State.dropMerge]
@[simp] theorem State.rmw_rest (s : State) (b : Nat) (e : Merge) : (State.rmw s b e).2.rest = s.rest := by
  simp only [State.rmw]; (repeat' split) <;> simp
@[simp] theorem State.mergeParity_rest (s : State) (b : Nat) (e : Merge) : (State.mergeParity s b e).rest = s.rest := by
  simp [State.mergeParity]
@[simp] theorem State.writeWord_rest (s : State) (b : Nat) (w : Nat) : (State.writeWord s b w).rest = s.rest := by
  simp [State.writeWord]
@[simp] theorem State.mergeWord_rest (s : State) (b : Nat) (w : Nat) (mask : BitVec 16) : (State.mergeWord s b w mask).rest = s.rest := by
  simp only [State.mergeWord]; (repeat' split) <;> simp
@[simp] theorem State.mergeBytes_rest (s : State) (b : Nat) (a : Nat) (n : Nat) : (State.mergeBytes s b a n).rest = s.rest := by
  simp [State.mergeBytes]
@[simp] theorem State.settle_rest (s : State) (b : Nat) (w : Nat) (n : Nat) : (State.settle s b w n).rest = s.rest := by
  simp [State.settle]
@[simp] theorem State.fetch_rest (s : State) (b : Nat) (w : Nat) (n : Nat) : (State.fetch s b w n).2.rest = s.rest := by
  simp [State.fetch]
@[simp] theorem State.settleAll_rest (s : State) : (State.settleAll s).rest = s.rest := by
  simp [State.settleAll]

/-! ## Machine/Weir.lean -/

@[simp] theorem State.lose_rest (s : State) (cause : Nat) (src : Nat) (l : Loss) : (State.lose s cause src l).rest = s.rest := by
  simp [State.lose]
@[simp] theorem State.loseHeld_rest (s : State) (src : Nat) (ov : Bool) (l : Loss) : (State.loseHeld s src ov l).rest = s.rest := by
  simp only [State.loseHeld]; (repeat' split) <;> first | (simp; done) | (simp; rfl)
@[simp] theorem State.addMarks_rest (s : State) (ws : List Weir) : (State.addMarks s ws).rest = s.rest := by
  simp [State.addMarks]
@[simp] theorem State.emitMark_rest (s : State) (w : Weir) : (State.emitMark s w).rest = s.rest := by
  simp [State.emitMark]
@[simp] theorem execStandingWeirMark_rest (p : Fin 128) (s : State) : Kept s (execStandingWeirMark p s) := by
  simp [execStandingWeirMark]
@[simp] theorem execSourceSilent_rest (src : BitVec 8) (o : Fin 17) (s : State) : Kept s (execSourceSilent src o s) := by
  simp [execSourceSilent]
@[simp] theorem State.takeToken_rest (s : State) (src : Nat) : (State.takeToken s src).rest = s.rest := by
  simp [State.takeToken]
@[simp] theorem execLossToken_rest (src : BitVec 8) (s : State) : Kept s (execLossToken src s) := by
  simp [execLossToken]
@[simp] theorem execSourceRecordTimeout_rest (src : BitVec 8) (s : State) : Kept s (execSourceRecordTimeout src s) := by
  simp [execSourceRecordTimeout]

/-! ## Machine/Basins.lean -/

@[simp] theorem State.setCharterQ_rest (s : State) (o : Nat) (q : List Cell) : (State.setCharterQ s o q).rest = s.rest := by
  simp [State.setCharterQ]
@[simp] theorem State.setPrioQ_rest (s : State) (o : Nat) (q : List Cell) : (State.setPrioQ s o q).rest = s.rest := by
  simp [State.setPrioQ]
@[simp] theorem State.setUnitOwner_rest (s : State) (u : Nat) (o : Nat) : (State.setUnitOwner s u o).rest = s.rest := by
  simp [State.setUnitOwner]
@[simp] theorem State.writeCell_rest (s : State) (c : Cell) (r : Rec) : (State.writeCell s c r).rest = s.rest := by
  simp [State.writeCell]
@[simp] theorem State.putPrio_rest (s : State) (r : Rec) : (State.putPrio s r).rest = s.rest := by
  simp only [State.putPrio]; (repeat' split) <;> simp
@[simp] theorem State.letIn_rest (s : State) (r : Rec) : (State.letIn s r).rest = s.rest := by
  simp only [State.letIn]; (repeat' split) <;> first | (simp; done) | (simp; rfl)
@[simp] theorem State.closeHeld_rest (s : State) (o : Nat) : (State.closeHeld s o).rest = s.rest := by
  simp [State.closeHeld]
@[simp] theorem State.popCell_rest (s : State) (o : Nat) (prio : Bool) : (State.popCell s o prio).rest = s.rest := by
  simp only [State.popCell]; (repeat' split) <;> simp
@[simp] theorem State.releaseKept_rest (s : State) : (State.releaseKept s).rest = s.rest := by
  simp [State.releaseKept]
@[simp] theorem State.takeRec_rest (s : State) (o k : Nat) : (s.takeRec o k).2.rest = s.rest := by
  induction k generalizing s with
  | zero => rfl
  | succ n ih => simp only [State.takeRec]; (repeat' split) <;> simp [ih]
@[simp] theorem State.grant_rest (s : State) (k : Nat) : (s.grant k).rest = s.rest := by
  induction k generalizing s with
  | zero => rfl
  | succ n ih => simp only [State.grant]; (repeat' split) <;> simp [ih]
@[simp] theorem State.giveUp_rest (s : State) (o k : Nat) : (s.giveUp o k).rest = s.rest := by
  induction k generalizing s with
  | zero => rfl
  | succ n ih => simp only [State.giveUp]; (repeat' split) <;> simp [ih]
@[simp] theorem State.setQuota_rest (s : State) (o : Nat) (n : Nat) : (State.setQuota s o n).rest = s.rest := by
  simp [State.setQuota]
@[simp] theorem execUnitLeave_rest (u : Fin 124) (s : State) : Kept s (execUnitLeave u s) := by
  simp [execUnitLeave]
@[simp] theorem State.dropQueues_rest (s : State) (o : Nat) : (State.dropQueues s o).rest = s.rest := by
  simp [State.dropQueues]
@[simp] theorem State.silence_rest (s : State) (o : Nat) : (State.silence s o).rest = s.rest := by
  simp [State.silence]
@[simp] theorem bodyPartitionSet_rest (pk : Pkt) (u1 : Nat) (s : State) : Verdict.keeps s (bodyPartitionSet pk u1 s) := by
  simp [bodyPartitionSet]
@[simp] theorem execPartitionSet_rest (pk : Pkt) (s : State) : Kept s (execPartitionSet pk s) := by
  simp [execPartitionSet]

/-! ## Machine/Ledger.lean -/

@[simp] theorem State.mgrPush_rest (s : State) (r : MReq) : (State.mgrPush s r).rest = s.rest := by
  simp [State.mgrPush]
@[simp] theorem State.ledgerPut_rest (s : State) (r : Rec) : (State.ledgerPut s r).rest = s.rest := by
  simp only [State.ledgerPut]; (repeat' split) <;> simp
@[simp] theorem State.ledgerTake_rest (s : State) (r : Rec) : (State.ledgerTake s r).rest = s.rest := by
  simp only [State.ledgerTake]; (repeat' split) <;> simp
@[simp] theorem State.freeze_rest (s : State) : (State.freeze s).rest = s.rest := by
  simp [State.freeze]
@[simp] theorem execLedgerFreeze_rest (s : State) : Kept s (execLedgerFreeze s) := by
  simp [execLedgerFreeze]
@[simp] theorem execLedgerPostTimeout_rest (s : State) : Kept s (execLedgerPostTimeout s) := by
  simp [execLedgerPostTimeout]
@[simp] theorem State.readPiece_rest (s : State) (e : Nat × Nat × Nat) : (State.readPiece s e).2.rest = s.rest := by
  simp [State.readPiece]
@[simp] theorem State.readLedger_rest (s : State) (r : LRec) : (State.readLedger s r).2.rest = s.rest := by
  simp [State.readLedger]
@[simp] theorem State.ownRecs_rest (s : State) (o : Nat) : (State.ownRecs s o).2.rest = s.rest := by
  simp [State.ownRecs]
@[simp] theorem bodyLedgerRead_rest (pk : Pkt) (slot : Nat) (s : State) : Verdict.keeps s (bodyLedgerRead pk slot s) := by
  simp [bodyLedgerRead]
@[simp] theorem execLedgerRead_rest (pk : Pkt) (s : State) : Kept s (execLedgerRead pk s) := by
  simp [execLedgerRead]
@[simp] theorem execLedgerReadDone_rest (o : Fin 17) (s : State) : Kept s (execLedgerReadDone o s) := by
  simp only [execLedgerReadDone]; (repeat' split) <;> simp
@[simp] theorem execLedgerSeal_rest (s : State) : Kept s (execLedgerSeal s) := by
  simp [execLedgerSeal]
@[simp] theorem State.summaryPart_rest (no : Nat) (a : List Byte × State) (o : Nat) : (State.summaryPart no a o).2.rest = a.2.rest := by
  simp [State.summaryPart]
@[simp] theorem State.summary_rest (s : State) : s.summary.2.rest = s.rest :=
  (foldl_snd_rest _ (fun x o => State.summaryPart_rest _ x o) _ _).trans (State.fresh_rest s)
@[simp] theorem execLedgerSummaryWrite_rest (s : State) : Kept s (execLedgerSummaryWrite s) := by
  simp [execLedgerSummaryWrite]
@[simp] theorem State.ledgerErase_rest (s : State) (o : Nat) : (State.ledgerErase s o).rest = s.rest := by
  simp [State.ledgerErase]
@[simp] theorem State.ledgerRelease_rest (s : State) : (State.ledgerRelease s).rest = s.rest := by
  simp [State.ledgerRelease]
@[simp] theorem bodyLedgerSet_rest (pk : Pkt) (u1 : Nat) (s : State) : Verdict.keeps s (bodyLedgerSet pk u1 s) := by
  simp [bodyLedgerSet]
@[simp] theorem execLedgerSet_rest (pk : Pkt) (s : State) : Kept s (execLedgerSet pk s) := by
  simp [execLedgerSet]
@[simp] theorem bodyLedgerTrigger_rest (u0 : Pkt) (u1 : Nat) (s : State) : Verdict.keeps s (bodyLedgerTrigger u0 u1 s) := by
  simp [bodyLedgerTrigger]
@[simp] theorem execLedgerTrigger_rest (pk : Pkt) (s : State) : Kept s (execLedgerTrigger pk s) := by
  simp [execLedgerTrigger]
@[simp] theorem bodyLedgerRelease_rest (u0 : Pkt) (u1 : Nat) (s : State) : Verdict.keeps s (bodyLedgerRelease u0 u1 s) := by
  simp [bodyLedgerRelease]
@[simp] theorem execLedgerRelease_rest (pk : Pkt) (s : State) : Kept s (execLedgerRelease pk s) := by
  simp [execLedgerRelease]
@[simp] theorem bodyLedgerStatus_rest (u0 : Pkt) (u1 : Nat) (s : State) : Verdict.keeps s (bodyLedgerStatus u0 u1 s) := by
  simp [bodyLedgerStatus]
@[simp] theorem execLedgerStatus_rest (pk : Pkt) (s : State) : Kept s (execLedgerStatus pk s) := by
  simp [execLedgerStatus]

/-! ## Machine/Table.lean -/

@[simp] theorem State.writeEntry_rest (s : State) (o : Nat) (tap : Nat) (e : Entry) : (State.writeEntry s o tap e).rest = s.rest := by
  simp [State.writeEntry]
@[simp] theorem State.engineStart_rest (s : State) : (State.engineStart s).rest = s.rest := by
  simp only [State.engineStart]; (repeat' split) <;> simp
@[simp] theorem State.engineNext_rest (s : State) : (State.engineNext s).rest = s.rest := by
  simp [State.engineNext]
@[simp] theorem State.assayCount_rest (s : State) (t : Nat) (o : Nat) (k : Nat) : (State.assayCount s t o k).rest = s.rest := by
  simp [State.assayCount]
@[simp] theorem State.engineAdd_rest (s : State) (op : TabOp) : (State.engineAdd s op).2.rest = s.rest := by
  simp only [State.engineAdd]; (repeat' split) <;> simp
@[simp] theorem State.tableWritten_rest (s : State) (o : Nat) : (State.tableWritten s o).rest = s.rest := by
  simp only [State.tableWritten]; (repeat' split) <;> simp

/-! ## Machine/Sluice.lean -/

@[simp] theorem State.toStp_rest (s : State) (o : Nat) (ws : List W64) : (State.toStp s o ws).rest = s.rest := by
  simp [State.toStp]
@[simp] theorem State.closeLighter_rest (s : State) (o : Nat) (close : Nat) : (State.closeLighter s o close).rest = s.rest := by
  simp only [State.closeLighter]; (repeat' split) <;> simp
@[simp] theorem State.intoLighter_rest (s : State) (o : Nat) (ch : Nat) (r : Rec) : (State.intoLighter s o ch r).rest = s.rest := by
  simp [State.intoLighter]
@[simp] theorem State.fill_rest (s : State) (o ch k : Nat) : (s.fill o ch k).rest = s.rest := by
  induction k generalizing s with
  | zero => rfl
  | succ n ih => simp only [State.fill]; (repeat' split) <;> simp [ih]
@[simp] theorem State.setRr_rest (s : State) (k : Nat) (v : Nat) : (State.setRr s k v).rest = s.rest := by
  simp [State.setRr]
@[simp] theorem State.setCredit_rest (s : State) (k : Nat) (v : Nat) : (State.setCredit s k v).rest = s.rest := by
  simp [State.setCredit]
@[simp] theorem execLighterOpen_rest (channel : Fin 8) (s : State) : Kept s (execLighterOpen channel s) := by
  simp only [execLighterOpen]; (repeat' split) <;> simp
@[simp] theorem execLighterFlushTimeout_rest (o : Fin 17) (s : State) : Kept s (execLighterFlushTimeout o s) := by
  simp only [execLighterFlushTimeout]; (repeat' split) <;> simp
@[simp] theorem State.closeAll_rest (s : State) (close : Nat) : (State.closeAll s close).rest = s.rest := by
  simp [State.closeAll]
@[simp] theorem State.drainAll_rest (s : State) : (State.drainAll s).rest = s.rest := by
  simp [State.drainAll]
@[simp] theorem State.beats_rest (s : State) : (State.beats s).rest = s.rest := by
  simp [State.beats]
@[simp] theorem execManagerRequestIssue_rest (s : State) : Kept s (execManagerRequestIssue s) := by
  simp only [execManagerRequestIssue]; (repeat' split) <;> simp
@[simp] theorem execManagerCredit_rest (wd : Bool) (s : State) : Kept s (execManagerCredit wd s) := by
  simp [execManagerCredit]
@[simp] theorem State.lighterDone_rest (s : State) (o : Nat) (seq : Nat) (gen : Nat) (field : BitVec 8) : (State.lighterDone s o seq gen field).rest = s.rest := by
  simp [State.lighterDone]
@[simp] theorem execMgrWriteDone_rest (tag : Fin 64) (st : BitVec 2) (s : State) : Kept s (execMgrWriteDone tag st s) := by
  simp only [execMgrWriteDone]; (repeat' split) <;> simp
@[simp] theorem bodyOwnerExport_rest (pk : Pkt) (u1 : Nat) (s : State) : Verdict.keeps s (bodyOwnerExport pk u1 s) := by
  simp [bodyOwnerExport]
@[simp] theorem execOwnerExport_rest (pk : Pkt) (s : State) : Kept s (execOwnerExport pk s) := by
  simp [execOwnerExport]
@[simp] theorem bodyExportSet_rest (pk : Pkt) (u1 : Nat) (s : State) : Verdict.keeps s (bodyExportSet pk u1 s) := by
  simp [bodyExportSet]
@[simp] theorem execExportSet_rest (pk : Pkt) (s : State) : Kept s (execExportSet pk s) := by
  simp [execExportSet]
@[simp] theorem State.resyncBy_rest (s : State) (src : Nat) (o : Nat) : (State.resyncBy s src o).rest = s.rest := by
  simp [State.resyncBy]
@[simp] theorem State.discard0_rest (s : State) (o : Nat) : (State.discard0 s o).rest = s.rest := by
  simp [State.discard0]
@[simp] theorem bodyFlush_rest (pk : Pkt) (u1 : Nat) (s : State) : Verdict.keeps s (bodyFlush pk u1 s) := by
  simp [bodyFlush]
@[simp] theorem execFlush_rest (pk : Pkt) (s : State) : Kept s (execFlush pk s) := by
  simp [execFlush]

/-! ## Machine/Stp.lean -/

@[simp] theorem State.stpTrain_rest (s : State) : (State.stpTrain s).rest = s.rest := by
  simp [State.stpTrain]
@[simp] theorem State.stpPlug_rest (s : State) : (State.stpPlug s).rest = s.rest := by
  simp [State.stpPlug]
@[simp] theorem State.stpKeyed_rest (s : State) : (State.stpKeyed s).rest = s.rest := by
  simp [State.stpKeyed]
@[simp] theorem execSvcPlugIn_rest (s : State) : Kept s (execSvcPlugIn s) := by
  simp [execSvcPlugIn]
@[simp] theorem execSvcUnplug_rest (s : State) : Kept s (execSvcUnplug s) := by
  simp [execSvcUnplug]
@[simp] theorem execButtonPress_rest (s : State) : Kept s (execButtonPress s) := by
  simp [execButtonPress]
@[simp] theorem execButtonRelease_rest (s : State) : Kept s (execButtonRelease s) := by
  simp only [execButtonRelease]; (repeat' split) <;> simp
@[simp] theorem State.setStreaming_rest (s : State) (on : Bool) : (State.setStreaming s on).rest = s.rest := by
  simp [State.setStreaming]
@[simp] theorem execButtonHold_rest (s : State) : Kept s (execButtonHold s) := by
  simp [execButtonHold]
@[simp] theorem execButtonStuck_rest (s : State) : Kept s (execButtonStuck s) := by
  simp [execButtonStuck]
@[simp] theorem execShortPress_rest (s : State) : Kept s (execShortPress s) := by
  simp only [execShortPress]; (repeat' split) <;> simp
@[simp] theorem execButtonNoiseWindow_rest (edges : Nat) (s : State) : Kept s (execButtonNoiseWindow edges s) := by
  simp [execButtonNoiseWindow]
@[simp] theorem execStpLaneUp_rest (lanes : BitVec 2) (s : State) : Kept s (execStpLaneUp lanes s) := by
  simp [execStpLaneUp]
@[simp] theorem execStpTrain_rest (s : State) : Kept s (execStpTrain s) := by
  simp [execStpTrain]
@[simp] theorem execTrainAck_rest (ok : BitVec 2) (s : State) : Kept s (execTrainAck ok s) := by
  simp [execTrainAck]
@[simp] theorem execStpTrainTimeout_rest (s : State) : Kept s (execStpTrainTimeout s) := by
  simp [execStpTrainTimeout]
@[simp] theorem execStpTrainRetry_rest (s : State) : Kept s (execStpTrainRetry s) := by
  simp [execStpTrainRetry]
@[simp] theorem execStpFrame_rest (lane : Bool) (s : State) : Kept s (execStpFrame lane s) := by
  unfold execStpFrame
  dsimp only
  split
  · simp
  · exact kept_of_ite (by simp) ((kept_next ..).2 rfl)
@[simp] theorem execPause_rest (lanes : BitVec 2) (dur : BitVec 10) (s : State) : Kept s (execPause lanes dur s) := by
  simp [execPause]
@[simp] theorem execPauseEnd_rest (lane : Bool) (s : State) : Kept s (execPauseEnd lane s) := by
  simp only [execPauseEnd]; (repeat' split) <;> simp
@[simp] theorem bodyStpControl_rest (pk : Pkt) (u1 : Nat) (s : State) : Verdict.keeps s (bodyStpControl pk u1 s) := by
  simp [bodyStpControl]
@[simp] theorem execStpControl_rest (pk : Pkt) (s : State) : Kept s (execStpControl pk s) := by
  simp [execStpControl]
@[simp] theorem bodyServiceStatus_rest (u0 : Pkt) (u1 : Nat) (s : State) : Verdict.keeps s (bodyServiceStatus u0 u1 s) := by
  simp [bodyServiceStatus]
@[simp] theorem execServiceStatus_rest (pk : Pkt) (s : State) : Kept s (execServiceStatus pk s) := by
  simp [execServiceStatus]

/-! ## Machine/Keys.lean -/

@[simp] theorem State.dropKey_rest (s : State) (k : Option (Nat × KeySlot)) : (State.dropKey s k).rest = s.rest := by
  simp only [State.dropKey]; (repeat' split) <;> simp
@[simp] theorem State.restartSeqs_rest (s : State) (o : Nat) : (State.restartSeqs s o).rest = s.rest := by
  simp [State.restartSeqs]
@[simp] theorem bodyAttest_rest (pk : Pkt) (u2 : Nat) (s : State) : Verdict.keeps s (bodyAttest pk u2 s) := by
  simp [bodyAttest]
@[simp] theorem execAttest_rest (pk : Pkt) (s : State) : Kept s (execAttest pk s) := by
  simp [execAttest]
@[simp] theorem bodyKeyAgree_rest (pk : Pkt) (u2 : Nat) (s : State) : Verdict.keeps s (bodyKeyAgree pk u2 s) := by
  simp [bodyKeyAgree]
@[simp] theorem execKeyAgree_rest (pk : Pkt) (s : State) : Kept s (execKeyAgree pk s) := by
  simp [execKeyAgree]
@[simp] theorem State.placeLink_rest (s : State) (i : Nat) (link : Nat) (key : W256) : (State.placeLink s i link key).rest = s.rest := by
  simp [State.placeLink]
@[simp] theorem bodyKeyZeroise_rest (readback : W256) (pk : Pkt) (u2 : Nat) (s : State) : Verdict.keeps s (bodyKeyZeroise readback pk u2 s) := by
  simp [bodyKeyZeroise]
@[simp] theorem execKeyZeroise_rest (pk : Pkt) (readback : W256) (s : State) : Kept s (execKeyZeroise pk readback s) := by
  simp [execKeyZeroise]
@[simp] theorem bodyLinkMode_rest (pk : Pkt) (u1 : Nat) (s : State) : Verdict.keeps s (bodyLinkMode pk u1 s) := by
  simp [bodyLinkMode]
@[simp] theorem execLinkMode_rest (pk : Pkt) (s : State) : Kept s (execLinkMode pk s) := by
  simp [execLinkMode]
@[simp] theorem bodyCharterStatus_rest (pk : Pkt) (u1 : Nat) (s : State) : Verdict.keeps s (bodyCharterStatus pk u1 s) := by
  simp [bodyCharterStatus]
@[simp] theorem execCharterStatus_rest (pk : Pkt) (s : State) : Kept s (execCharterStatus pk s) := by
  simp [execCharterStatus]

/-! ## Machine/Spine.lean -/

@[simp] theorem State.takeHead_rest (s : State) (src : Nat) (i : Nat) : (State.takeHead s src i).rest = s.rest := by
  simp [State.takeHead]
@[simp] theorem State.linkFill_rest (s : State) (p n : Nat) : (s.linkFill p n).rest = s.rest := by
  induction n generalizing s with
  | zero => rfl
  | succ n ih => simp only [State.linkFill]; (repeat' split) <;> simp [ih]
@[simp] theorem State.linkAll_rest (s : State) (ch : Nat) : (State.linkAll s ch).rest = s.rest :=
  foldl_rest _ (fun _ _ => State.linkFill_rest ..) _ _
@[simp] theorem State.deliver_rest (s : State) (r : Rec) : (State.deliver s r).rest = s.rest := by
  simp [State.deliver]
@[simp] theorem State.sendBeat_rest (s : State) (src k w : Nat) : (s.sendBeat src k w).rest = s.rest := by
  induction k generalizing s w with
  | zero => rfl
  | succ n ih => simp only [State.sendBeat]; (repeat' split) <;> simp [ih]
@[simp] theorem execBasinAdmit_rest (ch : Bool) (s : State) : Kept s (execBasinAdmit ch s) := by
  simp only [execBasinAdmit]; (repeat' split) <;> simp
@[simp] theorem execWeirAccumTimeout_rest (idx : Nat) (s : State) : Kept s (execWeirAccumTimeout idx s) := by
  simp only [execWeirAccumTimeout]; (repeat' split) <;> simp
@[simp] theorem State.drain137_rest (s : State) (o : Nat) : (State.drain137 s o).2.rest = s.rest := by
  simp [State.drain137]
@[simp] theorem State.unhold_rest (s : State) (w : Weir) : (State.unhold s w).rest = s.rest := by
  simp [State.unhold]
@[simp] theorem execWeirMarkWrite_rest (s : State) : Kept s (execWeirMarkWrite s) := by
  simp only [execWeirMarkWrite]; (repeat' split) <;> first | (simp; done) | (simp; rfl)

/-! ## Machine/Faults.lean -/

@[simp] theorem State.classify_rest (s : State) (ok : Pend → Bool) (k : Nat) : (s.classify ok k).rest = s.rest := by
  induction k generalizing s with
  | zero => rfl
  | succ n ih => simp only [State.classify]; (repeat' split) <;> simp [ih]
@[simp] theorem execFaultRaise_rest (r : Option FaultRaise) (s : State) : Kept s (execFaultRaise r s) := by
  simp only [execFaultRaise]; (repeat' split) <;> simp
@[simp] theorem execClassTableFallback_rest (s : State) : Kept s (execClassTableFallback s) := by
  simp [execClassTableFallback]
@[simp] theorem State.stopKeeper_rest (s : State) (code : Nat) (detail : Nat) (reload : Bool) : (State.stopKeeper s code detail reload).rest = s.rest := by
  simp [State.stopKeeper]
@[simp] theorem execKeeperLockstepMismatch_rest (s : State) : Kept s (execKeeperLockstepMismatch s) := by
  simp [execKeeperLockstepMismatch]
@[simp] theorem execKeeperWatchdogExpiry_rest (s : State) : Kept s (execKeeperWatchdogExpiry s) := by
  simp [execKeeperWatchdogExpiry]
@[simp] theorem execKeeperMemUe_rest (word : BitVec 32) (s : State) : Kept s (execKeeperMemUe word s) := by
  simp [execKeeperMemUe]
@[simp] theorem execHeartbeatToggle_rest (s : State) : Kept s (execHeartbeatToggle s) := by
  simp [execHeartbeatToggle]
@[simp] theorem State.fcFail_rest (s : State) (unit : Nat) : (State.fcFail s unit).rest = s.rest := by
  simp [State.fcFail]
@[simp] theorem execFcSelfTest_rest (failing : Option (BitVec 16)) (s : State) : Kept s (execFcSelfTest failing s) := by
  simp only [execFcSelfTest]; (repeat' split) <;> simp
@[simp] theorem execLockstepSelfTest_rest (pass : Bool) (s : State) : Kept s (execLockstepSelfTest pass s) := by
  simp [execLockstepSelfTest]
@[simp] theorem execAonMonitorTest_rest (pass : Bool) (s : State) : Kept s (execAonMonitorTest pass s) := by
  simp [execAonMonitorTest]
@[simp] theorem execAonRefLoss_rest (lost : Bool) (s : State) : Kept s (execAonRefLoss lost s) := by
  simp [execAonRefLoss]
@[simp] theorem bodyFaultRead_rest (u0 : Pkt) (u1 : Nat) (s : State) : Verdict.keeps s (bodyFaultRead u0 u1 s) := by
  simp [bodyFaultRead]
@[simp] theorem execFaultRead_rest (pk : Pkt) (s : State) : Kept s (execFaultRead pk s) := by
  simp [execFaultRead]
@[simp] theorem bodyFaultRelease_rest (pk : Pkt) (u1 : Nat) (s : State) : Verdict.keeps s (bodyFaultRelease pk u1 s) := by
  simp only [bodyFaultRelease]; (repeat' split) <;> simp
@[simp] theorem execFaultRelease_rest (pk : Pkt) (s : State) : Kept s (execFaultRelease pk s) := by
  simp [execFaultRelease]
@[simp] theorem bodyFaultPolicy_rest (pk : Pkt) (u1 : Nat) (s : State) : Verdict.keeps s (bodyFaultPolicy pk u1 s) := by
  simp [bodyFaultPolicy]
@[simp] theorem execFaultPolicy_rest (pk : Pkt) (s : State) : Kept s (execFaultPolicy pk s) := by
  simp [execFaultPolicy]
@[simp] theorem bodyFaultInject_rest (pk : Pkt) (u1 : Nat) (s : State) : Verdict.keeps s (bodyFaultInject pk u1 s) := by
  simp [bodyFaultInject]
@[simp] theorem execFaultInject_rest (pk : Pkt) (s : State) : Kept s (execFaultInject pk s) := by
  simp [execFaultInject]
@[simp] theorem State.frameStart_rest (s : State) : (State.frameStart s).rest = s.rest := by
  simp [State.frameStart]

end Sys2Proof.Machine
end

