-- ==== Sys2Proof/Laws/KeepAssay.lean ====
section
/-! SUPPORT. What the operations of these files leave alone (Laws/Keep): the assay. -/

namespace Sys2Proof.Machine

/-! ## Machine/Assay.lean -/

@[simp] theorem State.rowFails_rest (s : State) (t : Nat) (i : Inst) (w : RowWait) (c : RowCheck) (ts : Nat) : (State.rowFails s t i w c ts).1.rest = s.rest := by
  simp only [State.rowFails]; (repeat' split) <;> simp
@[simp] theorem State.decideRow_rest (s : State) (t : Nat) (i : Inst) (w : RowWait) (ts : Nat) : (s.decideRow t i w ts).2.1.rest = s.rest := by
  simp only [State.decideRow]; split <;> simp
@[simp] theorem State.excursion_rest (s : State) (t : Nat) (i : Inst) (kind : Nat) (up : Bool) (ts : Nat) : (State.excursion s t i kind up ts).1.rest = s.rest := by
  simp [State.excursion]
@[simp] theorem State.testExcursions_rest (s : State) (t : Nat) (i : Inst) (final : Bool) (complete : Bool) (ts : Nat) : (State.testExcursions s t i final complete ts).1.rest = s.rest := by
  simp only [State.testExcursions]; (repeat' split) <;> simp
@[simp] theorem State.protocol_rest (s : State) (t : Nat) (i : Inst) : (State.protocol s t i).1.rest = s.rest := by
  simp only [State.protocol]; (repeat' split) <;> simp
@[simp] theorem State.pathFails_rest (s : State) (t : Nat) : (State.pathFails s t).rest = s.rest := by
  simp [State.pathFails]
@[simp] theorem State.closeRow_rest (s : State) (t : Nat) (i : Inst) (r : RowSt) (ts : Nat) : (State.closeRow s t i r ts).1.rest = s.rest := by
  unfold State.closeRow
  extract_lets i0 fs lo hi amax flat counts code could s1 checked sh f1 s2 shadow z i1 w ref0 d s3 i2 s4 s5 f2 ref s6 row s7 s8
  refine fst_of_ite rfl ?_
  have h1 : s1.rest = s.rest := rest_of_ite (State.pathFails_rest ..) rfl
  have h2 : s2.rest = s.rest := rest_of_ite h1 ((State.fresh_rest s1).trans h1)
  have h3 : s3.rest = s.rest := by
    have h : d.2.1.rest = s2.rest := by
      simp only [d]
      split
      · rfl
      · split
        · rfl
        · exact State.decideRow_rest ..
    exact h.trans h2
  have h4 : s4.rest = s.rest := rest_of_ite ((State.assayCount_rest ..).trans h3) h3
  have h5 : s5.rest = s.rest := rest_of_ite ((State.assayCount_rest ..).trans h4) h4
  have h6 : s6.rest = s.rest := rest_of_ite h5 ((State.fresh_rest s5).trans h5)
  have h7 : s7.rest = s.rest := (State.assayIn_rest ..).trans h6
  have h8 : s8.rest = s.rest := rest_of_ite ((State.emitRec_rest ..).trans h7) h7
  exact fst_of_ite ((State.testExcursions_rest ..).trans h8) h8

/-! ## Machine/Tap.lean -/

@[simp] theorem State.writeStage_rest (s : State) (pos : Nat) (n : Nat) : (State.writeStage s pos n).rest = s.rest := by
  simp [State.writeStage]
@[simp] theorem State.putBlock_rest (s : State) (j : Nat) (d : Dump) (blk : Staged) : (State.putBlock s j d blk).1.rest = s.rest := by
  simp [State.putBlock]
@[simp] theorem State.stageBlock_rest (s : State) (j : Nat) (d : Dump) (k : Nat) (body : List Byte) (incomplete : Bool) (last : Bool) : (State.stageBlock s j d k body incomplete last).1.rest = s.rest := by
  simp [State.stageBlock]
@[simp] theorem State.emitDump_rest (s : State) (e : DumpEnd) : (State.emitDump s e).rest = s.rest := by
  simp [State.emitDump]
@[simp] theorem State.settleDumps_rest (s : State) : (State.settleDumps s).rest = s.rest := by
  simp [State.settleDumps]
@[simp] theorem State.endDump_rest (s : State) (j : Nat) (incomplete : Bool) : (State.endDump s j incomplete).rest = s.rest := by
  unfold State.endDump
  split
  · rfl
  extract_lets w ks r s1 mark a2 s2 w3 s3 s4 e
  have h1 : s1.rest = s.rest := foldl_fst_rest _ (fun a e => State.stageBlock_rest ..) _ _
  have h2 : s2.rest = s.rest := rest_of_ite h1 h1
  have h3 : s3.rest = s.rest := (State.setSlot_rest ..).trans h2
  have h4 : s4.rest = s.rest := rest_of_ite ((State.assayCount_rest ..).trans h3) h3
  exact (State.settleDumps_rest ..).trans h4
@[simp] theorem State.dumpBytes_rest (s : State) (j k n : Nat) (bs : List Byte) : (s.dumpBytes j k n bs).rest = s.rest := by
  induction n generalizing s bs with
  | zero => rfl
  | succ n ih => simp only [State.dumpBytes]; (repeat' split) <;> simp [ih]
@[simp] theorem State.dumpBeat_rest (s : State) (t : Nat) (row : BitVec 24) (mx : Bool) (n : Nat) (elems : Nat) (b : TapBeat) : (State.dumpBeat s t row mx n elems b).rest = s.rest := by
  simp [State.dumpBeat]
@[simp] theorem State.dumpRowTo_rest (r : RowSt) (s : State) (j : Nat) : (State.dumpRowTo r s j).rest = s.rest := by
  unfold State.dumpRowTo
  dsimp only
  refine rest_of_ite rfl ?_
  cases (s.slot j).run <;> simp
@[simp] theorem State.dumpRow_rest (s : State) (t : Nat) (r : RowSt) : (State.dumpRow s t r).rest = s.rest := by
  simp [State.dumpRow]
@[simp] theorem State.takesDump_rest (s : State) (j : Nat) (t : Nat) (tid : BitVec 16) : (State.takesDump s j t tid).2.rest = s.rest := by
  unfold State.takesDump
  dsimp only
  split <;> simp
@[simp] theorem State.startDump_rest (s : State) (t : Nat) (i : Inst) (j : Nat) : (State.startDump s t i j).rest = s.rest := by
  simp [State.startDump]
@[simp] theorem State.openDump_rest (t : Nat) (i : Inst) (s : State) (j : Nat) : (State.openDump t i s j).rest = s.rest := by
  simp [State.openDump]
@[simp] theorem State.openDumps_rest (s : State) (t : Nat) (i : Inst) : (State.openDumps s t i).rest = s.rest := by
  simp [State.openDumps]
@[simp] theorem State.cutRow_rest (s : State) (t : Nat) (i : Inst) (ts : Nat) : (State.cutRow s t i ts).1.rest = s.rest := by
  unfold State.cutRow
  cases i.row <;> simp
@[simp] theorem State.instStats_rest (s : State) (t : Nat) (i : Inst) (complete : Bool) (ts : Nat) : (State.instStats s t i complete ts).rest = s.rest := by
  simp [State.instStats]
@[simp] theorem State.queueBack_rest (s : State) (t : Nat) (i : Inst) (complete : Bool) : (State.queueBack s t i complete).2.rest = s.rest := by
  simp only [State.queueBack]; (repeat' split) <;> simp
@[simp] theorem State.closeInst_rest (s : State) (t : Nat) (i : Inst) (cut : Bool) : (State.closeInst s t i cut).rest = s.rest := by
  unfold State.closeInst
  extract_lets ts complete r i0 i1 r2 i2 s1 s2 q s3
  have h1 : r.1.rest = s.rest := State.cutRow_rest ..
  have h2 : r2.1.rest = s.rest := fst_of_ite ((State.testExcursions_rest ..).trans h1) h1
  have h3 : s1.rest = s.rest := (State.instStats_rest ..).trans h2
  have h4 : s2.rest = s.rest := rest_of_ite ((State.raise_rest ..).trans h3) h3
  have h5 : s3.rest = s.rest := (State.modTap_rest ..).trans ((State.queueBack_rest ..).trans h4)
  exact (foldl_rest _ (fun s j => State.endDump_rest ..) _ _).trans h5
@[simp] theorem State.openInst_rest (s : State) (t : Nat) (headless : Bool) (b : TapBeat) : (State.openInst s t headless b).1.rest = s.rest := by
  simp only [State.openInst]; (repeat' split) <;> simp
@[simp] theorem State.beat_rest (s : State) (t : Nat) (i : Inst) (b : TapBeat) : (State.beat s t i b).rest = s.rest := by
  unfold State.beat
  extract_lets ts row again breach r r2 i2 row2 s1 r3
  have h1 : r.1.rest = s.rest := fst_of_ite (State.cutRow_rest ..) rfl
  have h2 : r2.1.rest = s.rest := fst_of_ite ((State.protocol_rest ..).trans h1) h1
  have h3 : s1.rest = s.rest := (State.dumpBeat_rest ..).trans h2
  have h4 : r3.1.rest = s.rest :=
    fst_of_ite ((State.closeRow_rest ..).trans ((State.dumpRow_rest ..).trans h3)) h3
  exact rest_of_ite ((State.closeInst_rest ..).trans h4) ((State.modTap_rest ..).trans h4)
@[simp] theorem execTapBeat_rest (t : Fin 4) (b : TapBeat) (s : State) : Kept s (execTapBeat t b s) := by
  unfold execTapBeat
  extract_lets old s1 renew s2 r i i2 s3
  have h1 : s1.rest = s.rest := State.wake_rest ..
  have h2 : s2.rest = s.rest := by
    simp only [s2]; cases old with
    | none => exact h1
    | some i => exact rest_of_ite ((State.closeInst_rest ..).trans h1) h1
  have h3 : r.1.rest = s.rest := by
    simp only [r]; cases old with
    | none => exact (State.openInst_rest ..).trans h2
    | some i => exact fst_of_ite ((State.openInst_rest ..).trans h2) h2
  have h4 : s3.rest = s.rest := (State.beat_rest ..).trans h3
  clear_value s2 r s3 i2
  refine kept_of_ite (by simp) (kept_of_ite ((kept_next ..).2 h2) (kept_of_ite ?_ ?_))
  · exact (kept_next ..).2 (rest_of_ite ((State.closeInst_rest ..).trans h3) ((State.modTap_rest ..).trans h3))
  · refine (kept_next ..).2 ?_
    split
    · exact (State.closeInst_rest ..).trans h4
    · exact h4
@[simp] theorem State.arrive_rest (s : State) (t : Nat) (i : Inst) : (State.arrive s t i).1.rest = s.rest := by
  simp only [State.arrive]; (repeat' split) <;> simp
@[simp] theorem State.giveEntry_rest (s : State) (t : Nat) (o : Nat) (tid : BitVec 16) (f : Fetch) : (State.giveEntry s t o tid f).rest = s.rest := by
  simp only [State.giveEntry]; (repeat' split) <;> simp
theorem State.tableRead_rest {s s' : State} {o t : Nat} {bs : List Byte} {bad : Bool} (h : s.tableRead o t = some (bs, bad, s')) :
    s'.rest = s.rest := by
  unfold State.tableRead at h
  split at h
  · cases h
  · dsimp only at h
    split at h <;> (cases h; simp)
@[simp] theorem execTableFetchDone_rest (s : State) : Kept s (execTableFetchDone s) := by
  unfold execTableFetchDone
  split
  · split
    · simp
    · rename_i h
      have hr := State.tableRead_rest h
      refine (kept_next ..).2 ((State.engineNext_rest ..).trans ((State.giveEntry_rest ..).trans ?_))
      exact rest_of_ite (rest_of_ite ((State.assayCount_rest ..).trans hr) hr)
        ((State.assayCount_rest ..).trans (rest_of_ite ((State.assayCount_rest ..).trans hr) hr))
  · simp
@[simp] theorem execTableWritebackDone_rest (s : State) : Kept s (execTableWritebackDone s) := by
  unfold execTableWritebackDone
  split
  · split
    · simp
    · rename_i h
      have hr := State.tableRead_rest h
      dsimp only
      (repeat' split) <;> simp [hr]
  · simp
@[simp] theorem execRescaleAck_rest (t : Fin 4) (s : State) : Kept s (execRescaleAck t s) := by
  simp [execRescaleAck]
@[simp] theorem State.fetchBad_rest (s : State) (b : Nat) (w : Nat) (n : Nat) : (State.fetchBad s b w n).2.rest = s.rest := by
  simp [State.fetchBad]
@[simp] theorem execDumpBlockWrite_rest (s : State) : Kept s (execDumpBlockWrite s) := by
  simp only [execDumpBlockWrite]; (repeat' split) <;> simp
@[simp] theorem State.cutTap_rest (s : State) (t : Nat) : (State.cutTap s t).rest = s.rest := by
  simp only [State.cutTap]; (repeat' split) <;> simp
@[simp] theorem State.assayOff_rest (s : State) : (State.assayOff s).rest = s.rest := by
  simp [State.assayOff]
@[simp] theorem State.assayEnd_rest (s : State) (o : Nat) : (State.assayEnd s o).rest = s.rest := by
  simp [State.assayEnd]

/-! ## Machine/AssayPackets.lean -/

@[simp] theorem bodyTapSafety_rest (pk : Pkt) (u1 : Nat) (s : State) : Verdict.keeps s (bodyTapSafety pk u1 s) := by
  simp [bodyTapSafety]
@[simp] theorem execTapSafety_rest (pk : Pkt) (s : State) : Kept s (execTapSafety pk s) := by
  simp [execTapSafety]
@[simp] theorem bodyTapMeasure_rest (pk : Pkt) (u1 : Nat) (s : State) : Verdict.keeps s (bodyTapMeasure pk u1 s) := by
  simp [bodyTapMeasure]
@[simp] theorem execTapMeasure_rest (pk : Pkt) (s : State) : Kept s (execTapMeasure pk s) := by
  simp [execTapMeasure]
@[simp] theorem bodyTableBase_rest (pk : Pkt) (u1 : Nat) (s : State) : Verdict.keeps s (bodyTableBase pk u1 s) := by
  simp [bodyTableBase]
@[simp] theorem execTableBase_rest (pk : Pkt) (s : State) : Kept s (execTableBase pk s) := by
  simp [execTableBase]
@[simp] theorem bodyTableEntry_rest (pk : Pkt) (u1 : Nat) (s : State) : Verdict.keeps s (bodyTableEntry pk u1 s) := by
  simp [bodyTableEntry]
@[simp] theorem execTableEntry_rest (pk : Pkt) (s : State) : Kept s (execTableEntry pk s) := by
  simp [execTableEntry]
@[simp] theorem State.disarm_rest (s : State) (j : Nat) : (State.disarm s j).rest = s.rest := by
  simp [State.disarm]
@[simp] theorem bodyWatchAssign_rest (pk : Pkt) (u1 : Nat) (s : State) : Verdict.keeps s (bodyWatchAssign pk u1 s) := by
  simp [bodyWatchAssign]
@[simp] theorem execWatchAssign_rest (pk : Pkt) (s : State) : Kept s (execWatchAssign pk s) := by
  simp [execWatchAssign]
@[simp] theorem bodyWatchConfig_rest (pk : Pkt) (u1 : Nat) (s : State) : Verdict.keeps s (bodyWatchConfig pk u1 s) := by
  simp [bodyWatchConfig]
@[simp] theorem execWatchConfig_rest (pk : Pkt) (s : State) : Kept s (execWatchConfig pk s) := by
  simp [execWatchConfig]
@[simp] theorem bodyWatchArm_rest (pk : Pkt) (u1 : Nat) (s : State) : Verdict.keeps s (bodyWatchArm pk u1 s) := by
  simp [bodyWatchArm]
@[simp] theorem execWatchArm_rest (pk : Pkt) (s : State) : Kept s (execWatchArm pk s) := by
  simp [execWatchArm]
@[simp] theorem bodyAssayCounters_rest (pk : Pkt) (u1 : Nat) (s : State) : Verdict.keeps s (bodyAssayCounters pk u1 s) := by
  simp [bodyAssayCounters]
@[simp] theorem execAssayCounters_rest (pk : Pkt) (s : State) : Kept s (execAssayCounters pk s) := by
  simp [execAssayCounters]
@[simp] theorem bodyTapReenable_rest (pk : Pkt) (u1 : Nat) (s : State) : Verdict.keeps s (bodyTapReenable pk u1 s) := by
  simp [bodyTapReenable]
@[simp] theorem execTapReenable_rest (pk : Pkt) (s : State) : Kept s (execTapReenable pk s) := by
  simp [execTapReenable]

end Sys2Proof.Machine
end

