-- ==== Sys2Proof/Laws/KeepHouse.lean ====
section
/-! SUPPORT. What the operations of these files leave alone (Laws/Keep): the Counting House and Survey. -/

namespace Sys2Proof.Machine

/-! ## Machine/Wear.lean -/

@[simp] theorem State.takeConsts_rest (s : State) : (State.takeConsts s).rest = s.rest := by
  simp [State.takeConsts]
@[simp] theorem State.turnOf_rest (s : State) (k : Nat) (t : Int) : (State.turnOf s k t).rest = s.rest := by
  simp [State.turnOf]
@[simp] theorem State.setTotals_rest (s : State) (t : Totals) : (State.setTotals s t).rest = s.rest := by
  simp [State.setTotals]
@[simp] theorem State.addIncrement_rest (s : State) (a : Accum) (kind : Nat) : (State.addIncrement s a kind).rest = s.rest := by
  simp only [State.addIncrement]; (repeat' split) <;> simp
@[simp] theorem State.levels_rest (s : State) (sites : List (Nat × Mech)) : (State.levels s sites).rest = s.rest := by
  simp [State.levels]
@[simp] theorem State.wearRun_rest (s : State) (journal : Bool) (model : List W64) : (State.wearRun s journal model).rest = s.rest := by
  simp [State.wearRun]
@[simp] theorem State.payEntries_rest (s : State) : (State.payEntries s).rest = s.rest := by
  simp [State.payEntries]
@[simp] theorem State.checkpoint_rest (s : State) : (State.checkpoint s).rest = s.rest := by
  simp [State.checkpoint]
@[simp] theorem State.writeEntry24_rest (s : State) (model : List W64) : (State.writeEntry24 s model).rest = s.rest := by
  simp [State.writeEntry24]
@[simp] theorem State.restoreSurvey_rest (s : State) (lost : Nat) : (State.restoreSurvey s lost).rest = s.rest := by
  simp only [State.restoreSurvey]; (repeat' split) <;> simp
@[simp] theorem State.keeperAdds_rest (s : State) : (State.keeperAdds s).rest = s.rest := by
  simp only [State.keeperAdds]; (repeat' split) <;> simp
@[simp] theorem State.surveyEnd_rest (s : State) (kind : Nat) (status : Nat) (model : List W64) : (State.surveyEnd s kind status model).rest = s.rest := by
  simp only [State.surveyEnd]; (repeat' split) <;> simp

/-! ## Machine/Cores.lean -/

@[simp] theorem State.setRun_rest (s : State) (r : Running) : (State.setRun s r).rest = s.rest := by
  simp [State.setRun]
@[simp] theorem State.clearCore_rest (s : State) (c : Nat) : (State.clearCore s c).rest = s.rest := by
  simp [State.clearCore]
@[simp] theorem State.restart_rest (s : State) (r : Running) : (State.restart s r).rest = s.rest := by
  simp [State.restart]
@[simp] theorem State.dropReads_rest (s : State) : (State.dropReads s).rest = s.rest := by
  simp [State.dropReads]
@[simp] theorem State.staleBlock_rest (s : State) (o : Nat) : (State.staleBlock s o).rest = s.rest := by
  simp [State.staleBlock]
@[simp] theorem State.openSealed_rest (s : State) (o : Nat) (nonce : List Byte) (b : List Byte) : (State.openSealed s o nonce b).2.2.rest = s.rest := by
  simp only [State.openSealed]; (repeat' split) <;> simp
@[simp] theorem State.openBlock_rest (o j : Nat) (a : Running × State) (g : Nat × Option (List Byte × Bool)) :
    (State.openBlock o j a g).2.rest = a.2.rest := by
  unfold State.openBlock
  refine snd_of_ite rfl ?_
  split
  · split
    · simp
    · rfl
  · rfl
theorem State.inputBytes_rest {s t : State} {r : Running} {j a n : Nat} {b : List Byte} {bad : Bool} (h : s.inputBytes r j a n = some (b, bad, t)) :
    t.rest = s.rest := by
  unfold State.inputBytes at h
  dsimp only at h
  split at h
  · cases h
  · split at h
    · cases h
    · cases h
      exact (State.setRun_rest ..).trans (foldl_snd_rest _ (fun x g => State.openBlock_rest _ _ x g) _ _)
@[simp] theorem State.askPages_rest (s : State) (r : Running) : (State.askPages s r).rest = s.rest := by
  simp only [State.askPages]; (repeat' split) <;> simp
@[simp] theorem State.askInputs_rest (s : State) (r : Running) : (State.askInputs s r).rest = s.rest := by
  simp [State.askInputs]
@[simp] theorem State.giveStores_rest (s : State) (cores : List Nat) (t : Tab (Tab Byte)) : (State.giveStores s cores t).rest = s.rest := by
  simp [State.giveStores]
@[simp] theorem State.opFails_rest (s : State) (status : Status) (idx : Nat) : (State.opFails s status idx).rest = s.rest := by
  simp only [State.opFails]; (repeat' split) <;> simp
@[simp] theorem State.reExec_rest (s : State) : (State.reExec s).rest = s.rest := by
  simp only [State.reExec]; (repeat' split) <;> simp
@[simp] theorem State.clearUnits_rest (s : State) (us : List Nat) : (State.clearUnits s us).rest = s.rest := by
  simp [State.clearUnits]
@[simp] theorem State.unload_rest (s : State) (o : Nat) (i : Nat) : (State.unload s o i).rest = s.rest := by
  simp only [State.unload]; (repeat' split) <;> simp
@[simp] theorem State.postResult_rest (s : State) (x : OpInst) (status : Nat) (flags : Nat) (w2 : Nat) (w3 : Nat) : (State.postResult s x status flags w2 w3).rest = s.rest := by
  simp [State.postResult]
@[simp] theorem State.takeSeq_rest (s : State) (o : Nat) : (State.takeSeq s o).2.rest = s.rest := by
  simp [State.takeSeq]
@[simp] theorem State.writeBlocks_rest (s : State) : (State.writeBlocks s).rest = s.rest := by
  simp only [State.writeBlocks]; (repeat' split) <;> first | (simp; done) | (simp; rfl)
@[simp] theorem State.eraseUnits_rest (s : State) (us : List Nat) : (State.eraseUnits s us).rest = s.rest := by
  simp [State.eraseUnits]
@[simp] theorem State.settleUnits_rest (s : State) : (State.settleUnits s).rest = s.rest := by
  simp [State.settleUnits]
@[simp] theorem State.finishOp_rest (s : State) (r : Running) (status : Nat) (w2 : Nat) (w3 : Nat) (blocks : Bool) : (State.finishOp s r status w2 w3 blocks).rest = s.rest := by
  simp [State.finishOp]
@[simp] theorem State.removeCore_rest (s : State) (c : Nat) (how : Nat) : (State.removeCore s c how).rest = s.rest := by
  simp only [State.removeCore]; (repeat' split) <;> simp

/-! ## Machine/Itin.lean -/

@[simp] theorem State.retire_rest (s : State) (c : Nat) (x : Core) : (State.retire s c x).rest = s.rest := by
  simp [State.retire]
@[simp] theorem State.runStep_rest (s : State) (code c : Nat) (f : Running → StepEnv → Core → State) (h : ∀ r e x, (f r e x).rest = s.rest) :
    (s.runStep code c f).rest = s.rest := by
  unfold State.runStep
  split
  · exact rest_of_ite (h ..) rfl
  · rfl
@[simp] theorem State.faultAt_rest (s : State) (c : Nat) : (State.faultAt s c).rest = s.rest := by
  simp [State.faultAt]
@[simp] theorem State.regStep_rest (s : State) (code : Nat) (c : Nat) (ok : Nat → Bool) (f : StepEnv → Core → Core × Bool) : (State.regStep s code c ok f).rest = s.rest := by
  refine State.runStep_rest _ _ _ _ (fun r e x => rest_of_ite (State.faultAt_rest ..) ?_)
  exact (State.retire_rest ..).trans (rest_of_ite (State.setRun_rest ..) rfl)
@[simp] theorem State.localRead_rest (s : State) (c : Nat) (at_ : Nat) (n : Nat) : (State.localRead s c at_ n).2.rest = s.rest := by
  simp [State.localRead]
@[simp] theorem execLd_rest (c : Fin 16) (s : State) : Kept s (execLd c s) := by
  refine (kept_next ..).2 (State.runStep_rest _ _ _ _ (fun r e x => ?_)); (repeat' (first | (dsimp only; done) | rfl | assumption | (simp; done) | (refine (foldl_rest _ (fun s a => ?_) _ _).trans ?_) | (refine (foldl_snd_rest _ (fun x a => ?_) _ _).trans ?_) | (refine (foldl_fst_rest _ (fun x a => ?_) _ _).trans ?_) | (refine kept_of_ite ?_ ?_) | (refine rest_of_ite ?_ ?_) | (refine fst_of_ite ?_ ?_) | (refine snd_of_ite ?_ ?_) | (split) | (dsimp only) | simp))
@[simp] theorem execSt_rest (c : Fin 16) (s : State) : Kept s (execSt c s) := by
  refine (kept_next ..).2 (State.runStep_rest _ _ _ _ (fun r e x => ?_)); (repeat' (first | (dsimp only; done) | rfl | assumption | (simp; done) | (refine (foldl_rest _ (fun s a => ?_) _ _).trans ?_) | (refine (foldl_snd_rest _ (fun x a => ?_) _ _).trans ?_) | (refine (foldl_fst_rest _ (fun x a => ?_) _ _).trans ?_) | (refine kept_of_ite ?_ ?_) | (refine rest_of_ite ?_ ?_) | (refine fst_of_ite ?_ ?_) | (refine snd_of_ite ?_ ?_) | (split) | (dsimp only) | simp))
@[simp] theorem State.askBlock_rest (o : Nat) (slot : Nat) (l : Loaded) (s : State) (g : GotBlock) : (State.askBlock o slot l s g).rest = s.rest := by
  simp [State.askBlock]
@[simp] theorem State.readModelWords_rest (s : State) (l : Loaded) (ws : List Nat) : (State.readModelWords s l ws).2.rest = s.rest := by
  simp [State.readModelWords]
@[simp] theorem State.readModel_rest (s : State) (l : Loaded) (as : List Nat) : (State.readModel s l as).2.rest = s.rest := by
  simp [State.readModel]
@[simp] theorem State.ldm_rest (s : State) (c : Nat) (r : Running) (e : StepEnv) (x : Core) (l : Loaded) (as : List Nat) (got : List GotBlock) : (State.ldm s c r e x l as got).rest = s.rest := by
  simp [State.ldm]
@[simp] theorem execLdm_rest (c : Fin 16) (s : State) : Kept s (execLdm c s) := by
  refine (kept_next ..).2 (State.runStep_rest _ _ _ _ (fun r e x => ?_)); (repeat' (first | (dsimp only; done) | rfl | assumption | (simp; done) | (refine (foldl_rest _ (fun s a => ?_) _ _).trans ?_) | (refine (foldl_snd_rest _ (fun x a => ?_) _ _).trans ?_) | (refine (foldl_fst_rest _ (fun x a => ?_) _ _).trans ?_) | (refine kept_of_ite ?_ ?_) | (refine rest_of_ite ?_ ?_) | (refine fst_of_ite ?_ ?_) | (refine snd_of_ite ?_ ?_) | (split) | (dsimp only) | simp))
@[simp] theorem State.recvGive_rest (s : State) (c : Nat) (e : StepEnv) (x : Core) (bs : List Byte) (n : Nat) (bad : Bool) : (State.recvGive s c e x bs n bad).rest = s.rest := by
  simp [State.recvGive]
@[simp] theorem State.recvDram_rest (s : State) (c : Nat) (r : Running) (e : StepEnv) (x : Core) (j : Nat) : (State.recvDram s c r e x j).rest = s.rest := by
  unfold State.recvDram
  refine rest_of_ite (State.recvGive_rest ..) ?_
  split
  · rfl
  · rename_i h; exact (State.recvGive_rest ..).trans (State.inputBytes_rest h)
@[simp] theorem State.readStore_rest (s : State) (c : Nat) (ps : List Nat) : (State.readStore s c ps).2.rest = s.rest := by
  simp [State.readStore]
@[simp] theorem State.recvState_rest (s : State) (c : Nat) (r : Running) (e : StepEnv) (x : Core) (j : Nat) : (State.recvState s c r e x j).rest = s.rest := by
  simp [State.recvState]
@[simp] theorem State.recvRecs_rest (s : State) (c : Nat) (r : Running) (e : StepEnv) (x : Core) (j : Nat) : (State.recvRecs s c r e x j).rest = s.rest := by
  simp [State.recvRecs]
@[simp] theorem execRecv_rest (c : Fin 16) (s : State) : Kept s (execRecv c s) := by
  refine (kept_next ..).2 (State.runStep_rest _ _ _ _ (fun r e x => ?_)); (repeat' (first | (dsimp only; done) | rfl | assumption | (simp; done) | (refine (foldl_rest _ (fun s a => ?_) _ _).trans ?_) | (refine (foldl_snd_rest _ (fun x a => ?_) _ _).trans ?_) | (refine (foldl_fst_rest _ (fun x a => ?_) _ _).trans ?_) | (refine kept_of_ite ?_ ?_) | (refine rest_of_ite ?_ ?_) | (refine fst_of_ite ?_ ?_) | (refine snd_of_ite ?_ ?_) | (split) | (dsimp only) | simp))
@[simp] theorem execEmit_rest (c : Fin 16) (s : State) : Kept s (execEmit c s) := by
  refine (kept_next ..).2 (State.runStep_rest _ _ _ _ (fun r e x => rest_of_ite ?_ (rest_of_ite ((State.opFails_rest ..).trans ?_) ?_)))
  · exact (State.retire_rest ..).trans (State.setRun_rest ..)
  all_goals exact (State.writeBlocks_rest ..).trans ((State.retire_rest ..).trans (State.setRun_rest ..))
@[simp] theorem execGets_rest (c : Fin 16) (s : State) : Kept s (execGets c s) := by
  simp [execGets]
@[simp] theorem execSop_rest (c : Fin 16) (s : State) : Kept s (execSop c s) := by
  simp [execSop]
@[simp] theorem execBcast_rest (c : Fin 16) (s : State) : Kept s (execBcast c s) := by
  simp [execBcast]
@[simp] theorem execXlane_rest (c : Fin 16) (s : State) : Kept s (execXlane c s) := by
  simp [execXlane]
@[simp] theorem execAdd_rest (c : Fin 16) (s : State) : Kept s (execAdd c s) := by
  simp [execAdd]
@[simp] theorem execSub_rest (c : Fin 16) (s : State) : Kept s (execSub c s) := by
  simp [execSub]
@[simp] theorem execMul_rest (c : Fin 16) (s : State) : Kept s (execMul c s) := by
  simp [execMul]
@[simp] theorem execFma_rest (c : Fin 16) (s : State) : Kept s (execFma c s) := by
  simp [execFma]
@[simp] theorem execDiv_rest (c : Fin 16) (s : State) : Kept s (execDiv c s) := by
  simp [execDiv]
@[simp] theorem execSqrt_rest (c : Fin 16) (s : State) : Kept s (execSqrt c s) := by
  simp [execSqrt]
@[simp] theorem execMin_rest (c : Fin 16) (s : State) : Kept s (execMin c s) := by
  simp [execMin]
@[simp] theorem execMax_rest (c : Fin 16) (s : State) : Kept s (execMax c s) := by
  simp [execMax]
@[simp] theorem execAbs_rest (c : Fin 16) (s : State) : Kept s (execAbs c s) := by
  simp [execAbs]
@[simp] theorem execExp2_rest (c : Fin 16) (s : State) : Kept s (execExp2 c s) := by
  simp [execExp2]
@[simp] theorem execLog2_rest (c : Fin 16) (s : State) : Kept s (execLog2 c s) := by
  simp [execLog2]
@[simp] theorem execCvt_rest (c : Fin 16) (s : State) : Kept s (execCvt c s) := by
  simp [execCvt]
@[simp] theorem execQuant_rest (c : Fin 16) (s : State) : Kept s (execQuant c s) := by
  simp [execQuant]
@[simp] theorem execDeq_rest (c : Fin 16) (s : State) : Kept s (execDeq c s) := by
  simp [execDeq]
@[simp] theorem execMxapply_rest (c : Fin 16) (s : State) : Kept s (execMxapply c s) := by
  simp [execMxapply]
@[simp] theorem execCmp_rest (c : Fin 16) (s : State) : Kept s (execCmp c s) := by
  simp [execCmp]
@[simp] theorem execSel_rest (c : Fin 16) (s : State) : Kept s (execSel c s) := by
  simp [execSel]
@[simp] theorem execMcount_rest (c : Fin 16) (s : State) : Kept s (execMcount c s) := by
  simp [execMcount]
@[simp] theorem execRed_rest (c : Fin 16) (s : State) : Kept s (execRed c s) := by
  simp [execRed]
@[simp] theorem execArgmax_rest (c : Fin 16) (s : State) : Kept s (execArgmax c s) := by
  simp [execArgmax]
@[simp] theorem execDot_rest (c : Fin 16) (s : State) : Kept s (execDot c s) := by
  simp [execDot]
@[simp] theorem execMacc_rest (c : Fin 16) (s : State) : Kept s (execMacc c s) := by
  simp [execMacc]
@[simp] theorem execAccrd_rest (c : Fin 16) (s : State) : Kept s (execAccrd c s) := by
  simp [execAccrd]
@[simp] theorem execAccclr_rest (c : Fin 16) (s : State) : Kept s (execAccclr c s) := by
  simp [execAccclr]
@[simp] theorem execHist_rest (c : Fin 16) (s : State) : Kept s (execHist c s) := by
  simp [execHist]
@[simp] theorem execLut_rest (c : Fin 16) (s : State) : Kept s (execLut c s) := by
  simp [execLut]
@[simp] theorem execBitop_rest (c : Fin 16) (s : State) : Kept s (execBitop c s) := by
  simp [execBitop]
@[simp] theorem execField_rest (c : Fin 16) (s : State) : Kept s (execField c s) := by
  simp [execField]
@[simp] theorem execQtref_rest (c : Fin 16) (s : State) : Kept s (execQtref c s) := by
  simp [execQtref]
@[simp] theorem State.meet_rest (s : State) (c : Nat) (r : Running) (all : State → Nat → Core → Core) : (State.meet s c r all).rest = s.rest := by
  simp [State.meet]
@[simp] theorem execAllred_rest (c : Fin 16) (s : State) : Kept s (execAllred c s) := by
  refine (kept_next ..).2 (State.runStep_rest _ _ _ _ (fun r e x => ?_)); (repeat' (first | (dsimp only; done) | rfl | assumption | (simp; done) | (refine (foldl_rest _ (fun s a => ?_) _ _).trans ?_) | (refine (foldl_snd_rest _ (fun x a => ?_) _ _).trans ?_) | (refine (foldl_fst_rest _ (fun x a => ?_) _ _).trans ?_) | (refine kept_of_ite ?_ ?_) | (refine rest_of_ite ?_ ?_) | (refine fst_of_ite ?_ ?_) | (refine snd_of_ite ?_ ?_) | (split) | (dsimp only) | simp))
@[simp] theorem execXchg_rest (c : Fin 16) (s : State) : Kept s (execXchg c s) := by
  simp [execXchg]
@[simp] theorem execBar_rest (c : Fin 16) (s : State) : Kept s (execBar c s) := by
  simp [execBar]
@[simp] theorem execLoop_rest (c : Fin 16) (s : State) : Kept s (execLoop c s) := by
  refine (kept_next ..).2 (State.runStep_rest _ _ _ _ (fun r e x => ?_)); (repeat' (first | (dsimp only; done) | rfl | assumption | (simp; done) | (refine (foldl_rest _ (fun s a => ?_) _ _).trans ?_) | (refine (foldl_snd_rest _ (fun x a => ?_) _ _).trans ?_) | (refine (foldl_fst_rest _ (fun x a => ?_) _ _).trans ?_) | (refine kept_of_ite ?_ ?_) | (refine rest_of_ite ?_ ?_) | (refine fst_of_ite ?_ ?_) | (refine snd_of_ite ?_ ?_) | (split) | (dsimp only) | simp))
@[simp] theorem execEndl_rest (c : Fin 16) (s : State) : Kept s (execEndl c s) := by
  refine (kept_next ..).2 (State.runStep_rest _ _ _ _ (fun r e x => ?_)); (repeat' (first | (dsimp only; done) | rfl | assumption | (simp; done) | (refine (foldl_rest _ (fun s a => ?_) _ _).trans ?_) | (refine (foldl_snd_rest _ (fun x a => ?_) _ _).trans ?_) | (refine (foldl_fst_rest _ (fun x a => ?_) _ _).trans ?_) | (refine kept_of_ite ?_ ?_) | (refine rest_of_ite ?_ ?_) | (refine fst_of_ite ?_ ?_) | (refine snd_of_ite ?_ ?_) | (split) | (dsimp only) | simp))
@[simp] theorem execBrz_rest (c : Fin 16) (s : State) : Kept s (execBrz c s) := by
  simp [execBrz]
@[simp] theorem execHalt_rest (c : Fin 16) (s : State) : Kept s (execHalt c s) := by
  refine (kept_next ..).2 (State.runStep_rest _ _ _ _ (fun r e x => ?_)); (repeat' (first | (dsimp only; done) | rfl | assumption | (simp; done) | (refine (foldl_rest _ (fun s a => ?_) _ _).trans ?_) | (refine (foldl_snd_rest _ (fun x a => ?_) _ _).trans ?_) | (refine (foldl_fst_rest _ (fun x a => ?_) _ _).trans ?_) | (refine kept_of_ite ?_ ?_) | (refine rest_of_ite ?_ ?_) | (refine fst_of_ite ?_ ?_) | (refine snd_of_ite ?_ ?_) | (split) | (dsimp only) | simp))

/-! ## Machine/House.lean -/

@[simp] theorem bodyOpSubmit_rest (pk : Pkt) (slot : Nat) (s : State) : Verdict.keeps s (bodyOpSubmit pk slot s) := by
  simp [bodyOpSubmit]
@[simp] theorem execOpSubmit_rest (pk : Pkt) (s : State) : Kept s (execOpSubmit pk s) := by
  simp only [execOpSubmit]; (repeat' split) <;> simp
@[simp] theorem State.dropInstance_rest (s : State) (x : OpInst) : (State.dropInstance s x).rest = s.rest := by
  simp [State.dropInstance]
@[simp] theorem bodyOpCancel_rest (pk : Pkt) (u1 : Nat) (s : State) : Verdict.keeps s (bodyOpCancel pk u1 s) := by
  simp only [bodyOpCancel]; (repeat' split) <;> simp
@[simp] theorem execOpCancel_rest (pk : Pkt) (s : State) : Kept s (execOpCancel pk s) := by
  simp only [execOpCancel]; (repeat' split) <;> simp
@[simp] theorem State.unloadSoon_rest (s : State) (o : Nat) (i : Nat) : (State.unloadSoon s o i).rest = s.rest := by
  simp [State.unloadSoon]
@[simp] theorem bodySlotUnload_rest (pk : Pkt) (u1 : Nat) (s : State) : Verdict.keeps s (bodySlotUnload pk u1 s) := by
  simp [bodySlotUnload]
@[simp] theorem execSlotUnload_rest (pk : Pkt) (s : State) : Kept s (execSlotUnload pk s) := by
  simp only [execSlotUnload]; (repeat' split) <;> simp
@[simp] theorem bodyChAllot_rest (pk : Pkt) (u1 : Nat) (s : State) : Verdict.keeps s (bodyChAllot pk u1 s) := by
  simp [bodyChAllot]
@[simp] theorem execChAllot_rest (pk : Pkt) (s : State) : Kept s (execChAllot pk s) := by
  simp only [execChAllot]; (repeat' split) <;> simp
@[simp] theorem bodyChStatus_rest (pk : Pkt) (u1 : Nat) (s : State) : Verdict.keeps s (bodyChStatus pk u1 s) := by
  simp [bodyChStatus]
@[simp] theorem execChStatus_rest (pk : Pkt) (s : State) : Kept s (execChStatus pk s) := by
  simp only [execChStatus]; (repeat' split) <;> simp
@[simp] theorem State.addLoad_rest (s : State) (pk : Pkt) (slot : Nat) (itin : Bool) : (State.addLoad s pk slot itin).rest = s.rest := by
  simp [State.addLoad]
@[simp] theorem checkLoad_rest (pk : Pkt) (kind : Nat) (s' s : State) (k : Verdict) (h : Verdict.keeps s' k) : Verdict.keeps s' (checkLoad pk kind s k) := by
  simp [checkLoad, h]
@[simp] theorem bodyItinLoad_rest (pk : Pkt) (slot : Nat) (s : State) : Verdict.keeps s (bodyItinLoad pk slot s) := by
  simp [bodyItinLoad]
@[simp] theorem execItinLoad_rest (pk : Pkt) (s : State) : Kept s (execItinLoad pk s) := by
  simp only [execItinLoad]; (repeat' split) <;> simp
@[simp] theorem bodyModelLoad_rest (pk : Pkt) (slot : Nat) (s : State) : Verdict.keeps s (bodyModelLoad pk slot s) := by
  simp [bodyModelLoad, checkLoad_rest]
@[simp] theorem execModelLoad_rest (pk : Pkt) (s : State) : Kept s (execModelLoad pk s) := by
  simp only [execModelLoad]; (repeat' split) <;> simp
@[simp] theorem State.stageWrites_rest (s : State) (o : Nat) (slot : Nat) (loadNo : Nat) (base : Nat) (ws : List Byte) : (State.stageWrites s o slot loadNo base ws).rest = s.rest := by
  simp [State.stageWrites]
@[simp] theorem State.putLoad_rest (s : State) (l : Load) (h : ImgHeader) (plain : List Byte) (i : Nat) (us : List Nat) :
    (s.putLoad l h plain i us).rest = s.rest := by
  unfold State.putLoad
  extract_lets o no body x s1
  have h1 : s1.rest = s.rest := State.clearUnits_rest ..
  clear_value s1 x
  exact rest_of_ite ((State.stageWrites_rest ..).trans h1) h1
@[simp] theorem State.placeLoad_rest (s : State) (l : Load) (h : ImgHeader) (plain : List Byte) : (State.placeLoad s l h plain).1.rest = s.rest := by
  simp only [State.placeLoad]; (repeat' split) <;> first | (simp; done) | (simp; rfl)
@[simp] theorem State.tryLoad_rest (s : State) (l : Load) (b : List Byte) : (State.tryLoad s l b).1.rest = s.rest := by
  unfold State.tryLoad
  extract_lets h
  split
  · rfl
  · refine fst_of_ite rfl ?_
    split
    · rfl
    · exact State.placeLoad_rest ..
theorem State.loadBytes_rest {s t : State} {l : Load} {b : Option (List Byte)} (h : s.loadBytes l = some (b, t)) : t.rest = s.rest := by
  unfold State.loadBytes at h
  split at h
  · cases h; simp
  · obtain ⟨g, -, hg⟩ := Option.map_eq_some_iff.1 h
    cases hg; rfl
@[simp] theorem State.runLoad_rest (s : State) (itin : Bool) : (State.runLoad s itin).rest = s.rest := by
  unfold State.runLoad
  refine rest_of_ite rfl ?_
  split
  · rfl
  · split
    · rfl
    · rename_i b t h
      have ht := State.loadBytes_rest h
      refine (State.complete_rest ..).trans ?_
      cases b with
      | none => exact ht
      | some b => exact (State.tryLoad_rest ..).trans ht
@[simp] theorem execItinLoadDone_rest (s : State) : Kept s (execItinLoadDone s) := by
  simp [execItinLoadDone]
@[simp] theorem execModelLoadDone_rest (s : State) : Kept s (execModelLoadDone s) := by
  simp [execModelLoadDone]
@[simp] theorem State.makeInstance_rest (s : State) (k : Nat) (readyTs : Nat) : (State.makeInstance s k readyTs).rest = s.rest := by
  simp only [State.makeInstance]; (repeat' split) <;> simp
@[simp] theorem State.frameOps_rest (s : State) : (State.frameOps s).rest = s.rest := by
  unfold State.frameOps; (repeat' (first | (dsimp only; done) | rfl | assumption | (simp; done) | (refine (foldl_rest _ (fun s a => ?_) _ _).trans ?_) | (refine (foldl_snd_rest _ (fun x a => ?_) _ _).trans ?_) | (refine (foldl_fst_rest _ (fun x a => ?_) _ _).trans ?_) | (refine kept_of_ite ?_ ?_) | (refine rest_of_ite ?_ ?_) | (refine fst_of_ite ?_ ?_) | (refine snd_of_ite ?_ ?_) | (split) | (dsimp only) | simp))
@[simp] theorem execPeriodOpReady_rest (idx : Fin 4) (s : State) : Kept s (execPeriodOpReady idx s) := by
  simp only [execPeriodOpReady]; (repeat' split) <;> simp
@[simp] theorem State.fillInputs_rest (s : State) (r : Running) : (State.fillInputs s r).2.rest = s.rest := by
  simp only [State.fillInputs]; (repeat' split) <;> simp
@[simp] theorem State.loadWearModel_rest (s : State) (x : OpInst) : (State.loadWearModel s x).2.rest = s.rest := by
  simp only [State.loadWearModel]; (repeat' split) <;> simp
@[simp] theorem execOpStart_rest (s : State) : Kept s (execOpStart s) := by
  simp only [execOpStart]; (repeat' split) <;> simp
@[simp] theorem execOpDeadlineExpiry_rest (o : Fin 17) (seq : W32) (s : State) : Kept s (execOpDeadlineExpiry o seq s) := by
  simp only [execOpDeadlineExpiry]; (repeat' split) <;> simp
@[simp] theorem execOpBudgetExceeded_rest (s : State) : Kept s (execOpBudgetExceeded s) := by
  simp only [execOpBudgetExceeded]; (repeat' split) <;> simp
@[simp] theorem execCoreResidueMismatch_rest (c : Fin 16) (s : State) : Kept s (execCoreResidueMismatch c s) := by
  simp only [execCoreResidueMismatch]; (repeat' split) <;> simp
@[simp] theorem execCoreWatchdog_rest (c : Fin 16) (s : State) : Kept s (execCoreWatchdog c s) := by
  simp only [execCoreWatchdog]; (repeat' split) <;> simp
@[simp] theorem execCoreSelfTest_rest (c : Fin 16) (pass : Bool) (s : State) : Kept s (execCoreSelfTest c pass s) := by
  simp [execCoreSelfTest]

/-! ## Machine/OpEnd.lean -/

theorem State.dramIn_rest {s : State} {r : Running} {j : Nat} {x : (List Byte × Bool) × State} (h : s.dramIn r j = some x) :
    x.2.rest = s.rest := by
  unfold State.dramIn at h
  split at h
  · obtain ⟨g, hg, hx⟩ := Option.map_eq_some_iff.1 h
    obtain ⟨a, b, t⟩ := g
    cases hx
    exact State.inputBytes_rest hg
  · cases h; rfl
@[simp] theorem State.stateBad_rest (s : State) (r : Running) : (State.stateBad s r).2.rest = s.rest := by
  simp [State.stateBad]
@[simp] theorem State.modelRead_rest (s : State) (r : Running) : (State.modelRead s r).2.rest = s.rest := by
  simp only [State.modelRead]; (repeat' split) <;> first | (simp; done) | (simp; rfl)
@[simp] theorem State.updateState_rest (s : State) (r : Running) : (State.updateState s r).rest = s.rest := by
  simp [State.updateState]
@[simp] theorem State.opDone_rest (s : State) (r : Running) (w2 : Nat) (w3 : Nat) : (State.opDone s r w2 w3).rest = s.rest := by
  simp only [State.opDone]; (repeat' split) <;> simp
@[simp] theorem State.libDone_rest (s : State) (r : Running) (d0 : List Byte × Bool) (d1 : List Byte × Bool) (pages : Bool × Bool × List Byte) : (State.libDone s r d0 d1 pages).rest = s.rest := by
  simp [State.libDone]
@[simp] theorem execOpComplete_rest (s : State) : Kept s (execOpComplete s) := by
  refine (kept_next ..).2 ?_
  split
  · rfl
  · split
    · simp
    · refine rest_of_ite (rest_of_ite (State.opDone_rest ..) rfl) (rest_of_ite rfl ?_)
      split
      · rename_i h0 h1
        split
        · rename_i h2
          exact (State.libDone_rest ..).trans ((State.dramIn_rest h2).trans (State.dramIn_rest h0))
        · rfl
      · rfl

/-! ## Machine/Survey.lean -/

@[simp] theorem State.noteRead_rest (s : State) (a : Nat) (good : Bool) : (State.noteRead s a good).rest = s.rest := by
  simp [State.noteRead]
@[simp] theorem State.zoneReading_rest (s : State) (z : Nat) (t : Int) : (State.zoneReading s z t).rest = s.rest := by
  simp [State.zoneReading]
@[simp] theorem State.wakeEarly_rest (s : State) : (State.wakeEarly s).rest = s.rest := by
  simp [State.wakeEarly]
@[simp] theorem State.snsDone_rest (s : State) (a : Nat) : (State.snsDone s a).rest = s.rest := by
  simp [State.snsDone]
@[simp] theorem execSensorScan_rest (readings : List SensorReply) (s : State) : Kept s (execSensorScan readings s) := by
  unfold execSensorScan; (repeat' (first | (dsimp only; done) | rfl | assumption | (simp; done) | (refine (foldl_rest _ (fun s a => ?_) _ _).trans ?_) | (refine (foldl_snd_rest _ (fun x a => ?_) _ _).trans ?_) | (refine (foldl_fst_rest _ (fun x a => ?_) _ _).trans ?_) | (refine kept_of_ite ?_ ?_) | (refine rest_of_ite ?_ ?_) | (refine fst_of_ite ?_ ?_) | (refine snd_of_ite ?_ ?_) | (split) | (dsimp only) | simp))
@[simp] theorem execRmonSample_rest (ch : Fin 8) (power : BitVec 16) (current : BitVec 16) (s : State) : Kept s (execRmonSample ch power current s) := by
  simp [execRmonSample]
theorem State.surveySubmit_rest {s t : State} {op deadline kind : Nat} (h : s.surveySubmit op deadline kind = some t) : t.rest = s.rest := by
  unfold State.surveySubmit at h
  split at h
  · cases h
  · cases h; simp
@[simp] theorem State.surveyStart_rest (s : State) (op : Nat) (deadline : Nat) (kind : Nat) : (State.surveyStart s op deadline kind).rest = s.rest := by
  unfold State.surveyStart
  split
  · rename_i h; exact State.surveySubmit_rest h
  · simp
@[simp] theorem State.monitorReading_rest (s : State) (rs : List SensorReply) (m : Nat) : (State.monitorReading s rs m).rest = s.rest := by
  simp only [State.monitorReading]; (repeat' split) <;> simp
@[simp] theorem State.readMonitors_rest (s : State) (rs : List SensorReply) (n : Nat) : (State.readMonitors s rs n).rest = s.rest := by
  simp [State.readMonitors]
@[simp] theorem State.verifyTotals_rest (s : State) (pages : List (Bool × Nat)) : (State.verifyTotals s pages).rest = s.rest := by
  simp [State.verifyTotals]
@[simp] theorem State.putUnit_rest (s : State) (c : Nat) (u : Nat) (bs : List Byte) : (State.putUnit s c u bs).rest = s.rest := by
  simp [State.putUnit]
@[simp] theorem State.moveShadow_rest (s : State) (a : Accum) : (State.moveShadow s a).rest = s.rest := by
  simp [State.moveShadow]
@[simp] theorem execSurveyTick_rest (reads : TickReads) (s : State) : Kept s (execSurveyTick reads s) := by
  simp [execSurveyTick]
@[simp] theorem execJournalEntry_rest (s : State) : Kept s (execJournalEntry s) := by
  refine (kept_next ..).2 (rest_of_ite rfl ?_)
  extract_lets v0 s1 s2
  refine (State.surveyStart_rest ..).trans ?_
  have h1 : s1.rest = s.rest := rfl
  simp only [s2]
  clear_value s1
  cases h : s1.surveySubmit 0x12 0 6 with
  | none => exact h1
  | some t => exact (State.surveySubmit_rest h).trans h1
@[simp] theorem execJournalCheckpoint_rest (s : State) : Kept s (execJournalCheckpoint s) := by
  simp [execJournalCheckpoint]
@[simp] theorem execCoolantSeriesStale_rest (s : State) : Kept s (execCoolantSeriesStale s) := by
  simp [execCoolantSeriesStale]
@[simp] theorem bodyCoolantReport_rest (pk : Pkt) (u1 : Nat) (s : State) : Verdict.keeps s (bodyCoolantReport pk u1 s) := by
  simp [bodyCoolantReport]
@[simp] theorem execCoolantReport_rest (pk : Pkt) (s : State) : Kept s (execCoolantReport pk s) := by
  simp [execCoolantReport]
@[simp] theorem bodySurveySet_rest (pk : Pkt) (u1 : Nat) (s : State) : Verdict.keeps s (bodySurveySet pk u1 s) := by
  simp [bodySurveySet]
@[simp] theorem execSurveySet_rest (pk : Pkt) (s : State) : Kept s (execSurveySet pk s) := by
  simp [execSurveySet]
@[simp] theorem bodySurveyPredict_rest (pk : Pkt) (slot : Nat) (s : State) : Verdict.keeps s (bodySurveyPredict pk slot s) := by
  unfold bodySurveyPredict
  rw [keeps_chk]
  refine .inr ?_
  split
  · trivial
  · rename_i h; exact (State.addJob_rest ..).trans (State.surveySubmit_rest h)
@[simp] theorem execSurveyPredict_rest (pk : Pkt) (s : State) : Kept s (execSurveyPredict pk s) := by
  simp [execSurveyPredict]
@[simp] theorem execSurveyPredictDone_rest (s : State) : Kept s (execSurveyPredictDone s) := by
  simp only [execSurveyPredictDone]; (repeat' split) <;> simp
@[simp] theorem bodySurveyCheckpoint_rest (pk : Pkt) (slot : Nat) (s : State) : Verdict.keeps s (bodySurveyCheckpoint pk slot s) := by
  simp [bodySurveyCheckpoint]
@[simp] theorem execSurveyCheckpoint_rest (pk : Pkt) (s : State) : Kept s (execSurveyCheckpoint pk s) := by
  simp [execSurveyCheckpoint]
@[simp] theorem execSurveyCheckpointDone_rest (s : State) : Kept s (execSurveyCheckpointDone s) := by
  simp only [execSurveyCheckpointDone]; (repeat' split) <;> simp
@[simp] theorem bodySurveyRecal_rest (pk : Pkt) (slot : Nat) (s : State) : Verdict.keeps s (bodySurveyRecal pk slot s) := by
  simp [bodySurveyRecal]
@[simp] theorem execSurveyRecal_rest (pk : Pkt) (s : State) : Kept s (execSurveyRecal pk s) := by
  simp [execSurveyRecal]
@[simp] theorem State.recalThermal_rest (s : State) (rs : List SensorReply) (tin : Int) (z : Nat) : (State.recalThermal s rs tin z).rest = s.rest := by
  simp [State.recalThermal]
@[simp] theorem State.recalMonitor_rest (s : State) (rs : List SensorReply) (m : Nat) : (State.recalMonitor s rs m).rest = s.rest := by
  simp only [State.recalMonitor]; (repeat' split) <;> simp
@[simp] theorem execSurveyRecalDone_rest (readings : List SensorReply) (s : State) : Kept s (execSurveyRecalDone readings s) := by
  simp only [execSurveyRecalDone]; (repeat' split) <;> simp
@[simp] theorem bodySurveyRead_rest (pk : Pkt) (u1 : Nat) (s : State) : Verdict.keeps s (bodySurveyRead pk u1 s) := by
  simp [bodySurveyRead]
@[simp] theorem execSurveyRead_rest (pk : Pkt) (s : State) : Kept s (execSurveyRead pk s) := by
  simp [execSurveyRead]

end Sys2Proof.Machine
end

