-- ==== Sys2Proof/Laws/KeepBlock.lean ====
section
/-! SUPPORT. What the operations of these files leave alone (Laws/Keep): turnover, patrol, updates, frames, sleep and the register window. -/

namespace Sys2Proof.Machine

/-! ## Machine/Turnover.lean -/

@[simp] theorem State.captureEnd_rest (s : State) (c : Nat) : (State.captureEnd s c).rest = s.rest := by
  simp [State.captureEnd]
@[simp] theorem State.chEnd_rest (s : State) (c : Nat) : (State.chEnd s c).rest = s.rest := by
  simp only [State.chEnd]; (repeat' split) <;> simp
@[simp] theorem State.exportEnd_rest (s : State) (c : Nat) : (State.exportEnd s c).rest = s.rest := by
  simp [State.exportEnd]
@[simp] theorem State.scrub_rest (s : State) (c : Nat) : (State.scrub s c).rest = s.rest := by
  simp [State.scrub]
@[simp] theorem State.unitsBack_rest (s : State) (c : Nat) : (State.unitsBack s c).rest = s.rest := by
  simp [State.unitsBack]

/-! ## Machine/Patrol.lean -/

@[simp] theorem State.mapAdd_rest (s : State) (m : MapEntry) : (State.mapAdd s m).rest = s.rest := by
  simp [State.mapAdd]
@[simp] theorem State.moveHead_rest (s : State) (u : Nat) (b : Nat) : (State.moveHead s u b).rest = s.rest := by
  simp only [State.moveHead]; (repeat' split) <;> simp
@[simp] theorem State.basinBankFails_rest (s : State) (b : Nat) : (State.basinBankFails s b).rest = s.rest := by
  simp [State.basinBankFails]
@[simp] theorem State.cutModel_rest (a : State × Nat) (o : Nat) : (State.cutModel a o).1.rest = a.1.rest := rfl
@[simp] theorem State.shrinkModels_rest (s : State) : s.shrinkModels.rest = s.rest :=
  foldl_fst_rest _ (fun a o => State.cutModel_rest a o) _ _
@[simp] theorem State.modelBankFails_rest (s : State) (b : Nat) : (State.modelBankFails s b).rest = s.rest := by
  simp [State.modelBankFails]
@[simp] theorem State.ledgerFit_rest (s : State) : (State.ledgerFit s).rest = s.rest := by
  simp [State.ledgerFit]
@[simp] theorem State.failBank_rest (s : State) (b : Nat) (copy : Bool) : (State.failBank s b copy).rest = s.rest := by
  simp [State.failBank]
@[simp] theorem State.spareStart_rest (s : State) (b : Nat) (copy : Bool) : (State.spareStart s b copy).rest = s.rest := by
  simp only [State.spareStart]; (repeat' split) <;> simp
@[simp] theorem State.suspect_rest (s : State) (b : Nat) (copy : Bool) (w : Nat) : (State.suspect s b copy w).rest = s.rest := by
  simp [State.suspect]
@[simp] theorem State.ueReaction_rest (s : State) (b : Nat) (w : Nat) : (State.ueReaction s b w).rest = s.rest := by
  simp [State.ueReaction]
@[simp] theorem State.sideVote_rest (s : State) (b : Nat) (copy : Bool) (obs : ReadObs) : (State.sideVote s b copy obs).rest = s.rest := by
  simp only [State.sideVote]; (repeat' split) <;> first | (simp; done) | (simp; rfl)
@[simp] theorem State.writeBack_rest (s : State) (b : Nat) (copy : Bool) (w : Nat) : (State.writeBack s b copy w).rest = s.rest := by
  simp only [State.writeBack]; (repeat' split) <;> simp
@[simp] theorem State.visit_rest (s : State) (b : Nat) (copy : Bool) (w : Nat) (obs : ReadObs) : (State.visit s b copy w obs).rest = s.rest := by
  simp only [State.visit]; (repeat' split) <;> simp
@[simp] theorem execPatrolVisit_rest (bank : Fin 34) (copy : Bool) (obs : ReadObs) (s : State) : Kept s (execPatrolVisit bank copy obs s) := by
  simp [execPatrolVisit]
@[simp] theorem execCheckerSelfTest_rest (bank : Fin 34) (copy : Bool) (pass : Bool) (s : State) : Kept s (execCheckerSelfTest bank copy pass s) := by
  simp [execCheckerSelfTest]
@[simp] theorem State.moveRow_rest (s : State) (b : Nat) (copy : Bool) (row : Nat) : (State.moveRow s b copy row).rest = s.rest := by
  unfold State.moveRow; (repeat' (first | (dsimp only; done) | rfl | assumption | (simp; done) | (refine (foldl_rest _ (fun s a => ?_) _ _).trans ?_) | (refine (foldl_snd_rest _ (fun x a => ?_) _ _).trans ?_) | (refine (foldl_fst_rest _ (fun x a => ?_) _ _).trans ?_) | (refine kept_of_ite ?_ ?_) | (refine rest_of_ite ?_ ?_) | (refine fst_of_ite ?_ ?_) | (refine snd_of_ite ?_ ?_) | (split) | (dsimp only) | simp))
@[simp] theorem execRowMigrationDone_rest (bank : Fin 34) (copy : Bool) (s : State) : Kept s (execRowMigrationDone bank copy s) := by
  simp only [execRowMigrationDone]; (repeat' split) <;> simp
@[simp] theorem execSuspectExpiry_rest (bank : Fin 34) (copy : Bool) (s : State) : Kept s (execSuspectExpiry bank copy s) := by
  simp [execSuspectExpiry]
@[simp] theorem execEccBucketLeak_rest (s : State) : Kept s (execEccBucketLeak s) := by
  simp [execEccBucketLeak]
@[simp] theorem execMergeRmwTimeout_rest (m : MergeOut) (s : State) : Kept s (execMergeRmwTimeout m s) := by
  simp only [execMergeRmwTimeout]; (repeat' split) <;> simp

/-! ## Machine/Update.lean -/

@[simp] theorem bodyUpdateBegin_rest (pk : Pkt) (u1 : Nat) (s : State) : Verdict.keeps s (bodyUpdateBegin pk u1 s) := by
  simp [bodyUpdateBegin]
@[simp] theorem execUpdateBegin_rest (pk : Pkt) (s : State) : Kept s (execUpdateBegin pk s) := by
  simp [execUpdateBegin]
@[simp] theorem bodyUpdateData_rest (pk : Pkt) (u1 : Nat) (s : State) : Verdict.keeps s (bodyUpdateData pk u1 s) := by
  simp only [bodyUpdateData]; (repeat' split) <;> simp
@[simp] theorem execUpdateData_rest (pk : Pkt) (s : State) : Kept s (execUpdateData pk s) := by
  simp [execUpdateData]
@[simp] theorem execScratchProgram_rest (s : State) : Kept s (execScratchProgram s) := by
  simp only [execScratchProgram]; (repeat' split) <;> simp
@[simp] theorem bodyUpdateCommit_rest (pk : Pkt) (slot : Nat) (s : State) : Verdict.keeps s (bodyUpdateCommit pk slot s) := by
  simp only [bodyUpdateCommit]; (repeat' split) <;> simp
@[simp] theorem execUpdateCommit_rest (pk : Pkt) (s : State) : Kept s (execUpdateCommit pk s) := by
  simp [execUpdateCommit]
@[simp] theorem State.takeCalibration_rest (s : State) : (State.takeCalibration s).rest = s.rest := by
  simp [State.takeCalibration]
@[simp] theorem State.commitItem_rest (s : State) (j : Job) (u : Update) : (State.commitItem s j u).rest = s.rest := by
  simp only [State.commitItem]; (repeat' split) <;> simp
@[simp] theorem execUpdateCommitDone_rest (s : State) : Kept s (execUpdateCommitDone s) := by
  simp only [execUpdateCommitDone]; (repeat' split) <;> simp
@[simp] theorem bodyUpdateAbort_rest (u0 : Pkt) (u1 : Nat) (s : State) : Verdict.keeps s (bodyUpdateAbort u0 u1 s) := by
  simp [bodyUpdateAbort]
@[simp] theorem execUpdateAbort_rest (pk : Pkt) (s : State) : Kept s (execUpdateAbort pk s) := by
  simp [execUpdateAbort]
@[simp] theorem bodyLogbookRead_rest (pk : Pkt) (u1 : Nat) (s : State) : Verdict.keeps s (bodyLogbookRead pk u1 s) := by
  simp only [bodyLogbookRead]; (repeat' split) <;> simp
@[simp] theorem execLogbookRead_rest (pk : Pkt) (s : State) : Kept s (execLogbookRead pk s) := by
  simp [execLogbookRead]
@[simp] theorem bodySpareFuse_rest (pk : Pkt) (slot : Nat) (s : State) : Verdict.keeps s (bodySpareFuse pk slot s) := by
  simp [bodySpareFuse]
@[simp] theorem execSpareFuse_rest (pk : Pkt) (s : State) : Kept s (execSpareFuse pk s) := by
  simp [execSpareFuse]
@[simp] theorem bodyCoreRetest_rest (pk : Pkt) (slot : Nat) (s : State) : Verdict.keeps s (bodyCoreRetest pk slot s) := by
  simp [bodyCoreRetest]
@[simp] theorem execCoreRetest_rest (pk : Pkt) (s : State) : Kept s (execCoreRetest pk s) := by
  simp [execCoreRetest]
@[simp] theorem execCoreRetestDone_rest (pass : Bool) (s : State) : Kept s (execCoreRetestDone pass s) := by
  simp only [execCoreRetestDone]; (repeat' split) <;> simp

/-! ## Machine/Run.lean -/

@[simp] theorem State.answerHeld_rest (s : State) (h : Held) (st : Status) (ws : List Nat) : (State.answerHeld s h st ws).rest = s.rest := by
  simp [State.answerHeld]

/-! ## Machine/Boot.lean -/

@[simp] theorem State.testBank_rest (s : State) (rows : List RowFault) (b : Nat) (copy : Bool) : (State.testBank s rows b copy).rest = s.rest := by
  simp [State.testBank]
@[simp] theorem State.memoryTest_rest (s : State) (rows : List RowFault) : (State.memoryTest s rows).rest = s.rest := by
  simp [State.memoryTest]
@[simp] theorem State.warmTurnover_rest (s : State) : (State.warmTurnover s).rest = s.rest := by
  simp only [State.warmTurnover]; (repeat' split) <;> simp
@[simp] theorem execWrstNRelease_rest (s : State) : Kept s (execWrstNRelease s) := by
  simp [execWrstNRelease]
@[simp] theorem State.readMap_rest (s : State) : (State.readMap s).rest = s.rest := by
  simp [State.readMap]
@[simp] theorem State.fence_rest (s : State) (m : MapEntry) : (State.fence s m).rest = s.rest := by
  simp [State.fence]
@[simp] theorem State.applyMap_rest (s : State) : (State.applyMap s).rest = s.rest := by
  simp [State.applyMap]
@[simp] theorem State.linkDefaults_rest (s : State) : (State.linkDefaults s).rest = s.rest := by
  unfold State.linkDefaults
  extract_lets many s1
  have h1 : s1.rest = s.rest := foldl_rest _ (fun s j => rest_of_ite (State.modPeer_rest ..) rfl) _ _
  refine (foldl_rest _ (fun s k => ?_) _ _).trans h1
  split
  · rfl
  · exact State.modLane_rest ..
@[simp] theorem State.trialFailed_rest (s : State) : (State.trialFailed s).rest = s.rest := by
  simp only [State.trialFailed]; (repeat' split) <;> simp
@[simp] theorem State.trialBegins_rest (s : State) : (State.trialBegins s).rest = s.rest := by
  simp only [State.trialBegins]; (repeat' split) <;> simp
@[simp] theorem execFirmwareTrialExpiry_rest (s : State) : Kept s (execFirmwareTrialExpiry s) := by
  simp only [execFirmwareTrialExpiry]; (repeat' split) <;> simp

/-! ## Machine/Context.lean -/

@[simp] theorem State.seal_rest (s : State) : (State.seal s).rest = s.rest := by
  simp [State.seal]
@[simp] theorem State.loseD22_rest (s : State) : (State.loseD22 s).rest = s.rest := by
  simp [State.loseD22]
@[simp] theorem State.loseD23_rest (s : State) : (State.loseD23 s).rest = s.rest := by
  simp [State.loseD23]
@[simp] theorem State.layUp_rest (s : State) : (State.layUp s).rest = s.rest := by
  simp [State.layUp]
@[simp] theorem State.afterLaidUp_rest (s : State) : (State.afterLaidUp s).rest = s.rest := by
  simp [State.afterLaidUp]

/-! ## Machine/Mgr.lean -/

@[simp] theorem execMgrReadLine_rest (tag : Fin 64) (data : BitVec 512) (last : Bool) (st : BitVec 2) (psn : Bool) (s : State) : Kept s (execMgrReadLine tag data last st psn s) := by
  simp only [execMgrReadLine]; (repeat' split) <;> simp

/-! ## Machine/Frame.lean -/

@[simp] theorem State.ignoredEdge_rest (s : State) : (State.ignoredEdge s).rest = s.rest := by
  simp [State.ignoredEdge]
@[simp] theorem State.usedEdge_rest (s : State) : (State.usedEdge s).rest = s.rest := by
  simp [State.usedEdge]
@[simp] theorem execFrameSync_rest (s : State) : Kept s (execFrameSync s) := by
  simp only [execFrameSync]; (repeat' split) <;> simp
@[simp] theorem State.schedStart_rest (s : State) (back : Nat) (next : Nat) : (State.schedStart s back next).rest = s.rest := by
  simp [State.schedStart]
@[simp] theorem State.schedStep_rest (s : State) (i : Nat) (back : Nat) (next : Nat) : (State.schedStep s i back next).rest = s.rest := by
  simp [State.schedStep]
@[simp] theorem execFrameScheduleTick_rest (s : State) : Kept s (execFrameScheduleTick s) := by
  simp only [execFrameScheduleTick]; (repeat' split) <;> simp
@[simp] theorem State.planAction_rest (s : State) (x : PlanStep) : (State.planAction s x).rest = s.rest := by
  simp only [State.planAction]; (repeat' split) <;> simp
@[simp] theorem execFramePlanStep_rest (s : State) : Kept s (execFramePlanStep s) := by
  simp only [execFramePlanStep]; (repeat' split) <;> simp
@[simp] theorem execFrameMissed_rest (s : State) : Kept s (execFrameMissed s) := by
  simp only [execFrameMissed]; (repeat' split) <;> simp

/-! ## Machine/Sleep.lean -/

@[simp] theorem State.hushSleep_rest (s : State) : (State.hushSleep s).rest = s.rest := by
  simp [State.hushSleep]
@[simp] theorem execWakeTimer_rest (s : State) : Kept s (execWakeTimer s) := by
  simp only [execWakeTimer]; (repeat' split) <;> simp
@[simp] theorem execWakeEvent_rest (kind : WakeKind) (s : State) : Kept s (execWakeEvent kind s) := by
  simp [execWakeEvent]
@[simp] theorem State.lateHoldover_rest (s : State) : (State.lateHoldover s).rest = s.rest := by
  simp [State.lateHoldover]
@[simp] theorem State.checkLate_rest (s : State) : (State.checkLate s).rest = s.rest := by
  simp [State.checkLate]

/-! ## Machine/Window.lean -/

@[simp] theorem State.access_rest (s : State) (f : State → State) (h : ∀ s, (f s).rest = s.rest) : (s.access f).rest = s.rest :=
  rest_of_ite rfl ((h _).trans (State.wake_rest ..))
@[simp] theorem State.regWrite_rest (s : State) (o : Nat) (off : Nat) (w : W32) : (State.regWrite s o off w).rest = s.rest := by
  simp [State.regWrite]
@[simp] theorem State.latchCvt_rest (s : State) (o : Nat) (phase : BitVec 2) : (State.latchCvt s o phase).rest = s.rest := by
  simp [State.latchCvt]
@[simp] theorem execCvtLatch_rest (o : Fin 17) (size64 : Bool) (phase : BitVec 2) (s : State) : Kept s (execCvtLatch o size64 phase s) := by
  unfold execCvtLatch; (repeat' (first | (dsimp only; done) | rfl | assumption | (simp; done) | (refine (foldl_rest _ (fun s a => ?_) _ _).trans ?_) | (refine (foldl_snd_rest _ (fun x a => ?_) _ _).trans ?_) | (refine (foldl_fst_rest _ (fun x a => ?_) _ _).trans ?_) | (refine kept_of_ite ?_ ?_) | (refine rest_of_ite ?_ ?_) | (refine fst_of_ite ?_ ?_) | (refine snd_of_ite ?_ ?_) | (split) | (dsimp only) | simp))
@[simp] theorem execSnapTrigger_rest (o : Fin 17) (data : W32) (s : State) : Kept s (execSnapTrigger o data s) := by
  simp [execSnapTrigger]
@[simp] theorem execAptClearDiscard_rest (o : Fin 17) (s : State) : Kept s (execAptClearDiscard o s) := by
  simp [execAptClearDiscard]
@[simp] theorem execAptClearKeyCounters_rest (o : Fin 17) (s : State) : Kept s (execAptClearKeyCounters o s) := by
  unfold execAptClearKeyCounters; (repeat' (first | (dsimp only; done) | rfl | assumption | (simp; done) | (refine (foldl_rest _ (fun s a => ?_) _ _).trans ?_) | (refine (foldl_snd_rest _ (fun x a => ?_) _ _).trans ?_) | (refine (foldl_fst_rest _ (fun x a => ?_) _ _).trans ?_) | (refine kept_of_ite ?_ ?_) | (refine rest_of_ite ?_ ?_) | (refine fst_of_ite ?_ ?_) | (refine snd_of_ite ?_ ?_) | (split) | (dsimp only) | simp))
@[simp] theorem State.marker_rest (s : State) (o : Nat) (ty : Nat) (point : Bool) (data : W64) : (State.marker s o ty point data).rest = s.rest := by
  simp [State.marker]
@[simp] theorem execMarkBegin_rest (o : Fin 17) (data : W64) (s : State) : Kept s (execMarkBegin o data s) := by
  simp [execMarkBegin]
@[simp] theorem execMarkEnd_rest (o : Fin 17) (data : W64) (s : State) : Kept s (execMarkEnd o data s) := by
  simp [execMarkEnd]
@[simp] theorem execMarkPoint_rest (o : Fin 17) (data : W64) (s : State) : Kept s (execMarkPoint o data s) := by
  simp [execMarkPoint]
@[simp] theorem State.cbt_rest (s : State) (f : Nat → Bool → Nat → State → State) (h : ∀ a b c s, (f a b c s).rest = s.rest) : (s.cbt f).rest = s.rest := by
  unfold State.cbt
  extract_lets c bad e s1
  have h1 : s1.rest = s.rest := rfl
  clear_value s1
  exact rest_of_ite h1 ((h ..).trans (rest_of_ite h1 ((State.settle_rest ..).trans h1)))
@[simp] theorem State.touch_rest (s : State) (b : Nat) (copy : Bool) : (State.touch s b copy).rest = s.rest := by
  simp [State.touch]
@[simp] theorem State.rawWord_rest (s : State) (b : Nat) (copy : Bool) (w : Nat) : (State.rawWord s b copy w).2.rest = s.rest := by
  simp only [State.rawWord]; (repeat' split) <;> simp
@[simp] theorem execCbtWrite_rest (s : State) : Kept s (execCbtWrite s) := by
  simp [execCbtWrite]
@[simp] theorem execCbtRead_rest (s : State) : Kept s (execCbtRead s) := by
  simp [execCbtRead]
@[simp] theorem execCbtSetPoison_rest (s : State) : Kept s (execCbtSetPoison s) := by
  simp [execCbtSetPoison]
@[simp] theorem execCbtClrPoison_rest (s : State) : Kept s (execCbtClrPoison s) := by
  unfold execCbtClrPoison; (repeat' (first | (dsimp only; done) | rfl | assumption | (simp; done) | (refine (foldl_rest _ (fun s a => ?_) _ _).trans ?_) | (refine (foldl_snd_rest _ (fun x a => ?_) _ _).trans ?_) | (refine (foldl_fst_rest _ (fun x a => ?_) _ _).trans ?_) | (refine kept_of_ite ?_ ?_) | (refine rest_of_ite ?_ ?_) | (refine fst_of_ite ?_ ?_) | (refine snd_of_ite ?_ ?_) | (split) | (dsimp only) | simp))

end Sys2Proof.Machine
end

