-- ==== Sys2Proof/Laws/Fixed.lean ====
section
/-! SUPPORT. What no packet changes: the queue, the integration values, whether the mode is BOOT, the start-up phase, READY, the
power state and Convoy Time; and what every command leaves alone but resets, start-up, sleep, steps of CVT and fuse words. -/

namespace Sys2Proof.Machine

/-- The parts of the state that no packet changes; of the mode, whether it is BOOT. -/
structure Fix where
  pending : List Instr
  ident : Ident
  booting : Bool
  phase : BootPhase
  ready : Bool
  power : Power
  entering : Option Power
  cvt : Nat
  powered : Nat

def Rest.fix (r : Rest) : Fix :=
  ⟨r.pending, r.ident, decide (r.mode = .boot), r.phase, r.ready, r.power, r.entering, r.cvt, r.powered⟩

def State.fix (s : State) : Fix := s.rest.fix

theorem fix_of_rest {s t : State} (h : t.rest = s.rest) : t.fix = s.fix := congrArg Rest.fix h

theorem fix_of_ite {x : Fix} {c : Prop} [Decidable c] {a b : State} (ha : a.fix = x) (hb : b.fix = x) :
    (if c then a else b).fix = x := by split <;> assumption

theorem foldl_fix {α : Type} (f : State → α → State) (h : ∀ s a, (f s a).fix = s.fix) (l : List α) (s : State) :
    (l.foldl f s).fix = s.fix := by
  induction l generalizing s with
  | nil => rfl
  | cons a l ih => rw [List.foldl_cons, ih, h]

/-- What a packet's body leaves alone, whichever the packet. -/
def Verdict.fixed (s : State) : Verdict → Prop
  | .reject _ _ _ => True
  | .done _ _ t => t.fix = s.fix
  | .accept _ t => t.fix = s.fix

theorem fixed_of_keeps {s : State} {v : Verdict} (h : Verdict.keeps s v) : Verdict.fixed s v := by
  cases v with
  | reject => trivial
  | done st ws t => exact fix_of_rest h
  | accept ws t => exact fix_of_rest h

theorem fixed_chk {s bad st i k} (h : Verdict.fixed s k) : Verdict.fixed s (chk bad st i k) := by
  cases bad
  · exact h
  · trivial

theorem finish_fix (sp : OpSpec) (pk : Pkt) (slot : Nat) (un : Bool) (s : State) (v : Verdict) (h : v.fixed s) :
    (finish sp pk slot un s v).fix = s.fix := by
  cases v with
  | reject => exact fix_of_rest (State.reply_rest ..)
  | done st ws t =>
    refine (fix_of_rest ?_).trans h
    exact rest_of_ite ((State.answer_rest ..).trans ((State.reply_rest ..).trans (State.modApt_rest ..))) (State.answer_rest ..)
  | accept ws t => exact (fix_of_rest ((State.reply_rest ..).trans (State.modApt_rest ..))).trans h

theorem runPacket_fix (sp : OpSpec) (body : Pkt → Nat → State → Verdict) (pk : Pkt) (s : State)
    (h : ∀ slot, (body pk slot s).fixed s) : (runPacket sp body pk s).fix = s.fix := by
  unfold runPacket
  cases preCheck sp pk s with
  | some st => exact fix_of_rest (State.reply_rest ..)
  | none =>
    dsimp only
    generalize (if sp.needsSlot pk s then (s.apt pk.o).freeSlot.getD 0 else 0) = slot
    have hv := h slot
    generalize body pk slot s = v at hv ⊢
    have hf : ∀ un, (finish sp pk slot un s v).fix = s.fix := fun un => finish_fix _ _ _ _ _ _ hv
    have hheld : ∀ h : Held, (if slot = 0 then { s with esl := { s.esl with held := s.esl.held ++ [h] } }
        else (({ s with esl := { s.esl with held := s.esl.held ++ [h] } }).modApt pk.o
          (fun a => a.setSlot slot { a.slot slot with pending := true })).reply sp.op pk .accepted [slot]).fix = s.fix :=
      fun h => fix_of_ite rfl (fix_of_rest ((State.reply_rest ..).trans (State.modApt_rest ..)))
    cases v with
    | reject => exact fix_of_rest (State.reply_rest ..)
    | done st ws t =>
      dsimp only
      split
      · exact hf _
      · exact fix_of_ite (fix_of_rest (State.reply_rest ..)) (fix_of_ite (fix_of_rest (State.reply_rest ..)) (fix_of_ite (hf _) (hheld _)))
    | accept ws t =>
      dsimp only
      split
      · exact hf _
      · exact fix_of_ite (fix_of_rest (State.reply_rest ..)) (fix_of_ite (fix_of_rest (State.reply_rest ..)) (fix_of_ite (hf _) (hheld _)))

theorem launch_fix (sp : OpSpec) (body : Pkt → Nat → State → Verdict) (pk : Pkt) (s : State)
    (h : ∀ slot s, (body pk slot s).fixed s) : (launch sp body pk s).fix = s.fix := by
  unfold launch
  extract_lets s1 a sl s2
  have h1 : s1.fix = s.fix := fix_of_rest (State.hostAccess_rest ..)
  have h2 : s2.fix = s.fix := (fix_of_rest (State.setApt_rest ..)).trans h1
  exact fix_of_ite rfl (fix_of_ite ((fix_of_rest (State.discard_rest ..)).trans h1)
    (fix_of_ite h2 ((runPacket_fix _ _ _ _ (fun slot => h slot _)).trans h2)))

/-! ## The packets that change the mode, a charter or a key -/

theorem bodyModeSet_fix (pk : Pkt) (slot : Nat) (s : State) : (bodyModeSet pk slot s).fixed s := by
  have key : ∀ (t : State) (m : Mode), s.dev.mode ≠ .boot → m ≠ .boot →
      t.rest = { s.rest with mode := m } → t.fix = s.fix := by
    intro t m h1 h2 h
    have e1 : decide (m = .boot) = false := decide_eq_false h2
    have e2 : decide (s.rest.mode = .boot) = false := decide_eq_false h1
    simp only [State.fix, h, Rest.fix, e1, e2]
  unfold bodyModeSet
  extract_lets m any
  split
  · rename_i hm
    split
    · exact key _ .service (by simp [hm]) (by simp) (by rw [State.freshIntervals_rest]; rfl)
    · split
      · split
        · trivial
        · exact key _ .test (by simp [hm]) (by simp) rfl
      · trivial
  · rename_i hm
    split
    · exact key _ .startup (by simp [hm]) (by simp) rfl
    · split
      · split
        · trivial
        · exact key _ .test (by simp [hm]) (by simp) rfl
      · trivial
  · rename_i hm
    split
    · exact key _ .startup (by simp [hm]) (by simp) (by rw [State.leaveTest_rest]; rfl)
    · trivial
  · trivial

theorem bodyCharterBegin_fix (pk : Pkt) (slot : Nat) (s : State) : (bodyCharterBegin pk slot s).fixed s :=
  fixed_chk rfl

theorem State.newGen_fix (s : State) (o : Nat) : (s.newGen o).fix = s.fix := by
  unfold State.newGen
  extract_lets s1 s2 c s3
  have h1 : s1.fix = s.fix := fix_of_rest (State.closeLighter_rest ..)
  have h2 : s2.fix = s.fix := (fix_of_rest (State.dropKey_rest ..)).trans h1
  have h3 : s3.fix = s.fix := h2
  exact (fix_of_rest (State.restartSeqs_rest ..)).trans h3

theorem bodyKeyInstall_fix (pk : Pkt) (slot : Nat) (s : State) : (bodyKeyInstall pk slot s).fixed s := by
  unfold bodyKeyInstall
  extract_lets kind link o
  refine fixed_chk (fixed_chk ?_)
  split
  · trivial
  · split
    · trivial
    · refine fixed_chk (fixed_chk ?_)
      split
      · trivial
      · rename_i i _
        clear_value kind
        show (match kind with
          | 0 => (s.newGen o).setKeySlot i _
          | 1 => (s.dropKey (s.modelKey o)).setKeySlot i _
          | _ => s.placeLink i link _).fix = s.fix
        split
        · exact (fix_of_rest (State.setKeySlot_rest ..)).trans (State.newGen_fix ..)
        · exact fix_of_rest ((State.setKeySlot_rest ..).trans (State.dropKey_rest ..))
        · exact fix_of_rest (State.placeLink_rest ..)

theorem State.beginTurnover_fix (s : State) (t : Turnover) : (s.beginTurnover t).fix = s.fix := by
  unfold State.beginTurnover
  extract_lets c ch s1 s2 s3 s4
  have h1 : s1.fix = s.fix := rfl
  have h2 : s2.fix = s.fix := (fix_of_rest ((State.exportEnd_rest ..).trans ((State.chEnd_rest ..).trans
    ((State.assayEnd_rest ..).trans (State.captureEnd_rest ..))))).trans h1
  have h3 : s3.fix = s.fix := (State.newGen_fix ..).trans h2
  have h4 : s4.fix = s.fix := (fix_of_rest (State.dropKey_rest ..)).trans h3
  clear_value s4
  exact h4

theorem bodyCharterEnd_fix (pk : Pkt) (slot : Nat) (s : State) : (bodyCharterEnd pk slot s).fixed s := by
  unfold bodyCharterEnd
  extract_lets c t
  refine fixed_chk (fixed_chk (fixed_chk ?_))
  show State.fix (if s.packetsOpen c then _ else _) = s.fix
  clear_value c t
  exact fix_of_ite rfl (State.beginTurnover_fix ..)

/-! ## Packets by opcode -/

theorem packetTable_fixed : ∀ e ∈ packetTable, ∀ pk slot s, (e.2 pk slot s).fixed s := by
  simp only [packetTable, List.forall_mem_append, List.forall_mem_cons]
  and_intros <;> first
    | exact fun pk slot s => fixed_of_keeps (by simp)
    | exact bodyModeSet_fix
    | exact bodyCharterBegin_fix
    | exact bodyCharterEnd_fix
    | exact bodyKeyInstall_fix
    | exact fun _ h => by cases h

theorem packetOf_fixed (op : Nat) (pk : Pkt) (slot : Nat) (s : State) : ((packetOf op).2 pk slot s).fixed s := by
  unfold packetOf
  cases h : packetTable.find? (fun e => decide (e.1.op = op)) with
  | none => trivial
  | some e => exact packetTable_fixed e (List.mem_of_find?_eq_some h) pk slot s

theorem State.runOp_fix (s : State) (op : Nat) (pk : Pkt) : (s.runOp op pk).fix = s.fix :=
  runPacket_fix _ _ _ _ (fun slot => packetOf_fixed op pk slot s)

theorem State.launchOp_fix (s : State) (op : Nat) (pk : Pkt) : (s.launchOp op pk).fix = s.fix :=
  launch_fix _ _ _ _ (fun slot s => packetOf_fixed op pk slot s)

theorem State.runWaiting_fix (s : State) : s.runWaiting.fix = s.fix :=
  (fix_of_rest (State.runDeferred_rest ..)).trans ((foldl_fix _ (fun s (e : Nat × Pkt) => State.runOp_fix s e.1 e.2) _ _).trans rfl)

theorem State.replay_fix (s : State) (op : Nat) (pk : Pkt) : (s.replay op pk).fix = s.fix := by
  unfold State.replay
  extract_lets d skip sp
  refine fix_of_ite rfl ?_
  split
  · rfl
  · refine fix_of_ite rfl ?_
    have h := packetOf_fixed op pk 0 s
    split
    · rename_i heq
      rw [heq] at h
      exact h
    · rfl

theorem State.takeSettings_fix (s : State) : s.takeSettings.fix = s.fix := by
  unfold State.takeSettings
  extract_lets b mac s0 d s1 d2
  have h0 : s0.fix = s.fix := fix_of_ite (fix_of_rest (State.askKey_rest ..)) rfl
  refine Eq.trans ?_ h0
  refine fix_of_ite ?_ (fix_of_rest (State.linkDefaults_rest ..))
  exact (foldl_fix _ (fun s (e : Nat × Pkt) => State.replay_fix s e.1 e.2) _ _).trans (fix_of_rest (State.linkDefaults_rest ..))

theorem State.bufWrite_fix (s : State) (o : Fin 17) (ws : List (Nat × W32)) : (s.bufWrite o ws).fix = s.fix := by
  unfold State.bufWrite
  extract_lets a ws2 b s1 q
  refine fix_of_ite (fix_of_rest (State.discard_rest ..)) ?_
  have h1 : s1.fix = s.fix := fix_of_rest (State.setApt_rest ..)
  exact fix_of_ite ((State.launchOp_fix ..).trans h1) h1

theorem State.answerHeld_fix (s : State) (h : Held) (st : Status) (ws : List Nat) : (s.answerHeld h st ws).fix = s.fix :=
  fix_of_rest (State.answer_rest ..)

/-! ## Commands that run packets, or change a charter, a key or the mode -/

/-- A command that answers a next state and leaves alone what no packet changes. -/
def Fixed (s : State) (r : Res) : Prop := ∃ t, r = .next t ∧ t.fix = s.fix

theorem fixed_of_kept {s : State} {r : Res} (h : Kept s r) : Fixed s r := by
  obtain ⟨t, ht, h⟩ := h
  exact ⟨t, ht, fix_of_rest h⟩

theorem execModeSet_fix (pk : Pkt) (s : State) : Fixed s (execModeSet pk s) := ⟨_, rfl, launch_fix _ _ _ _ (bodyModeSet_fix pk)⟩
theorem execCharterBegin_fix (pk : Pkt) (s : State) : Fixed s (execCharterBegin pk s) := ⟨_, rfl, launch_fix _ _ _ _ (bodyCharterBegin_fix pk)⟩
theorem execCharterEnd_fix (pk : Pkt) (s : State) : Fixed s (execCharterEnd pk s) := ⟨_, rfl, launch_fix _ _ _ _ (bodyCharterEnd_fix pk)⟩
theorem execKeyInstall_fix (pk : Pkt) (s : State) : Fixed s (execKeyInstall pk s) := ⟨_, rfl, launch_fix _ _ _ _ (bodyKeyInstall_fix pk)⟩

theorem execCharterScrubStart_fix (s : State) : Fixed s (execCharterScrubStart s) := by
  refine ⟨_, rfl, ?_⟩
  split
  · rfl
  · refine fix_of_ite (fix_of_ite rfl (State.beginTurnover_fix ..)) (fix_of_ite rfl ?_)
    exact fix_of_rest (State.scrub_rest ..)

theorem execCharterScrubDone_fix (verified : Bool) (s : State) : Fixed s (execCharterScrubDone verified s) := by
  refine ⟨_, rfl, ?_⟩
  split
  · rfl
  · refine fix_of_ite rfl (fix_of_ite ?_ ?_)
    · exact (fix_of_rest (State.complete_rest ..)).trans ((fix_of_rest (State.unitsBack_rest ..)).trans rfl)
    · exact (fix_of_rest (State.complete_rest ..)).trans ((fix_of_rest (State.raise_rest ..)).trans rfl)

theorem State.writeAt_fix (s : State) (o : Fin 17) (off : Nat) (size64 : Bool) (data : W64) :
    (s.writeAt o off size64 data).fix = s.fix :=
  fix_of_ite (State.bufWrite_fix ..) (foldl_fix _ (fun _ _ => fix_of_rest (State.regWrite_rest ..)) _ _)

theorem execRegisterWrite_fix (req : HtReq) (size64 : Bool) (strb : BitVec 8) (data : W64) (s : State) :
    Fixed s (execRegisterWrite req size64 strb data s) := by
  have hr : ∀ (t : State) (e : BitVec 2) (d : W64), (t.respond req.id e d).fix = t.fix := fun _ _ _ => fix_of_rest (State.respond_rest ..)
  refine ⟨_, rfl, fix_of_ite rfl ?_⟩
  refine Eq.trans ?_ (fix_of_rest (State.hostAccess_rest s))
  dsimp only
  split
  · refine fix_of_ite (hr ..) (fix_of_ite ((hr ..).trans (State.writeAt_fix ..)) ((hr ..).trans (fix_of_ite ?_ rfl)))
    exact fix_of_rest (State.latchCvt_rest ..)
  · exact hr ..

theorem execInstantActionDue_fix (idx : Nat) (s : State) : Fixed s (execInstantActionDue idx s) := by
  refine ⟨_, rfl, ?_⟩
  split
  · rfl
  · rename_i h _
    extract_lets moved e s1 un
    refine fix_of_ite rfl ?_
    refine (fix_of_rest (State.runDeferred_rest ..)).trans ?_
    have hb := packetOf_fixed h.op h.pk h.slot s1
    have h1 : s1.fix = s.fix := rfl
    split
    · exact (State.answerHeld_fix ..).trans h1
    · rename_i heq
      rw [heq] at hb
      exact (State.answerHeld_fix ..).trans (hb.trans h1)
    · rename_i heq
      rw [heq] at hb
      exact hb.trans h1

theorem execKeeperRestart_fix (s : State) : Fixed s (execKeeperRestart s) := by
  have h : ∀ (t : State) (d : Dev), t.rest = s.rest → d.mode = s.dev.mode → d.phase = s.dev.phase → d.ready = s.dev.ready →
      ({ t with dev := d } : State).fix = s.fix := by
    intro t d h h1 h2 h3
    have e : ({ t with dev := d } : State).rest = s.rest := by
      simp only [State.rest, Rest.mk.injEq] at h
      simp only [State.rest, Rest.mk.injEq, h1, h2, h3]
      exact ⟨h.1, h.2.1, trivial, trivial, trivial, h.2.2.2.2.2⟩
    exact fix_of_rest e
  unfold execKeeperRestart
  extract_lets d reload trial s1
  split
  · exact ⟨_, rfl, rfl⟩
  split
  · exact ⟨_, rfl, fix_of_rest (State.lbAccess_rest ..)⟩
  · have h1 : s1.rest = s.rest := rest_of_ite ((State.clearBank_rest ..).trans (State.lbAccess_rest ..)) rfl
    clear_value s1
    split
    · exact ⟨_, rfl, h _ _ h1 rfl rfl rfl⟩
    · exact ⟨_, rfl, h _ _ h1 rfl rfl rfl⟩

end Sys2Proof.Machine
end

