-- ==== Sys2Proof/Laws/Launch.lean ====
section
/-! SUPPORT. What the launch of a packet does, said once: a closed aperture discards it, a sleeping block keeps it, checks
1 to 7 refuse it, and otherwise its body's verdict is posted. -/

namespace Sys2Proof.Machine

@[simp] theorem apt_setApt (s : State) (o : Nat) (a : Apt) : (s.setApt o a).apt o = a := by
  simp [State.apt, State.setApt]

@[simp] theorem rung_dev (s : State) (sp : OpSpec) (pk : Pkt) : (s.rung sp pk).dev = s.dev := rfl
@[simp] theorem rung_lk (s : State) (sp : OpSpec) (pk : Pkt) : (s.rung sp pk).lk = s.lk := rfl
@[simp] theorem rung_probes (s : State) (sp : OpSpec) (pk : Pkt) : (s.rung sp pk).probes = s.probes := rfl
@[simp] theorem rung_ident (s : State) (sp : OpSpec) (pk : Pkt) : (s.rung sp pk).ident = s.ident := rfl
@[simp] theorem rung_probe (s : State) (sp : OpSpec) (pk : Pkt) (p : Nat) : (s.rung sp pk).probe p = s.probe p := rfl
@[simp] theorem rung_active (s : State) (sp : OpSpec) (pk : Pkt) (o : Nat) : (s.rung sp pk).active o = s.active o := rfl
@[simp] theorem rung_time (s : State) (sp : OpSpec) (pk : Pkt) : (s.rung sp pk).time = s.time := rfl
@[simp] theorem rung_chart (s : State) (sp : OpSpec) (pk : Pkt) : (s.rung sp pk).chart = s.chart := rfl
@[simp] theorem rung_ch (s : State) (sp : OpSpec) (pk : Pkt) : (s.rung sp pk).ch = s.ch := rfl
@[simp] theorem rung_assay (s : State) (sp : OpSpec) (pk : Pkt) : (s.rung sp pk).assay = s.assay := rfl
@[simp] theorem rung_ledger (s : State) (sp : OpSpec) (pk : Pkt) : (s.rung sp pk).ledger = s.ledger := rfl
@[simp] theorem rung_fc (s : State) (sp : OpSpec) (pk : Pkt) : (s.rung sp pk).fc = s.fc := rfl
@[simp] theorem rung_lb (s : State) (sp : OpSpec) (pk : Pkt) : (s.rung sp pk).lb = s.lb := rfl
@[simp] theorem rung_leaves (s : State) (sp : OpSpec) (pk : Pkt) (o : Nat) : (s.rung sp pk).leaves o = s.leaves o := rfl
@[simp] theorem rung_freeSlot (s : State) (sp : OpSpec) (pk : Pkt) :
    ((s.rung sp pk).apt pk.o).freeSlot = (s.apt pk.o).freeSlot := by
  simp only [State.rung, apt_setApt]; rfl

/-- Slot 0 is no completion slot (R390). -/
theorem freeSlot_ne_zero {a : Apt} {n : Nat} (h : a.freeSlot = some n) : n ≠ 0 := by
  unfold Apt.freeSlot at h
  have := List.mem_of_find?_eq_some h
  simp at this
  omega

/-- Awake, the block takes no wake event. -/
theorem wake_awake (s : State) (k : WakeKind) (h1 : s.lk.st = .underway) (h2 : s.lk.entering = none) : s.wake k = s := by
  simp [State.wake, h1, h2, wakesFrom]

theorem wake_serving (s : State) (k : WakeKind) (h : s.serving) : s.wake k = s :=
  wake_awake s k h.2.2.2.1 h.2.2.2.2

/-- Awake, an access of the host target port is answered and does nothing else by itself. -/
theorem hostAccess_awake (s : State) (h1 : s.lk.st = .underway) (h2 : s.lk.entering = none) : s.hostAccess = s.respond 0 0 0 := by
  rw [State.hostAccess, wake_awake s _ h1 h2]

@[simp] theorem respond_apt (s : State) (id : BitVec 8) (e : BitVec 2) (d : W64) (o : Nat) : (s.respond id e d).apt o = s.apt o := rfl

/-- Under PORST_N the port takes no packet (R42). -/
theorem launch_held (sp : OpSpec) (body : Pkt → Nat → State → Verdict) (pk : Pkt) (s : State) (h : s.dev.phase = .held) :
    launch sp body pk s = s := if_pos h

/-- A packet written while its aperture is closed is discarded and counted (R377). -/
theorem launch_closed (sp : OpSpec) (body : Pkt → Nat → State → Verdict) (pk : Pkt) (s : State)
    (h0 : s.dev.phase ≠ .held) (h1 : s.lk.st = .underway) (h2 : s.lk.entering = none) (h : (s.apt pk.o).closed = true) :
    launch sp body pk s = (s.respond 0 0 0).discard pk.o ((pk.ps.length + 2) / 2) := by
  simp [launch, h0, hostAccess_awake s h1 h2, h]

/-- At an open aperture of a serving block a packet runs at the doorbell. -/
theorem launch_run (sp : OpSpec) (body : Pkt → Nat → State → Verdict) (pk : Pkt) (s : State)
    (hs : s.serving) (h : (s.apt pk.o).closed = false) : launch sp body pk s = runPacket sp body pk (s.rung sp pk) := by
  have ha : (s.rung sp pk).asleep = false := by simp [State.asleep, hs.2.2.2.1, hs.2.2.2.2]
  have h0 : s.dev.phase ≠ .held := by rw [hs.1]; decide
  simp only [launch, h0, hostAccess_awake s hs.2.2.2.1 hs.2.2.2.2, respond_apt, h, Bool.false_eq_true, if_false]
  change (if (s.rung sp pk).asleep then _ else _) = _
  rw [ha]; rfl

theorem needsSlot_eq (sp : OpSpec) (pk : Pkt) (s : State) (h : sp.at_ pk = none) :
    sp.needsSlot pk s = (sp.long || pk.async) := by simp [OpSpec.needsSlot, h]

/-- Checks 1 to 7 let a heard packet through. -/
theorem Heard.checks {sp : OpSpec} {pk : Pkt} {s : State} (h : Heard sp pk s) : preCheck sp pk (s.rung sp pk) = none := by
  obtain ⟨⟨h1, h2, h3, -, -⟩, -, h5, h6, h7, h8, h9, h10, h11, h12, h13, h14, h15, h16, h17⟩ := h
  unfold preCheck
  rw [if_neg, if_neg, if_neg, if_neg, if_neg, if_neg, if_neg]
  · simp only [rung_active, Bool.and_eq_true, decide_eq_true_eq, Bool.not_eq_true']; rcases h16 with h | ⟨h, h'⟩ | h <;> simp [*]
  · simp only [Bool.or_eq_true, Bool.and_eq_true, Bool.not_eq_true', not_or, not_and, Bool.not_eq_false]; exact ⟨h14, h15⟩
  · simp [h13]
  · have hm' : (match sp.mode with | some m => decide (s.dev.mode ≠ m) | none => false) = false := by
      rcases h11 with h | h <;> simp [h]
    simp only [rung_dev, h12, Bool.or_eq_true, Bool.and_eq_true, decide_eq_true_eq, Bool.not_eq_true', not_or]
    refine ⟨⟨⟨⟨?_, ?_⟩, ?_⟩, ?_⟩, ?_⟩
    · rintro ⟨a, b⟩; exact b (h8 (of_decide_eq_true a))
    · rintro ⟨a, b | b⟩
      · exact b (h9 (of_decide_eq_true a)).1
      · simp [(h9 (of_decide_eq_true a)).2] at b
    · rintro ⟨a, b⟩; exact b (h10 a)
    · rcases h11 with h | h <;> simp [h]
    · simp
  · simp [h7]
  · simp [h6]
  · simp only [rung_dev, needsSlot_eq sp pk _ h17, rung_freeSlot, h3]
    simp only [h1, h2]
    by_cases hl : sp.long = true ∨ pk.async = true
    · have := h5 hl
      simp [Option.isNone_iff_eq_none, this]
    · have : (sp.long || pk.async) = false := by simpa using hl
      simp [this]

/-- A heard packet whose body gives a verdict that is no rejection: the verdict is posted at once. -/
theorem Heard.launch {sp : OpSpec} {body : Pkt → Nat → State → Verdict} {pk : Pkt} {s : State} (h : Heard sp pk s) :
    Machine.launch sp body pk s =
      match body pk (slotFor sp pk s) (s.rung sp pk) with
      | .reject st a b => (s.rung sp pk).reply sp.op pk st [a, b]
      | .done st ws t => finish sp pk (slotFor sp pk s) false t (.done st ws t)
      | .accept ws t => finish sp pk (slotFor sp pk s) false t (.accept ws t) := by
  have ht : sp.at_ pk = none := h.2.2.2.2.2.2.2.2.2.2.2.2.2.2
  rw [launch_run sp body pk s h.1 h.2.1]
  unfold runPacket
  rw [h.checks]
  simp only [needsSlot_eq sp pk _ ht, rung_freeSlot, ht]
  change (match body pk (slotFor sp pk s) (s.rung sp pk) with
    | .reject st a1 a2 => (s.rung sp pk).reply sp.op pk st [a1, a2]
    | v => finish sp pk (slotFor sp pk s) false (s.rung sp pk) v) = _
  cases body pk (slotFor sp pk s) (s.rung sp pk) <;> rfl

/-- A packet that needs a completion slot takes one of slots 1 to 3. -/
theorem Heard.slot {sp : OpSpec} {pk : Pkt} {s : State} (h : Heard sp pk s) (hl : (sp.long || pk.async) = true) :
    slotFor sp pk s ≠ 0 := by
  have hf := h.2.2.1 (by simpa using hl)
  obtain ⟨n, hn⟩ := Option.ne_none_iff_exists'.1 hf
  simpa [slotFor, hl, hn] using freeSlot_ne_zero hn

theorem Heard.answers {sp : OpSpec} {body : Pkt → Nat → State → Verdict} {pk : Pkt} {s : State} {ws : List Nat}
    {f : State → State} (h : Heard sp pk s) (hop : sp.op ≠ 0x14)
    (hb : body pk (slotFor sp pk s) (s.rung sp pk) = .done .ok ws (f (s.rung sp pk))) :
    Answers (.next (Machine.launch sp body pk s)) sp pk s ws f := by
  unfold Answers
  rw [h.launch, hb]
  simp only [finish, State.answered, State.answer, State.stillApplies, hop, Bool.false_and, Bool.false_eq_true, decide_false, if_false,
    if_true, failWords]
  split
  · rename_i hl
    simp [h.slot hl, State.accepting]
  · rfl

theorem Heard.accepts {sp : OpSpec} {body : Pkt → Nat → State → Verdict} {pk : Pkt} {s : State} {ws : List Nat}
    {f : Nat → State → State} (h : Heard sp pk s)
    (hb : body pk (slotFor sp pk s) (s.rung sp pk) = .accept ws (f (slotFor sp pk s) (s.rung sp pk))) :
    Accepts (.next (Machine.launch sp body pk s)) sp pk s ws f := by
  unfold Accepts
  rw [h.launch, hb]
  rfl

theorem concern_named {o i : Nat} {s : State} {k : Verdict} (h : s.named o) : concern o i s k = k := by
  rcases h with h | ⟨h, ha⟩
  · subst h; simp [concern, chk, hm]
  · simp [concern, chk, ha, show ¬ 16 < o by omega]

end Sys2Proof.Machine
end

