-- ==== Sys2Proof/Laws/PerInstr.lean ====
section
/-! SUPPORT. The family of statements made for each command as syntax: a well-formed command that is the launch of a packet
has the fields its header carries, an 8-bit opcode and an 8-bit length (R381). -/

namespace Sys2Proof.Laws.PacketLength

open Machine

/-- The packet of a well-formed packet command fits its header (R381). -/
def Statement (i : Instr) : Prop :=
  i.wf = true → ∀ (sp : OpSpec) (pk : Pkt), asked i = some (sp, pk) → sp.op < 256 ∧ pk.ps.length ≤ 255

theorem of_packet {i : Instr} {sp : OpSpec} {pk : Pkt} (ha : asked i = some (sp, pk)) (hw : i.wf = pk.wf) (ho : sp.op < 256) :
    Statement i := by
  intro h sp' pk' e
  rw [ha] at e
  cases e
  rw [hw] at h
  exact ⟨ho, of_decide_eq_true h⟩

theorem of_other {i : Instr} (ha : asked i = none) : Statement i := by
  intro _ sp pk e
  rw [ha] at e
  cases e

theorem porstNAssert : Statement .porstNAssert := of_other rfl
theorem coldStart (strap : BitVec 2) (found : StartFinds) : Statement (.coldStart strap found) := of_other rfl
theorem warmReset (src : ResetCause) : Statement (.warmReset src) := of_other rfl
theorem bootImageCheck : Statement .bootImageCheck := of_other rfl
theorem firmwareStart : Statement .firmwareStart := of_other rfl
theorem keeperRestart : Statement .keeperRestart := of_other rfl
theorem firmwareRestart : Statement .firmwareRestart := of_other rfl
theorem firmwareTrialExpiry : Statement .firmwareTrialExpiry := of_other rfl
theorem registerWrite (req : HtReq) (size64 : Bool) (strb : BitVec 8) (data : W64) : Statement (.registerWrite req size64 strb data) := of_other rfl
theorem packetBadOpcode (op : BitVec 8) (pk : Pkt) : Statement (.packetBadOpcode op pk) := by
  intro h sp q e
  simp only [asked] at e
  split at e
  · cases e
  · cases e; exact ⟨op.isLt, of_decide_eq_true h⟩
theorem replySlotRelease (o : Fin 17) (slot : Fin 4) : Statement (.replySlotRelease o slot) := of_other rfl
theorem cvtLatch (o : Fin 17) (size64 : Bool) (phase : BitVec 2) : Statement (.cvtLatch o size64 phase) := of_other rfl
theorem snapTrigger (o : Fin 17) (data : W32) : Statement (.snapTrigger o data) := of_other rfl
theorem aptClearDiscard (o : Fin 17) : Statement (.aptClearDiscard o) := of_other rfl
theorem aptClearKeyCounters (o : Fin 17) : Statement (.aptClearKeyCounters o) := of_other rfl
theorem markBegin (o : Fin 17) (data : W64) : Statement (.markBegin o data) := of_other rfl
theorem markEnd (o : Fin 17) (data : W64) : Statement (.markEnd o data) := of_other rfl
theorem markPoint (o : Fin 17) (data : W64) : Statement (.markPoint o data) := of_other rfl
theorem cbtWrite : Statement .cbtWrite := of_other rfl
theorem cbtRead : Statement .cbtRead := of_other rfl
theorem cbtSetPoison : Statement .cbtSetPoison := of_other rfl
theorem cbtClrPoison : Statement .cbtClrPoison := of_other rfl
theorem nop (pk : Pkt) : Statement (.nop pk) := of_packet rfl rfl (by decide)
theorem identify (pk : Pkt) : Statement (.identify pk) := of_packet rfl rfl (by decide)
theorem modeSet (pk : Pkt) : Statement (.modeSet pk) := of_packet rfl rfl (by decide)
theorem settingsSave (pk : Pkt) : Statement (.settingsSave pk) := of_packet rfl rfl (by decide)
theorem settingsSaveDone : Statement .settingsSaveDone := of_other rfl
theorem healthCfg (pk : Pkt) : Statement (.healthCfg pk) := of_packet rfl rfl (by decide)
theorem probeOwners (pk : Pkt) : Statement (.probeOwners pk) := of_packet rfl rfl (by decide)
theorem rangeSet (pk : Pkt) : Statement (.rangeSet pk) := of_packet rfl rfl (by decide)
theorem pmcConfig (pk : Pkt) : Statement (.pmcConfig pk) := of_packet rfl rfl (by decide)
theorem counterEnable (pk : Pkt) : Statement (.counterEnable pk) := of_packet rfl rfl (by decide)
theorem counterWrite (pk : Pkt) : Statement (.counterWrite pk) := of_packet rfl rfl (by decide)
theorem ovfClear (pk : Pkt) : Statement (.ovfClear pk) := of_packet rfl rfl (by decide)
theorem snapshot (pk : Pkt) : Statement (.snapshot pk) := of_packet rfl rfl (by decide)
theorem probeTiming (pk : Pkt) : Statement (.probeTiming pk) := of_packet rfl rfl (by decide)
theorem tallySet (pk : Pkt) : Statement (.tallySet pk) := of_packet rfl rfl (by decide)
theorem samplerConfig (pk : Pkt) : Statement (.samplerConfig pk) := of_packet rfl rfl (by decide)
theorem cmdStream (pk : Pkt) : Statement (.cmdStream pk) := of_packet rfl rfl (by decide)
theorem edgeStream (pk : Pkt) : Statement (.edgeStream pk) := of_packet rfl rfl (by decide)
theorem tieMode (pk : Pkt) : Statement (.tieMode pk) := of_packet rfl rfl (by decide)
theorem probeStatus (pk : Pkt) : Statement (.probeStatus pk) := of_packet rfl rfl (by decide)
theorem partitionSet (pk : Pkt) : Statement (.partitionSet pk) := of_packet rfl rfl (by decide)
theorem ownerExport (pk : Pkt) : Statement (.ownerExport pk) := of_packet rfl rfl (by decide)
theorem exportSet (pk : Pkt) : Statement (.exportSet pk) := of_packet rfl rfl (by decide)
theorem flush (pk : Pkt) : Statement (.flush pk) := of_packet rfl rfl (by decide)
theorem ledgerSet (pk : Pkt) : Statement (.ledgerSet pk) := of_packet rfl rfl (by decide)
theorem ledgerTrigger (pk : Pkt) : Statement (.ledgerTrigger pk) := of_packet rfl rfl (by decide)
theorem ledgerRelease (pk : Pkt) : Statement (.ledgerRelease pk) := of_packet rfl rfl (by decide)
theorem ledgerRead (pk : Pkt) : Statement (.ledgerRead pk) := of_packet rfl rfl (by decide)
theorem ledgerReadDone (o : Fin 17) : Statement (.ledgerReadDone o) := of_other rfl
theorem ledgerStatus (pk : Pkt) : Statement (.ledgerStatus pk) := of_packet rfl rfl (by decide)
theorem tapSafety (pk : Pkt) : Statement (.tapSafety pk) := of_packet rfl rfl (by decide)
theorem tapMeasure (pk : Pkt) : Statement (.tapMeasure pk) := of_packet rfl rfl (by decide)
theorem tableBase (pk : Pkt) : Statement (.tableBase pk) := of_packet rfl rfl (by decide)
theorem tableEntry (pk : Pkt) : Statement (.tableEntry pk) := of_packet rfl rfl (by decide)
theorem watchAssign (pk : Pkt) : Statement (.watchAssign pk) := of_packet rfl rfl (by decide)
theorem watchConfig (pk : Pkt) : Statement (.watchConfig pk) := of_packet rfl rfl (by decide)
theorem watchArm (pk : Pkt) : Statement (.watchArm pk) := of_packet rfl rfl (by decide)
theorem assayCounters (pk : Pkt) : Statement (.assayCounters pk) := of_packet rfl rfl (by decide)
theorem tapReenable (pk : Pkt) : Statement (.tapReenable pk) := of_packet rfl rfl (by decide)
theorem opSubmit (pk : Pkt) : Statement (.opSubmit pk) := of_packet rfl rfl (by decide)
theorem opCancel (pk : Pkt) : Statement (.opCancel pk) := of_packet rfl rfl (by decide)
theorem itinLoad (pk : Pkt) : Statement (.itinLoad pk) := of_packet rfl rfl (by decide)
theorem itinLoadDone : Statement .itinLoadDone := of_other rfl
theorem modelLoad (pk : Pkt) : Statement (.modelLoad pk) := of_packet rfl rfl (by decide)
theorem modelLoadDone : Statement .modelLoadDone := of_other rfl
theorem slotUnload (pk : Pkt) : Statement (.slotUnload pk) := of_packet rfl rfl (by decide)
theorem chAllot (pk : Pkt) : Statement (.chAllot pk) := of_packet rfl rfl (by decide)
theorem chStatus (pk : Pkt) : Statement (.chStatus pk) := of_packet rfl rfl (by decide)
theorem timeStatus (pk : Pkt) : Statement (.timeStatus pk) := of_packet rfl rfl (by decide)
theorem servoSet (pk : Pkt) : Statement (.servoSet pk) := of_packet rfl rfl (by decide)
theorem reanchor (pk : Pkt) : Statement (.reanchor pk) := of_packet rfl rfl (by decide)
theorem laneAsym (pk : Pkt) : Statement (.laneAsym pk) := of_packet rfl rfl (by decide)
theorem powerPolicy (pk : Pkt) : Statement (.powerPolicy pk) := of_packet rfl rfl (by decide)
theorem envelopeSet (pk : Pkt) : Statement (.envelopeSet pk) := of_packet rfl rfl (by decide)
theorem derateSet (pk : Pkt) : Statement (.derateSet pk) := of_packet rfl rfl (by decide)
theorem coolantReport (pk : Pkt) : Statement (.coolantReport pk) := of_packet rfl rfl (by decide)
theorem domainSet (pk : Pkt) : Statement (.domainSet pk) := of_packet rfl rfl (by decide)
theorem domainSetDone : Statement .domainSetDone := of_other rfl
theorem domainAssign (pk : Pkt) : Statement (.domainAssign pk) := of_packet rfl rfl (by decide)
theorem frameSchedule (pk : Pkt) : Statement (.frameSchedule pk) := of_packet rfl rfl (by decide)
theorem framePlan (pk : Pkt) : Statement (.framePlan pk) := of_packet rfl rfl (by decide)
theorem powerStatus (pk : Pkt) : Statement (.powerStatus pk) := of_packet rfl rfl (by decide)
theorem charterBegin (pk : Pkt) : Statement (.charterBegin pk) := of_packet rfl rfl (by decide)
theorem charterEnd (pk : Pkt) : Statement (.charterEnd pk) := of_packet rfl rfl (by decide)
theorem charterScrubStart : Statement .charterScrubStart := of_other rfl
theorem charterScrubDone (verified : Bool) : Statement (.charterScrubDone verified) := of_other rfl
theorem attest (pk : Pkt) : Statement (.attest pk) := of_packet rfl rfl (by decide)
theorem keyAgree (pk : Pkt) : Statement (.keyAgree pk) := of_packet rfl rfl (by decide)
theorem keyInstall (pk : Pkt) : Statement (.keyInstall pk) := of_packet rfl rfl (by decide)
theorem keyZeroise (pk : Pkt) (readback : W256) : Statement (.keyZeroise pk readback) := of_packet rfl rfl (by decide)
theorem linkMode (pk : Pkt) : Statement (.linkMode pk) := of_packet rfl rfl (by decide)
theorem charterStatus (pk : Pkt) : Statement (.charterStatus pk) := of_packet rfl rfl (by decide)
theorem surveySet (pk : Pkt) : Statement (.surveySet pk) := of_packet rfl rfl (by decide)
theorem surveyPredict (pk : Pkt) : Statement (.surveyPredict pk) := of_packet rfl rfl (by decide)
theorem surveyPredictDone : Statement .surveyPredictDone := of_other rfl
theorem surveyCheckpoint (pk : Pkt) : Statement (.surveyCheckpoint pk) := of_packet rfl rfl (by decide)
theorem surveyCheckpointDone : Statement .surveyCheckpointDone := of_other rfl
theorem surveyRecal (pk : Pkt) : Statement (.surveyRecal pk) := of_packet rfl rfl (by decide)
theorem surveyRecalDone (readings : List SensorReply) : Statement (.surveyRecalDone readings) := of_other rfl
theorem surveyRead (pk : Pkt) : Statement (.surveyRead pk) := of_packet rfl rfl (by decide)
theorem faultRead (pk : Pkt) : Statement (.faultRead pk) := of_packet rfl rfl (by decide)
theorem faultRelease (pk : Pkt) : Statement (.faultRelease pk) := of_packet rfl rfl (by decide)
theorem faultPolicy (pk : Pkt) : Statement (.faultPolicy pk) := of_packet rfl rfl (by decide)
theorem faultInject (pk : Pkt) : Statement (.faultInject pk) := of_packet rfl rfl (by decide)
theorem updateBegin (pk : Pkt) : Statement (.updateBegin pk) := of_packet rfl rfl (by decide)
theorem updateData (pk : Pkt) : Statement (.updateData pk) := of_packet rfl rfl (by decide)
theorem updateCommit (pk : Pkt) : Statement (.updateCommit pk) := of_packet rfl rfl (by decide)
theorem updateCommitDone : Statement .updateCommitDone := of_other rfl
theorem updateAbort (pk : Pkt) : Statement (.updateAbort pk) := of_packet rfl rfl (by decide)
theorem logbookRead (pk : Pkt) : Statement (.logbookRead pk) := of_packet rfl rfl (by decide)
theorem stpControl (pk : Pkt) : Statement (.stpControl pk) := of_packet rfl rfl (by decide)
theorem serviceStatus (pk : Pkt) : Statement (.serviceStatus pk) := of_packet rfl rfl (by decide)
theorem spareFuse (pk : Pkt) : Statement (.spareFuse pk) := of_packet rfl rfl (by decide)
theorem spareFuseDone (results : List Bool) : Statement (.spareFuseDone results) := of_other rfl
theorem coreRetest (pk : Pkt) : Statement (.coreRetest pk) := of_packet rfl rfl (by decide)
theorem coreRetestDone (pass : Bool) : Statement (.coreRetestDone pass) := of_other rfl
theorem instantActionDue (idx : Nat) : Statement (.instantActionDue idx) := of_other rfl
theorem commandIssue (p : Fin 128) (c : PaiCmd) : Statement (.commandIssue p c) := of_other rfl
theorem commandRetire (p : Fin 128) (c : PaiCmd) (flushed : Bool) : Statement (.commandRetire p c flushed) := of_other rfl
theorem preciseSample (p : Fin 128) : Statement (.preciseSample p) := of_other rfl
theorem stageEntry (p : Fin 128) (stage : Fin 8) (tid : BitVec 8) : Statement (.stageEntry p stage tid) := of_other rfl
theorem evtEdge (p : Fin 128) (line : Fin 64) (rising : Bool) (levels : W64) : Statement (.evtEdge p line rising levels) := of_other rfl
theorem rateExceeded (p : Fin 128) (line : Fin 64) : Statement (.rateExceeded p line) := of_other rfl
theorem charterSwitch (p : Fin 128) (charter : BitVec 4) (priv : Bool) : Statement (.charterSwitch p charter priv) := of_other rfl
theorem counterWrap (p : Fin 128) (i : Fin 13) : Statement (.counterWrap p i) := of_other rfl
theorem tallyDump (d : TallyRead) : Statement (.tallyDump d) := of_other rfl
theorem slotInvariantCheck (p : Fin 128) : Statement (.slotInvariantCheck p) := of_other rfl
theorem snapshotTake (p : Fin 128) (bad : ParityBad) : Statement (.snapshotTake p bad) := of_other rfl
theorem periodicSnapshot (p : Fin 128) : Statement (.periodicSnapshot p) := of_other rfl
theorem frameSyncSnapshot (p : Fin 128) : Statement (.frameSyncSnapshot p) := of_other rfl
theorem clkStretchReport (p : Fin 128) : Statement (.clkStretchReport p) := of_other rfl
theorem clkStretchEnd (p : Fin 128) : Statement (.clkStretchEnd p) := of_other rfl
theorem clkHalt (p : Fin 128) : Statement (.clkHalt p) := of_other rfl
theorem clkResume (p : Fin 128) : Statement (.clkResume p) := of_other rfl
theorem hrstNAssert (p : Fin 128) : Statement (.hrstNAssert p) := of_other rfl
theorem hrstNRelease (p : Fin 128) : Statement (.hrstNRelease p) := of_other rfl
theorem probePowerUp (p : Fin 128) : Statement (.probePowerUp p) := of_other rfl
theorem fatalIn (p : Fin 128) (pos : Bool) (neg : Bool) : Statement (.fatalIn p pos neg) := of_other rfl
theorem fatalRail (p : Fin 128) (v : Bool) : Statement (.fatalRail p v) := of_other rfl
theorem tclkLoss (p : Fin 128) (absent : Bool) : Statement (.tclkLoss p absent) := of_other rfl
theorem tinSample (sec : BitVec 48) (ns : BitVec 30) (step : Bool) (phase : BitVec 2) : Statement (.tinSample sec ns step phase) := of_other rfl
theorem ppsEdge (phase : BitVec 2) : Statement (.ppsEdge phase) := of_other rfl
theorem servoRun : Statement .servoRun := of_other rfl
theorem stepEdge : Statement .stepEdge := of_other rfl
theorem timeInputLost : Statement .timeInputLost := of_other rfl
theorem tsyncLoad (flips : Tab Nat) : Statement (.tsyncLoad flips) := of_other rfl
theorem tsyncRate (flips : Tab Nat) : Statement (.tsyncRate flips) := of_other rfl
theorem tsyncStatus (flips : Tab Nat) : Statement (.tsyncStatus flips) := of_other rfl
theorem tsyncCheck (flips : Tab Nat) : Statement (.tsyncCheck flips) := of_other rfl
theorem sync (fr : LinkFrame) (t1 : BitVec 96) : Statement (.sync fr t1) := of_other rfl
theorem syncAck (fr : LinkFrame) (t2 : BitVec 96) (t3 : BitVec 96) : Statement (.syncAck fr t2 t3) := of_other rfl
theorem syncRsp (fr : LinkFrame) (t4 : BitVec 96) : Statement (.syncRsp fr t4) := of_other rfl
theorem laneARestore (peer : Fin 3) : Statement (.laneARestore peer) := of_other rfl
theorem asymMeasureDone (peer : Fin 3) : Statement (.asymMeasureDone peer) := of_other rfl
theorem epochMsg (fr : LinkFrame) (epoch : BitVec 16) (step : BitVec 64) (cvt : BitVec 96) : Statement (.epochMsg fr epoch step cvt) := of_other rfl
theorem followerStep : Statement .followerStep := of_other rfl
theorem state (fr : LinkFrame) (tstate : BitVec 3) (part : BitVec 2) (sleep : Option (BitVec 96)) : Statement (.state fr tstate part sleep) := of_other rfl
theorem peerSleepTimeout (peer : Fin 3) : Statement (.peerSleepTimeout peer) := of_other rfl
theorem partitionSplit (reach : BitVec 4) : Statement (.partitionSplit reach) := of_other rfl
theorem hello (peer : Fin 3) (lane : Bool) (chip : BitVec 2) (sealedMode : Bool) (housing : BitVec 32) : Statement (.hello peer lane chip sealedMode housing) := of_other rfl
theorem timeSyncDue : Statement .timeSyncDue := of_other rfl
theorem basinAdmit (ch : Bool) : Statement (.basinAdmit ch) := of_other rfl
theorem sourceRecordTimeout (src : BitVec 8) : Statement (.sourceRecordTimeout src) := of_other rfl
theorem lossToken (src : BitVec 8) : Statement (.lossToken src) := of_other rfl
theorem weirAccumTimeout (idx : Nat) : Statement (.weirAccumTimeout idx) := of_other rfl
theorem weirMarkWrite : Statement .weirMarkWrite := of_other rfl
theorem sourceSilent (src : BitVec 8) (o : Fin 17) : Statement (.sourceSilent src o) := of_other rfl
theorem standingWeirMark (p : Fin 128) : Statement (.standingWeirMark p) := of_other rfl
theorem lighterOpen (channel : Fin 8) : Statement (.lighterOpen channel) := of_other rfl
theorem lighterFlushTimeout (o : Fin 17) : Statement (.lighterFlushTimeout o) := of_other rfl
theorem unitLeave (u : Fin 124) : Statement (.unitLeave u) := of_other rfl
theorem managerRequestIssue : Statement .managerRequestIssue := of_other rfl
theorem managerCredit (wd : Bool) : Statement (.managerCredit wd) := of_other rfl
theorem mgrWriteDone (tag : Fin 64) (st : BitVec 2) : Statement (.mgrWriteDone tag st) := of_other rfl
theorem mgrReadLine (tag : Fin 64) (data : BitVec 512) (last : Bool) (st : BitVec 2) (psn : Bool) : Statement (.mgrReadLine tag data last st psn) := of_other rfl
theorem ledgerFreeze : Statement .ledgerFreeze := of_other rfl
theorem ledgerPostTimeout : Statement .ledgerPostTimeout := of_other rfl
theorem ledgerSeal : Statement .ledgerSeal := of_other rfl
theorem ledgerSummaryWrite : Statement .ledgerSummaryWrite := of_other rfl
theorem stpLaneUp (lanes : BitVec 2) : Statement (.stpLaneUp lanes) := of_other rfl
theorem stpTrain : Statement .stpTrain := of_other rfl
theorem trainAck (ok : BitVec 2) : Statement (.trainAck ok) := of_other rfl
theorem stpTrainTimeout : Statement .stpTrainTimeout := of_other rfl
theorem stpTrainRetry : Statement .stpTrainRetry := of_other rfl
theorem stpFrame (lane : Bool) : Statement (.stpFrame lane) := of_other rfl
theorem pause (lanes : BitVec 2) (dur : BitVec 10) : Statement (.pause lanes dur) := of_other rfl
theorem pauseEnd (lane : Bool) : Statement (.pauseEnd lane) := of_other rfl
theorem tapBeat (t : Fin 4) (b : TapBeat) : Statement (.tapBeat t b) := of_other rfl
theorem tableFetchDone : Statement .tableFetchDone := of_other rfl
theorem tableWritebackDone : Statement .tableWritebackDone := of_other rfl
theorem rescaleAck (t : Fin 4) : Statement (.rescaleAck t) := of_other rfl
theorem dumpBlockWrite : Statement .dumpBlockWrite := of_other rfl
theorem periodOpReady (idx : Fin 4) : Statement (.periodOpReady idx) := of_other rfl
theorem opStart : Statement .opStart := of_other rfl
theorem opDeadlineExpiry (o : Fin 17) (seq : W32) : Statement (.opDeadlineExpiry o seq) := of_other rfl
theorem opBudgetExceeded : Statement .opBudgetExceeded := of_other rfl
theorem opComplete : Statement .opComplete := of_other rfl
theorem coreResidueMismatch (c : Fin 16) : Statement (.coreResidueMismatch c) := of_other rfl
theorem coreWatchdog (c : Fin 16) : Statement (.coreWatchdog c) := of_other rfl
theorem coreSelfTest (c : Fin 16) (pass : Bool) : Statement (.coreSelfTest c pass) := of_other rfl
theorem ld (c : Fin 16) : Statement (.ld c) := of_other rfl
theorem st (c : Fin 16) : Statement (.st c) := of_other rfl
theorem ldm (c : Fin 16) : Statement (.ldm c) := of_other rfl
theorem recv (c : Fin 16) : Statement (.recv c) := of_other rfl
theorem emit (c : Fin 16) : Statement (.emit c) := of_other rfl
theorem gets (c : Fin 16) : Statement (.gets c) := of_other rfl
theorem sop (c : Fin 16) : Statement (.sop c) := of_other rfl
theorem bcast (c : Fin 16) : Statement (.bcast c) := of_other rfl
theorem xlane (c : Fin 16) : Statement (.xlane c) := of_other rfl
theorem add (c : Fin 16) : Statement (.add c) := of_other rfl
theorem sub (c : Fin 16) : Statement (.sub c) := of_other rfl
theorem mul (c : Fin 16) : Statement (.mul c) := of_other rfl
theorem fma (c : Fin 16) : Statement (.fma c) := of_other rfl
theorem div (c : Fin 16) : Statement (.div c) := of_other rfl
theorem sqrt (c : Fin 16) : Statement (.sqrt c) := of_other rfl
theorem min (c : Fin 16) : Statement (.min c) := of_other rfl
theorem max (c : Fin 16) : Statement (.max c) := of_other rfl
theorem abs (c : Fin 16) : Statement (.abs c) := of_other rfl
theorem exp2 (c : Fin 16) : Statement (.exp2 c) := of_other rfl
theorem log2 (c : Fin 16) : Statement (.log2 c) := of_other rfl
theorem cvt (c : Fin 16) : Statement (.cvt c) := of_other rfl
theorem quant (c : Fin 16) : Statement (.quant c) := of_other rfl
theorem deq (c : Fin 16) : Statement (.deq c) := of_other rfl
theorem mxapply (c : Fin 16) : Statement (.mxapply c) := of_other rfl
theorem cmp (c : Fin 16) : Statement (.cmp c) := of_other rfl
theorem sel (c : Fin 16) : Statement (.sel c) := of_other rfl
theorem mcount (c : Fin 16) : Statement (.mcount c) := of_other rfl
theorem red (c : Fin 16) : Statement (.red c) := of_other rfl
theorem argmax (c : Fin 16) : Statement (.argmax c) := of_other rfl
theorem dot (c : Fin 16) : Statement (.dot c) := of_other rfl
theorem macc (c : Fin 16) : Statement (.macc c) := of_other rfl
theorem accrd (c : Fin 16) : Statement (.accrd c) := of_other rfl
theorem accclr (c : Fin 16) : Statement (.accclr c) := of_other rfl
theorem hist (c : Fin 16) : Statement (.hist c) := of_other rfl
theorem lut (c : Fin 16) : Statement (.lut c) := of_other rfl
theorem bitop (c : Fin 16) : Statement (.bitop c) := of_other rfl
theorem field (c : Fin 16) : Statement (.field c) := of_other rfl
theorem qtref (c : Fin 16) : Statement (.qtref c) := of_other rfl
theorem allred (c : Fin 16) : Statement (.allred c) := of_other rfl
theorem xchg (c : Fin 16) : Statement (.xchg c) := of_other rfl
theorem bar (c : Fin 16) : Statement (.bar c) := of_other rfl
theorem loop (c : Fin 16) : Statement (.loop c) := of_other rfl
theorem endl (c : Fin 16) : Statement (.endl c) := of_other rfl
theorem brz (c : Fin 16) : Statement (.brz c) := of_other rfl
theorem halt (c : Fin 16) : Statement (.halt c) := of_other rfl
theorem sensorScan (readings : List SensorReply) : Statement (.sensorScan readings) := of_other rfl
theorem rmonSample (ch : Fin 8) (power : BitVec 16) (current : BitVec 16) : Statement (.rmonSample ch power current) := of_other rfl
theorem envelopeInputLost (ch : Fin 8) : Statement (.envelopeInputLost ch) := of_other rfl
theorem surveyTick (reads : TickReads) : Statement (.surveyTick reads) := of_other rfl
theorem journalEntry : Statement .journalEntry := of_other rfl
theorem journalCheckpoint : Statement .journalCheckpoint := of_other rfl
theorem coolantSeriesStale : Statement .coolantSeriesStale := of_other rfl
theorem coolantReportLost : Statement .coolantReportLost := of_other rfl
theorem powerStateChoice : Statement .powerStateChoice := of_other rfl
theorem sleepEntryComplete : Statement .sleepEntryComplete := of_other rfl
theorem wakeTimer : Statement .wakeTimer := of_other rfl
theorem wakeEvent (kind : WakeKind) : Statement (.wakeEvent kind) := of_other rfl
theorem sleepExitComplete : Statement .sleepExitComplete := of_other rfl
theorem coreIdleOff : Statement .coreIdleOff := of_other rfl
theorem envelopeLoop (upset : Bool) : Statement (.envelopeLoop upset) := of_other rfl
theorem envelopeShed : Statement .envelopeShed := of_other rfl
theorem hostDomainOffStart (h : Fin 72) : Statement (.hostDomainOffStart h) := of_other rfl
theorem hostDomainOnStart (h : Fin 72) : Statement (.hostDomainOnStart h) := of_other rfl
theorem pswReqIssue : Statement .pswReqIssue := of_other rfl
theorem pswAck (h : Fin 72) (level : Bool) : Statement (.pswAck h level) := of_other rfl
theorem pswTimeout (h : Fin 72) : Statement (.pswTimeout h) := of_other rfl
theorem frameSync : Statement .frameSync := of_other rfl
theorem frameScheduleTick : Statement .frameScheduleTick := of_other rfl
theorem framePlanStep : Statement .framePlanStep := of_other rfl
theorem frameMissed : Statement .frameMissed := of_other rfl
theorem faultRaise (r : Option FaultRaise) : Statement (.faultRaise r) := of_other rfl
theorem classTableFallback : Statement .classTableFallback := of_other rfl
theorem keeperLockstepMismatch : Statement .keeperLockstepMismatch := of_other rfl
theorem keeperWatchdogExpiry : Statement .keeperWatchdogExpiry := of_other rfl
theorem keeperMemUe (word : BitVec 32) : Statement (.keeperMemUe word) := of_other rfl
theorem heartbeatToggle : Statement .heartbeatToggle := of_other rfl
theorem fcSelfTest (failing : Option (BitVec 16)) : Statement (.fcSelfTest failing) := of_other rfl
theorem lockstepSelfTest (pass : Bool) : Statement (.lockstepSelfTest pass) := of_other rfl
theorem aonMonitorTest (pass : Bool) : Statement (.aonMonitorTest pass) := of_other rfl
theorem aonRefLoss (lost : Bool) : Statement (.aonRefLoss lost) := of_other rfl
theorem patrolVisit (bank : Fin 34) (copy : Bool) (obs : ReadObs) : Statement (.patrolVisit bank copy obs) := of_other rfl
theorem checkerSelfTest (bank : Fin 34) (copy : Bool) (pass : Bool) : Statement (.checkerSelfTest bank copy pass) := of_other rfl
theorem rowMigrationDone (bank : Fin 34) (copy : Bool) : Statement (.rowMigrationDone bank copy) := of_other rfl
theorem suspectExpiry (bank : Fin 34) (copy : Bool) : Statement (.suspectExpiry bank copy) := of_other rfl
theorem eccBucketLeak : Statement .eccBucketLeak := of_other rfl
theorem mergeRmwTimeout (m : MergeOut) : Statement (.mergeRmwTimeout m) := of_other rfl
theorem svcPlugIn : Statement .svcPlugIn := of_other rfl
theorem svcUnplug : Statement .svcUnplug := of_other rfl
theorem buttonPress : Statement .buttonPress := of_other rfl
theorem buttonRelease : Statement .buttonRelease := of_other rfl
theorem buttonHold : Statement .buttonHold := of_other rfl
theorem buttonStuck : Statement .buttonStuck := of_other rfl
theorem shortPress : Statement .shortPress := of_other rfl
theorem buttonNoiseWindow (edges : Nat) : Statement (.buttonNoiseWindow edges) := of_other rfl
theorem hclkEdge (p : Fin 128) (e : PaiEdge) : Statement (.hclkEdge p e) := of_other rfl
theorem snapshotCopyDone (p : Fin 128) : Statement (.snapshotCopyDone p) := of_other rfl
theorem keeperRestartComplete : Statement .keeperRestartComplete := of_other rfl
theorem wrstNRelease : Statement .wrstNRelease := of_other rfl
theorem convoyExchangeFail (peer : Fin 3) (lane : Bool) : Statement (.convoyExchangeFail peer lane) := of_other rfl
theorem hostSwitchedDomainOff (h : Fin 72) : Statement (.hostSwitchedDomainOff h) := of_other rfl
theorem scratchProgram : Statement .scratchProgram := of_other rfl
theorem probeOutputLinkError (p : Fin 128) : Statement (.probeOutputLinkError p) := of_other rfl

end Sys2Proof.Laws.PacketLength
end

