-- ==== Sys2Proof/Laws/Sets.lean ====
section
/-! SUPPORT. Probe sets: when a packet's set passes its checks, and what a change of every probe of a set leaves to be
read. -/

namespace Sys2Proof.Machine

theorem mem_probeList (v : BitVec 128) (p : Nat) : p ∈ probeList v ↔ v.getLsbD p = true := by
  simp only [probeList, List.mem_filter, List.mem_range, and_iff_right_iff_imp]
  intro h
  exact Nat.lt_of_not_le fun hp => by simp [BitVec.getLsbD_of_ge v p hp] at h

theorem nodup_probeList (v : BitVec 128) : (probeList v).Nodup := List.Pairwise.filter _ List.nodup_range

theorem onProbes_eq (ps : List Nat) (f : Nat → Probe → Probe) (s : State) :
    onProbes ps f s = { s with probes := (onProbes ps f s).probes } := by
  induction ps generalizing s with
  | nil => rfl
  | cons p ps ih => exact ih _

theorem onProbes_probe (ps : List Nat) (f : Nat → Probe → Probe) (s : State) (hn : ps.Nodup) (p : Nat) :
    (onProbes ps f s).probe p = if p ∈ ps then f p (s.probe p) else s.probe p := by
  induction ps generalizing s with
  | nil => rfl
  | cons q ps ih =>
    have hq := List.nodup_cons.mp hn
    change (onProbes ps f (s.modProbe q (f q))).probe p = _
    rw [ih _ hq.2]
    by_cases h : p = q
    · subst h
      simp only [hq.1, List.mem_cons, true_or, if_true, if_false]
      exact tget_tset_same ..
    · have hp : (s.modProbe q (f q)).probe p = s.probe p := tget_tset_other _ _ _ _ _ h
      simp [h, hp]

/-- A set whose probes exist and pass the row's own condition passes checks 8 and 9. -/
theorem checkSet_fits {pk : Pkt} {s : State} {owned : Nat → Bool} {k : List Nat → Verdict} {q : Probe → Prop}
    (h : SetFits pk s q) (ho : ∀ p, q (s.probe p) → owned p = true) : checkSet pk s owned k = k (probeList pk.probes) := by
  have lt : ∀ p, pk.probes.getLsbD p = true → p < 128 := fun p hp =>
    Nat.lt_of_not_le fun hq => by simp [BitVec.getLsbD_of_ge pk.probes p hq] at hp
  have h1 : firstDenied s owned (probeList pk.probes) = none := by
    simp only [firstDenied, List.find?_eq_none, Bool.and_eq_true, decide_eq_true_eq, Bool.not_eq_true', not_and]
    intro p hp _
    have hp := (mem_probeList _ p).mp hp
    simp [ho p (h p (lt p hp) hp).2]
  have h2 : firstAbsent s (probeList pk.probes) = none := by
    simp only [firstAbsent, List.find?_eq_none, decide_eq_true_eq, Nat.not_le]
    intro p hp
    have hp := (mem_probeList _ p).mp hp
    exact (h p (lt p hp) hp).1
  simp [checkSet, checkList, h1, h2]

/-- The same at the doorbell. -/
theorem checkSet_rung {sp : OpSpec} {pk : Pkt} {s : State} {owned : Nat → Bool} {k : List Nat → Verdict} {q : Probe → Prop}
    (h : SetFits pk s q) (ho : ∀ p, q (s.probe p) → owned p = true) :
    checkSet pk (s.rung sp pk) owned k = k (probeList pk.probes) :=
  checkSet_fits (s := s.rung sp pk) (q := q) h ho

theorem Heard.retunes {sp : OpSpec} {body : Pkt → Nat → State → Verdict} {pk : Pkt} {s : State} {ws : List Nat}
    {g : Nat → Probe → Probe} (h : Heard sp pk s) (hop : sp.op ≠ 0x14)
    (hb : body pk (slotFor sp pk s) (s.rung sp pk) = .done .ok ws (onProbes (probeList pk.probes) g (s.rung sp pk))) :
    Retunes (.next (Machine.launch sp body pk s)) sp pk s ws g := by
  refine ⟨(onProbes (probeList pk.probes) g (s.rung sp pk)).probes, h.answers hop (by rw [hb]; congr 1; exact onProbes_eq ..), ?_⟩
  intro p
  have := onProbes_probe (probeList pk.probes) g (s.rung sp pk) (nodup_probeList _) p
  simp only [mem_probeList] at this
  exact this

end Sys2Proof.Machine
end

