-- ==== Sys2Proof/Laws/Steady.lean ====
section
/-! SUPPORT. The commands that step Convoy Time, and all commands that leave alone what no packet changes. -/

namespace Sys2Proof.Machine

/-! ## Commands that change Convoy Time -/

theorem State.stepCvt_rest (s : State) (d : Int) (epoch : BitVec 16) (cause : Nat) :
    (s.stepCvt d epoch cause).rest = { s.rest with cvt := ((s.time.cvt : Int) + d * (qtUnit : Int)).toNat } := by
  unfold State.stepCvt
  extract_lets was old t0 t1 gap t2 lag s1 s2 ts
  have h1 : s1.rest = { s.rest with cvt := ((s.time.cvt : Int) + d * (qtUnit : Int)).toNat } := rfl
  have h2 : s2.rest = s1.rest := foldl_rest _ (fun s p => rest_of_ite rfl (State.modProbe_rest ..)) _ _
  exact (State.emit_rest ..).trans ((State.syncOf_rest ..).trans ((State.retime_rest ..).trans (h2.trans h1)))

/-- A step of CVT, which leaves the rest alone. -/
def Stepped (s t : State) : Prop := t.rest = { s.rest with cvt := t.time.cvt }

theorem execStepEdge_moves (s : State) : ∃ t, execStepEdge s = .next t ∧ Stepped s t := by
  unfold execStepEdge
  split
  · exact ⟨_, rfl, rfl⟩
  · rename_i r _
    split
    · exact ⟨_, rfl, rfl⟩
    · refine ⟨_, rfl, ?_⟩
      have h := State.stepCvt_rest s r.d (s.time.epoch + 1) r.cause
      generalize s.stepCvt r.d (s.time.epoch + 1) r.cause = u at h
      have key : ∀ t : State, t.rest = u.rest → Stepped s t := by
        intro t ht
        have hc : t.time.cvt = u.time.cvt := congrArg Rest.cvt ht
        have hu : u.time.cvt = _ := congrArg Rest.cvt h
        rw [Stepped, ht, h, hc, hu]
      apply key
      dsimp only
      split
      · exact rest_of_ite (State.complete_rest ..) rfl
      · rfl

theorem execFollowerStep_moves (s : State) : ∃ t, execFollowerStep s = .next t ∧ Stepped s t := by
  unfold execFollowerStep
  split
  · exact ⟨_, rfl, rfl⟩
  · rename_i epoch d e _
    extract_lets p l t inStep dd c tm s1
    split
    · exact ⟨_, rfl, rfl⟩
    · refine ⟨_, rfl, ?_⟩
      have h := State.stepCvt_rest (s1.setTState .slewing) dd epoch 3
      have h1 : (s1.setTState .slewing).rest = s.rest := (State.setTState_rest ..).trans rfl
      rw [h1] at h
      generalize (s1.setTState .slewing).stepCvt dd epoch 3 = u at h
      have ht := (State.checkLane_rest (u.setPersist 0x307 0 false) 0).trans (State.setPersist_rest u 0x307 0 false)
      have hc : ((u.setPersist 0x307 0 false).checkLane 0).time.cvt = u.time.cvt := congrArg Rest.cvt ht
      have hu : u.time.cvt = _ := congrArg Rest.cvt h
      rw [Stepped, ht, h, hc, hu]

/-- The commands that a reset, the start-up, a sleep, a step of CVT or a fuse word does not make: they leave alone what no
packet changes. -/
def steady : Instr → Bool
  | .porstNAssert => false
  | .coldStart _ _ => false
  | .warmReset _ => false
  | .bootImageCheck => false
  | .firmwareStart => false
  | .firmwareRestart => false
  | .spareFuseDone _ => false
  | .stepEdge => false
  | .followerStep => false
  | .powerStateChoice => false
  | .sleepEntryComplete => false
  | .sleepExitComplete => false
  | .keeperRestartComplete => false
  | _ => true

theorem exec_fixed (i : Instr) (s : State) (hst : steady i = true) : Fixed s (exec i s) := by
  cases i with
  | porstNAssert => cases hst
  | coldStart _ _ => cases hst
  | warmReset _ => cases hst
  | bootImageCheck => cases hst
  | firmwareStart => cases hst
  | keeperRestart => exact execKeeperRestart_fix s
  | firmwareRestart => cases hst
  | firmwareTrialExpiry => exact fixed_of_kept (execFirmwareTrialExpiry_rest s)
  | registerWrite req size64 strb data => exact execRegisterWrite_fix req size64 strb data s
  | packetBadOpcode op pk => exact fixed_of_kept (execPacketBadOpcode_rest op pk s)
  | replySlotRelease o slot => exact fixed_of_kept (execReplySlotRelease_rest o slot s)
  | cvtLatch o size64 phase => exact fixed_of_kept (execCvtLatch_rest o size64 phase s)
  | snapTrigger o data => exact fixed_of_kept (execSnapTrigger_rest o data s)
  | aptClearDiscard o => exact fixed_of_kept (execAptClearDiscard_rest o s)
  | aptClearKeyCounters o => exact fixed_of_kept (execAptClearKeyCounters_rest o s)
  | markBegin o data => exact fixed_of_kept (execMarkBegin_rest o data s)
  | markEnd o data => exact fixed_of_kept (execMarkEnd_rest o data s)
  | markPoint o data => exact fixed_of_kept (execMarkPoint_rest o data s)
  | cbtWrite => exact fixed_of_kept (execCbtWrite_rest s)
  | cbtRead => exact fixed_of_kept (execCbtRead_rest s)
  | cbtSetPoison => exact fixed_of_kept (execCbtSetPoison_rest s)
  | cbtClrPoison => exact fixed_of_kept (execCbtClrPoison_rest s)
  | nop pk => exact fixed_of_kept (execNop_rest pk s)
  | identify pk => exact fixed_of_kept (execIdentify_rest pk s)
  | modeSet pk => exact execModeSet_fix pk s
  | settingsSave pk => exact fixed_of_kept (execSettingsSave_rest pk s)
  | settingsSaveDone => exact fixed_of_kept (execSettingsSaveDone_rest s)
  | healthCfg pk => exact fixed_of_kept (execHealthCfg_rest pk s)
  | probeOwners pk => exact fixed_of_kept (execProbeOwners_rest pk s)
  | rangeSet pk => exact fixed_of_kept (execRangeSet_rest pk s)
  | pmcConfig pk => exact fixed_of_kept (execPmcConfig_rest pk s)
  | counterEnable pk => exact fixed_of_kept (execCounterEnable_rest pk s)
  | counterWrite pk => exact fixed_of_kept (execCounterWrite_rest pk s)
  | ovfClear pk => exact fixed_of_kept (execOvfClear_rest pk s)
  | snapshot pk => exact fixed_of_kept (execSnapshot_rest pk s)
  | probeTiming pk => exact fixed_of_kept (execProbeTiming_rest pk s)
  | tallySet pk => exact fixed_of_kept (execTallySet_rest pk s)
  | samplerConfig pk => exact fixed_of_kept (execSamplerConfig_rest pk s)
  | cmdStream pk => exact fixed_of_kept (execCmdStream_rest pk s)
  | edgeStream pk => exact fixed_of_kept (execEdgeStream_rest pk s)
  | tieMode pk => exact fixed_of_kept (execTieMode_rest pk s)
  | probeStatus pk => exact fixed_of_kept (execProbeStatus_rest pk s)
  | partitionSet pk => exact fixed_of_kept (execPartitionSet_rest pk s)
  | ownerExport pk => exact fixed_of_kept (execOwnerExport_rest pk s)
  | exportSet pk => exact fixed_of_kept (execExportSet_rest pk s)
  | flush pk => exact fixed_of_kept (execFlush_rest pk s)
  | ledgerSet pk => exact fixed_of_kept (execLedgerSet_rest pk s)
  | ledgerTrigger pk => exact fixed_of_kept (execLedgerTrigger_rest pk s)
  | ledgerRelease pk => exact fixed_of_kept (execLedgerRelease_rest pk s)
  | ledgerRead pk => exact fixed_of_kept (execLedgerRead_rest pk s)
  | ledgerReadDone o => exact fixed_of_kept (execLedgerReadDone_rest o s)
  | ledgerStatus pk => exact fixed_of_kept (execLedgerStatus_rest pk s)
  | tapSafety pk => exact fixed_of_kept (execTapSafety_rest pk s)
  | tapMeasure pk => exact fixed_of_kept (execTapMeasure_rest pk s)
  | tableBase pk => exact fixed_of_kept (execTableBase_rest pk s)
  | tableEntry pk => exact fixed_of_kept (execTableEntry_rest pk s)
  | watchAssign pk => exact fixed_of_kept (execWatchAssign_rest pk s)
  | watchConfig pk => exact fixed_of_kept (execWatchConfig_rest pk s)
  | watchArm pk => exact fixed_of_kept (execWatchArm_rest pk s)
  | assayCounters pk => exact fixed_of_kept (execAssayCounters_rest pk s)
  | tapReenable pk => exact fixed_of_kept (execTapReenable_rest pk s)
  | opSubmit pk => exact fixed_of_kept (execOpSubmit_rest pk s)
  | opCancel pk => exact fixed_of_kept (execOpCancel_rest pk s)
  | itinLoad pk => exact fixed_of_kept (execItinLoad_rest pk s)
  | itinLoadDone => exact fixed_of_kept (execItinLoadDone_rest s)
  | modelLoad pk => exact fixed_of_kept (execModelLoad_rest pk s)
  | modelLoadDone => exact fixed_of_kept (execModelLoadDone_rest s)
  | slotUnload pk => exact fixed_of_kept (execSlotUnload_rest pk s)
  | chAllot pk => exact fixed_of_kept (execChAllot_rest pk s)
  | chStatus pk => exact fixed_of_kept (execChStatus_rest pk s)
  | timeStatus pk => exact fixed_of_kept (execTimeStatus_rest pk s)
  | servoSet pk => exact fixed_of_kept (execServoSet_rest pk s)
  | reanchor pk => exact fixed_of_kept (execReanchor_rest pk s)
  | laneAsym pk => exact fixed_of_kept (execLaneAsym_rest pk s)
  | powerPolicy pk => exact fixed_of_kept (execPowerPolicy_rest pk s)
  | envelopeSet pk => exact fixed_of_kept (execEnvelopeSet_rest pk s)
  | derateSet pk => exact fixed_of_kept (execDerateSet_rest pk s)
  | coolantReport pk => exact fixed_of_kept (execCoolantReport_rest pk s)
  | domainSet pk => exact fixed_of_kept (execDomainSet_rest pk s)
  | domainSetDone => exact fixed_of_kept (execDomainSetDone_rest s)
  | domainAssign pk => exact fixed_of_kept (execDomainAssign_rest pk s)
  | frameSchedule pk => exact fixed_of_kept (execFrameSchedule_rest pk s)
  | framePlan pk => exact fixed_of_kept (execFramePlan_rest pk s)
  | powerStatus pk => exact fixed_of_kept (execPowerStatus_rest pk s)
  | charterBegin pk => exact execCharterBegin_fix pk s
  | charterEnd pk => exact execCharterEnd_fix pk s
  | charterScrubStart => exact execCharterScrubStart_fix s
  | charterScrubDone verified => exact execCharterScrubDone_fix verified s
  | attest pk => exact fixed_of_kept (execAttest_rest pk s)
  | keyAgree pk => exact fixed_of_kept (execKeyAgree_rest pk s)
  | keyInstall pk => exact execKeyInstall_fix pk s
  | keyZeroise pk readback => exact fixed_of_kept (execKeyZeroise_rest pk readback s)
  | linkMode pk => exact fixed_of_kept (execLinkMode_rest pk s)
  | charterStatus pk => exact fixed_of_kept (execCharterStatus_rest pk s)
  | surveySet pk => exact fixed_of_kept (execSurveySet_rest pk s)
  | surveyPredict pk => exact fixed_of_kept (execSurveyPredict_rest pk s)
  | surveyPredictDone => exact fixed_of_kept (execSurveyPredictDone_rest s)
  | surveyCheckpoint pk => exact fixed_of_kept (execSurveyCheckpoint_rest pk s)
  | surveyCheckpointDone => exact fixed_of_kept (execSurveyCheckpointDone_rest s)
  | surveyRecal pk => exact fixed_of_kept (execSurveyRecal_rest pk s)
  | surveyRecalDone readings => exact fixed_of_kept (execSurveyRecalDone_rest readings s)
  | surveyRead pk => exact fixed_of_kept (execSurveyRead_rest pk s)
  | faultRead pk => exact fixed_of_kept (execFaultRead_rest pk s)
  | faultRelease pk => exact fixed_of_kept (execFaultRelease_rest pk s)
  | faultPolicy pk => exact fixed_of_kept (execFaultPolicy_rest pk s)
  | faultInject pk => exact fixed_of_kept (execFaultInject_rest pk s)
  | updateBegin pk => exact fixed_of_kept (execUpdateBegin_rest pk s)
  | updateData pk => exact fixed_of_kept (execUpdateData_rest pk s)
  | updateCommit pk => exact fixed_of_kept (execUpdateCommit_rest pk s)
  | updateCommitDone => exact fixed_of_kept (execUpdateCommitDone_rest s)
  | updateAbort pk => exact fixed_of_kept (execUpdateAbort_rest pk s)
  | logbookRead pk => exact fixed_of_kept (execLogbookRead_rest pk s)
  | stpControl pk => exact fixed_of_kept (execStpControl_rest pk s)
  | serviceStatus pk => exact fixed_of_kept (execServiceStatus_rest pk s)
  | spareFuse pk => exact fixed_of_kept (execSpareFuse_rest pk s)
  | spareFuseDone _ => cases hst
  | coreRetest pk => exact fixed_of_kept (execCoreRetest_rest pk s)
  | coreRetestDone pass => exact fixed_of_kept (execCoreRetestDone_rest pass s)
  | instantActionDue idx => exact execInstantActionDue_fix idx s
  | commandIssue p c => exact fixed_of_kept (execCommandIssue_rest p c s)
  | commandRetire p c flushed => exact fixed_of_kept (execCommandRetire_rest p c flushed s)
  | preciseSample p => exact fixed_of_kept (execPreciseSample_rest p s)
  | stageEntry p stage tid => exact fixed_of_kept (execStageEntry_rest p stage tid s)
  | evtEdge p line rising levels => exact fixed_of_kept (execEvtEdge_rest p line rising levels s)
  | rateExceeded p line => exact fixed_of_kept (execRateExceeded_rest p line s)
  | charterSwitch p charter priv => exact fixed_of_kept (execCharterSwitch_rest p charter priv s)
  | counterWrap p i0 => exact fixed_of_kept (execCounterWrap_rest p i0 s)
  | tallyDump d => exact fixed_of_kept (execTallyDump_rest d s)
  | slotInvariantCheck p => exact fixed_of_kept (execSlotInvariantCheck_rest p s)
  | snapshotTake p bad => exact fixed_of_kept (execSnapshotTake_rest p bad s)
  | periodicSnapshot p => exact fixed_of_kept (execPeriodicSnapshot_rest p s)
  | frameSyncSnapshot p => exact fixed_of_kept (execFrameSyncSnapshot_rest p s)
  | clkStretchReport p => exact fixed_of_kept (execClkStretchReport_rest p s)
  | clkStretchEnd p => exact fixed_of_kept (execClkStretchEnd_rest p s)
  | clkHalt p => exact fixed_of_kept (execClkHalt_rest p s)
  | clkResume p => exact fixed_of_kept (execClkResume_rest p s)
  | hrstNAssert p => exact fixed_of_kept (execHrstNAssert_rest p s)
  | hrstNRelease p => exact fixed_of_kept (execHrstNRelease_rest p s)
  | probePowerUp p => exact fixed_of_kept (execProbePowerUp_rest p s)
  | fatalIn p pos neg => exact fixed_of_kept (execFatalIn_rest p pos neg s)
  | fatalRail p v => exact fixed_of_kept (execFatalRail_rest p v s)
  | tclkLoss p absent => exact fixed_of_kept (execTclkLoss_rest p absent s)
  | tinSample sec ns step phase => exact fixed_of_kept (execTinSample_rest sec ns step phase s)
  | ppsEdge phase => exact fixed_of_kept (execPpsEdge_rest phase s)
  | servoRun => exact fixed_of_kept (execServoRun_rest s)
  | stepEdge => cases hst
  | timeInputLost => exact fixed_of_kept (execTimeInputLost_rest s)
  | tsyncLoad flips => exact fixed_of_kept (execTsyncLoad_rest flips s)
  | tsyncRate flips => exact fixed_of_kept (execTsyncRate_rest flips s)
  | tsyncStatus flips => exact fixed_of_kept (execTsyncStatus_rest flips s)
  | tsyncCheck flips => exact fixed_of_kept (execTsyncCheck_rest flips s)
  | sync fr t1 => exact fixed_of_kept (execSync_rest fr t1 s)
  | syncAck fr t2 t3 => exact fixed_of_kept (execSyncAck_rest fr t2 t3 s)
  | syncRsp fr t4 => exact fixed_of_kept (execSyncRsp_rest fr t4 s)
  | laneARestore peer => exact fixed_of_kept (execLaneARestore_rest peer s)
  | asymMeasureDone peer => exact fixed_of_kept (execAsymMeasureDone_rest peer s)
  | epochMsg fr epoch step cvt => exact fixed_of_kept (execEpochMsg_rest fr epoch step cvt s)
  | followerStep => cases hst
  | state fr tstate part sleep => exact fixed_of_kept (execState_rest fr tstate part sleep s)
  | peerSleepTimeout peer => exact fixed_of_kept (execPeerSleepTimeout_rest peer s)
  | partitionSplit reach => exact fixed_of_kept (execPartitionSplit_rest reach s)
  | hello peer lane chip sealedMode housing => exact fixed_of_kept (execHello_rest peer lane chip sealedMode housing s)
  | timeSyncDue => exact fixed_of_kept (execTimeSyncDue_rest s)
  | basinAdmit ch => exact fixed_of_kept (execBasinAdmit_rest ch s)
  | sourceRecordTimeout src => exact fixed_of_kept (execSourceRecordTimeout_rest src s)
  | lossToken src => exact fixed_of_kept (execLossToken_rest src s)
  | weirAccumTimeout idx => exact fixed_of_kept (execWeirAccumTimeout_rest idx s)
  | weirMarkWrite => exact fixed_of_kept (execWeirMarkWrite_rest s)
  | sourceSilent src o => exact fixed_of_kept (execSourceSilent_rest src o s)
  | standingWeirMark p => exact fixed_of_kept (execStandingWeirMark_rest p s)
  | lighterOpen channel => exact fixed_of_kept (execLighterOpen_rest channel s)
  | lighterFlushTimeout o => exact fixed_of_kept (execLighterFlushTimeout_rest o s)
  | unitLeave u => exact fixed_of_kept (execUnitLeave_rest u s)
  | managerRequestIssue => exact fixed_of_kept (execManagerRequestIssue_rest s)
  | managerCredit wd => exact fixed_of_kept (execManagerCredit_rest wd s)
  | mgrWriteDone tag st => exact fixed_of_kept (execMgrWriteDone_rest tag st s)
  | mgrReadLine tag data last st psn => exact fixed_of_kept (execMgrReadLine_rest tag data last st psn s)
  | ledgerFreeze => exact fixed_of_kept (execLedgerFreeze_rest s)
  | ledgerPostTimeout => exact fixed_of_kept (execLedgerPostTimeout_rest s)
  | ledgerSeal => exact fixed_of_kept (execLedgerSeal_rest s)
  | ledgerSummaryWrite => exact fixed_of_kept (execLedgerSummaryWrite_rest s)
  | stpLaneUp lanes => exact fixed_of_kept (execStpLaneUp_rest lanes s)
  | stpTrain => exact fixed_of_kept (execStpTrain_rest s)
  | trainAck ok => exact fixed_of_kept (execTrainAck_rest ok s)
  | stpTrainTimeout => exact fixed_of_kept (execStpTrainTimeout_rest s)
  | stpTrainRetry => exact fixed_of_kept (execStpTrainRetry_rest s)
  | stpFrame lane => exact fixed_of_kept (execStpFrame_rest lane s)
  | pause lanes dur => exact fixed_of_kept (execPause_rest lanes dur s)
  | pauseEnd lane => exact fixed_of_kept (execPauseEnd_rest lane s)
  | tapBeat t b => exact fixed_of_kept (execTapBeat_rest t b s)
  | tableFetchDone => exact fixed_of_kept (execTableFetchDone_rest s)
  | tableWritebackDone => exact fixed_of_kept (execTableWritebackDone_rest s)
  | rescaleAck t => exact fixed_of_kept (execRescaleAck_rest t s)
  | dumpBlockWrite => exact fixed_of_kept (execDumpBlockWrite_rest s)
  | periodOpReady idx => exact fixed_of_kept (execPeriodOpReady_rest idx s)
  | opStart => exact fixed_of_kept (execOpStart_rest s)
  | opDeadlineExpiry o seq => exact fixed_of_kept (execOpDeadlineExpiry_rest o seq s)
  | opBudgetExceeded => exact fixed_of_kept (execOpBudgetExceeded_rest s)
  | opComplete => exact fixed_of_kept (execOpComplete_rest s)
  | coreResidueMismatch c => exact fixed_of_kept (execCoreResidueMismatch_rest c s)
  | coreWatchdog c => exact fixed_of_kept (execCoreWatchdog_rest c s)
  | coreSelfTest c pass => exact fixed_of_kept (execCoreSelfTest_rest c pass s)
  | ld c => exact fixed_of_kept (execLd_rest c s)
  | st c => exact fixed_of_kept (execSt_rest c s)
  | ldm c => exact fixed_of_kept (execLdm_rest c s)
  | recv c => exact fixed_of_kept (execRecv_rest c s)
  | emit c => exact fixed_of_kept (execEmit_rest c s)
  | gets c => exact fixed_of_kept (execGets_rest c s)
  | sop c => exact fixed_of_kept (execSop_rest c s)
  | bcast c => exact fixed_of_kept (execBcast_rest c s)
  | xlane c => exact fixed_of_kept (execXlane_rest c s)
  | add c => exact fixed_of_kept (execAdd_rest c s)
  | sub c => exact fixed_of_kept (execSub_rest c s)
  | mul c => exact fixed_of_kept (execMul_rest c s)
  | fma c => exact fixed_of_kept (execFma_rest c s)
  | div c => exact fixed_of_kept (execDiv_rest c s)
  | sqrt c => exact fixed_of_kept (execSqrt_rest c s)
  | min c => exact fixed_of_kept (execMin_rest c s)
  | max c => exact fixed_of_kept (execMax_rest c s)
  | abs c => exact fixed_of_kept (execAbs_rest c s)
  | exp2 c => exact fixed_of_kept (execExp2_rest c s)
  | log2 c => exact fixed_of_kept (execLog2_rest c s)
  | cvt c => exact fixed_of_kept (execCvt_rest c s)
  | quant c => exact fixed_of_kept (execQuant_rest c s)
  | deq c => exact fixed_of_kept (execDeq_rest c s)
  | mxapply c => exact fixed_of_kept (execMxapply_rest c s)
  | cmp c => exact fixed_of_kept (execCmp_rest c s)
  | sel c => exact fixed_of_kept (execSel_rest c s)
  | mcount c => exact fixed_of_kept (execMcount_rest c s)
  | red c => exact fixed_of_kept (execRed_rest c s)
  | argmax c => exact fixed_of_kept (execArgmax_rest c s)
  | dot c => exact fixed_of_kept (execDot_rest c s)
  | macc c => exact fixed_of_kept (execMacc_rest c s)
  | accrd c => exact fixed_of_kept (execAccrd_rest c s)
  | accclr c => exact fixed_of_kept (execAccclr_rest c s)
  | hist c => exact fixed_of_kept (execHist_rest c s)
  | lut c => exact fixed_of_kept (execLut_rest c s)
  | bitop c => exact fixed_of_kept (execBitop_rest c s)
  | field c => exact fixed_of_kept (execField_rest c s)
  | qtref c => exact fixed_of_kept (execQtref_rest c s)
  | allred c => exact fixed_of_kept (execAllred_rest c s)
  | xchg c => exact fixed_of_kept (execXchg_rest c s)
  | bar c => exact fixed_of_kept (execBar_rest c s)
  | loop c => exact fixed_of_kept (execLoop_rest c s)
  | endl c => exact fixed_of_kept (execEndl_rest c s)
  | brz c => exact fixed_of_kept (execBrz_rest c s)
  | halt c => exact fixed_of_kept (execHalt_rest c s)
  | sensorScan readings => exact fixed_of_kept (execSensorScan_rest readings s)
  | rmonSample ch power current => exact fixed_of_kept (execRmonSample_rest ch power current s)
  | envelopeInputLost ch => exact fixed_of_kept (execEnvelopeInputLost_rest ch s)
  | surveyTick reads => exact fixed_of_kept (execSurveyTick_rest reads s)
  | journalEntry => exact fixed_of_kept (execJournalEntry_rest s)
  | journalCheckpoint => exact fixed_of_kept (execJournalCheckpoint_rest s)
  | coolantSeriesStale => exact fixed_of_kept (execCoolantSeriesStale_rest s)
  | coolantReportLost => exact fixed_of_kept (execCoolantReportLost_rest s)
  | powerStateChoice => cases hst
  | sleepEntryComplete => cases hst
  | wakeTimer => exact fixed_of_kept (execWakeTimer_rest s)
  | wakeEvent kind => exact fixed_of_kept (execWakeEvent_rest kind s)
  | sleepExitComplete => cases hst
  | coreIdleOff => exact fixed_of_kept (execCoreIdleOff_rest s)
  | envelopeLoop upset => exact fixed_of_kept (execEnvelopeLoop_rest upset s)
  | envelopeShed => exact fixed_of_kept (execEnvelopeShed_rest s)
  | hostDomainOffStart h => exact fixed_of_kept (execHostDomainOffStart_rest h s)
  | hostDomainOnStart h => exact fixed_of_kept (execHostDomainOnStart_rest h s)
  | pswReqIssue => exact fixed_of_kept (execPswReqIssue_rest s)
  | pswAck h level => exact fixed_of_kept (execPswAck_rest h level s)
  | pswTimeout h => exact fixed_of_kept (execPswTimeout_rest h s)
  | frameSync => exact fixed_of_kept (execFrameSync_rest s)
  | frameScheduleTick => exact fixed_of_kept (execFrameScheduleTick_rest s)
  | framePlanStep => exact fixed_of_kept (execFramePlanStep_rest s)
  | frameMissed => exact fixed_of_kept (execFrameMissed_rest s)
  | faultRaise r => exact fixed_of_kept (execFaultRaise_rest r s)
  | classTableFallback => exact fixed_of_kept (execClassTableFallback_rest s)
  | keeperLockstepMismatch => exact fixed_of_kept (execKeeperLockstepMismatch_rest s)
  | keeperWatchdogExpiry => exact fixed_of_kept (execKeeperWatchdogExpiry_rest s)
  | keeperMemUe word => exact fixed_of_kept (execKeeperMemUe_rest word s)
  | heartbeatToggle => exact fixed_of_kept (execHeartbeatToggle_rest s)
  | fcSelfTest failing => exact fixed_of_kept (execFcSelfTest_rest failing s)
  | lockstepSelfTest pass => exact fixed_of_kept (execLockstepSelfTest_rest pass s)
  | aonMonitorTest pass => exact fixed_of_kept (execAonMonitorTest_rest pass s)
  | aonRefLoss lost => exact fixed_of_kept (execAonRefLoss_rest lost s)
  | patrolVisit bank copy obs => exact fixed_of_kept (execPatrolVisit_rest bank copy obs s)
  | checkerSelfTest bank copy pass => exact fixed_of_kept (execCheckerSelfTest_rest bank copy pass s)
  | rowMigrationDone bank copy => exact fixed_of_kept (execRowMigrationDone_rest bank copy s)
  | suspectExpiry bank copy => exact fixed_of_kept (execSuspectExpiry_rest bank copy s)
  | eccBucketLeak => exact fixed_of_kept (execEccBucketLeak_rest s)
  | mergeRmwTimeout m => exact fixed_of_kept (execMergeRmwTimeout_rest m s)
  | svcPlugIn => exact fixed_of_kept (execSvcPlugIn_rest s)
  | svcUnplug => exact fixed_of_kept (execSvcUnplug_rest s)
  | buttonPress => exact fixed_of_kept (execButtonPress_rest s)
  | buttonRelease => exact fixed_of_kept (execButtonRelease_rest s)
  | buttonHold => exact fixed_of_kept (execButtonHold_rest s)
  | buttonStuck => exact fixed_of_kept (execButtonStuck_rest s)
  | shortPress => exact fixed_of_kept (execShortPress_rest s)
  | buttonNoiseWindow edges => exact fixed_of_kept (execButtonNoiseWindow_rest edges s)
  | hclkEdge p e => exact fixed_of_kept (execHclkEdge_rest p e s)
  | snapshotCopyDone p => exact fixed_of_kept (execSnapshotCopyDone_rest p s)
  | keeperRestartComplete => cases hst
  | wrstNRelease => exact fixed_of_kept (execWrstNRelease_rest s)
  | convoyExchangeFail peer lane => exact fixed_of_kept (execConvoyExchangeFail_rest peer lane s)
  | hostSwitchedDomainOff h => exact fixed_of_kept (execHostSwitchedDomainOff_rest h s)
  | scratchProgram => exact fixed_of_kept (execScratchProgram_rest s)
  | probeOutputLinkError p => exact fixed_of_kept (execProbeOutputLinkError_rest p s)

end Sys2Proof.Machine
end

