-- ==== Sys2Proof/Tests/Slice0.lean ====
section
/-! SUPPORT. Tests: the well-formedness smoke, and for every statement of the provers a concrete state and operands that meet
its hypotheses. -/

namespace Sys2Proof.Tests

open Machine

/-- A block with its firmware running in SERVICE, charter 2 ACTIVE. -/
def live : State :=
  { State.reset with
    dev := { Dev.reset with mode := .service, phase := .running, ready := true }
    chart := { State.reset.chart with st := [(2, .active)] } }

/-- A packet of the harbourmaster, and one of charter 2. -/
def hmPk (ps : List W32) : Pkt := ⟨16, 1, 16, false, false, false, ps⟩
def chPk (ps : List W32) : Pkt := ⟨2, 1, 2, false, false, false, ps⟩

/-- Charter 2 owns every resource of probe 3. -/
def owning : State :=
  { live with probes := [(3, { Probe.zero with cfg := { ProbeCfg.zero with
      fixedOwner := 2, pmcOwner := [(0, 2), (1, 2)], samplerOwner := 2, cmdOwner := 2, edgeOwner := 2, rangeOwner := [(1, 2)] } })] }

/-! ## Ill-formed commands: one for each check, refused -/

/-- L of a packet is at most 255 (R381). -/
theorem smoke_packet_length : (Instr.nop (hmPk (List.replicate 256 0))).wf = false ∧ (Instr.nop (hmPk (List.replicate 255 0))).wf = true := by
  decide +kernel

/-- Bank 3 has rows 0 to 1,023 (R437). -/
theorem smoke_faulty_row : (Instr.coldStart 0 ⟨[⟨3, false, 1024⟩], [], [], false⟩).wf = false ∧ (Instr.coldStart 0 ⟨[⟨3, false, 1023⟩], [], [], false⟩).wf = true := by decide

/-- A sensor scan reads the sensors 72 to 103, each at most once (R324). -/
theorem smoke_sensor_address : (Instr.sensorScan [⟨71, some 0⟩]).wf = false ∧ (Instr.sensorScan [⟨103, some 0⟩]).wf = true ∧
    (Instr.sensorScan [⟨104, some 0⟩]).wf = false := by decide

theorem smoke_sensor_twice : (Instr.sensorScan [⟨72, some 0⟩, ⟨72, some 1⟩]).wf = false ∧
    (Instr.sensorScan [⟨72, some 0⟩, ⟨73, none⟩]).wf = true := by decide

/-- A survey tick reads the monitors 0 to 71. -/
theorem smoke_monitor_address : (Instr.surveyTick ⟨[⟨72, some 0⟩], 0, [], false⟩).wf = false ∧ (Instr.surveyTick ⟨[⟨71, some 0⟩], 0, [], false⟩).wf = true := by decide

/-- A recalibration takes at most 584 readings. -/
theorem smoke_recal_count : (Instr.surveyRecalDone (List.replicate 585 ⟨0, none⟩)).wf = false := by decide +kernel

/-! StepRunsFrontCommand -/

theorem witness_step : ({ live with pending := [Instr.ppsEdge 1, Instr.servoRun] }).pending = Instr.ppsEdge 1 :: [Instr.servoRun] := by decide

/-! IdleStepPassesTime -/

theorem witness_idle : live.pending = [] ∧ live.dev.phase ≠ .held ∧ live.clk.tclk = true ∧ live.clk.phase < 40 ∧
    ({ live with clk := { live.clk with tclk := false } }).clk.tclk = false ∧ State.reset.dev.phase = .held ∧
    ({ live with clk := { live.clk with stop := true, phase := 39 } }).clk.stop = true := by decide

/-! ModeInvariant -/

theorem witness_modeInvariant : live.modeWf ∧ step live = .next (tick live) := ⟨by unfold State.modeWf; decide, rfl⟩

/-! IntegrationValuesFixed -/

theorem witness_integration : exec .servoRun State.reset = .next State.reset ∧
    (∀ a b, Instr.servoRun ≠ .coldStart a b) ∧ (∀ r, Instr.servoRun ≠ .spareFuseDone r) := by
  refine ⟨rfl, ?_, ?_⟩ <;> intros <;> nofun

/-! WhoMovesTimeAndPower -/

theorem witness_movers : exec .servoRun State.reset = .next State.reset ∧ (Instr.servoRun ≠ .stepEdge ∧ Instr.servoRun ≠ .followerStep ∧
    Instr.servoRun ≠ .porstNAssert) ∧ Instr.servoRun ≠ .powerStateChoice ∧ Instr.servoRun ≠ .sleepEntryComplete ∧
    Instr.servoRun ≠ .sleepExitComplete ∧ (∀ c, Instr.servoRun ≠ .warmReset c) := by
  refine ⟨rfl, by decide, by decide, by decide, by decide, ?_⟩
  intros; nofun

/-! PacketOfAnotherCharter -/

def strayPk : Pkt := { hmPk [] with chart := 3 }
theorem witness_strayPacket : asked (.nop strayPk) = some (specNop, strayPk) ∧ live.serving ∧ (live.apt strayPk.o).closed = false ∧
    (specNop.needsSlot strayPk live = true → (live.apt strayPk.o).freeSlot ≠ none) ∧ strayPk.chart.toNat ≠ strayPk.o :=
  ⟨rfl, by unfold State.serving; decide, by decide, by decide, by decide⟩

/-! PacketChecksInOrder -/

/-- Charter 3 is INACTIVE. -/
def idlePk (ps : List W32) : Pkt := { chPk ps with owner := 3, chart := 3 }
theorem witness_badOpcode : asked (.packetBadOpcode 0x05 (hmPk [])) =
      some ({ op := 0x05, priv := .any, len := fun _ => true, reserved := true }, hmPk []) ∧ live.serving ∧
    (live.apt 16).closed = false ∧ (hmPk []).chart.toNat = (hmPk []).o :=
  ⟨rfl, by unfold State.serving; decide, by decide, by decide⟩
theorem witness_closedAperture : asked (.nop (hmPk [])) = some (specNop, hmPk []) ∧
    ((live.setApt 16 { Apt.zero with closed := true }).apt (hmPk []).o).closed = true := ⟨rfl, by decide⟩
/-- The firmware image is not known yet (R487). -/
def booting : State := { State.reset with dev := { State.reset.dev with phase := .started } }
theorem witness_busyInBoot : booting.dev.mode = .boot ∧ booting.dev.phase ≠ .held ∧ (booting.apt 16).closed = false ∧
    booting.lk.st = .underway ∧ booting.lk.entering = none := by decide
theorem witness_barred : asked (.modeSet (chPk [2])) = some (specModeSet, chPk [2]) ∧ specModeSet.reserved = false ∧
    (specModeSet.priv = .hmOnly ∧ (chPk [2]).o ≠ hm) := ⟨rfl, by decide⟩
theorem witness_badLength : specNop.len (hmPk [7]).ps = false ∧ specNop.priv ≠ .hmOnly ∧ specNop.mode = none ∧ specNop.reserved = false := by
  decide
theorem witness_badFlag : ({ hmPk [] with streamed := true } : Pkt).streamed = true ∧ specNop.streamed = false ∧
    specNop.len ({ hmPk [] with streamed := true } : Pkt).ps = true := by decide
theorem witness_noCharter : asked (.nop (idlePk [])) = some (specNop, idlePk []) ∧ (idlePk []).o ≠ hm ∧ live.active (idlePk []).o = false ∧
    specNop.free = false ∧ (idlePk []).chart.toNat = (idlePk []).o ∧ specNop.permit 3 live = true := ⟨rfl, by decide⟩
theorem witness_leaving : ({ live with chart := { live.chart with turnover := some ⟨2, 16, 1, 0, false, 0, false⟩ } }).leaves 2 = true := by
  decide

/-! CompletionSlots -/

def asyncPk : Pkt := { hmPk [] with async := true }
def oneTaken : State := live.setApt 16 { Apt.zero with s1 := { Slot.zero with full := true } }
theorem witness_slots : asked (.nop asyncPk) = some (specNop, asyncPk) ∧ Heard specNop asyncPk oneTaken ∧ asyncPk.async = true ∧
    ((oneTaken.apt asyncPk.o).slot 2).pending = false ∧ ((oneTaken.apt asyncPk.o).slot 2).full = false ∧
    ((oneTaken.apt asyncPk.o).slot 1).full = true :=
  ⟨rfl, by unfold Heard State.serving; decide, by decide⟩

/-! StatedInstants -/

/-- COUNTER_ENABLE of charter 2's probe 3 with an instant of 1 s of CVT, and the state that waits for it. -/
def instantPk : Pkt := chPk [8, 0, 0, 0, 0x203F, 0, 0x10000, 0]
def lockedOwning : State := { owning with time := { owning.time with st := .locked } }
def instantOf : Nat := fineOf96 (instantPk.cvt 6)
theorem witness_instant : preCheck specCounterEnable instantPk lockedOwning = none ∧ specCounterEnable.at_ instantPk = some instantOf ∧
    lockedOwning.time.cvt < instantOf ∧ instantOf ≤ lockedOwning.time.cvt + 60000 * msFine ∧ lockedOwning.uncertain = false := by decide
def waiting : State :=
  { lockedOwning with
    time := { lockedOwning.time with cvt := instantOf }
    esl := { lockedOwning.esl with held := [⟨0x13, instantPk, 0, instantOf, 0, false⟩] } }
theorem witness_instantDue : waiting.esl.held[0]? = some ⟨0x13, instantPk, 0, instantOf, 0, false⟩ ∧ waiting.asleep = false ∧
    waiting.dev.restarting = false ∧ instantOf ≤ waiting.time.cvt ∧ waiting.esl.deferred = [] := by decide

/-! DevicePackets -/

theorem witness_packetBadOpcode : assignedOp (0x20 : BitVec 8).toNat = false ∧ live.serving ∧ (live.apt (hmPk []).o).closed = false ∧
    (hmPk []).chart.toNat = (hmPk []).o := by unfold State.serving; decide
theorem witness_nop : Heard specNop (chPk []) live := by unfold Heard State.serving; decide
theorem witness_identify : Heard specIdentify (chPk []) live := by unfold Heard State.serving; decide

/-! RegisterWrites -/

theorem witness_registerWrites : live.dev.phase ≠ .held := by decide
theorem witness_registerAccess_misaligned : accepted 0x2002 true false 0x0F = false ∧ accepted 0x2004 true false 0x07 = false ∧
    accepted 0x2004 true true 0xFF = false := by decide
theorem witness_registerAccess_unassigned : accepted 0x5000 false false 0 = true ∧ (live.hostAccess.regRead 0 0x5000) = none ∧
    accepted (17 * 0x80000) false true 0 = true := by decide
theorem witness_registerAccess_assigned : (live.hostAccess.regRead 2 0x2008).isSome = true ∧ (live.hostAccess.regRead 2 0x200C).isSome = true ∧
    live.hostAccess.regRead 2 0x2000 = some 0 := by decide

/-! CommandApertureWrites -/

theorem witness_commandAperture_fill : fld ((putWord [0x55010180] 1 7).headD 0) 16 8 = 1 := by decide
theorem witness_commandAperture_open : (live.apt 2).closed = false := by decide

/-! WindowCommands -/

/-- Slot 1 of charter 2 full, its set naming probe 3, on which it owns a counter. -/
def windowed : State :=
  { (live.setApt 2 { Apt.zero with s1 := { Slot.zero with full := true } }).setSnapWin 2 { SnapWin.zero with set := 8 } with
    probes := [(3, { Probe.zero with cfg := { ProbeCfg.zero with fixedOwner := 2 } })] }
theorem witness_replySlotRelease : ((windowed.apt 2).slot 1).full = true := by decide
theorem witness_snapTrigger : windowed.snapRejects 2 (windowed.snapWin 2).set = false ∧
    windowed.snapHeld (windowed.snapWin 2).set = false := by decide
theorem witness_snapTrigger_rejects : live.snapRejects 2 (live.snapWin 2).set = true := by decide

/-! MarkerWrites -/

def marking : State := { live with esl := { live.esl with marker := 4 } }
theorem witness_marker : marking.esl.marker.getLsbD 2 = true ∧ marking.active 2 = true := by decide
theorem witness_marker_discard : live.esl.marker.getLsbD 2 = false := by decide

/-! CheckBitTestPort -/

/-- In TEST, the port at word 5 of bank 8, which is listed. -/
def testing : State :=
  { live with
    dev := { live.dev with mode := .test }
    ecc := { Ecc.reset with word := [(eccKey 8 false 5, ⟨1, 2, true, false⟩)], cbt := { Ecc.reset.cbt with bank := 8, word := 5 } } }
theorem witness_checkBitPort : testing.ecc.cbt.bank < 34 ∧ testing.ecc.cbt.word < bankWords testing.ecc.cbt.bank ∧
    (testing.bank (bankKey 8 false)).merge = [] ∧ testing.word? 8 false 5 = some ⟨1, 2, true, false⟩ := by decide
theorem witness_checkBitPort_unlisted : testing.word? 8 false 6 = none := by decide
theorem witness_checkBitPort_refused : live.dev.mode ≠ .test := by decide

/-! ProbeOwnershipPackets -/

def ownersPk : Pkt := hmPk [8, 0, 0, 0, 1033186, 0x3FFFFFFF, 0x3FFFFFFF]
theorem witness_probeOwners : Heard specProbeOwners ownersPk live ∧ SetFits ownersPk live (fun _ => True) ∧
    (∀ f ∈ ownerFields ownersPk, (f.2 = 31 ∨ f.2 = 16 ∨ f.2 < 16 ∧ live.active f.2 = true)) := by
  unfold Heard State.serving SetFits; decide
def rangePk : Pkt := chPk [8, 0, 0, 0, 1, 64, 0, 128, 0]
theorem witness_rangeSet : Heard specRangeSet rangePk owning ∧
    SetFits rangePk owning (fun x => tget x.cfg.rangeOwner (fld (rangePk.p 5) 0 2) hm = rangePk.o) ∧
    rangePk.addr 6 % 64 = 0 ∧ rangePk.addr 8 % 64 = 0 := by
  unfold Heard State.serving SetFits; decide
/-- PMC 1 of probe 3: event 0x17F, no range, enabled. -/
def pmcPk : Pkt := chPk [8, 0, 0, 0, 8399865, 0, 0, 0, 0]
theorem witness_pmcConfig : Heard specPmcConfig pmcPk owning ∧
    SetFits pmcPk owning (fun x => tget x.cfg.pmcOwner (fld (pmcPk.p 5) 0 3) hm = pmcPk.o ∧
      (fld (pmcPk.p 5) 21 3 < 4 → (tget x.cfg.rangeOwner (fld (pmcPk.p 5) 21 3) hm = pmcPk.o ∨
        tget x.cfg.rangeOwner (fld (pmcPk.p 5) 21 3) hm = hm))) ∧
    eventOk (fld (pmcPk.p 5) 3 10) = true ∧ fld (pmcPk.p 5) 21 3 ≤ 4 :=
  ⟨by unfold Heard State.serving; decide, by unfold SetFits; decide, by decide⟩
theorem witness_tieMode : Heard specTieMode (chPk [3]) live ∧ Heard specTieMode (chPk [0]) live ∧ flag ((chPk [0]).p 1) 0 = false :=
  ⟨by unfold Heard State.serving; decide, by unfold Heard State.serving; decide, by decide⟩
theorem witness_newOwner : (Probe.zero.setOwners [2]).cfg.ownerOf 0 ≠ Probe.zero.cfg.ownerOf 0 ∧
    (Probe.zero.setOwners [2]).cfg.ownerOf 5 = Probe.zero.cfg.ownerOf 5 := by decide

/-! ProbeCounterPackets -/

theorem witness_counterEnable : Heard specCounterEnable (chPk [8, 0, 0, 0, 0x203F, 0, 0, 0]) owning ∧
    SetFits (chPk [8, 0, 0, 0, 0x203F, 0, 0, 0]) owning (fun x =>
      x.cfg.owned 2 &&& BitVec.ofNat 13 (fld 0x203F 0 13) = BitVec.ofNat 13 (fld 0x203F 0 13)) := by
  unfold Heard State.serving SetFits; decide
theorem witness_counterWrite : Heard specCounterWrite (chPk [8, 0, 0, 0, 5, 0xFFFFFFFF, 0xFFFF, 0, 0, 0]) owning ∧
    SetFits (chPk [8, 0, 0, 0, 5, 0xFFFFFFFF, 0xFFFF, 0, 0, 0]) owning (fun x => x.cfg.ownerOf (fld 5 0 4) = 2) ∧
    (0xFFFFFFFF : W32).toNat + (0xFFFF : W32).toNat * 2 ^ 32 < 2 ^ ctrWidth (fld 5 0 4) := by
  unfold Heard State.serving SetFits; decide
/-- The same with the clock of probe 3 halted. -/
def haltedOwning : State := owning.modProbe 3 (fun x => { x with haltTs := some 0 })
theorem witness_counterWrite_runs : (chPk [8, 0, 0, 0, 5, 0xFFFFFFFF, 0xFFFF, 0, 0, 0]).probes.getLsbD 3 = true ∧
    (owning.probe 3).hrst = false ∧ (owning.probe 3).up = true ∧ (owning.probe 3).haltTs = none := by decide
theorem witness_counterWrite_halted : Heard specCounterWrite (chPk [8, 0, 0, 0, 5, 1, 0, 0, 0, 0]) haltedOwning ∧
    SetFits (chPk [8, 0, 0, 0, 5, 1, 0, 0, 0, 0]) haltedOwning (fun x => x.cfg.ownerOf (fld 5 0 4) = 2) ∧
    (∀ p < 128, (chPk [8, 0, 0, 0, 5, 1, 0, 0, 0, 0]).probes.getLsbD p = true → tget (haltedOwning.probe p).wr (fld 5 0 4) 0 = 0 ∧
      (haltedOwning.probe p).haltTs.isSome = true) := by
  unfold Heard State.serving SetFits; decide
theorem witness_ovfClear : Heard specOvfClear (chPk [8, 0, 0, 0, 0x3F]) owning ∧
    SetFits (chPk [8, 0, 0, 0, 0x3F]) owning (fun x =>
      x.cfg.owned 2 &&& BitVec.ofNat 13 (fld 0x3F 0 13) = BitVec.ofNat 13 (fld 0x3F 0 13)) := by
  unfold Heard State.serving SetFits; decide
theorem witness_tallySet : Heard specTallySet (chPk [8, 0, 0, 0, 10]) owning ∧
    SetFits (chPk [8, 0, 0, 0, 10]) owning (fun x => x.cfg.fixedOwner = 2) ∧ 10 ≤ fld 10 0 5 ∧ fld 23 0 5 ≤ 23 := by
  unfold Heard State.serving SetFits; decide
theorem witness_probeTiming : Heard specProbeTiming (hmPk [8, 0, 0, 0, 1000000, 0, 0]) live ∧
    SetFits (hmPk [8, 0, 0, 0, 1000000, 0, 0]) live (fun _ => True) := by
  unfold Heard State.serving SetFits; decide
theorem witness_snapshot : Heard specSnapshot (chPk [8, 0, 0, 0, 3, 0, 0, 0]) owning ∧
    SetFits (chPk [8, 0, 0, 0, 3, 0, 0, 0]) owning (fun x => x.cfg.owned 2 ≠ 0) ∧
    (chPk [8, 0, 0, 0, 3, 0, 0, 0]).probes.getLsbD 3 = true ∧ (owning.probe 3).snaps = true ∧
    (∀ p < 3, (chPk [8, 0, 0, 0, 3, 0, 0, 0]).probes.getLsbD p = false) := by
  unfold Heard State.serving SetFits; decide

/-! ProbeStreamPackets -/

def samplerPk : Pkt := chPk [8, 0, 0, 0, 164097, 0, 0x100000]
theorem witness_samplerConfig : Heard specSamplerConfig samplerPk owning ∧
    SetFits samplerPk owning (fun x => x.cfg.samplerOwner = 2 ∧
      (fld (samplerPk.p 5) 8 3 < 4 → tget x.cfg.rangeOwner (fld (samplerPk.p 5) 8 3) hm = 2 ∨
        tget x.cfg.rangeOwner (fld (samplerPk.p 5) 8 3) hm = hm)) ∧
    fld (samplerPk.p 5) 13 5 = 20 ∧ fld (samplerPk.p 7) 0 21 = 2 ^ 20 :=
  ⟨by unfold Heard State.serving; decide, by unfold SetFits; decide, by decide⟩
theorem witness_cmdStream : Heard specCmdStream (chPk [8, 0, 0, 0, 0x401, 0]) owning ∧
    SetFits (chPk [8, 0, 0, 0, 0x401, 0]) owning (fun x => x.cfg.cmdOwner = 2) ∧ fld 0x401 8 3 = 4 := by
  unfold Heard State.serving SetFits; decide
theorem witness_edgeStream : Heard specEdgeStream (chPk [8, 0, 0, 0, 1, 0, 1, 0]) owning ∧
    SetFits (chPk [8, 0, 0, 0, 1, 0, 1, 0]) owning (fun x => x.cfg.edgeOwner = 2) := by
  unfold Heard State.serving SetFits; decide
theorem witness_probeStatus : Heard specProbeStatus (chPk [127]) live ∧ fld 127 0 7 < live.ident.nProbes := by
  unfold Heard State.serving; decide
theorem witness_probeStatus_absent : Heard specProbeStatus (chPk [8]) { live with ident := { live.ident with nProbes := 8 } } := by
  unfold Heard State.serving; decide

/-! ExportPackets -/

/-- No partition has a quota. -/
def unparted : State := { live with basins := { live.basins with quota := [] } }
theorem witness_partitionSet : Heard specPartitionSet (hmPk [31746]) unparted ∧ fld 31746 8 7 = 124 ∧ unparted.named (fld 31746 0 5) ∧
    (List.range 17).foldl (fun a x => a + unparted.quotaOf x) 0 - unparted.quotaOf 2 + 124 ≤ unparted.allocatable :=
  ⟨by unfold Heard State.serving; decide, by decide, by unfold State.named; decide, by decide⟩
theorem witness_ownerExport : Heard specOwnerExport (hmPk [2 + 32 + 20 * 4096, 0x10000, 1]) live ∧ live.named 2 ∧
    fld (2 + 32 + 20 * 4096) 12 5 = 20 ∧ (hmPk [2 + 32 + 20 * 4096, 0x10000, 1]).addr 2 % 4096 = 0 :=
  ⟨by unfold Heard State.serving; decide, by unfold State.named; decide, by decide, by decide⟩
theorem witness_exportSet : Heard specExportSet (hmPk [2, 1000, 0, 0]) live ∧ fld 2 0 7 = 2 ∧ fld 2 8 4 = 0 ∧ fld 0 0 7 ≠ 1 :=
  ⟨by unfold Heard State.serving; decide, by decide, by decide⟩
theorem witness_flush : Heard specFlush (chPk [34]) live ∧ fld 34 0 5 = (chPk [34]).o ∧ live.named 2 :=
  ⟨by unfold Heard State.serving; decide, by decide, by unfold State.named; decide⟩

/-! LedgerPackets -/

theorem witness_ledgerSet : Heard specLedgerSet (hmPk [0, 0, 0, 16, 1000000, 4]) live :=
  by unfold Heard State.serving; decide
theorem witness_ledgerTrigger : Heard specLedgerTrigger (hmPk []) live := by unfold Heard State.serving; decide
theorem witness_ledgerRelease : Heard specLedgerRelease (hmPk []) live ∧ live.ledger.jobs = [] :=
  ⟨by unfold Heard State.serving; decide, by decide⟩
def frozenNow : State := { live with ledger := { live.ledger with st := .frozen } }
theorem witness_ledgerRead : Heard specLedgerRead (hmPk [4096, 0, 3]) frozenNow ∧ frozenNow.ledger.st = .frozen ∧
    (hmPk [4096, 0, 3]).addr 1 % 4096 = 0 ∧ tget frozenNow.ledger.readNext 16 0 ≤ 65535 :=
  ⟨by unfold Heard State.serving; decide, by decide, by decide, by decide⟩
theorem witness_ledgerStatus : Heard specLedgerStatus (chPk []) live := by unfold Heard State.serving; decide

/-! LedgerEvents -/

def postFull : State :=
  { live with ledger := { live.ledger with st := .post, trigIn := true, postBytes := 1048576, cfg := { live.ledger.cfg with limit := 0 } } }
theorem witness_ledgerFreeze : postFull.lk.st = .underway ∧ postFull.ledger.st = .post ∧ postFull.ledger.trigIn = true ∧ postFull.ledger.post ≤ postFull.ledger.postBytes ∧
    postFull.ledger.t0At + postFull.ledger.cfg.limit * 1000 ≤ postFull.now := by decide
theorem witness_ledgerSeal : frozenNow.lk.st = .underway ∧ frozenNow.ledger.st = .frozen ∧ frozenNow.io.ksErr = false := by decide
def summarise : State := { live with ledger := { live.ledger with st := .seald, summaryPending := true, jobs := [(2, 1, 1, 4, 3, 1)] } }
theorem witness_ledgerSummaryWrite : summarise.ledger.summaryPending = true ∧ summarise.lb.present = true := by decide
theorem witness_ledgerReadDone : summarise.ledger.jobs.find? (fun j => j.1 = (2 : Fin 17).val) = some (2, 1, 1, 4, 3, 1) ∧
    ∀ r ∈ summarise.mgr.wait ++ summarise.mgr.out, r.why ≠ .ledger 2 := by decide

/-! SluiceEvents -/

/-- Charter 2 with a DRAM destination and a memory key, a record in its queue, and for the harbourmaster an old open lighter. -/
def aRec : Rec := ⟨0x0E, 133, 2, 1, 0, 7, [9], 0, 0, 0⟩
def exporting : State :=
  { live with
    exp := [(2, { Export.zero with dram := true }), (16, { Export.zero with dram := true, openL := some ⟨3, [], 0, 0, 0, 0, 0, .locked, false, 4096, 4, []⟩ })]
    chart := { live.chart with slots := [(0, ⟨.current, 5, 2, 0, 0⟩)] }
    clk := { live.clk with powered := 1000 }
    basins := { live.basins with leaving := [7], charterQ := [(2, [⟨0, 0, [aRec], 2, false⟩])] } }
theorem witness_lighterOpen : exporting.lk.st = .underway ∧ exporting.nextOwner (5 : Fin 8).val = some (2, 0) := by decide
theorem witness_lighterOpen_free : (List.range 17).all (fun p => (exporting.export_ p).openL.all (fun l => l.channel ≠ 5)) = true := by decide
theorem witness_lighterOpen_goesOn : exporting.hasDest 16 = true ∧ (exporting.export_ 16).openL.any (fun l => l.channel = (3 : Fin 8).val) = true ∧
    (List.range 16).all (fun p => (exporting.export_ p).openL.isNone) = true := by decide
theorem witness_lighterFlush : exporting.lk.st = .underway ∧ (exporting.export_ 16).openL.any (fun l => decide (l.openAt + exporting.mgr.flush * 1000 ≤ exporting.now)) = true := by decide
theorem witness_unitLeave : exporting.basins.leaving.contains (7 : Fin 124).val = true ∧ ∀ c ∈ exporting.allCells, c.unit ≠ 7 := by decide

/-! ManagerPortCommands -/

def wr0 : MReq := pageReq 2 4096 (.lighter 2 0 0 []) []
def wr1 : MReq := { pageReq 2 4096 (.dump 1) [] with tag := 1 }
def rd0 : MReq := ⟨false, 0, 64, 0, 2, 0, .image 1, [], [], [], []⟩
def porting : State :=
  { live with
    mgr := { live.mgr with reqCredits := 1, wait := [wr0], out := [wr0, wr1, rd0], cap := 16 }
    ch := { live.ch with loads := [⟨1, true, 2, 0, 1, false, 4096, 64, false, 0, 0⟩] } }
theorem witness_managerRequestIssue : porting.lk.st = .underway ∧ porting.mgr.reqCredits ≠ 0 ∧ porting.mgr.wait = wr0 :: [] ∧
    porting.portClosed wr0.owner = false ∧ porting.freeTag wr0.write = some 2 ∧ wr0.sluice = true ∧ 0 + wr0.size ≤ porting.mgr.cap * 5000 := by decide
theorem witness_mgrWriteDone : porting.mgr.out.find? (fun r => r.write && decide (r.tag = (0 : Fin 64).val)) = some wr0 ∧
    (∀ b ∈ porting.mgr.beats, b.tag ≠ 0) ∧ wr0.why = .lighter 2 0 (porting.keygen 2) [] := by decide
theorem witness_mgrWriteDone_dump : porting.mgr.out.find? (fun r => r.write && decide (r.tag = (1 : Fin 64).val)) = some wr1 ∧
    wr1.why = .dump 1 := by decide
theorem witness_mgrReadLine : porting.mgr.out.find? (fun r => !r.write && decide (r.tag = (0 : Fin 64).val)) = some rd0 ∧
    rd0.got.length = rd0.nl ∧ porting.wanted { rd0 with got := rd0.got ++ [(5, false)] } = true := by decide

/-! AssayPackets -/

theorem witness_tapSafety : Heard specTapSafety (hmPk [0xA8B]) live ∧ live.named (fld 0xA8B 2 5) ∧
    (targetRange (fld 0xA8B 8 4)).isSome = true ∧ flag 0xA8B 12 = false ∧ targetAsym (fld 0xA8B 8 4) ≠ 2 :=
  ⟨by unfold Heard State.serving; decide, by unfold State.named; decide, by decide⟩
def measurable : State := { live with assay := { live.assay with safety := [(3 * 32 + 2, { Safety.zero with enable := true })] } }
theorem witness_tapMeasure : Heard specTapMeasure (chPk [0x2103, 0, 0x1000000, 0x7F]) measurable ∧
    (measurable.safety (fld 0x2103 0 2) 2).enable = true ∧ fld 0x2103 5 4 = 8 ∧
    fld 0x2103 13 2 ≤ (measurable.safety (fld 0x2103 0 2) 2).excMax ∧ fld 0x1000000 0 25 = 2 ^ 24 ∧ sgn 9 (fld 0x7F 0 9) = 127 :=
  ⟨by unfold Heard State.serving; decide, by decide⟩
theorem witness_tableBase : Heard specTableBase (chPk [4096, 0]) live ∧ (chPk [4096, 0]).addr 1 % 4096 = 0 :=
  ⟨by unfold Heard State.serving; decide, by decide⟩
theorem witness_tableEntry : Heard specTableEntry (chPk [0x100C03, 0x20, 0, 0, 0, 0, 0, 0, 0, 0]) live ∧
    fld 0x100C03 10 16 % 1024 = fld 0x100C03 0 10 ∧ fld 0x20 2 4 = 8 ∧ live.assay.engine.length < 32 :=
  ⟨by unfold Heard State.serving; decide, by decide⟩
theorem witness_tapReenable : Heard specTapReenable (hmPk [3]) live := by unfold Heard State.serving; decide

/-! WatchPackets -/

theorem witness_watchAssign : Heard specWatchAssign (hmPk [0x2F]) live ∧ live.named (fld 0x2F 4 5) :=
  ⟨by unfold Heard State.serving; decide, by unfold State.named; decide⟩
def watching : State := { live with
  assay := { live.assay with slots := [(1, { Watch.zero with owner := 2 })] }, chart := { live.chart with slots := [(0, ⟨.current, 5, 2, 0, 0⟩)] } }
theorem witness_watchConfig : Heard specWatchConfig (chPk [0x10201, 0, 1, 0, 0, 4096, 0]) watching ∧
    (watching.slot (fld 0x10201 0 4)).owner = 2 ∧ fld 0x10201 8 3 = 2 ∧ fld 0x10201 12 5 = 16 ∧
    (chPk [0x10201, 0, 1, 0, 0, 4096, 0]).addr 6 % 4096 = 0 := ⟨by unfold Heard State.serving; decide, by decide⟩
theorem witness_watchArm : Heard specWatchArm (chPk [0x11]) watching ∧ (watching.slot (fld 0x11 0 4)).owner = 2 ∧
    (watching.memKey 2).isSome = true ∧ flag 0x11 4 = true := ⟨by unfold Heard State.serving; decide, by decide⟩
theorem witness_assayCounters : Heard specAssayCounters (chPk [7]) live ∧ flag 7 3 = false ∧ flag 12 3 = true :=
  ⟨by unfold Heard State.serving; decide, by decide⟩

/-! TapEvents -/

/-- Tap 1 enabled for charter 2; a block of its slot 3 staged. -/
def tapping : State := { live with assay := { live.assay with
  safety := [(1 * 32 + 2, { Safety.zero with enable := true })], staging := [⟨0, 3, 16, 4096, [], 0, 0, [1, 2]⟩] } }
theorem witness_tapBeat : tapping.lk.st.code < 2 ∧ tapping.tapEnabled (1 : Fin 4).val = true ∧ (tapping.tap 1).inst = none ∧
    live.tapEnabled (1 : Fin 4).val = false := by decide
theorem witness_dumpBlockWrite : tapping.lk.st = .underway ∧ tapping.assay.staging = ⟨0, 3, 16, 4096, [], 0, 0, [1, 2]⟩ :: [] ∧
    tapping.ecc.word = [] ∧ (tapping.bank (bankKey 31 false)).merge = [] := by decide
/-- The head of the engine's queue has its line: an entry of tensor 5. -/
def entry5 : Entry := ⟨5, true, false, 3, 0, 1, 7, 0, 0, 0, 0, [1, 0, 0, 0, 0, 0, 0, 0]⟩
def line5 : BitVec 512 := BitVec.ofNat 512 (ofLe entry5.bytes)
def fetched (op : TabOp) : State := { live with
  assay := { live.assay with engine := [op], busy := true }
  mgr := { live.mgr with ready := [⟨false, 0, 5, 0, 2, 0, .tableRd 2 1, [], [], [], [(line5, false)]⟩] } }
set_option maxRecDepth 100000 in
theorem witness_tableFetchDone : ((fetched (.fetch 1 2 5)).tableRead 2 1).any (fun r => !r.2.1 && (parseEntry r.1).1 &&
    (parseEntry r.1).2.valid && decide ((parseEntry r.1).2.tid = 5)) = true := by decide
set_option maxRecDepth 100000 in
theorem witness_tableWritebackDone : ((fetched (.back 1 2 5 1 15 false)).tableRead 2 1).any (fun r => !r.2.1 && (parseEntry r.1).1 &&
    (parseEntry r.1).2.valid && decide ((parseEntry r.1).2.tid = 5)) = true := by decide

/-! TimePackets -/

theorem witness_timeStatus : Heard specTimeStatus (chPk []) live := by unfold Heard State.serving; decide
theorem witness_servoSet : Heard specServoSet (hmPk [1000, 0x3F800000, 0x3F000000]) live ∧
    (1000 : W32).toNat = 1000 ∧ fp32Rat? 0x3F800000 = some 1 ∧ fp32Rat? 0x3F000000 = some (1 / 2) :=
  ⟨by unfold Heard State.serving; decide, by decide, by decide +kernel, by decide +kernel⟩
theorem witness_reanchor : Heard specReanchor (hmPk []) live ∧ live.ident.chip = 0 ∧ live.time.st = .detached ∧ live.time.epoch ≠ 0xFFFF ∧
    live.time.reanchor = none := ⟨by unfold Heard State.serving; decide, by decide⟩
theorem witness_laneAsym : Heard specLaneAsym (hmPk [14, 5]) live ∧ fld 14 0 2 = 2 ∧ flag 14 3 = true :=
  ⟨by unfold Heard State.serving; decide, by decide⟩

/-! PpsCompared -/

/-- LOCKED, 1,001 ns after a whole second, and exactly 1 us after one. -/
def late (ns : Nat) : State := { live with time := { live.time with st := .locked, cvt := (1000000000 + ns) * 2 ^ 40 } }
theorem witness_pps : (late 1001).time.st = .locked ∧ (late 1001).capture 0 = 4000004004 ∧ (late 1000).capture 0 = 4000004000 ∧
    (∀ k : Nat, 4000 < ((4000004004 : Int) - 4000000000 * (k : Int)).natAbs) ∧ ¬ 4000 < ((4000004000 : Int) - 4000000000).natAbs :=
  ⟨by decide, by decide, by decide, by intro k; omega, by decide⟩

/-! TimeInputCommands -/

/-- A SLEWING lead, 130 ms after its last servo run, with one sample held. -/
def slewing : State :=
  { live with
    clk := { live.clk with powered := 6250000 }
    time := { live.time with st := .slewing, ring := [⟨0, 1, 0, false, 1, 0⟩] } }
theorem witness_tin : live.time.latch = none ∧ live.time.ring.length = 0 := by decide
theorem witness_servoRun : slewing.keeperRuns = true ∧ slewing.time.lastServoAt + slewing.time.period * 1000 ≤ slewing.now ∧
    slewing.ident.chip = 0 ∧ slewing.time.st = .slewing ∧ slewing.time.step = none ∧ slewing.time.ring = [⟨0, 1, 0, false, 1, 0⟩] ∧
    slewing.time.latch = none := by decide
theorem witness_inputLost : slewing.time.lastTinAt + 250000000 ≤ slewing.now ∧ slewing.time.inputLost = false ∧ slewing.asleep = false := by
  decide

/-! StepEdgeMovesCvt -/

def stepping : State := { slewing with time := { slewing.time with step := some ⟨-4, 0, 1, 0⟩ } }
theorem witness_stepEdge : stepping.time.step = some ⟨-4, 0, 1, 0⟩ ∧ 0 + 200 ≤ stepping.now := by decide

/-! TsyncFrames -/

/-- A replica of probe 127 an epoch behind, its two last frames lost. -/
def owing : State :=
  { live with
    time := { live.time with oweRate := true, oweStatus := true, sinceCheck := 65536 }
    probes := [(127, { Probe.zero with replica := { Replica.zero with epoch := 7, crcRun := 2 } })] }
theorem witness_tsync : owing.clk.tclk = true ∧ owing.time.oweLoad = true ∧ owing.time.oweRate = true ∧ owing.time.lastRateAt = none ∧
    owing.time.oweStatus = true ∧ 65536 ≤ owing.time.sinceCheck ∧ (owing.probe 127).up = true ∧ 127 < owing.ident.nProbes ∧
    received 128 (owing.loadBits 4) 0 = some (owing.loadBits 4) ∧ owing.agrees 127 (owing.loadBits 4) = false ∧
    (owing.probe 127).replica.crcRun = 2 := by decide
set_option maxRecDepth 100000 in
theorem witness_tsync_crc : received 32 owing.statusBits 1 = none := by decide +kernel
theorem witness_tsync_off : (owing.modProbe 3 (fun x => { x with up := false })).probe 3 = { Probe.zero with up := false } := by decide

/-! TimeSyncDueEmits -/

/-- The time unit's stream of the harbourmaster, last synchronised 262 us ago. -/
def streaming : State :=
  { live with
    time := { live.time with cvt := 300000 * 2 ^ 40 }
    canal := { live.canal with streams := [(134 * 32 + 16, { Stream.zero with active := true, lastSync := 152000, since := 1 })] } }
theorem witness_timeSyncDue : (streaming.stream 134 16).active = true ∧ (streaming.stream 134 16).lastSync + 1048000 ≤ streaming.ts ∧
    (streaming.stream 134 2).active = false := by decide

/-! ConvoyExchanges -/

/-- Chip 1, lane A of its link to chip 0 up under a CURRENT key, active, with a constant, 2 s after PORST_N. -/
def linked (chip : BitVec 2) : State :=
  { live with
    ident := { live.ident with chip := chip, lanes := 3 }
    clk := { live.clk with powered := 50000000 }
    time := { live.time with st := .slewing }
    chart := { live.chart with slots := [(0, ⟨.current, 1, 16, 2, 0⟩)] }
    convoy := { live.convoy with peers := [(0, { Peer.zero with active := 1, a := { Lane.zero with up := true, everUp := true, asym := some 0, opened := true } })] } }
def frameA : LinkFrame := ⟨0, false, 0, false, true⟩
theorem witness_syncSend : (linked 0).sender 0 = true ∧ (((linked 0).peer 0).lane false).up = true ∧ (linked 0).linkKey 0 true = none := by
  decide
theorem witness_syncTake : (linked 1).sender 0 = false ∧ (linked 1).connected 0 false = true ∧ (linked 1).linkOpen 0 = true ∧
    (((linked 1).peer 0).lane false).up = true ∧ frameA.auth = true ∧ ((linked 1).peer 0).gotNext = false ∧
    (((linked 1).peer 0).lane false).opened = true ∧ ((linked 1).peer 0).active = 1 ∧ (linked 1).leadSlot = some 0 ∧
    (linked 1).convoy.pend = none ∧ (linked 1).convoy.split = false ∧ (linked 1).time.part = 0 ∧ (linked 1).keeperRuns = true ∧
    (linked 1).lk.st = .underway := by decide
theorem witness_islandOff : ({ linked 1 with lk := { (linked 1).lk with st := .moored } }).lk.st ≠ .underway := by decide
/-- Lane B active, lane A up for 2 s. -/
def onB : State :=
  { linked 1 with convoy := { (linked 1).convoy with peers := [(0, { Peer.zero with
      active := 2, a := { Lane.zero with up := true, count := 3, measFrom := some 0, fails := 2 }, b := { Lane.zero with up := true } })] } }
theorem witness_laneEvents : (onB.peer 0).active = 2 ∧ (onB.peer 0).a.up = true ∧ (onB.peer 0).a.upAt + 1000000000 ≤ onB.now ∧
    2 ≤ (onB.peer 0).a.fails ∧ (onB.peer 0).b.fails < 2 ∧ (onB.peer 0).a.asym = none ∧ (onB.peer 0).a.count ≠ 0 ∧
    (onB.peer 0).a.measFrom = some 0 ∧ 0 + 1000000000 ≤ onB.now ∧ onB.lk.st = .underway ∧ (onB.peer 0).asleep = none ∧ onB.convoy.noAuto = false := by decide

/-! ConvoyMessages -/

/-- The lane of `linked` down again, and its chip DETACHED no more. -/
def unlinked : State := { linked 1 with convoy := { (linked 1).convoy with peers := [], split := true } }
theorem witness_hello : unlinked.connected 0 false = true ∧ (0 : BitVec 2).toNat = unlinked.peerChip 0 ∧ (unlinked.peer 0).sealMode = false ∧
    unlinked.linkOpen 0 = true ∧ ((unlinked.peer 0).lane false).up = false ∧ ((unlinked.peer 0).lane false).stopped = false ∧
    (unlinked.peer 0).sealMode ≠ true := by decide
theorem witness_epochMsg : (linked 1).sender 0 = false ∧ (linked 1).peerChip 0 = 0 ∧ (linked 1).time.epoch.toNat < (1 : BitVec 16).toNat ∧
    (linked 0).sender 0 = true ∧ ((linked 0).peer 0).active ≠ 0 := by decide
def following : State := { linked 1 with convoy := { (linked 1).convoy with pend := some (1, 4, 0) } }
theorem witness_followerStep : following.convoy.pend = some (1, 4, 0) ∧
    (0 : Int) - roundInt .rne (((following.peer 0).lane false).theta * ((2 ^ 40 : Nat) : Rat)) ≤ (following.time.cvt : Int) ∧
    following.time.epoch.toNat + 1 = (1 : BitVec 16).toNat ∧ following.time.part = 0 ∧ following.lk.st = .underway := by decide +kernel
theorem witness_followerStep_other : ({ following with time := { following.time with st := .detached } }).time.st = .detached ∧
    ((following.peer 0).lane false).t1 ≤ 0 := by decide
theorem witness_state : (linked 1).connected 0 false = true ∧ (linked 1).linkOpen 0 = true ∧ (linked 1).leadSlot = some 0 := by decide
def sleepingPeer : State :=
  { linked 1 with convoy := { (linked 1).convoy with peers := [(0, { Peer.zero with asleep := some 1000000000 })] } }
theorem witness_peerSleep : (sleepingPeer.peer 0).asleep = some 1000000000 ∧ 1000000000 + 1000000000 ≤ sleepingPeer.now ∧
    (sleepingPeer.peer 0).heard + 375000 < sleepingPeer.now ∧ sleepingPeer.lk.st = .underway := by decide
theorem witness_peerHeard : (sleepingPeer.modPeer 0 (fun p => { p with heard := 2000000000 })).now ≤ 2000000000 + 375000 := by decide
theorem witness_split : unlinked.ident.chip ≠ 0 ∧ unlinked.convoy.split = true ∧ unlinked.lk.st = .underway := by decide

/-! EnvelopePackets -/

theorem witness_powerPolicy : Heard specPowerPolicy (hmPk [0x323, 20, 400, 10000000, 10, 10000]) live ∧ fld 0x323 3 7 = 100 :=
  ⟨by unfold Heard State.serving; decide, by decide⟩
/-- Cap 60 W, burst 90 W, 10 ms, one domain to shed. -/
theorem witness_envelopeSet : Heard specEnvelopeSet (hmPk [240 + 360 * 256 + 1000 * 2 ^ 17, 1, 71, 0, 0, 0]) live ∧
    fld (240 + 360 * 256 + 1000 * 2 ^ 17) 0 8 = 240 ∧ fld (240 + 360 * 256 + 1000 * 2 ^ 17) 8 9 = 360 ∧
    fld (240 + 360 * 256 + 1000 * 2 ^ 17) 17 10 = 1000 ∧ fld 1 0 5 = 1 ∧ fld 71 0 8 < live.ident.hostDomains :=
  ⟨by unfold Heard State.serving; decide, by decide⟩
theorem witness_derateSet : Heard specDerateSet (hmPk [600, 2560 + 3200 * 65536, 12800 + 2560 * 65536, 40]) live ∧
    temp16 (2560 + 3200 * 65536) 0 = 20 * 128 ∧ temp16 (2560 + 3200 * 65536) 16 = 25 * 128 ∧ temp16 (12800 + 2560 * 65536) 0 = 100 * 128 ∧
    40 ≤ live.env.pCont := ⟨by unfold Heard State.serving; decide, by decide⟩
theorem witness_coolantReport : Heard specCoolantReport (hmPk [19200 + 58496 * 65536, 600]) live ∧
    temp16 (19200 + 58496 * 65536) 0 = 19200 ∧ temp16 (19200 + 58496 * 65536) 16 = -7040 :=
  ⟨by unfold Heard State.serving; decide, by decide⟩
theorem witness_powerStatus : Heard specPowerStatus (chPk []) live := by unfold Heard State.serving; decide

/-! EnvelopeEvents -/

/-- 20 s of powered time, an overrun, domain 71 in the shed list. -/
def strained : State :=
  { live with
    clk := { live.clk with powered := 500000000 }
    env := { live.env with overrun := true, shed := [71], lastShedAt := 0 } }
theorem witness_envelope : strained.dev.phase ≠ .held ∧ 7 < strained.ident.rails ∧ strained.env.lastLoopAt + 10000 ≤ strained.now ∧
    strained.env.lost.getLsbD 7 = false ∧ (tget strained.env.latest 7 (0, 0, 0)).2.2 + 10000 ≤ strained.now ∧
    strained.env.reportLost = false ∧ strained.env.reportAt + 5 * strained.lk.policy.coolant * 1000000 ≤ strained.now ∧
    strained.env.reportAt + 10000000000 ≤ strained.now ∧ strained.env.shed.filter (fun h => !(strained.dom h).shed) = [71] ∧
    71 < strained.ident.hostDomains := by decide
theorem witness_shedExhausted : ({ strained with env := { strained.env with shed := [] } }).env.overrun = true ∧
    (∀ h ∈ ({ strained with env := { strained.env with shed := [] } }).env.shed, (strained.dom h).shed = true) ∧
    strained.env.lastOverAt + 10000000 ≤ strained.now := by decide

/-! HostDomains -/

/-- Domain 0 (of probes 0, 24, ...) with a change due. -/
def changing (d : HostDom) : State :=
  { live with
    clk := { live.clk with powered := 500000000 }
    lk := { live.lk with doms := [(0, d)], assign := [(2, 1)], policy := { live.lk.policy with coresIdleOff := true }
                         jobs := [⟨2, 1, 1, 2, false, 0, false⟩] } }
def offDue : State := changing { HostDom.zero with due := some (false, 2) }
def onDue : State := changing { HostDom.zero with req := false, ack := false, due := some (true, 2) }
def offStarted : State := changing { HostDom.zero with due := some (false, 2), snapped := true }
def offOpen : State := changing { HostDom.zero with req := false, openAt := some 1 }
theorem witness_domainSet : Heard specDomainSet (chPk [1, 0, 0, 0, 0, 0, 0]) offDue ∧
    (∀ h < 72, ((chPk [1, 0, 0, 0, 0, 0, 0]).domains 1).getLsbD h = true → (tget offDue.lk.assign 2 0).getLsbD h = true) :=
  ⟨by unfold Heard State.serving; decide, by decide⟩
theorem witness_domainAssign : Heard specDomainAssign (hmPk [2, 1, 0, 0]) live ∧ fld 2 0 5 < 16 ∧ live.active (fld 2 0 5) = true :=
  ⟨by unfold Heard State.serving; decide, by decide⟩
theorem witness_domainSetDone : offDue.lk.jobs.find? (fun j => (domainList j.mask).all (fun h => !offDue.domBusy h)) =
    some ⟨2, 1, 1, 2, false, 0, false⟩ := by decide
theorem witness_domainStart : (offDue.dom 0).snapped = false ∧ (offDue.dom 0).due = some (false, 2) ∧ offDue.switchHeld 2 = false ∧
    (onDue.dom 0).due = some (true, 2) ∧ (onDue.dom 0).req = (onDue.dom 0).ack ∧ offDue.lk.st = .underway := by decide
theorem witness_pswReqIssue : offStarted.dueOrder = [(0, false, 2)] ∧ (offStarted.dom 0).snapped = true ∧ offStarted.lk.lastEdgeAt = 0 ∧
    offStarted.drained 0 = true ∧ offStarted.dev.restarting = false ∧
    ({ offStarted with dev := { offStarted.dev with restarting := true } }).dev.restarting = true := by decide
theorem witness_pswAck : (offOpen.dom 0).ack ≠ false ∧ (offOpen.dom 0).req = false ∧ (offOpen.dom 0).openAt.isSome = true ∧
    (offOpen.dom 0).later = none ∧ 0 < offOpen.ident.hostDomains ∧ 1 + offOpen.lk.policy.pswTimeout * 1000 ≤ offOpen.now := by decide
theorem witness_pswAckStray : (live.dom 0).ack ≠ false ∧ (live.dom 0).openAt = none ∧ (live.dom 0).timedOut = false := by decide
theorem witness_coreIdleOff : offDue.lk.policy.coresIdleOff = true ∧ offDue.ch.run = none ∧ offDue.ch.domOn ≠ 0 ∧
    (∀ e ∈ offDue.ch.allot, e.2.st = 0) ∧ offDue.ch.idleAt + 1000000 ≤ offDue.now ∧ offDue.switchHeld 0 = false := by decide

/-! PowerStates -/

/-- A policy that allows every state, nothing to do, and a known event far away. -/
def restful : State :=
  { live with lk := { live.lk with policySet := true }, survey := { live.survey with period := 600 }, time := { live.time with period := 1000000 } }
theorem witness_choice : (restful.dev.mode = .service) ∧ restful.dev.phase = .running ∧ restful.dev.restarting = false ∧
    restful.lk.policySet = true ∧ restful.asleep = false ∧ restful.lk.exiting = false ∧ restful.handshakeOpen = false ∧
    restful.choose.1 = .laidUp := by decide +kernel
theorem witness_choiceSlack : ({ restful with svc := { restful.svc with present := true } }).choose.1 = .slack ∧
    ({ restful with lk := { restful.lk with policy := { restful.lk.policy with depth := .moored } } }).choose.1 = .moored ∧
    ({ restful with lk := { restful.lk with policy := { restful.lk.policy with depth := .underway } } }).choose.1 = .underway := by
  decide +kernel
def entering (p : Power) (wake : Option Nat) : State := { live with lk := { live.lk with entering := some p, heldWake := wake } }
theorem witness_entry : (entering .moored (some 1)).lk.heldWake = some 1 ∧ (entering .laidUp none).entryOpen = false ∧
    (entering .laidUp none).handshakeOpen = false ∧ (entering .laidUp none).basinCells = 0 := by decide
def asleepIn (p : Power) : State := { live with lk := { live.lk with st := p, exiting := true, wakeAt := some 0 } }
theorem witness_wake : (({ asleepIn .slack with lk := { (asleepIn .slack).lk with exiting := false } }).lk.wakeAt = some 0) ∧
    wakesFrom .fault .slack = true ∧ (asleepIn .slack).lk.st ≠ .underway ∧ (asleepIn .slack).lk.exiting = true ∧
    (asleepIn .slack).handshakeOpen = false ∧ (asleepIn .slack).esl.waiting = [] ∧ (asleepIn .slack).esl.deferred = [] := by decide
/-- A context sealed by the model itself. -/
theorem witness_goodContext : (asleepIn .laidUp).io.ksErr = false ∧ ∃ c, (asleepIn .laidUp).seal.lk.ctx = some c ∧ c.good = true := ⟨rfl, _, rfl, by simp [Context.good]⟩
theorem witness_badContext : (asleepIn .laidUp).lk.st = .laidUp ∧ ¬ ∃ c, (asleepIn .laidUp).lk.ctx = some c ∧ c.good = true :=
  ⟨rfl, fun h => by obtain ⟨c, h, -⟩ := h; cases h⟩

/-! FrameTiming -/

theorem witness_frameSchedule : Heard specFrameSchedule (hmPk [2000, 0, 0, 0]) live ∧ 2000 ≤ (2000 : W32).toNat :=
  ⟨by unfold Heard State.serving; decide, by decide⟩
/-- One step: 5 ms ahead, TAPS_OPEN of tap 0. -/
theorem witness_framePlan : Heard specFramePlan (hmPk [1, 0xFFFFEC78, 6, 0, 0]) live ∧ fld 1 0 4 = 1 ∧
    sgn 32 (0xFFFFEC78 : W32).toNat = -5000 := ⟨by unfold Heard State.serving; decide, by decide⟩
/-- 10 ms after PORST_N: an edge 1 ms ago, a prediction 3 ms ago, seven missed, one step due. -/
def framing : State :=
  { live with
    clk := { live.clk with powered := 250000 }
    frame := { live.frame with lastUsed := some 9000000, predicted := some 7000000, missed := 7, due := [(9000000, ⟨0, 2, 1, 0⟩)] } }
theorem witness_frameSync : framing.dev.phase ≠ .held ∧ framing.dev.restarting = false ∧ framing.frame.lastUsed = some 9000000 ∧ framing.now < 9000000 + 2000000 ∧
    live.frame.lastUsed = none ∧ framing.frame.first = some (9000000, ⟨0, 2, 1, 0⟩) ∧ framing.asleep = false ∧
    framing.frame.predicted = some 7000000 ∧ 7000000 + 2000000 ≤ framing.now ∧ framing.frame.schedule = none := by decide
/-- CVT at 5 ms of a schedule of 2 ms. -/
def scheduled : State :=
  { live with time := { live.time with cvt := 5000000 * 2 ^ 40 }, frame := { live.frame with schedule := some (2000, 0), lastStart := 1 } }
theorem witness_scheduleTick : scheduled.frame.schedule = some (2000, 0) ∧
    scheduled.frame.lastStart < schedIndex (2000, 0) scheduled.cvtNs := by decide

/-! HousePackets -/

/-- An op of charter 2 that reads its STREAM records (op 0x01, ring 4 KiB, every class). -/
def opPk (w0 w2 : W32) : Pkt := chPk [w0, 0, w2, 0, 0, 0, 33, 0x3FFFF00, 0, 0, 0, 0, 0, 0, 0, 0]
/-- Allotted a queue entry. -/
def allotted : State := { live with ch := { live.ch with allot := [(2, ⟨4, 4, 8, true, false⟩)] } }
theorem witness_opSubmit : Heard specOpSubmit (opPk 0x201 0) allotted ∧ opRepeat (opPk 0x201 0).ps = 0 ∧
    dfld (opPk 0x201 0).ps 0 8 5 = 2 ∧ opCode (opPk 0x201 0).ps = 1 ∧ dfld (opPk 0x201 0).ps 0 21 4 ≠ 15 ∧
    flag ((opPk 0x201 0).ps.getD 0 0) 18 = false ∧ allotted.slotsOk 2 (opPk 0x201 0).ps = true ∧
    (∀ j < 2, inSpace (opPk 0x201 0).ps j ≠ 7 ∧ (inSpace (opPk 0x201 0).ps j = 3 → allotted.ledger.st ≠ .armed ∧ allotted.ledger.st ≠ .post) ∧
      (1 ≤ inSpace (opPk 0x201 0).ps j → inSpace (opPk 0x201 0).ps j ≤ 3 → 4 ≤ inRing (opPk 0x201 0).ps j ∧ inRing (opPk 0x201 0).ps j ≤ 256)) ∧
    ringsOf (opPk 0x201 0).ps * 1024 ≤ 393216 ∧ allotted.ownInstances 2 < (allotted.allot 2).limit ∧ allotted.ch.standing = [] :=
  ⟨by unfold Heard State.serving; decide, by decide, by decide, by decide, by decide, by decide, by decide, by decide, by decide, by decide, by decide⟩
theorem witness_opSubmit_periodic : Heard specOpSubmit (opPk 0x100201 10) allotted ∧ opRepeat (opPk 0x100201 10).ps = 2 ∧
    ((opPk 0x100201 10).ps.getD 2 0).toNat = 10 ∧ dfld (opPk 0x100201 10).ps 0 21 4 ≠ 15 :=
  ⟨by unfold Heard State.serving; decide, by decide, by decide, by decide⟩
def queued : State :=
  { live with ch := { live.ch with
      queue := [⟨2, 7, (opPk 0x201 0).ps, 0, 0, 0, 0, Input.zero, Input.zero, 0⟩]
      standing := [⟨2, 9, (opPk 0x100201 10).ps, false, 0, 0, 0, none, Input.zero, Input.zero⟩] } }
theorem witness_opCancel : Heard specOpCancel (chPk [7]) queued ∧
    (queued.ch.queue.find? (fun y => decide (y.owner = 2) && decide (y.seq = 7))).isSome = true ∧
    queued.ch.standing.find? (fun y => decide (y.owner = 2) && decide (y.seq = 7)) = none :=
  ⟨by unfold Heard State.serving; decide, by decide, by decide⟩
theorem witness_opCancel_standing : Heard specOpCancel (chPk [9]) queued ∧
    queued.ch.queue.find? (fun y => decide (y.owner = 2) && decide (y.seq = 9)) = none ∧
    (queued.ch.standing.find? (fun y => decide (y.owner = 2) && decide (y.seq = 9))).map Standing.first = some false :=
  ⟨by unfold Heard State.serving; decide, by decide, by decide⟩
/-- Charter 2 has a CURRENT model key and a loaded itinerary in slot 31; the Logbook holds an itinerary item of 80 bytes. -/
def withModelKey : State :=
  { allotted with
    chart := { allotted.chart with slots := [(0, { KeySlot.zero with st := .current, owner := 2, kind := 1 })] }
    ch := { allotted.ch with slots := [(95, ⟨true, [], 0, 0, 1, [], 0, false, 0, 0, 0, 0, 0, false⟩)] }
    lb := { allotted.lb with images := [(7, itemHeader 3 7 0 0 (List.replicate 80 0)), (8, itemHeader 4 8 0 0 (List.replicate 80 0))] } }
theorem witness_itinLoad : Heard specItinLoad (chPk [0, 64, 0, 80]) withModelKey ∧ flag 0 0 = false ∧
    (withModelKey.modelKey 2).isSome = true := ⟨by unfold Heard State.serving; decide, by decide, by decide⟩
theorem witness_itinLoad_item : Heard specItinLoad (hmPk [1, 7, 0, 80]) withModelKey ∧ flag 1 0 = true := by
  unfold Heard State.serving; decide
theorem witness_item : itemKind (tget withModelKey.lb.images 7 []) = 3 ∧ itemLen (tget withModelKey.lb.images 7 []) = 80 ∧
    tget withModelKey.lb.images 7 [] ≠ [] := by
  have h : tget withModelKey.lb.images 7 [] = itemHeader 3 7 0 0 (List.replicate 80 0) := rfl
  rw [h]; exact ⟨by decide, by decide, by simp [itemHeader, leBytes]⟩
theorem witness_modelLoad : Heard specModelLoad (chPk [0, 64, 0, 80, 0, 0, 0]) withModelKey ∧
    (chPk [0, 64, 0, 80, 0, 0, 0]).streamed = false := ⟨by unfold Heard State.serving; decide, by decide⟩
theorem witness_modelLoad_item : Heard specModelLoad (hmPk [1, 8, 0, 80, 0, 0, 0]) withModelKey ∧ flag 1 0 = true := by
  unfold Heard State.serving; decide
theorem witness_modelItem : itemKind (tget withModelKey.lb.images 8 []) = 4 ∧ itemLen (tget withModelKey.lb.images 8 []) = 80 ∧
    tget withModelKey.lb.images 8 [] ≠ [] := by
  have h : tget withModelKey.lb.images 8 [] = itemHeader 4 8 0 0 (List.replicate 80 0) := rfl
  rw [h]; exact ⟨by decide, by decide, by simp [itemHeader, leBytes]⟩
theorem witness_slotUnload : Heard specSlotUnload (chPk [31]) withModelKey ∧ (withModelKey.loaded? 2 31).isSome = true ∧
    withModelKey.slotRuns 2 31 = false := ⟨by unfold Heard State.serving; decide, by decide, by decide⟩
/-- The running op is an itinerary in slot 31 of charter 2. -/
def runningOp : Running :=
  ⟨⟨2, 5, [0x2FF, 0x1F00, 0, 0, 0, 0, 0, 0, 0, 0, 0, 0, 0, 0, 0, 0], 0, 0, 0, 0, Input.zero, Input.zero, 0⟩, [0, 1], 0, 0, 0, 0, 0, [], [], false, false,
    false, none, none, false, 0, [], [], 0⟩
def running : State := { withModelKey with ch := { withModelKey.ch with run := some runningOp, online := 3 } }
theorem witness_slotUnload_runs : Heard specSlotUnload (chPk [31]) running ∧ (running.loaded? 2 31).isSome = true ∧
    running.slotRuns 2 31 = true := ⟨by unfold Heard State.serving; decide, by decide, by decide⟩
theorem witness_chAllot : Heard specChAllot (hmPk [2 + 28 * 2 ^ 5 + 32 * 2 ^ 11]) live ∧ fld (2 + 28 * 2 ^ 5 + 32 * 2 ^ 11) 11 6 = 32 ∧
    live.active 2 = true := ⟨by unfold Heard State.serving; decide, by decide, by decide⟩
theorem witness_chStatus : Heard specChStatus (chPk []) live := by unfold Heard State.serving; decide

/-! LoadsAndCores -/

/-- An itinerary image of one step HALT: 48 bytes of header, the step under the key stream of key 0, and the tag. -/
def imageHead : List Byte := leBytes 8 (0x011D3E5A7F + 2 ^ 40) ++ leBytes 8 16 ++ leBytes 8 0 ++ leBytes 8 1 ++ List.replicate 12 0 ++ List.replicate 4 0
def haltStep : List Byte := leBytes 16 0x53
def image : List Byte :=
  imageHead ++ gcmText 0 (List.replicate 12 0) haltStep ++ beBytes 16 (gcmTag 0 (List.replicate 12 0) imageHead haltStep).toNat
/-- Charter 2's load of that image from item 9 of the Logbook. -/
def imageLoad : Load := ⟨0, true, 2, 0, 1, true, 9, 80, false, 0, 0⟩
def loading : State :=
  { withModelKey with
    chart := { withModelKey.chart with slots := [(0, { KeySlot.zero with st := .current, owner := 2, kind := 1 })] }
    lb := { withModelKey.lb with images := [(9, leBytes 8 0 ++ leBytes 4 80 ++ List.replicate 52 0 ++ image)] }
    ch := { withModelKey.ch with loads := [imageLoad], mdUnit := [(0, 2)] } }
theorem witness_loads : loading.ch.run = none ∧ loading.lk.st = .underway ∧
    loading.ch.loads.find? (fun x => x.itin == true && (loading.loadBytes x).isSome) = some imageLoad ∧
    (∃ v, loading.loadBytes imageLoad = some (some image, v) ∧ v.ch = loading.ch) ∧ (imgHeader image).fits true image.length = true ∧
    badItin (imgHeader image) haltStep = none ∧ (loading.loaded? 2 0).isNone = true ∧
    16 ≤ ((loading.mdUnits 2).filter (fun u => !loading.mdUsed 2 u)).length * 65536 :=
  ⟨rfl, rfl, rfl, ⟨_, rfl, rfl⟩, rfl, by decide +kernel, by decide, by decide⟩
theorem witness_opens : loading.openImage 2 image = some haltStep := by
  have e : loading.openImage 2 image = (gcmOpen 0 (List.replicate 12 0) imageHead (gcmText 0 (List.replicate 12 0) haltStep)
      (BitVec.ofNat 128 (ofBe (beBytes 16 (gcmTag 0 (List.replicate 12 0) imageHead haltStep).toNat)))).map (fun t => t.take 16) := rfl
  rw [e, ofBe_beBytes_tag, gcmOpen_gcmTag]
  rfl
/-- 2 s of powered time. -/
def runningLate : State := { running with clk := { running.clk with powered := 50000000 } }
theorem witness_residue : runningLate.ch.run = some runningOp ∧ (1 : Fin 16).val ∈ runningOp.cores ∧ runningOp.failed = none ∧
    tget runningLate.ch.residue 1 0 = 0 ∧ runningOp.attempt < 3 := by decide
theorem witness_residueAgain : tget ({ runningLate with ch := { runningLate.ch with residue := [(1, 1000000001)] } }).ch.residue 1 0 = 1000000001 ∧
    runningLate.now < 1000000001 + 1000000000 ∧ runningLate.ch.online.getLsbD 1 = true := by decide
theorem witness_coreWatchdog : (runningLate.core 1).halted = false ∧ 65536 * 5 ≤ (runningLate.now - (runningLate.core 1).stepAt) * 6 := by decide
theorem witness_coreSelfTest : live.ch.run = none ∧ live.ch.online.getLsbD 15 = true := by decide

/-! OpEvents -/

/-- A periodic op of charter 2 that is due, and one in the queue. -/
def dueOps : State :=
  { allotted with
    clk := { allotted.clk with powered := 50000000 }
    ch := { allotted.ch with
      queue := [⟨2, 7, (opPk 0x201 0).ps, 0, 0, 0, 0, Input.zero, Input.zero, 0⟩]
      standing := [⟨2, 9, (opPk 0x100201 10).ps, true, 0, 0, 0, none, Input.zero, Input.zero⟩] } }
theorem witness_periodOpReady : (dueOps.ch.standing[0]?).map Standing.nextTs = some 0 ∧
    (dueOps.ch.standing[0]?).map (fun x => opRepeat x.desc) = some 2 ∧ dueOps.ch.queue.length < 32 ∧
    dueOps.ownInstances 2 < (dueOps.allot 2).limit ∧ (∀ p ∈ dueOps.ch.queue, some p.seq ≠ none) ∧ dueOps.ch.run = none := by decide
theorem witness_periodOpSkipped : ({ dueOps with ch := { dueOps.ch with allot := [(2, ⟨4, 4, 1, true, false⟩)] } } : State).ownInstances 2 = 1 ∧
    (({ dueOps with ch := { dueOps.ch with allot := [(2, ⟨4, 4, 1, true, false⟩)] } } : State).allot 2).limit ≤ 1 := by decide
theorem witness_opStart : dueOps.nextOp.map OpInst.seq = some 7 ∧ dueOps.coresHeld = false ∧ dueOps.dev.restarting = false ∧ dueOps.dev.down = false ∧
    dueOps.lk.st = .underway ∧ dueOps.lk.entering = none ∧ dueOps.ch.online.getLsbD 0 = true ∧
    dueOps.slotsOk 2 (opPk 0x201 0).ps = true ∧ dueOps.ringBytes + ringsOf (opPk 0x201 0).ps * 1024 ≤ 393216 := by decide
theorem witness_opDeadlineExpiry : dfld [0x201, 0, 0, 1000] 3 0 24 = 1000 ∧ 0 + 1000 * 1000 < dueOps.now := by decide
theorem witness_opBudgetExceeded : (if dfld [0x201, 0, 0, 0, 1] 4 0 24 = 0 then 2 ^ 24 else dfld [0x201, 0, 0, 0, 1] 4 0 24) * 1024 * 5 <
    (dueOps.now - 0) * 6 := by decide
def failedOp : Running := { runningOp with failed := some (0x12, 3) }
theorem witness_opComplete_stopped : failedOp.failed = some (0x12, 3) := rfl
theorem witness_opComplete_halted : runningOp.failed = none ∧ opCode runningOp.op.desc = 0xFF ∧ runningOp.dup = false ∧
    descDram runningOp.op.desc = false ∧
    (∀ c ∈ runningOp.cores, ({ running with ch := { running.ch with cores := [(0, { Core.zero with halted := true }), (1, { Core.zero with halted := true })] } } : State).core c =
      { Core.zero with halted := true }) := by decide
def libOp : Running := { runningOp with op := { runningOp.op with desc := (opPk 0x201 0).ps } }
theorem witness_opComplete_library : libOp.failed = none ∧ opCode libOp.op.desc = 1 ∧ live.stillCaptures libOp = false ∧
    flag (libOp.op.desc.getD 1 0) 5 = false ∧ libOp.dup = false ∧ (∀ j < 2, inSpace libOp.op.desc j < 5) ∧
    (∀ q ∈ libOp.recs, q.bad = false) ∧ descDram libOp.op.desc = false := by decide

/-! LaneSteps -/

/-- A step of a primitive as 16 bytes: d = 1, a = 2, b = 3, c = 4, formats fmt and fmt2, no mask. -/
def stepBytes (prim fmt fmt2 imm : Nat) : List Byte :=
  leBytes 8 (prim + 1 * 2 ^ 8 + 2 * 2 ^ 13 + 3 * 2 ^ 18 + 4 * 2 ^ 23 + fmt * 2 ^ 28 + fmt2 * 2 ^ 32) ++ leBytes 8 imm
/-- Charter 2's itinerary in slot 31 has that one step; core 1 stands at it. -/
def standing (prim fmt fmt2 imm : Nat) : State :=
  { running with ch := { running.ch with
      slots := [(95, ⟨true, stepBytes prim fmt fmt2 imm, 0, 0, 1, [], 0, false, 0, 0, 0, 0, 0, false⟩)] } }
def standsAt (prim fmt fmt2 imm : Nat) : Bool :=
  match (standing prim fmt fmt2 imm).nextStep 1 with
  | some (r, st) => decide (r = runningOp) && decide (st.prim = prim) && decide ((envOf r.op.desc st 0).fmt = fmt) && decide (st.fmt2 = fmt2)
  | none => false
theorem witness_laneSteps : ∀ k ∈ [0x10, 0x11, 0x12, 0x13, 0x14, 0x15, 0x16, 0x17, 0x18, 0x19, 0x1A, 0x20, 0x21, 0x29, 0x08, 0x41, 0x42],
    standsAt k 14 0 0 = true ∧ isFloat 14 = true := by decide
theorem witness_narrowSteps : ∀ k ∈ [0x22, 0x23, 0x40], standsAt k 10 0 4 = true ∧ isNarrow 10 = true ∧ mxAllowed 10 = true ∧ isInt 10 = true := by
  decide

/-! ScalarSteps -/

theorem witness_scalarSteps : ∀ k ∈ [0x06, 0x07, 0x09, 0x2A, 0x30, 0x31, 0x28, 0x38, 0x39, 0x3A, 0x3B], standsAt k 8 8 0 = true := by decide
/-- Core 1's registers are zero, so its lanes are all zero. -/
theorem witness_scalarValues : running.core 1 = Core.zero ∧ Core.zero.S 4 < (accKind 8).lanes ∧ (∀ i < 64, lane 8 (Core.zero.V 2) i = 0) ∧
    laneVal 8 0 = .fin 0 false ∧ (FVal.fin 0 false).isNan = false ∧ ltV (.fin 0 false) (.fin 0 false) = false := by decide +kernel

/-! MemorySteps -/

theorem witness_memorySteps : ∀ k ∈ [0x01, 0x02, 0x04, 0x05], standsAt k 0 0 0 = true := by decide
theorem witness_tableSteps : ∀ k ∈ [0x3C, 0x3D], standsAt k 8 8 0 = true ∧ isInt 8 = true := by decide
/-- 384 KiB less 256 bytes is the last place of the work area. -/
theorem witness_inside : (running.core 1).S 2 = 0 ∧ (393216 - 256) % 2 ^ 32 % 2 ^ 64 % 256 = 0 ∧ (393216 - 256) + 256 ≤ running.workBytes ∧
    (running.localRead 1 (393216 - 256) 256).1 = false := by decide
/-- 256 bytes of charter 2's one state unit. -/
theorem witness_insideState : ({ running with ch := { running.ch with stUnit := [(31, 2)] } } : State).stUnits 2 = [31] ∧
    (2 ^ 63 + 3840).testBit 63 = true ∧ 3840 + 256 ≤ 1 * 4096 := by decide
theorem witness_outside : running.workBytes < 393216 + 256 := by decide
/-- A model of one unit in slot 0; the op uses it. -/
def modelOp : Running := { runningOp with op := { runningOp.op with desc := [0x2FF, 0x1F20, 0, 0, 0, 0, 0, 0, 0, 0, 0, 0, 0, 0, 0, 0] } }
def withModel : State :=
  { standing 3 0 0 0 with ch := { (standing 3 0 0 0).ch with
      run := some modelOp
      slots := [(64, ⟨false, leBytes 256 5, 0, 0, 0, [4], 0, false, 0, 0, 0, 0, 0, false⟩), (95, ⟨true, stepBytes 3 0 0 0, 0, 0, 1, [], 0, false, 0, 0, 0, 0, 0, false⟩)] } }
theorem witness_ldm : (match withModel.nextStep 1 with | some (r, st) => decide (r = modelOp) && decide (st.prim = 3) | none => false) = true ∧
    flag (modelOp.op.desc.getD 1 0) 5 = true ∧
    (withModel.loaded? 2 (dfld modelOp.op.desc 1 0 5)).map (fun l => (l.itin, l.streamed)) = some (false, false) ∧
    (withModel.loaded? 2 0).map Loaded.size = some 65536 := by decide
theorem witness_ldm_near : ∀ l : Loaded, l.streamed = false → ∀ as, withModel.ldmBlocks 2 0 l as = [] := by
  intro l h as
  have : as.filter l.far = [] := by simp [Loaded.far, h]
  simp [State.ldmBlocks, this]
/-- A running op whose input 0 reads STREAM, DRAM or STATE; one record of 4 words is in its ring. -/
def readingOp (space addr len : Nat) : Running :=
  { runningOp with op := { runningOp.op with
      desc := [0x2FF, 0x1F00, 0, 0, 0, 0, BitVec.ofNat 32 space, 0, BitVec.ofNat 32 addr, BitVec.ofNat 32 (len * 65536), 0, 0, 0, 0, 0, 0]
      i0 := { Input.zero with recs := [(1, ⟨[7, 8, 9, 10], false, 0⟩)] } } }
theorem witness_recv_records : (((readingOp 1 0 0).op.input 0).recs.filter (fun q => decide (q.1 = (readingOp 1 0 0).index 1))).map (fun q => q.2.words.length) = [4] ∧
    inSpace (readingOp 1 0 0).op.desc 0 = 1 := by decide
/-- One line of DRAM has been read for logical index 0. -/
def dramRead : State :=
  { running with mgr := { running.mgr with ready := [⟨false, 0, 1, 0, 2, 0, .recv ((readingOp 5 64 1).recvKey 0), [], [], [], [(0, false)]⟩] } }
theorem witness_recv_dram : inSpace (readingOp 5 64 1).op.desc 0 = 5 ∧ inLen (readingOp 5 64 1).op.desc 0 = 64 ∧
    (dramRead.inputBytes (readingOp 5 64 1) 0 0 64).isSome = true := by decide +kernel
theorem witness_recv_state : inSpace (readingOp 6 0 64).op.desc 0 = 6 ∧ inLen (readingOp 6 0 64).op.desc 0 = 4096 ∧
    (running.readStore 1 [393216]).1 = false := by decide
theorem witness_hist : (running.readStore 1 [0, 4]).1 = false ∧ 4 + 4 ≤ running.workBytes := by decide

/-! FlowSteps -/

theorem witness_flowSteps : ∀ k ∈ [0x48, 0x49, 0x4A, 0x50, 0x51, 0x52, 0x53], standsAt k 0 0 0 = true := by decide
/-- Core 0 waits at the step, or core 1 comes first. -/
def meeting (prim : Nat) (waiting halted : Bool) : State :=
  { standing prim 0 0 1 with ch := { (standing prim 0 0 1).ch with cores := [(0, { Core.zero with waiting := waiting, halted := halted })] } }
theorem witness_meet : ∀ k ∈ [0x48, 0x49, 0x4A], ((meeting k true false).nextStep 1).isSome = true ∧ ((meeting k false false).nextStep 1).isSome = true ∧
    ((meeting k false true).nextStep 1).isSome = true ∧ ((meeting k true false).core 0).waiting = true ∧ ((meeting k true false).core 0).pc = 0 ∧
    ((meeting k false false).core 0).waiting = false ∧ ((meeting k false true).core 0).halted = true := by decide
/-- A LOOP of 0 rounds with an empty body. -/
theorem witness_loopSkipped : (match (⟨true, stepBytes 0x50 0 0 0 ++ stepBytes 0x51 0 0 0, 0, 0, 2, [], 0, false, 0, 0, 0, 0, 0, false⟩ : Loaded).step 1 with
    | some z => decide (z.prim = 0x51) | none => false) = true := by decide
def looping (rounds : Nat) : State :=
  { standing 0x51 0 0 0 with ch := { (standing 0x51 0 0 0).ch with cores := [(1, { Core.zero with loops := [(0, rounds)] })] } }
theorem witness_endl : ((looping 0).nextStep 1).isSome = true ∧ ((looping 1).nextStep 1).isSome = true ∧
    ((looping 1).core 1).loops = [(0, 0 + 1)] ∧ ((looping 0).core 1).loops = [(0, 0)] := by decide
theorem witness_brz : (running.core 1).S 2 = 0 ∧ ({ Core.zero with sr := [(2, 1)] } : Core).S 2 ≠ 0 := by decide
/-- Core 0 waits at the ALLRED at step 0; core 1 stands at the HALT at step 1. -/
def halting : State :=
  { running with ch := { running.ch with
      slots := [(95, ⟨true, stepBytes 0x48 0 0 0 ++ stepBytes 0x53 0 0 0, 0, 0, 2, [], 0, false, 0, 0, 0, 0, 0, false⟩)]
      cores := [(0, { Core.zero with waiting := true }), (1, { Core.zero with pc := 1 })] } }
theorem witness_halt : (match halting.nextStep 1 with | some (_, st) => decide (st.prim = 0x53) | none => false) = true ∧
    (halting.core 0).waiting = true ∧ (halting.core 0).pc = 0 := by decide

/-! ChartersAndKeys -/

theorem witness_charterBegin : Heard specCharterBegin (hmPk [15]) live ∧ live.chState 15 = .inactive := ⟨by unfold Heard State.serving; decide, by decide⟩
theorem witness_charterEnd : Heard specCharterEnd (chPk [2]) live ∧ live.active 2 = true ∧ live.chart.turnover = none ∧ live.packetsOpen 2 = false :=
  ⟨by unfold Heard State.serving; decide, by decide, by decide, by decide⟩
/-- A load of charter 2 is under way. -/
theorem witness_charterEnd_waits : Heard specCharterEnd (hmPk [2]) loading ∧ loading.packetsOpen 2 = true :=
  ⟨by unfold Heard State.serving; decide, by decide⟩
theorem witness_attest : Heard specAttest (hmPk [1, 2, 3, 4, 5, 6, 7, 8]) live := by unfold Heard State.serving; decide
theorem witness_keyAgree : Heard specKeyAgree (hmPk [1, 2, 3, 4, 5, 6, 7, 8, 9, 10, 11, 12, 13, 14, 15, 16, 1, 2, 3, 4, 5, 6, 7, 8]) live := by
  unfold Heard State.serving; decide
def withKek : State := { live with chart := { live.chart with kek := [(2, some 7), (16, some 7)], slots := [(0, ⟨.current, 5, 2, 0, 0⟩)] } }
theorem witness_keyInstall : Heard specKeyInstall (chPk [0, 0, 0, 0, 0, 0, 0, 0, 0, 0, 0]) withKek := by unfold Heard State.serving; decide
theorem witness_keyInstall_model : Heard specKeyInstall (chPk [1, 0, 0, 0, 0, 0, 0, 0, 0, 0, 0]) withKek := by unfold Heard State.serving; decide
theorem witness_keyInstall_state : tget withKek.chart.kek 2 none = some 7 ∧
    withKek.keygen 2 < 255 ∧ withKek.keyBusy 2 = false ∧ (withKek.keySlot 1).st = .free ∧ (withKek.keySlot 0).st ≠ .free ∧
    (withKek.memKey 2).map Prod.fst = some 0 := by decide
theorem witness_keyInstall_link : Heard specKeyInstall (hmPk [14, 0, 0, 0, 0, 0, 0, 0, 0, 0, 0]) withKek ∧ fld 14 0 2 = 2 ∧ fld 14 2 2 = 3 := by
  unfold Heard State.serving; decide
theorem witness_keyInstall_convoy : Heard specKeyInstall (hmPk [2, 0, 0, 0, 0, 0, 0, 0, 0, 0, 0]) withKek ∧ withKek.linkKey 0 false = none := by
  unfold Heard State.serving; decide
theorem witness_keyZeroise : Heard specKeyZeroise (chPk [0]) withKek ∧ (withKek.keySlot 0).st = .current ∧ (withKek.keySlot 0).owner = 2 := by
  unfold Heard State.serving; decide
theorem witness_linkMode : Heard specLinkMode (hmPk [3]) live ∧ flag 3 2 = false := by unfold Heard State.serving; decide
theorem witness_linkMode_guarded : Heard specLinkMode (hmPk [0])
    ({ live with convoy := { live.convoy with peers := [(0, { Peer.zero with sealMode := true })] } }) := by
  unfold Heard State.serving; decide
theorem witness_charterStatus : Heard specCharterStatus (chPk []) live := by unfold Heard State.serving; decide
def turning (begun scrub : Bool) : State :=
  { live with
    clk := { live.clk with powered := 50000000 }
    chart := { live.chart with turnover := some ⟨2, 16, 0, 1, begun, 0, scrub⟩, st := [(2, .ending)] } }
theorem witness_turnover : ∀ b c : Bool, (turning b c).chart.turnover = some ⟨2, 16, 0, 1, b, 0, c⟩ ∧ (turning b c).packetsOpen 2 = false ∧
    0 + 1300000 ≤ (turning b c).now := by decide

/-! SurveyCommands -/

theorem witness_surveySet : Heard specSurveySet (hmPk [600, 1, 2, 3, 4]) live ∧ fld 600 0 10 = 600 := by
  unfold Heard State.serving; decide
/-- The harbourmaster's allotment, the Survey units among it. -/
def surveying : State :=
  { live with
    clk := { live.clk with powered := 2200000000000 }
    ch := { live.ch with
      allot := [(16, ⟨2, 2, 8, false, false⟩)]
      stUnit := [(0, 16), (1, 16)]
      mdUnit := [(0, 16), (1, 16)] } }
theorem witness_surveyPredict : Heard specSurveyPredict (hmPk []) surveying ∧ surveying.findJob 0x91 = none ∧ surveying.ch.queue = [] ∧
    surveying.ownInstances hm < (surveying.allot hm).limit := by unfold Heard State.serving; decide
theorem witness_surveyCheckpoint : Heard specSurveyCheckpoint (hmPk []) surveying ∧ surveying.findJob 0x92 = none := by
  unfold Heard State.serving; decide
/-- In TEST, every domain off, the coolant steady for 600 s. -/
def recalibrating : State :=
  { surveying with
    dev := { surveying.dev with mode := .test }
    lk := { surveying.lk with doms := (List.range 72).map (fun h => (h, { HostDom.zero with req := false, ack := false })) }
    survey := { surveying.survey with offSince := 0, reports := [(0, 2560)] } }
theorem witness_surveyRecal : Heard specSurveyRecal (hmPk []) recalibrating ∧ recalibrating.findJob 0x93 = none ∧ recalibrating.recalReady = true :=
  ⟨by unfold Heard State.serving; decide, by decide, by decide⟩
theorem witness_surveyRead : Heard specSurveyRead (hmPk [255 + 4 * 256]) live ∧ siteKind 255 4 = true ∧ fld (255 + 4 * 256) 0 8 = 255 := by
  unfold Heard State.serving; decide
theorem witness_sensorScan : surveying.dev.phase ≠ .held ∧ surveying.survey.lastScanAt + 10000000 ≤ surveying.now ∧
    replyOf [⟨103, some 19200⟩] (72 + 31) = some 19200 ∧ sgn 16 19200 = 19200 ∧ sgn 16 58496 = -7040 ∧ replyOf [⟨103, none⟩] (72 + 31) = none ∧
    surveying.sensorFailed 103 = false := by decide
theorem witness_sensorThird : tget ({ surveying with survey := { surveying.survey with failRun := [(103, 2)] } }).survey.failRun (72 + 31) 0 = 2 := by decide
theorem witness_surveyTick : surveying.keeperRuns = true ∧ surveying.coresHeld = false ∧ surveying.survey.left = [] ∧
    surveying.survey.tickAt + surveying.survey.period * 1000000000 ≤ surveying.now ∧ surveying.surveyUnits = true ∧
    surveying.ownInstances hm + 3 ≤ (surveying.allot hm).limit ∧ surveying.ch.online.getLsbD 0 = true ∧ (surveying.stUnits hm).headD 31 = 0 ∧
    live.surveyUnits = false := by decide
theorem witness_journal : surveying.survey.entryAt + entryPeriod ≤ surveying.now ∧ surveying.survey.ckptAt + ckptPeriod ≤ surveying.now ∧
    surveying.lb.present = true ∧ surveying.survey.owed = [] ∧ surveying.io.ksErr = false := by decide
theorem witness_surveyDone : ∀ op ∈ [0x91, 0x92, 0x93], ∀ a : Fin 2,
    ({ surveying with esl := { surveying.esl with jobs := [⟨op, 16, 0, 1, a.val, 0, 0, 0⟩] } }).findJob op = some ⟨op, 16, 0, 1, a.val, 0, 0, 0⟩ := by decide

/-! FaultQueue -/

theorem witness_faultRaise : faultEntry 0x601 = some (2, 0) ∧ live.fc.pend = [] ∧ live.freeEntry = some 0 ∧ classOf 0x601 = 2 ∧
    faultEntry 0x306 = some (0, 0) := by decide
/-- An open entry of CH_RESIDUE. -/
def faulted : State := { live with fc := { live.fc with slots := [(0, ⟨0x700, 6, 1, false, false, 0, 0, 0⟩)], order := 1 } }
theorem witness_escalates : faulted.fc.slots.find? (fun e => decide (e.2.code = 0x700) && decide (e.2.unit = 6)) = some (0, ⟨0x700, 6, 1, false, false, 0, 0, 0⟩) ∧
    faultEntry 0x700 = some (1, 0) ∧ min 3 (max 1 (1 + 1)) = 2 := by decide
def full : State := { live with fc := { live.fc with slots := (List.range 8).map (fun i => (i, ⟨0x700, i, 1, false, false, 0, i, i⟩)), order := 8 } }
theorem witness_overflow : full.freeEntry = none ∧ full.victimEntry 2 = some 7 ∧
    full.fc.slots.find? (fun e => decide (e.2.code = 0x601) && decide (e.2.unit = 1)) = none := by decide
theorem witness_fallback : 0 + 800 ≤ strained.now ∧ strained.fc.pend = [] := by decide
theorem witness_faultRead : Heard specFaultRead (hmPk []) faulted := by unfold Heard State.serving; decide
theorem witness_faultRelease : Heard specFaultRelease (hmPk [0x700 + 6 * 65536]) faulted ∧ faulted.persisting 0x700 6 = false := by
  unfold Heard State.serving; decide
theorem witness_faultRelease_persists : ({ faulted with fc := { faulted.fc with persist := [fKey 0x700 6] } }).persisting 0x700 6 = true := by decide
theorem witness_faultPolicy : Heard specFaultPolicy (hmPk [0x700 + 3 * 65536]) live ∧ (faultEntry 0x700).isSome = true := by
  unfold Heard State.serving; decide
theorem witness_faultInject : Heard specFaultInject (hmPk [0x601 + 65536]) recalibrating ∧ (faultEntry 0x601).isSome = true := by
  unfold Heard State.serving; decide

/-! SafetyMechanisms -/

theorem witness_keeperFaults : live.dev.phase ≠ .held ∧ live.dev.mode ≠ .boot ∧ live.dev.restarting = false ∧ live.asleep = false ∧
    live.freeEntry = some 0 := by decide
def stopped : State := { strained with dev := { strained.dev with restarting := true, down := true, oldImage := some strained.dev.image, trialUntil := some 600000000000 } }
theorem witness_keeperRestart : stopped.dev.down = true ∧ stopped.dev.reload = false ∧ stopped.imageBad = false ∧ stopped.now < 600000000000 ∧ stopped.dev.trialUntil = some 600000000000 := by decide
def rising : State := { strained with dev := { strained.dev with restarting := true, down := false } }
theorem witness_keeperRestartComplete : rising.dev.restarting = true ∧ rising.dev.down = false ∧ rising.findJob trialOp = none ∧
    (∀ j ∈ rising.esl.jobs, j.op ≠ 0xB2) := by decide
theorem witness_heartbeat : ({ strained with fc := { strained.fc with tested := true } }).startupFault = false ∧
    strained.fc.hbAt + 500000 ≤ strained.now ∧ strained.fc.refLost = false := by decide

/-! ResetsAndStart -/

def held : State := { State.reset with ident := { State.reset.ident with pswDefault := 5 }, ledger := { Ledger.reset with st := .frozen } }
theorem witness_porst : held.ledger.st = .frozen := by decide
/-- An SFDP table of a 256 Mbit flash with the entries of R492 (the places PRESUMED, log 91). -/
def goodSfdp : List Byte :=
  leBytes 4 0x50444653 ++ leBytes 4 0xFF010106 ++ leBytes 4 0x10010600 ++ leBytes 4 0xFF000010 ++
  leBytes 4 0xFF6220E5 ++ leBytes 4 0x0FFFFFFF ++ List.replicate 20 0 ++ leBytes 4 0x520F200C ++ leBytes 4 0xFF00D810 ++
  leBytes 4 0 ++ leBytes 4 0x80 ++ List.replicate 12 0 ++ leBytes 4 0x00400000 ++ leBytes 4 0x3D000000
theorem witness_sfdp : sfdpFits goodSfdp = true ∧ flashMode goodSfdp = .quad ∧ sfdpFits (goodSfdp.take 60) = false ∧ sfdpFits [] = false := by decide
theorem witness_coldStart : held.dev.phase = .held ∧ held.ident.fuseWords = [] ∧ (17 : Nat) < bankRows 3 ∧ 0 < bankSpares 3 ∧ held.ecc.map = [] := by decide
theorem witness_warmReset : live.dev.phase ≠ .held ∧ live.chart.turnover = none := by decide
def rebooting : State := { live with dev := { live.dev with mode := .recovery, newImage := some live.dev.image, trialUntil := some 0 } }
theorem witness_warmReset_internal : rebooting.recoveryReset = true ∧ rebooting.chart.turnover = none := by decide
def started : State := { State.reset with dev := { Dev.reset with phase := .started } }
theorem witness_bootImageCheck : started.dev.phase = .started ∧ started.dev.wrst = false ∧ started.lb.present = true ∧ started.lb.firmware = [] := by decide
def imageRead : State := { State.reset with dev := { Dev.reset with phase := .imageRead, mode := .startup } }
theorem witness_firmwareStart : imageRead.dev.phase = .imageRead ∧ imageRead.dev.wrst = false ∧ imageRead.lb.settings = [] := by decide
def replacing : State := { live with dev := { live.dev with newImage := some live.dev.image } }
theorem witness_firmwareRestart : replacing.dev.newImage = some live.dev.image ∧ replacing.asleep = false ∧ replacing.safePoint = true := by decide
def trial : State := { live with dev := { live.dev with trialUntil := some 0 } }
theorem witness_trialExpiry : trial.dev.trialUntil = some 0 ∧ 0 ≤ trial.now ∧ trial.dev.restarting = false ∧ trial.dev.mode ≠ .recovery := by decide

/-! UpdatesAndRepair -/

theorem witness_updateBegin : Heard specUpdateBegin (hmPk [3 + 9 * 16, 1000]) live ∧ live.lb.update = none ∧ live.findJob 0xB2 = none := by
  unfold Heard State.serving; decide
def updating : State := { live with lb := { live.lb with update := some ⟨1, 0, 8, [1, 2, 3, 4], 0⟩ } }
theorem witness_updateData : Heard specUpdateData (hmPk [4, 4, 7]) updating ∧ fld ((hmPk [4, 4, 7]).ps.getD 1 0) 0 10 = 4 := by
  unfold Heard State.serving; decide
def updated : State := { live with lb := { live.lb with update := some ⟨1, 0, 4, [1, 2, 3, 4], 0⟩ } }
theorem witness_updateCommit : Heard specUpdateCommit (hmPk []) updated ∧ updated.findJob 0xB2 = none := by unfold Heard State.serving; decide
theorem witness_updateAbort : Heard specUpdateAbort (hmPk []) updated ∧ updated.lb.update.isSome = true := by unfold Heard State.serving; decide
def saved : State := { live with lb := { live.lb with settings := List.replicate 8 5, present := true } }
theorem witness_logbookRead : Heard specLogbookRead (hmPk [0, 4, 8]) saved ∧ saved.lb.region 0 0 = some (List.replicate 8 5, 65536) ∧
    fld 8 0 10 = 8 := by unfold Heard State.serving; decide
theorem witness_spareFuse : Heard specSpareFuse (hmPk []) live ∧ live.findJob 0xB7 = none := by unfold Heard State.serving; decide
def removed : State := { recalibrating with ch := { recalibrating.ch with online := 0xFFFE } }
theorem witness_coreRetest : Heard specCoreRetest (hmPk [0]) removed ∧ removed.findJob 0xB8 = none ∧ removed.ch.online.getLsbD 0 = false := by
  unfold Heard State.serving; decide
/-- A commit whose bytes are in scratch, and jobs of the other long packets. -/
def committing : State := { updated with
  lb := { updated.lb with update := some ⟨1, 0, 4, [1, 2, 3, 4], 4⟩ }
  ident := { updated.ident with fuseCount := 4 }
  ecc := { updated.ecc with map := [⟨0, 3, 17, 0, false⟩] }
  esl := { updated.esl with jobs := [⟨0xB2, 16, 1, 1, 0, 0, 0, 0⟩, ⟨0xB7, 16, 1, 2, 0, 0, 0, 0⟩, ⟨0xB8, 16, 1, 3, 5, 0, 0, 0⟩, ⟨0x03, 16, 1, 4, 0, 0, 0, 0⟩] } }
theorem witness_scratchProgram : updated.lb.update = some ⟨1, 0, 4, [1, 2, 3, 4], 0⟩ ∧ updated.lb.present = true := by decide
theorem witness_updateCommitDone : committing.findJob 0xB2 = some ⟨0xB2, 16, 1, 1, 0, 0, 0, 0⟩ ∧ committing.lb.present = true ∧
    committing.lb.update = some ⟨1, 0, 4, [1, 2, 3, 4], 4⟩ := by decide
theorem witness_fuseRoom : committing.ident.fuseWords.length < committing.ident.fuseCount.toNat := by decide
theorem witness_longEnds : committing.findJob 0xB7 = some ⟨0xB7, 16, 1, 2, 0, 0, 0, 0⟩ ∧
    committing.findJob 0xB8 = some ⟨0xB8, 16, 1, 3, 5, 0, 0, 0⟩ ∧ committing.findJob 0x03 = some ⟨0x03, 16, 1, 4, 0, 0, 0, 0⟩ := by decide

/-! ServicePort -/

def plugged : State := { live with
  chart := { live.chart with slots := [(0, ⟨.current, 5, 16, 2, 3⟩)] }
  clk := { live.clk with powered := 750000000 }
  svc := { live.svc with present := true, stpAuto := true, streaming := true, lane0 := ⟨true, 3, 0, 7, none, 1⟩, lane1 := ⟨true, 1, 0, 0, none, 1⟩, buf := [(16, List.replicate 512 1)] } }
theorem witness_stpControl : Heard specStpControl (hmPk [1]) plugged ∧ (plugged.linkKey 3 false).isSome = true := by
  unfold Heard State.serving; decide
theorem witness_serviceStatus : Heard specServiceStatus (hmPk []) live := by unfold Heard State.serving; decide
theorem witness_service : plugged.lk.st = .underway ∧ plugged.lk.entering = none ∧ plugged.svc.present = true ∧ plugged.svc.button = .released ∧
    live.svc.present = false ∧ live.lk.st = .underway := by decide
def pressing (b : Button) : State := { plugged with svc := { plugged.svc with button := b, pressAt := 10000000, shortDue := some 50000000 } }
theorem witness_button : (pressing .pressed).svc.button = .pressed ∧ (pressing .pressed).now = 30000000000 ∧
    (pressing .held).svc.button = .held ∧ (10000000 : Nat) + 20000000000 ≤ 30000000000 ∧ (pressing .stuck).svc.button = .stuck ∧
    (pressing .released).svc.shortDue = some 50000000 ∧ (pressing .released).svc.limiting = false ∧ plugged.dev.mode = .service := by decide
theorem witness_button_limited : ({ (pressing .released) with svc := { (pressing .released).svc with limiting := true, lastAct := some 29500000000 } }).svc.mayAct
    30000000000 = false := by decide
theorem witness_lanes : plugged.svc.lane0.up = true ∧ (plugged.svc.lane true).st = 1 ∧ (plugged.svc.lane false).st = 3 ∧
    (1000 : BitVec 10).toNat ≤ 1000 := by decide
def pausing : State := { plugged with svc := { plugged.svc with lane0 := ⟨true, 3, 0, 7, some 5000, 1⟩ } }
theorem witness_pauseEnd : (pausing.svc.lane false).pauseUntil = some 5000 ∧ 5000 ≤ pausing.now := by decide
theorem witness_stpFrame : (plugged.svc.lane false).st = 3 ∧ (plugged.svc.lane false).pauseUntil = none ∧
    (plugged.svc.lane false).ctr + 1 < 2 ^ 64 ∧ (plugged.svc.lane !false).st ≠ 3 ∧ plugged.svc.streaming = true ∧ plugged.svc.buf ≠ [] := by decide

/-! StoredWords -/

/-- Bank 3 in its first pass, 20 s old, a word corrected twice already and a spare row free. -/
def patrolled (x : Bank) : State := { strained with ecc := { strained.ecc with bank := [(6, x)], passHours := 1 } }
def visited : Bank := { Bank.zero with passNo := 1, passAt := 0, suspects := [⟨0, 2, 0⟩] }
theorem witness_patrolVisit : (patrolled visited).dev.phase = .running ∧ (patrolled visited).bank 6 = visited ∧ visited.pos < (patrolled visited).duePos 3 visited ∧ visited.nextWord = none ∧ (patrolled visited).patrolSees 3 false 0 .sideVote = 0 ∧
    (patrolled visited).patrolSees 3 false 0 .correctable = 1 ∧ (patrolled visited).patrolSees 3 false 0 .uncorrectable = 2 ∧
    (patrolled visited).patrolSees 3 false 0 .clean = 0 ∧ (patrolled visited).freeSpare 3 = some 0 ∧ (patrolled visited).opReads 3 0 = false := by decide
theorem witness_patrolVisit_mirror : live.mirrorOk true 5 = true := by decide
theorem witness_bankFails : ({ visited with ueRows := [(0, 0), (1, 0), (2, 0), (3, 0)] }).fourRows = true := by decide
theorem witness_checkerSelfTest : ((patrolled Bank.zero).bank 6).passNo = 0 ∧ ((patrolled Bank.zero).bank 6).failed = false := by decide
theorem witness_checkerSelfTest_again : ({ visited with pos := bankWords 3, selfFails := 1 }).selfFails ≠ 0 := by decide
theorem witness_rowMigrationDone : ((patrolled { visited with migrating := some 0 }).bank 6).migrating = some 0 ∧
    (patrolled { visited with migrating := some 0 }).freeSpare 3 = some 0 := by decide
theorem witness_bucketLeak : (patrolled visited).ecc.bank = [] ++ (6, visited) :: [] := by decide
theorem witness_mergeRmw : ((patrolled { visited with merge := [⟨9, 1, 0⟩] }).bank (2 * 3)).merge = [⟨9, 1, 0⟩] ∧
    (0 : Nat) + 54 ≤ (patrolled visited).now ∧ (patrolled visited).lk.st = .underway := by decide

/-! PaiEvents -/

/-- A command of charter 2, and a probe with it in flight and tagged, every stream on. -/
def aCmd : PaiCmd := ⟨0x000105, 0x1000, 3, 2, false, 4, 9, 7⟩
def anyFlt : Filter := { Filter.zero with priv := 3, classMask := 0xFFFF, rangeSel := 7 }
def capturing (x : Probe) : State := { live with probes := [(3, x)], esl := { live.esl with idMode := 4 } }
def inFlight : Probe := { Probe.zero with
  cfg := { ProbeCfg.zero with enable := 0x1FFF, cmdOn := true, cmdFlt := anyFlt, rise := 1, cswitch := true, sampler := ⟨true, anyFlt, false, 64, 0⟩ }
  edge := 100, lfsr := 5, inflight := [⟨aCmd, 90, 0, false⟩], tagged := [⟨0x000105, 90, 0, 16⟩], carry := 0x21
  due := some (aCmd, 10, 10000, 0, false) }
theorem witness_probeRuns : (capturing inFlight).probeRuns 3 = true ∧ (capturing inFlight).probe 3 = inFlight := by decide
theorem witness_commandIssue : aCmd.priv = false ∧ (capturing inFlight).esl.idMode.getLsbD 2 = true ∧ (capturing inFlight).active 2 = true ∧
    tget inFlight.curLayer 2 0 ≠ 10 ∧ inFlight.layers = [] ∧ inFlight.cfg.cmdFlt.cmd inFlight.cfg aCmd = true := by decide
theorem witness_commandRetire : inFlight.inflight.find? (fun f => decide (f.cmd.tag.toNat % 256 = aCmd.tag.toNat % 256)) = some ⟨aCmd, 90, 0, false⟩ ∧
    inFlight.tagged.find? (fun e => decide (e.tag = aCmd.tag)) = some ⟨0x000105, 90, 0, 16⟩ ∧
    (((capturing inFlight).queue 3).filter (fun r => r.inBuffer 3)).length < 64 := by decide
theorem witness_commandRetire_untagged : ∀ e ∈ ({ inFlight with tagged := [] }).tagged, e.tag ≠ aCmd.tag := by decide
theorem witness_preciseSample : inFlight.due = some (aCmd, 10, 10000, 0, false) ∧
    ¬ 64 ≤ (((capturing inFlight).queue 3).filter (fun r => r.inBuffer 3)).length := by decide
theorem witness_stageEntry : inFlight.tagged.filter (fun e => decide (e.tag.toNat % 256 = (5 : BitVec 8).toNat)) = [⟨0x000105, 90, 0, 16⟩] ∧
    inFlight.tagged.filter (fun e => decide (e.tag.toNat % 256 = (6 : BitVec 8).toNat)) = [] := by decide
theorem witness_evtEdge : inFlight.evt.getLsbD 0 ≠ true ∧ (1 : BitVec 64).getLsbD 0 = true ∧ inFlight.cfg.rise.getLsbD 0 = true ∧
    (tget inFlight.windows 0 ⟨0, 0, 0⟩).count = 0 := by decide
/-- Line 0 with two suppressed edges in its window, at the window's last edge and after it. -/
def crowded (start : Nat) : Probe := { inFlight with windows := [(0, ⟨start, 2, 7⟩)] }
theorem witness_evtEdge_window : (tget (crowded 38).windows 0 ⟨0, 0, 0⟩).start = 38 ∧ (crowded 38).edge + 1 = 38 + 63 ∧
    37 + 63 < (crowded 37).edge + 1 ∧ 37 + 63 ≤ (crowded 37).edge ∧ (tget (crowded 37).windows 0 ⟨0, 0, 0⟩).count ≠ 0 := by decide
theorem witness_charterSwitch : (2 : BitVec 4).toNat ≠ inFlight.curCharter.toNat ∧ inFlight.curPriv = false := by decide
theorem witness_counterWrap : inFlight.carry.getLsbD 0 = true ∧ inFlight.carry.getLsbD 5 = true := by decide
/-- The harbourmaster has a destination and the sample buffer of probe 3 is full. -/
def crammed : State :=
  let s := capturing { inFlight with replica := { Replica.zero with loaded := true } }
  let r : Rec := ⟨0x12, 3, 16, 2, 0, 0, [], 0, 0, 0⟩
  { s with exp := [(16, { Export.zero with stp := true })], canal := { s.canal with q := [(3, List.replicate 64 r)] } }
theorem witness_preciseSample_full : crammed.canEmit 3 (inFlight.cfg.sampler.flt.sampleOwner) = true ∧
    64 ≤ ((crammed.queue 3).filter (fun r => r.inBuffer 3)).length ∧ crammed.probeRuns 3 = true := by decide

/-! ProbeUpkeep -/

def tallying : Probe := { inFlight with tallyEdges := 2 ^ 20, invEdges := 65536, cnt := [(0, 4), (1, 8)] }
theorem witness_tallyDump : (capturing tallying).probeLive 3 = true ∧ (capturing tallying).probe 3 = tallying ∧
    2 ^ tallying.tallyCur ≤ tallying.tallyEdges ∧ tallying.cfg.enable.getLsbD 0 = true := by decide
theorem witness_slotInvariant : 65536 ≤ tallying.invEdges ∧ tallying.broken ((capturing tallying).probeW 3) = false ∧
    ({ tallying with cnt := [(0, 4), (1, 9)] }).broken 2 = true ∧ (capturing tallying).probeW 3 = 2 := by decide
def asked16 : Probe := { tallying with snapReq := [⟨4, false, true, none, some 2, 99⟩, ⟨1, true, true, none, none, 100⟩] }
theorem witness_snapshotTake : asked16.snapReq.filter (fun r => asked16.haltTs.isSome || decide (r.edge < asked16.edge)) = [⟨4, false, true, none, some 2, 99⟩] ∧
    asked16.copying = [] := by decide
def copied : State := { capturing { tallying with copying := [⟨4, false, true, none, some 2, 99⟩] } with
  win := { live.win with snap := [(2, ⟨8, 8, true, false, false, false, 0, 3⟩)] } }
theorem witness_snapshotCopyDone : (copied.probe 3).copying ≠ [] ∧ (copied.snapWin 2).pendingP = BitVec.ofNat 128 (2 ^ 3) := by decide
def timed : Probe := { inFlight with
  cfg := { inFlight.cfg with period := 1 }, frameSnapAt := some 0, stretch := true, lastEdgeTs := 20, prevEdgeTs := 4, stretchReported := 8, stretchEdge := 36
  lastPeriodic := 7, haltTs := none }
theorem witness_timed : (capturing timed).probeTs 3 / (4000 * timed.cfg.period) ≠ timed.lastPeriodic ∧ timed.frameSnapAt = some 0 ∧
    timed.stretchReported < 8 * (max 16 8 - min 16 8) ∧ timed.stretchEdge + 64 ≤ timed.edge ∧ timed.lastEdgeTs - timed.prevEdgeTs = 16 ∧
    (capturing timed).probeRuns 3 = true := by decide
theorem witness_stretchEnd : ({ timed with stretch := false }).stretchReported ≠ 0 := by decide
theorem witness_clkHalt : (capturing { inFlight with wr := [(6, 43)] }).probeRuns 3 = true := by decide
theorem witness_clkResume : (capturing { inFlight with haltTs := some 20 }).probeLive 3 = true := by decide
theorem witness_hrst : inFlight.hrst = false ∧ (capturing inFlight).ident.nProbes = 128 ∧ ({ inFlight with hrst := true }).up = true ∧
    ({ inFlight with hrst := true }).disabled = false := by decide
theorem witness_hrst_off : ({ inFlight with hrst := true, up := false }).up = false := by decide
def darkened : State := { capturing { inFlight with up := false } with lk := { live.lk with doms := [(3, { HostDom.zero with req := true, ack := true })] } }
theorem witness_probePowerUp : (darkened.probe 3).up = false ∧ darkened.probePowered 3 = true := by decide
theorem witness_fatals : inFlight.railSeen = false ∧ inFlight.tclkLost = false ∧ (capturing inFlight).armed 3 = true ∧ inFlight.up = true ∧
    inFlight.disabled = false ∧ inFlight.fatalSeen = false := by decide

/-! CanalFlow -/

/-- One record of probe 3 for the harbourmaster, in its queue and old. -/
def carrying : State :=
  let r : Rec := ⟨0x0E, 3, 16, 1, 5, 0, [0], 0, 0, 0⟩
  { strained with
    canal := { strained.canal with pound := [(3, [r])], q := [(134, [r])] }
    basins := { strained.basins with owner := [(0, 16)], quota := [(16, 1)] } }
def theRec : Rec := ⟨0x0E, 3, 16, 1, 5, 0, [0], 0, 0, 0⟩
theorem witness_basinAdmit_idle : (requesters 0).all (fun k => (sourcesOf k).all (fun src => (live.srcHead src).isNone)) = true := by decide
theorem witness_basinAdmit : carrying.lk.st = .underway ∧ carrying.pickReq 0 = some (0, 1, 0) ∧ carrying.pickSource 0 1 = some 3 ∧
    carrying.fc.owed = [] ∧ carrying.ledger.owed = none ∧ carrying.poundQ 3 = [theRec] ∧ carrying.srcHead 3 = some (0, theRec) ∧ theRec.len ≤ 8 ∧ carrying.active 16 = true ∧
    (carrying.stream 3 16).held = false := by decide
theorem witness_basinAdmit_room : (carrying.admitTo theRec).isSome = true := by decide +kernel
theorem witness_basinAdmit_alone : (requesters 0).all (fun k => (sourcesOf k).all (fun src => src = 3 || ({ carrying with canal := { carrying.canal with q := [] } }.srcHead src).isNone)) = true := by decide
theorem witness_basinAdmit_full : (({ carrying with basins := { carrying.basins with quota := [] } }).admitTo theRec) = none := by decide +kernel
theorem witness_sourceRecordTimeout : (carrying.queue 134).filter (fun r => decide (r.cls ≠ 0 ∧ r.inAt + 131072 ≤ carrying.now)) = [theRec] := by decide
def aLoss : Loss := ⟨16, 2, 3, 100, 0, 0, 0⟩
def aMark : Weir := ⟨16, 3, 1, 90, 95, 4, 0, 1, 0, 0, 0, 0, 0, 7⟩
def losing (acc : List Weir) : State := { carrying with canal := { carrying.canal with losses := [(3, [aLoss])], acc := acc, closed := [aMark] } }
theorem witness_lossToken : tget (losing []).canal.losses 3 [] = [aLoss] ∧ (losing []).canal.tableUsed < 512 ∧ (losing []).active 16 = true ∧
    live.active 5 = false := by decide
theorem witness_lossToken_open : (losing [aMark]).canal.acc = [aMark] ∧ aLoss.ts < aMark.first + 2 ^ 18 ∧ aMark.first ≤ aLoss.ts := by decide
theorem witness_lossToken_table : 512 ≤ (losing (List.replicate 512 { aMark with lost := 4 })).canal.tableUsed := by decide +kernel
theorem witness_weirAccumTimeout : (losing [aMark]).canal.acc[0]? = some aMark ∧ aMark.lastAt + 16384 ≤ (losing [aMark]).now := by decide
theorem witness_weirAccumTimeout_young : live.now < ({ aMark with lastAt := 1 }).lastAt + 16384 ∧ live.used 16 * 8 ≤ live.baseCells 16 * 7 := by decide +kernel
theorem witness_weirAccumTimeout_full : ({ live with basins := { live.basins with quota := [], charterQ := [(16, [⟨0, 0, [], 8, false⟩])] } }).baseCells 16 * 7 <
    ({ live with basins := { live.basins with quota := [], charterQ := [(16, [⟨0, 0, [], 8, false⟩])] } }).used 16 * 8 := by decide +kernel
def weirReady : State := { losing [] with
  exp := [(16, { Export.zero with stp := true })]
  canal := { (losing []).canal with streams := [(137 * 32 + 16, { Stream.zero with active := true, seen := true })] } }
theorem witness_weirMarkWrite : weirReady.canal.closed = [aMark] ∧ weirReady.canEmit 137 16 = true ∧ (weirReady.stream 137 16).active = true ∧
    weirReady.queue 137 = [] ∧ weirReady.canal.lastMarkAt = 0 ∧ (losing []).canEmit 137 16 = false := by decide
theorem witness_weirMarkWrite_room : weirReady.freeCell (weirReady.basins.head.take 2) ≠ none := by decide +kernel
theorem witness_weirMarkWrite_full : ∀ r : Rec, r.owner = 16 →
    ({ weirReady with basins := { weirReady.basins with head := [] } }).prioRoom r = false := by
  intro r h; simp only [State.prioRoom, State.prioQ, h]; rfl
def later : State := { weirReady with time := { weirReady.time with cvt := 2 ^ 60 } }
theorem witness_sourceSilent : (later.stream 137 16).seen = true ∧ (later.stream 137 16).lastDeliv + 2 ^ 20 ≤ later.ts ∧ (later.stream 137 16).explained = false ∧ later.active 16 = true := by
  decide +kernel
def failedProbe : State := { later with probes := [(3, { Probe.zero with disabled := true })] }
theorem witness_standingWeirMark : (failedProbe.probe 3).disabled = true ∧ (failedProbe.probe 3).markTs < failedProbe.ts ∧
    (failedProbe.probe 3).markTs = (failedProbe.probe 3).disabledTs := by decide +kernel

end Sys2Proof.Tests
end

section
/-! SUPPORT. What any command can do to the mode, the start-up, the power state, Convoy Time, the queue and the integration
values, said once (`Moves`); the statements about these. -/

namespace Sys2Proof.Machine

/-! ## What any command can do to the parts that no packet changes -/

/-- The identification values with the items that commands may write set to 0 (R34, R454, R456). -/
def Ident.integration (i : Ident) : Ident :=
  { i with fw := 0, fuseErr := 0, chip := 0, fuseWords := [], fuseBad := [], sparesFused := 0 }

/-- After a warm reset (R490). -/
def Fix.warm (f : Fix) : Fix :=
  { f with ident := { f.ident with fw := 0 }, booting := true, phase := .started, ready := false, power := .underway, entering := none }

/-- How a command can change the parts that no packet changes: each way names the commands that take it and the state it
starts from. -/
inductive Moves (f : Fix) : Instr → Fix → Prop
  | stays (i : Instr) : Moves f i f
  | newFirmware (i : Instr) (fw : W32) (h : i = .firmwareRestart ∨ i = .keeperRestartComplete) :
      Moves f i { f with ident := { f.ident with fw := fw } }
  | stepsCvt (i : Instr) (cvt : Nat) (h : i = .stepEdge ∨ i = .followerStep) : Moves f i { f with cvt := cvt }
  | porst : Moves f .porstNAssert
      { f with ident := { f.ident with fw := 0, fuseErr := 0 }, booting := true, phase := .held, ready := false
               power := .underway, entering := none, cvt := 0, powered := 0 }
  | coldStart (strap : BitVec 2) (found : StartFinds) (err spares : Nat) (h : f.phase = .held) : Moves f (.coldStart strap found)
      { f with phase := .started
               ident := { f.ident with chip := strap, fuseBad := found.fuseBad, fuseErr := err, sparesFused := spares } }
  | warm (i : Instr) (h : i = .sleepExitComplete ∨ ∃ c, i = .warmReset c) : Moves f i f.warm
  | imageFound (fw : W32) (h : f.phase = .started) : Moves f .bootImageCheck
      { f with ident := { f.ident with fw := fw }, booting := false, phase := .imageRead }
  | recovery (h : f.phase = .started) : Moves f .bootImageCheck { f with booting := false, phase := .running, ready := true }
  | firmwareStart (h : f.phase = .imageRead) : Moves f .firmwareStart { f with phase := .running, ready := true }
  | fuses (results : List Bool) (words : List W32) (spares : Nat) : Moves f (.spareFuseDone results)
      { f with ident := { f.ident with fuseWords := words, sparesFused := spares } }
  | sleeps (i : Instr) (p : Power) (e : Option Power) (hi : i = .powerStateChoice ∨ i = .sleepEntryComplete)
      (h : f.phase = .running ∨ f.entering.isSome = true) : Moves f i { f with power := p, entering := e }
  | rises : Moves f .sleepExitComplete { f with power := .underway }

/-- A command that answers a next state and moves in one of these ways. -/
def Acts (i : Instr) (s : State) : Prop := ∃ t, exec i s = .next t ∧ Moves s.fix i t.fix

theorem moves_of_rest {f : Fix} {i : Instr} {u t : State} (h : t.rest = u.rest) (hm : Moves f i u.fix) : Moves f i t.fix :=
  fix_of_rest h ▸ hm

theorem moves_of_fix {f g : Fix} {i : Instr} {t : State} (h : t.fix = g) (hm : Moves f i g) : Moves f i t.fix := h ▸ hm

theorem acts_porstNAssert (s : State) : Acts .porstNAssert s := ⟨_, rfl, .porst⟩

theorem State.applyFuses_fix (s : State) : s.applyFuses.fix =
    { s.fix with ident := { s.fix.ident with fuseErr := min 65535 s.ident.fuseErrors, sparesFused := s.ident.fuses.length } } :=
  fix_of_rest (foldl_rest _ (fun _ _ => rest_of_ite rfl (State.modBank_rest ..)) _ _)

theorem acts_coldStart (strap : BitVec 2) (found : StartFinds) (s : State) : Acts (.coldStart strap found) s := by
  refine ⟨_, rfl, ?_⟩
  by_cases hp : s.dev.phase = .held
  · rw [if_neg (not_not.mpr hp)]
    extract_lets _ _ _ _ s1 s2 s3
    have h2 : s2.fix = s1.fix := fix_of_rest (foldl_rest _ (fun s p => rest_of_ite rfl (State.modProbe_rest ..)) _ _)
    have h3 : s3.fix = s2.applyFuses.fix := fix_of_rest (State.memoryTest_rest ..)
    refine moves_of_rest (rest_of_ite rfl ((State.setPersist_rest ..).trans (State.raise_rest ..))) ?_
    rw [h3, State.applyFuses_fix, h2]
    exact .coldStart strap found _ _ hp
  · rw [if_pos hp]
    exact .stays _

theorem State.warm_fix (s : State) (last : Nat) (wrst : Bool) : (s.warm last wrst).fix = s.fix.warm := by
  refine (fix_of_rest (State.setPersist_rest ..)).trans ?_
  have h : s.warmTurnover.fix = s.fix := fix_of_rest (State.warmTurnover_rest s)
  exact (show _ = s.warmTurnover.fix.warm from rfl).trans (congrArg Fix.warm h)

theorem acts_warmReset (src : ResetCause) (s : State) : Acts (.warmReset src) s := by
  have hw : ∀ last wrst, Moves s.fix (.warmReset src) (s.warm last wrst).fix := fun last wrst =>
    s.warm_fix last wrst ▸ .warm _ (.inr ⟨src, rfl⟩)
  refine ⟨_, rfl, ?_⟩
  cases src with
  | wrst =>
    dsimp only
    split
    · exact .stays _
    · exact hw _ _
  | internal =>
    dsimp only
    split
    · exact hw _ _
    · exact .stays _

theorem acts_bootImageCheck (s : State) : Acts .bootImageCheck s := by
  refine ⟨_, rfl, ?_⟩
  by_cases hc : (decide (s.dev.phase ≠ .started) || s.dev.wrst) = true
  · rw [if_pos hc]
    exact .stays _
  · rw [if_neg hc]
    have hp : s.dev.phase = .started := by_contra fun h => hc (by simp [h])
    extract_lets _ s1 b
    have h1 : s1.fix = s.fix := fix_of_rest (State.lbAccess_rest _)
    have hp1 : s1.fix.phase = .started := h1 ▸ hp
    clear_value s1
    rw [← h1]
    split
    · exact .imageFound _ hp1
    · extract_lets s2
      have h2 : Moves s1.fix .bootImageCheck s2.fix := .recovery hp1
      exact moves_of_rest (rest_of_ite (State.stpPlug_rest _) rfl) h2

theorem acts_firmwareStart (s : State) : Acts .firmwareStart s := by
  refine ⟨_, rfl, ?_⟩
  by_cases hc : (decide (s.dev.phase ≠ .imageRead) || s.dev.wrst) = true
  · rw [if_pos hc]
    exact .stays _
  · rw [if_neg hc]
    have hp : s.dev.phase = .imageRead := by_contra fun h => hc (by simp [h])
    extract_lets cold _ s1 s2 s3 _ s4
    have h2 : s2.fix = s1.fix := (fix_of_rest (State.takeConsts_rest _)).trans ((State.takeSettings_fix _).trans
      (fix_of_rest ((State.applyMap_rest _).trans (State.readMap_rest _))))
    have h3 : s3.fix = s1.fix := (fix_of_ite (fix_of_rest (State.restoreSurvey_rest ..)) (fix_of_rest (State.keeperAdds_rest _))).trans h2
    have h4 : s4.fix = { s3.fix with ready := true } := rfl
    refine moves_of_rest (rest_of_ite (State.stpPlug_rest _) rfl) ?_
    rw [h4, h3]
    exact .firmwareStart hp

theorem acts_firmwareRestart (s : State) : Acts .firmwareRestart s := by
  refine ⟨_, rfl, ?_⟩
  split
  · exact .stays _
  · split
    · exact .stays _
    · exact .newFirmware _ _ (.inl rfl)

theorem acts_keeperRestartComplete (s : State) : Acts .keeperRestartComplete s := by
  refine ⟨_, rfl, ?_⟩
  split
  · exact .stays _
  · exact moves_of_rest ((State.trialBegins_rest _).trans (State.trialFailed_rest _)) (.newFirmware _ _ (.inr rfl))

theorem acts_spareFuseDone (results : List Bool) (s : State) : Acts (.spareFuseDone results) s := by
  refine ⟨_, rfl, ?_⟩
  split
  · exact .stays _
  · exact moves_of_rest ((State.endJob_rest ..).trans (State.lbWrite_rest ..)) (.fuses _ _ _)

theorem Stepped.fix {s t : State} (h : Stepped s t) : t.fix = { s.fix with cvt := t.time.cvt } := congrArg Rest.fix h

theorem acts_stepEdge (s : State) : Acts .stepEdge s := by
  obtain ⟨t, he, ht⟩ := execStepEdge_moves s
  exact ⟨t, he, ht.fix ▸ .stepsCvt _ _ (.inl rfl)⟩

theorem acts_followerStep (s : State) : Acts .followerStep s := by
  obtain ⟨t, he, ht⟩ := execFollowerStep_moves s
  exact ⟨t, he, ht.fix ▸ .stepsCvt _ _ (.inr rfl)⟩

/-- A power state is reached, and TCLK may stop with it (R126, R355). -/
theorem State.reach_fix {u : State} {f : Fix} (hu : u.fix = f) (p : Power) (stop : Bool) :
    ({ u.reach p with clk := { (u.reach p).clk with stop := stop } } : State).fix = { f with power := p, entering := none } := by
  subst hu
  rfl

/-- The entry to a power state begins (R346, R357). -/
theorem entering_fix {u : State} {f : Fix} (hu : u.fix = f) (p : Power) (known : Option Nat) (horizon : Nat) :
    ({ u with lk := { u.lk with entering := some p, knownAt := known, horizon := horizon, heldWake := none } } : State).fix =
      { f with entering := some p } := by
  subst hu
  rfl

/-- A horizon is noted (R352). -/
theorem horizon_fix {u : State} {f : Fix} (hu : u.fix = f) (known : Option Nat) (horizon : Nat) :
    ({ u with lk := { u.lk with knownAt := known, horizon := horizon } } : State).fix = f := hu

theorem acts_powerStateChoice (s : State) : Acts .powerStateChoice s := by
  refine ⟨_, rfl, ?_⟩
  dsimp only
  split
  · exact .stays _
  · rename_i hc
    have hp : s.dev.phase = .running := by_contra fun h => hc (by simp [h])
    have hs : ∀ p e, Moves s.fix .powerStateChoice { s.fix with power := p, entering := e } := fun p e =>
      .sleeps _ p e (.inl rfl) (.inl hp)
    split
    · exact .stays _
    · exact moves_of_fix (State.reach_fix (horizon_fix (fix_of_rest (State.settleAll_rest s)) ..) ..) (hs .slack none)
    · refine moves_of_rest (rest_of_ite (State.drainAll_rest _) (State.closeAll_rest ..)) ?_
      refine moves_of_fix (entering_fix (fix_of_rest ?_) ..) (hs s.lk.st _)
      exact (State.announceSleep_rest ..).trans (State.emitPower_rest ..)

theorem acts_sleepEntryComplete (s : State) : Acts .sleepEntryComplete s := by
  refine ⟨_, rfl, ?_⟩
  cases he : s.lk.entering with
  | none => exact .stays _
  | some p =>
    have hs : ∀ p e, Moves s.fix .sleepEntryComplete { s.fix with power := p, entering := e } := fun p e =>
      .sleeps _ p e (.inr rfl) (.inr (Option.isSome_iff_exists.mpr ⟨_, he⟩))
    dsimp only
    split
    · refine moves_of_fix (State.runWaiting_fix _) (moves_of_rest ((State.hushSleep_rest _).trans (State.emitPower_rest ..)) ?_)
      exact hs s.lk.st none
    · split
      · exact .stays _
      split
      · exact moves_of_rest (State.drainAll_rest _) (.stays _)
      · refine moves_of_fix (State.reach_fix (fix_of_rest ?_) ..) (hs p none)
        have h : ((List.range 139).foldl State.stopStreams s.settleAll).rest = s.rest :=
          (foldl_rest _ State.stopStreams_rest _ _).trans (State.settleAll_rest _)
        exact rest_of_ite ((State.layUp_rest _).trans h) h

theorem State.rise_fix (s : State) : s.rise.fix = { s.fix with power := .underway } := by
  unfold State.rise
  extract_lets _ _ _ _ s1
  have h1 : s1.fix = { s.fix with power := .underway } := rfl
  refine (fix_of_rest (State.lateHoldover_rest _)).trans (fix_of_ite h1 ?_)
  exact (fix_of_rest ((State.hushSleep_rest _).trans (State.emitPower_rest ..))).trans h1

theorem acts_sleepExitComplete (s : State) : Acts .sleepExitComplete s := by
  refine ⟨_, rfl, ?_⟩
  split
  · exact .stays _
  · extract_lets laid s1
    have h1 : s1.fix = s.fix := fix_of_ite (fix_of_rest (State.askKey_rest ..)) rfl
    rw [← h1]
    clear_value s1
    split
    · have h : (s1.rise.raise 0x204 0 0).fix = { s1.fix with power := .underway } :=
        (fix_of_rest (State.raise_rest ..)).trans (State.rise_fix _)
      exact moves_of_fix ((State.warm_fix ..).trans (congrArg Fix.warm h)) (.warm _ (.inl rfl))
    · rename_i s2 s3 _
      have h2 : s2.fix = s1.fix := by
        refine fix_of_ite ?_ rfl
        split
        · exact (fix_of_rest (State.afterLaidUp_rest _)).trans rfl
        · rfl
      have h3 : s3.fix = s2.rise.fix := fix_of_rest (State.checkLate_rest _)
      refine moves_of_fix ((State.runWaiting_fix _).trans h3) ?_
      rw [State.rise_fix, h2]
      exact .rises

/-- Every command answers a next state and moves in one of these ways. -/
theorem exec_acts (i : Instr) (s : State) : Acts i s := by
  by_cases h : steady i = true
  · obtain ⟨t, he, ht⟩ := exec_fixed i s h
    exact ⟨t, he, ht ▸ .stays i⟩
  · cases i with
    | porstNAssert => exact acts_porstNAssert s
    | coldStart strap found => exact acts_coldStart strap found s
    | warmReset src => exact acts_warmReset src s
    | bootImageCheck => exact acts_bootImageCheck s
    | firmwareStart => exact acts_firmwareStart s
    | firmwareRestart => exact acts_firmwareRestart s
    | spareFuseDone results => exact acts_spareFuseDone results s
    | stepEdge => exact acts_stepEdge s
    | followerStep => exact acts_followerStep s
    | powerStateChoice => exact acts_powerStateChoice s
    | sleepEntryComplete => exact acts_sleepEntryComplete s
    | sleepExitComplete => exact acts_sleepExitComplete s
    | keeperRestartComplete => exact acts_keeperRestartComplete s
    | _ => exact absurd rfl h

/-! ## The device mode, the start-up phase and the power state -/

/-- The invariant of the device mode, the start-up phase and the power state, of the parts that no packet changes (R26, R344, R487). -/
def Fix.modeWf (f : Fix) : Prop :=
  (f.booting = true ↔ f.phase = .held ∨ f.phase = .started) ∧ (f.ready = true ↔ f.phase = .running) ∧
  (f.power ≠ .underway → f.phase = .running) ∧ (f.entering.isSome = true → f.phase = .running)

theorem modeWf_iff_fix (s : State) : s.modeWf ↔ s.fix.modeWf := by
  have hb : s.fix.booting = true ↔ s.dev.mode = .boot := decide_eq_true_iff
  unfold Fix.modeWf
  rw [hb]
  rfl

theorem Moves.modeWf {f g : Fix} {i : Instr} (h : Moves f i g) (hf : f.modeWf) : g.modeWf := by
  obtain ⟨hboot, hready, hpower, hentering⟩ := hf
  cases h with
  | stays => exact ⟨hboot, hready, hpower, hentering⟩
  | newFirmware => exact ⟨hboot, hready, hpower, hentering⟩
  | stepsCvt => exact ⟨hboot, hready, hpower, hentering⟩
  | fuses => exact ⟨hboot, hready, hpower, hentering⟩
  | porst => simp [Fix.modeWf]
  | warm => simp [Fix.modeWf, Fix.warm]
  | coldStart strap found err spares hp => simp_all [Fix.modeWf]
  | imageFound fw hp => simp_all [Fix.modeWf]
  | recovery hp => simp_all [Fix.modeWf]
  | firmwareStart hp => simp_all [Fix.modeWf]
  | sleeps _ p e hi hp =>
    have hrun : f.phase = .running := hp.elim id hentering
    exact ⟨hboot, hready, fun _ => hrun, fun _ => hrun⟩
  | rises => exact ⟨hboot, hready, fun hn => absurd rfl hn, hentering⟩

/-- Time that passes leaves the mode, the start-up and the power state alone. -/
theorem tick_modeWf (s : State) (h : s.modeWf) : (tick s).modeWf := by
  unfold tick
  split
  · exact h
  · split <;> exact h

/-- Settles O5: every step keeps the invariant, since every command moves in one of the ways of `Moves`. -/
theorem modeInvariant : Obligations.ModeInvariant := by
  intro s t hs he
  unfold step at he
  split at he
  · cases he
    exact tick_modeWf s hs
  · next c rest _ =>
    obtain ⟨u, hu, hm⟩ := exec_acts c { s with pending := rest }
    cases hu.symm.trans he
    rw [modeWf_iff_fix] at hs ⊢
    exact hm.modeWf hs

/-- Settles O4: at reset the block is held in BOOT, UNDERWAY. -/
theorem modeInvariantAtReset : Obligations.ModeInvariantAtReset := by
  unfold Obligations.ModeInvariantAtReset State.modeWf
  decide

theorem Moves.pending {f g : Fix} {i : Instr} (h : Moves f i g) : g.pending = f.pending := by
  cases h <;> rfl

/-- Settles O6: no way of `Moves` touches the queue. -/
theorem commandsCompleteAndLeaveQueue : Obligations.CommandsCompleteAndLeaveQueue := by
  intro i s
  obtain ⟨t, ht, hm⟩ := exec_acts i s
  exact ⟨t, ht, hm.pending⟩

/-! ## The identification values -/

theorem Moves.integration {f g : Fix} {i : Instr} (h : Moves f i g) : g.ident.integration = f.ident.integration := by
  cases h <;> rfl

theorem Moves.chip {f g : Fix} {i : Instr} (h : Moves f i g) (hi : ∀ a b, i ≠ .coldStart a b) : g.ident.chip = f.ident.chip := by
  cases h with
  | coldStart strap found => exact absurd rfl (hi strap found)
  | _ => rfl

theorem Moves.fuseWords {f g : Fix} {i : Instr} (h : Moves f i g) (hi : ∀ r, i ≠ .spareFuseDone r) :
    g.ident.fuseWords = f.ident.fuseWords := by
  cases h with
  | fuses results => exact absurd rfl (hi results)
  | _ => rfl

/-- Settles O7: the ways of `Moves` write the firmware version, the fuse items and the chip index alone. -/
theorem integrationValuesFixed : Obligations.IntegrationValuesFixed := by
  intro i s t he
  obtain ⟨u, hu, hm⟩ := exec_acts i s
  cases hu.symm.trans he
  exact ⟨hm.integration, hm.chip, hm.fuseWords⟩

end Sys2Proof.Machine
end

section
/-! SUPPORT. Packets of another charter, the reset state, and what a step does when no command waits. -/

namespace Sys2Proof.Machine

/-! ## A packet command is the launch of its packet -/

theorem exec_asked {i : Instr} {sp : OpSpec} {pk : Pkt} (h : asked i = some (sp, pk)) :
    ∃ body, ∀ s, exec i s = .next (launch sp body pk s) := by
  cases i with
  | packetBadOpcode op =>
    simp only [asked] at h
    split at h
    · cases h
    · next hop =>
      cases h
      exact ⟨_, fun s => congrArg _ (if_neg hop)⟩
  | _ => cases h <;> exact ⟨_, fun _ => rfl⟩

/-- A packet that a check refuses is answered with that status and two zero words (R385). -/
theorem runPacket_refused {sp : OpSpec} {pk : Pkt} {s : State} {st : Status} (body : Pkt → Nat → State → Verdict)
    (h : preCheck sp pk s = some st) : runPacket sp body pk s = s.reply sp.op pk st [0, 0] := by
  unfold runPacket
  rw [h]

/-- Check 1 lets a packet through at a serving block with a completion slot free where it needs one (R385). -/
theorem not_busy {sp : OpSpec} {pk : Pkt} {s : State} (hs : s.serving)
    (hslot : sp.needsSlot pk s = true → (s.apt pk.o).freeSlot ≠ none) :
    ¬ (decide ((s.rung sp pk).dev.mode = .boot) || decide ((s.rung sp pk).dev.phase ≠ .running) || (s.rung sp pk).dev.restarting ||
      (sp.needsSlot pk (s.rung sp pk) && ((s.rung sp pk).apt pk.o).freeSlot.isNone)) = true := by
  obtain ⟨hphase, hmode, hrest, -, -⟩ := hs
  have hn : sp.needsSlot pk (s.rung sp pk) = sp.needsSlot pk s := rfl
  simp only [rung_dev, rung_freeSlot, hn, hphase, hrest]
  cases hneeds : sp.needsSlot pk s <;> simp_all

/-- Settles O9: check 2 of R385 follows a check 1 that a serving block passes, and refuses the packet. -/
theorem packetOfAnotherCharter : Obligations.PacketOfAnotherCharter := by
  intro i sp pk s ha hs hopen hslot hchart
  obtain ⟨body, hexec⟩ := exec_asked ha
  have hcheck : preCheck sp pk (s.rung sp pk) = some .denied := by
    unfold preCheck
    rw [if_neg (not_busy hs hslot), if_pos hchart]
  rw [hexec, launch_run sp body pk s hs hopen, runPacket_refused body hcheck]

/-! ## The reset state and the passing of time -/

/-- Settles O3: the values of `State.reset` are those of the spec, one by one. -/
theorem resetState : Obligations.ResetState := by
  unfold Obligations.ResetState
  decide

/-- THR_LEVEL stays or moves one level towards the one asked for (R83); nothing else of the ports steps with it. -/
theorem Io.thrStep_thr (io : Io) (level now : Nat) : (io.thrStep level now).rspVld = io.rspVld ∧
    ((io.thrStep level now).thr = io.thr ∨ (io.thr < level ∧ (io.thrStep level now).thr = io.thr + 1) ∨
      (level < io.thr ∧ (io.thrStep level now).thr = io.thr - 1)) := by
  unfold Io.thrStep
  split
  · exact ⟨rfl, .inl rfl⟩
  · next hmoves =>
    have hne : io.thr ≠ level := fun h => hmoves (by simp [h])
    refine ⟨rfl, ?_⟩
    dsimp only
    split
    · next hup => exact .inr (.inl ⟨hup, rfl⟩)
    · exact .inr (.inr ⟨by omega, rfl⟩)

theorem Io.cycle_thr (io : Io) (edge : Bool) (level now : Nat) : (io.cycle edge level now).rspVld = false ∧
    ((io.cycle edge level now).thr = io.thr ∨ (io.thr < level ∧ (io.cycle edge level now).thr = io.thr + 1) ∨
      (level < io.thr ∧ (io.cycle edge level now).thr = io.thr - 1)) := by
  cases edge
  · exact ⟨rfl, .inl rfl⟩
  · exact Io.thrStep_thr { io with rspVld := false } level now

theorem tick_held {s : State} (h : s.dev.phase = .held) : tick s = s := if_pos h

/-- What a cycle leaves alone. -/
theorem tick_frame (s : State) : (tick s).pending = s.pending ∧ (tick s).dev = s.dev ∧ (tick s).lk = s.lk ∧ (tick s).esl = s.esl ∧
    (tick s).time.epoch = s.time.epoch ∧ (tick s).fc = s.fc := by
  unfold tick
  split_ifs <;> exact ⟨rfl, rfl, rfl, rfl, rfl, rfl⟩

/-- Out of PORST_N the ports pass a cycle, which ends at an AON_REF edge or not. -/
theorem tick_io {s : State} (h : s.dev.phase ≠ .held) : ∃ edge, (tick s).io = s.io.cycle edge s.env.thr s.clk.powered := by
  unfold tick
  rw [if_neg h]
  split
  · exact ⟨_, rfl⟩
  · exact ⟨true, rfl⟩

theorem tick_rspVld {s : State} (h : s.dev.phase ≠ .held) : (tick s).io.rspVld = false := by
  obtain ⟨edge, hio⟩ := tick_io h
  exact hio ▸ (Io.cycle_thr ..).1

theorem tick_thr (s : State) : (tick s).io.thr = s.io.thr ∨ (s.io.thr < s.env.thr ∧ (tick s).io.thr = s.io.thr + 1) ∨
    (s.env.thr < s.io.thr ∧ (tick s).io.thr = s.io.thr - 1) := by
  by_cases h : s.dev.phase = .held
  · exact .inl (by rw [tick_held h])
  · obtain ⟨edge, hio⟩ := tick_io h
    exact hio ▸ (Io.cycle_thr ..).2

/-- A TCLK cycle: CVT and the powered time advance, and TCLK stops at an AON_REF edge where a sleep has asked for it (R105,
R126). -/
theorem tick_tclk {s : State} (h : s.dev.phase ≠ .held) (ht : s.clk.tclk = true) :
    (tick s).time.cvt = s.time.cvt + s.time.incOn ∧ (s.clk.phase < 40 → (tick s).now = s.now + 1) ∧
    ((tick s).clk.tclk = false ↔ s.clk.stop = true ∧ 40 ≤ s.clk.phase + 1) := by
  unfold tick
  rw [if_neg h, if_pos ht]
  dsimp only [State.now]
  split_ifs with hedge hstop
  · refine ⟨rfl, fun _ => rfl, ?_⟩
    simp only [ht, Bool.true_eq_false, false_iff]
    omega
  · refine ⟨rfl, fun hp => ?_, ?_⟩
    · simp only [Clk.aonCycle]
      omega
    · simp only [hstop, true_and, true_iff]
      omega
  · refine ⟨rfl, fun hp => ?_, ?_⟩
    · simp only [Clk.aonCycle]
      omega
    · simp [Clk.aonCycle, ht, hstop]

/-- An AON_REF cycle while TCLK is stopped (R98, R126). -/
theorem tick_aonRef {s : State} (h : s.dev.phase ≠ .held) (ht : s.clk.tclk = false) :
    (tick s).time.cvt = s.time.cvt + s.time.coarseInc ∧ (tick s).now = s.clk.powered * 40 + 40 := by
  unfold tick
  rw [if_neg h, if_neg (by simp [ht])]
  refine ⟨rfl, ?_⟩
  simp only [State.now, Clk.aonCycle]
  omega

/-- Settles O2: a step on an empty queue is `tick`. -/
theorem idleStepPassesTime : Obligations.IdleStepPassesTime := by
  intro s hq
  have hstep : step s = .next (tick s) := by
    unfold step
    rw [hq]
  obtain ⟨hpending, hframe⟩ := tick_frame s
  refine ⟨tick s, hstep, tick_held, fun h ht => ?_, tick_aonRef, fun h ht => ?_, tick_rspVld, tick_thr s, hpending.trans hq, hframe⟩
  · exact ⟨(tick_tclk h ht).1, (tick_tclk h ht).2.1⟩
  · exact (tick_tclk h ht).2.2

end Sys2Proof.Machine
end

section
/-! SUPPORT. Resets, the cold start, the image check and the firmware's start. -/

namespace Sys2Proof.Machine

/-! ## Tables that a reset makes -/

theorem tget_filter_key {α : Type} (q : Nat → Bool) (t : Tab α) (k : Nat) (d : α) :
    tget (t.filter (fun e => q e.1)) k d = if q k = true then tget t k d else d := by
  induction t with
  | nil => simp [tget]
  | cons e t ih =>
    by_cases hk : k = e.1 <;> by_cases hq : q e.1 = true <;> simp_all [tget]

/-- A bank whose words a reset keeps: that of the ledger, and of its seal (R442). -/
def keptBank (k : Nat) : Bool := (decide (8 ≤ k / 2 ^ 25) && decide (k / 2 ^ 25 ≤ 11)) || decide (k / 2 ^ 25 = 33)

theorem tget_keptWords (t : Tab EccWord) (k : Nat) :
    tget (keptWords t) k EccWord.plain = if keptBank k = true then tget t k EccWord.plain else EccWord.plain :=
  tget_filter_key keptBank t k EccWord.plain

theorem tget_foldl_tset_range {α : Type} [DecidableEq α] (f : Nat → α) (d : α) (n k : Nat) (hk : k < n) :
    tget ((List.range n).foldl (fun t h => tset t h (f h) d) []) k d = f k := by
  induction n with
  | zero => omega
  | succ n ih =>
    rw [List.range_succ, List.foldl_append, List.foldl_cons, List.foldl_nil, tget_tset]
    split
    · next h => rw [h]
    · exact ih (by omega)

/-- From PORST_N on a host domain has its default request and the acknowledge it had (R42, R82). -/
theorem tget_porstDoms (s : State) (h : Nat) (hh : h < 72) : tget s.porstDoms h HostDom.zero =
    { HostDom.zero with req := s.ident.pswDefault.getLsbD h && decide (h < s.ident.hostDomains), ack := (s.dom h).ack } := by
  unfold State.porstDoms
  rw [tget_foldl_tset_range _ _ _ _ hh]

theorem afterReset_cfg (x : Probe) (warm : Bool) : (x.afterReset warm).cfg = ProbeCfg.zero := by
  unfold Probe.afterReset
  dsimp only
  split <;> rfl

theorem resetProbes_cfg (ps : Tab Probe) (warm : Bool) (p : Nat) : (tget (resetProbes ps warm) p Probe.zero).cfg = ProbeCfg.zero := by
  refine List.foldlRecOn (motive := fun t => (tget t p Probe.zero).cfg = ProbeCfg.zero) ps _ rfl fun t ht e _ => ?_
  rw [tget_tset]
  split
  · exact afterReset_cfg ..
  · exact ht

theorem resetProbes_disabled (ps : Tab Probe) (p : Nat) : (tget (resetProbes ps false) p Probe.zero).disabled = false := by
  refine List.foldlRecOn (motive := fun t => (tget t p Probe.zero).disabled = false) ps _ rfl fun t ht e _ => ?_
  rw [tget_tset]
  split
  · rfl
  · exact ht

/-- A reset leaves no key in a slot but one that is out of use (R419, R435). -/
theorem tget_warmSlots (t : Tab KeySlot) (k : Nat) :
    tget (warmSlots t) k KeySlot.zero = KeySlot.zero ∨ (tget (warmSlots t) k KeySlot.zero).st = .dead := by
  refine List.foldlRecOn (motive := fun a => tget a k KeySlot.zero = KeySlot.zero ∨ (tget a k KeySlot.zero).st = .dead)
    t _ (.inl rfl) fun a ha e _ => ?_
  split
  · next hdead =>
    rw [tget_tset]
    split
    · exact .inr hdead
    · exact ha
  · exact ha

/-! ## The ledger across PORST_N -/

theorem porst_frozen {l : Ledger} (h : l.st = .frozen ∨ l.st = .seald) :
    l.porst.st = l.st ∧ l.porst.recs = l.recs ∧ l.porst.sealBlk = l.sealBlk := by
  unfold Ledger.porst
  rcases h with h | h <;> rw [h] <;> exact ⟨rfl, rfl, rfl⟩

theorem porst_unfrozen {l : Ledger} (h : ¬ (l.st = .frozen ∨ l.st = .seald)) :
    l.porst.st = Ledger.reset.st ∧ l.porst.recs = [] := by
  unfold Ledger.porst
  split
  · next h' => exact absurd (.inl h') h
  · next h' => exact absurd (.inr h') h
  · exact ⟨rfl, rfl⟩

theorem porst_words (s : State) (k : Nat) :
    tget (if (decide (s.ledger.st = .frozen) || decide (s.ledger.st = .seald)) = true then keptWords s.ecc.word else []) k EccWord.plain =
      if (s.ledger.st = .frozen ∨ s.ledger.st = .seald) ∧ keptBank k = true then tget s.ecc.word k EccWord.plain else EccWord.plain := by
  by_cases h : s.ledger.st = .frozen ∨ s.ledger.st = .seald
  · rw [if_pos (by simpa using h), tget_keptWords]
    simp [h]
  · rw [if_neg (by simpa using h), if_neg (fun hk => h hk.1)]
    rfl

theorem proj_of_ite {α β : Type} (π : α → β) {x : β} {c : Prop} [Decidable c] {a b : α} (ha : π a = x) (hb : π b = x) :
    π (if c then a else b) = x := by split <;> assumption

theorem foldl_proj {α β γ : Type} (π : α → γ) (f : α → β → α) (h : ∀ s a, π (f s a) = π s) (l : List β) (s : α) :
    π (l.foldl f s) = π s := by
  induction l generalizing s with
  | nil => rfl
  | cons a l ih => rw [List.foldl_cons, ih, h]

/-! ## The cold start -/

/-- The parts of the state that the memory test and the fuses leave alone (R454, R489). -/
structure Untested where
  dev : Dev
  clk : Clk
  time : TimeU
  io : Io
  lb : Logbook
  ledger : Ledger
  chart : Chart
  lk : Lk
  chip : BitVec 2
  fuseBad : List Nat

def State.untested (s : State) : Untested :=
  ⟨s.dev, s.clk, s.time, s.io, s.lb, s.ledger, s.chart, s.lk, s.ident.chip, s.ident.fuseBad⟩

theorem modBank_untested (s : State) (k : Nat) (f : Bank → Bank) : (s.modBank k f).untested = s.untested := rfl

theorem applyFuses_untested (s : State) : s.applyFuses.untested = s.untested := by
  unfold State.applyFuses
  extract_lets _ u
  have hu : u.untested = s.untested := rfl
  exact (foldl_proj State.untested _ (fun t b => proj_of_ite State.untested rfl (modBank_untested t _ _)) _ u).trans hu

theorem raise_untested (s : State) (code unit detail : Nat) : (s.raise code unit detail).untested = s.untested := rfl

theorem testBank_untested (s : State) (rows : List RowFault) (b : Nat) (copy : Bool) :
    (s.testBank rows b copy).untested = s.untested := by
  unfold State.testBank
  extract_lets rs free
  refine proj_of_ite State.untested rfl (proj_of_ite State.untested ?_ rfl)
  exact proj_of_ite State.untested ((raise_untested ..).trans rfl) ((raise_untested ..).trans rfl)

theorem memoryTest_untested (s : State) (rows : List RowFault) : (s.memoryTest rows).untested = s.untested :=
  (testBank_untested ..).trans (foldl_proj State.untested _ (fun s b => testBank_untested s rows b false) _ _)

/-- Without a fuse word the fuses change no bank. -/
theorem applyFuses_none (s : State) (h : s.ident.fuseWords = []) :
    s.applyFuses.ecc = s.ecc ∧ s.applyFuses.fc = s.fc ∧ s.applyFuses.ident.fuses = [] := by
  have hf : s.ident.fuses = [] := by simp [Ident.fuses, h]
  unfold State.applyFuses
  extract_lets _ u
  have hu : u.ident.fuses = [] := hf
  rw [List.foldl_fixed']
  · exact ⟨rfl, rfl, hu⟩
  · exact fun b => if_pos (by rw [hu]; rfl)

/-- A bank none of whose rows is faulty passes the test. -/
theorem testBank_passes (s : State) (rows : List RowFault) (b : Nat) (copy : Bool)
    (h : ∀ r ∈ rows, ¬ (r.bank.val = b ∧ (r.copy && decide (b = 32)) = copy)) : s.testBank rows b copy = s := by
  have hr : rows.filter (fun r => decide (r.bank.val = b) && decide ((r.copy && decide (b = 32)) = copy) &&
      decide (r.row < bankRows b)) = [] := by
    refine List.filter_eq_nil_iff.mpr fun r hr => ?_
    have := h r hr
    simp only [Bool.and_eq_true, decide_eq_true_eq]
    exact fun hc => this hc.1
  unfold State.testBank
  rw [hr]
  rfl

theorem memoryTest_none (s : State) : s.memoryTest [] = s := by
  have h : ∀ (t : State) b copy, t.testBank [] b copy = t := fun t b copy => testBank_passes t [] b copy (by simp)
  unfold State.memoryTest
  rw [h]
  exact List.foldl_fixed' (fun b => h s b false) _

/-- A fold that acts at one of its elements alone. -/
theorem foldl_of_mem_once {α β : Type} (f : α → β → α) (b : β) (l : List β) (s : α) (hb : b ∈ l) (hn : l.Nodup)
    (h : ∀ c ∈ l, c ≠ b → ∀ t, f t c = t) : l.foldl f s = f s b := by
  have still : ∀ (m : List β) (t : α), (∀ c ∈ m, f t c = t) → m.foldl f t = t := by
    intro m t hm
    induction m with
    | nil => rfl
    | cons c m ih => rw [List.foldl_cons, hm c List.mem_cons_self, ih fun d hd => hm d (List.mem_cons_of_mem c hd)]
  obtain ⟨l₁, l₂, rfl⟩ := List.append_of_mem hb
  obtain ⟨hb₁, hb₂⟩ : b ∉ l₁ ∧ b ∉ l₂ := by
    simp only [List.nodup_append, List.nodup_cons, List.mem_cons] at hn
    grind
  rw [List.foldl_append, List.foldl_cons, still l₁ s, still l₂ (f s b)]
  · exact fun c hc => h c (by simp [hc]) (fun e => hb₂ (e ▸ hc)) _
  · exact fun c hc => h c (by simp [hc]) (fun e => hb₁ (e ▸ hc)) _

/-- A bank with spare rows has one copy: it is not bank 32 (R441). -/
theorem ne_32_of_bankSpares {b : Nat} (h : 0 < bankSpares b) : b ≠ 32 := by
  rintro rfl
  exact absurd h (by decide)

/-- One faulty row of a bank with all its spare rows free takes the first of them (R452, R489). -/
theorem testBank_one (s : State) (r : RowFault) (hrow : r.row < bankRows r.bank) (hsp : 0 < bankSpares r.bank)
    (hfree : s.sparesUsed r.bank = []) :
    (s.testBank [r] r.bank false).ecc.map = s.ecc.map ++ [⟨0, r.bank.val, r.row, 0, false⟩] ∧
    (s.testBank [r] r.bank false).fc = s.fc := by
  obtain ⟨n, hn⟩ := Nat.exists_eq_succ_of_ne_zero hsp.ne'
  unfold State.testBank
  extract_lets rs free
  have hrs : rs = [r.row] := by
    have hcopy : (r.copy && decide (r.bank.val = 32)) = false := by simp [ne_32_of_bankSpares hsp]
    simp only [rs, List.filter_cons, List.filter_nil, hcopy, hrow]
    rfl
  have hspare : free = 0 :: (List.range n).map Nat.succ := by
    simp only [free, hfree, hn, List.range_succ_eq_map]
    simp
  have hroom : ¬ free.length < rs.length := by simp [hrs, hspare]
  rw [if_neg (by simp [hrs]), if_neg hroom, hrs, hspare]
  exact ⟨rfl, rfl⟩

/-- One faulty row of a bank with all its spare rows free is all that the memory test records. -/
theorem memoryTest_one (s : State) (r : RowFault) (hrow : r.row < bankRows r.bank) (hsp : 0 < bankSpares r.bank)
    (hfree : s.sparesUsed r.bank = []) :
    (s.memoryTest [r]).ecc.map = s.ecc.map ++ [⟨0, r.bank.val, r.row, 0, false⟩] ∧ (s.memoryTest [r]).fc = s.fc := by
  have hother : ∀ c, c ≠ r.bank.val → ∀ (t : State) copy, t.testBank [r] c copy = t := fun c hc t copy =>
    testBank_passes t [r] c copy (by simp [Ne.symm hc])
  unfold State.memoryTest
  rw [hother 32 (Ne.symm (ne_32_of_bankSpares hsp)),
    foldl_of_mem_once _ r.bank.val _ _ (List.mem_range.mpr r.bank.isLt) List.nodup_range fun c _ hc t => hother c hc t false]
  exact testBank_one s r hrow hsp hfree

/-- LOGBOOK_UNAVAILABLE is raised at the start where the Logbook is treated as absent (R492). -/
def State.logbookTried (s : State) : State :=
  if s.lb.present then s else (s.raise 0x203 0 0).setPersist 0x203 0 true

theorem logbookTried_untested (s : State) : s.logbookTried.untested = s.untested := proj_of_ite State.untested rfl rfl

theorem logbookTried_ecc (s : State) : s.logbookTried.ecc = s.ecc := proj_of_ite State.ecc rfl rfl

theorem logbookTried_present {s : State} (h : s.lb.present = true) : s.logbookTried = s := if_pos h

theorem setPersist_persisting (s : State) (code unit : Nat) : (s.setPersist code unit true).persisting code unit = true := by
  simp only [State.persisting, State.setPersist, if_true, List.contains_iff_mem]
  split
  · next h => simpa using h
  · simp

theorem logbookTried_absent {s : State} (h : s.lb.present = false) : s.logbookTried.persisting 0x203 0 = true ∧
    (⟨0x203, 0, 0, none, s.ts, s.now, false, false⟩ : Pend) ∈ s.logbookTried.fc.pend := by
  have ht : s.logbookTried = (s.raise 0x203 0 0).setPersist 0x203 0 true := if_neg (by simp [h])
  rw [ht]
  exact ⟨setPersist_persisting .., List.mem_append_right _ (List.mem_singleton.mpr rfl)⟩

/-- The items that the start samples (R34, R88, R487). -/
def State.sampled (s : State) (strap : BitVec 2) (found : StartFinds) : State :=
  { s with
    dev := { s.dev with phase := .started, lastReset := 0, wrst := false }
    ident := { s.ident with chip := strap, fuseBad := found.fuseBad }
    lb := s.lb.found found.sfdp
    io := { s.io.started s.ident with ksErr := found.ksErr }
    clk := { s.clk with tclk := true } }

/-- The probes that are not powered at the start. -/
def State.dimmed (s : State) : State :=
  (List.range s.ident.nProbes).foldl (fun (s : State) p =>
    if s.probePowered p then s else s.modProbe p (fun x => { x with up := false })) s

theorem dimmed_proj {β : Type} (π : State → β) (h : ∀ t p x, π (State.setProbe t p x) = π t) (s : State) : π s.dimmed = π s := by
  unfold State.dimmed
  exact foldl_proj π _ (fun t p => proj_of_ite π rfl (h t p _)) _ _

/-- The state that COLD_START leaves under PORST_N (R487 to R492). -/
def State.coldStarted (s : State) (strap : BitVec 2) (found : StartFinds) : State :=
  ((s.sampled strap found).dimmed.applyFuses.memoryTest found.rows).logbookTried

theorem exec_coldStart {s : State} (hp : s.dev.phase = .held) (strap : BitVec 2) (found : StartFinds) :
    exec (.coldStart strap found) s = .next (s.coldStarted strap found) := congrArg _ (if_neg (not_not.mpr hp))

theorem coldStarted_untested (s : State) (strap : BitVec 2) (found : StartFinds) : (s.coldStarted strap found).untested =
    ⟨{ s.dev with phase := .started, lastReset := 0, wrst := false }, { s.clk with tclk := true }, s.time,
      { s.io.started s.ident with ksErr := found.ksErr }, s.lb.found found.sfdp, s.ledger, s.chart, s.lk, strap, found.fuseBad⟩ :=
  (logbookTried_untested _).trans ((memoryTest_untested ..).trans ((applyFuses_untested _).trans
    (dimmed_proj State.untested (fun _ _ _ => rfl) _)))

theorem found_present {l : Logbook} {sfdp : List Byte} (h : sfdpFits sfdp = true) :
    l.found sfdp = { l with present := true, sfdp := sfdp, flash := flashMode sfdp } := if_pos h

theorem found_absent {l : Logbook} {sfdp : List Byte} (h : sfdpFits sfdp = false) : (l.found sfdp).present = false := by
  unfold Logbook.found
  rw [if_neg (by simp [h])]

/-- With the Logbook found, the start raises no fault of its own. -/
theorem coldStarted_found {s : State} (strap : BitVec 2) {found : StartFinds} (h : sfdpFits found.sfdp = true) :
    s.coldStarted strap found = (s.sampled strap found).dimmed.applyFuses.memoryTest found.rows := by
  refine logbookTried_present ?_
  have hu := congrArg Untested.lb ((memoryTest_untested _ found.rows).trans ((applyFuses_untested _).trans
    (dimmed_proj State.untested (fun _ _ _ => rfl) (s.sampled strap found))))
  rw [show State.lb _ = _ from hu]
  exact congrArg Logbook.present (found_present h)

/-- The memory at the test is that before the start, where no fuse word is programmed. -/
theorem dimmed_applyFuses {s : State} (strap : BitVec 2) (found : StartFinds) (hf : s.ident.fuseWords = []) :
    (s.sampled strap found).dimmed.applyFuses.ecc = s.ecc ∧ (s.sampled strap found).dimmed.applyFuses.fc = s.fc ∧
      (s.sampled strap found).dimmed.applyFuses.ident.fuses = [] := by
  have hw : (s.sampled strap found).dimmed.ident.fuseWords = [] :=
    (congrArg Ident.fuseWords (dimmed_proj State.ident (fun _ _ _ => rfl) _)).trans hf
  obtain ⟨he, hc, hfuses⟩ := applyFuses_none _ hw
  exact ⟨he.trans (dimmed_proj State.ecc (fun _ _ _ => rfl) _), hc.trans (dimmed_proj State.fc (fun _ _ _ => rfl) _), hfuses⟩

theorem coldStarted_ecc (s : State) (strap : BitVec 2) (found : StartFinds) :
    (s.coldStarted strap found).ecc = ((s.sampled strap found).dimmed.applyFuses.memoryTest found.rows).ecc :=
  logbookTried_ecc _

/-- A faultless memory without fuse words stays as it was. -/
theorem coldStarted_faultless {s : State} (strap : BitVec 2) {found : StartFinds} (hrows : found.rows = [])
    (hf : s.ident.fuseWords = []) : (s.coldStarted strap found).ecc = s.ecc ∧
      (sfdpFits found.sfdp = true → (s.coldStarted strap found).fc = s.fc) := by
  obtain ⟨he, hc, -⟩ := dimmed_applyFuses strap found hf
  refine ⟨?_, fun h => ?_⟩
  · rw [coldStarted_ecc, hrows, memoryTest_none, he]
  · rw [coldStarted_found strap h, hrows, memoryTest_none, hc]

/-- One faulty row without fuse words takes the bank's first spare row. -/
theorem coldStarted_faulty {s : State} (strap : BitVec 2) {found : StartFinds} {r : RowFault} (hrows : found.rows = [r])
    (hf : s.ident.fuseWords = []) (hrow : r.row < bankRows r.bank) (hsp : 0 < bankSpares r.bank)
    (hmap : ∀ m ∈ s.ecc.map, m.kind = 0 → m.bank ≠ r.bank.val) :
    (s.coldStarted strap found).ecc.map = s.ecc.map ++ [⟨0, r.bank.val, r.row, 0, false⟩] ∧
      (sfdpFits found.sfdp = true → (s.coldStarted strap found).fc = s.fc) := by
  obtain ⟨he, hc, hfuses⟩ := dimmed_applyFuses strap found hf
  have hfree : (s.sampled strap found).dimmed.applyFuses.sparesUsed r.bank = [] := by
    have hmap' : s.ecc.map.filter (fun m => decide (m.kind = 0) && decide (m.bank = r.bank.val)) = [] := by
      refine List.filter_eq_nil_iff.mpr fun m hm => ?_
      simpa using hmap m hm
    simp only [State.sparesUsed, hfuses, he, hmap', List.filter_nil, List.map_nil, List.append_nil]
  obtain ⟨hm, hfc⟩ := memoryTest_one _ r hrow hsp hfree
  refine ⟨?_, fun h => ?_⟩
  · rw [coldStarted_ecc, hrows, hm, he]
  · rw [coldStarted_found strap h, hrows, hfc, hc]

/-- Without the Logbook the start raises LOGBOOK_UNAVAILABLE, which lasts (R492). -/
theorem coldStarted_absent {s : State} (strap : BitVec 2) {found : StartFinds} (h : sfdpFits found.sfdp = false) :
    (s.coldStarted strap found).persisting 0x203 0 = true ∧
      (⟨0x203, 0, 0, none, s.ts, s.now, false, false⟩ : Pend) ∈ (s.coldStarted strap found).fc.pend := by
  have hv : ((s.sampled strap found).dimmed.applyFuses.memoryTest found.rows).untested = (s.sampled strap found).untested :=
    (memoryTest_untested ..).trans ((applyFuses_untested _).trans (dimmed_proj State.untested (fun _ _ _ => rfl) _))
  unfold State.coldStarted
  generalize (s.sampled strap found).dimmed.applyFuses.memoryTest found.rows = v at hv ⊢
  have hpresent : v.lb.present = false := (congrArg (fun u : Untested => u.lb.present) hv).trans (found_absent h)
  have htime : v.time = s.time := congrArg Untested.time hv
  have hclk : v.clk = { s.clk with tclk := true } := congrArg Untested.clk hv
  have hts : v.ts = s.ts := by simp only [State.ts, htime]
  have hnow : v.now = s.now := by simp only [State.now, hclk]
  rw [← hts, ← hnow]
  exact logbookTried_absent hpresent

/-! ## The warm resets -/

theorem exec_warmReset {src : ResetCause} {s : State}
    (h : (src = .wrst ∧ s.dev.phase ≠ .held) ∨ (src = .internal ∧ s.recoveryReset = true)) :
    exec (.warmReset src) s = .next (s.warm (if src = .wrst then 1 else 2) (decide (src = .wrst))) := by
  rcases h with ⟨rfl, h⟩ | ⟨rfl, h⟩
  · exact congrArg _ (if_neg h)
  · exact congrArg _ (if_pos h)

theorem warmTurnover_none {s : State} (h : s.chart.turnover = none) : s.warmTurnover = s := by
  unfold State.warmTurnover
  rw [h]

/-- The time state after a warm reset (R104, R490). -/
theorem warmTime_st (s : State) : s.warmTime.st = if s.time.stuck = true then .detached else .holdover := rfl

/-! ## The image check -/

theorem lbAccess_kept (s : State) : s.lbAccess.2.lb.present = s.lb.present ∧ s.lbAccess.2.lb.firmware = s.lb.firmware ∧
    s.lbAccess.2.dev = s.dev ∧ s.lbAccess.2.ident = s.ident ∧ s.lbAccess.2.chart = s.chart ∧ s.lbAccess.2.time = s.time ∧
    s.lbAccess.2.env = s.env := by
  unfold State.lbAccess
  split
  · exact ⟨rfl, rfl, rfl, rfl, rfl, rfl, rfl⟩
  · dsimp only
    split <;> exact ⟨rfl, rfl, rfl, rfl, rfl, rfl, rfl⟩

/-- What the boot ROM finds, case by case (R496, R499). -/
theorem bootFinds_eq (s : State) : s.bootFinds =
    if s.lb.present = false then 3 else if s.lb.firmware = [] then 1 else if itemOk 0 s.lb.firmware = true then 0
    else if s.ident.secureBoot = false ∧ itemFormed 0 s.lb.firmware = true ∧ itemAuth s.lb.firmware = 0 then 0 else 2 := by
  unfold State.bootFinds
  dsimp only
  simp only [Bool.not_eq_true', List.isEmpty_iff, Bool.or_eq_true, Bool.and_eq_true, decide_eq_true_eq, and_assoc]
  split_ifs <;> simp_all

/-- A pod that is plugged in changes the service port alone (R504). -/
theorem stpPlug_proj {β : Type} (π : State → β) (h : ∀ (t : State) (svc : Svc), π { t with svc := svc } = π t) (s : State) :
    π s.stpPlug = π s := by
  unfold State.stpPlug
  exact (proj_of_ite π (h ..) rfl).trans (h ..)

/-- RECOVERY with its cause, READY, under the limits of R364 (R499). -/
def State.recovers (s : State) (cause : Nat) : State :=
  { s with dev := { s.dev with mode := .recovery, phase := .running, ready := true, recovery := cause }, env := s.env.defaults }

/-- What an image check finds leads to its start, or to RECOVERY with the cause (R27, R499). -/
def State.bootWith (s : State) (found : Nat) : State :=
  match found with
  | 0 =>
    { s with
      dev := { s.dev with
        mode := .startup, phase := .imageRead, recovery := 0, unsignedFw := !itemOk 0 s.lb.firmware
        image := ⟨itemVersion s.lb.firmware, Config.sha256 (itemPayload s.lb.firmware)⟩, codeBank := false }
      ident := { s.ident with fw := itemVersion s.lb.firmware } }
  | r => if s.svc.present then (s.recovers r).stpPlug else s.recovers r

/-- The Logbook is read for the check. -/
def State.bootRead (s : State) : State := ({ s with io := { s.io with lbRstN := true } }).lbAccess.2

theorem bootRead_kept (s : State) : s.bootRead.lb.present = s.lb.present ∧ s.bootRead.lb.firmware = s.lb.firmware ∧
    s.bootRead.dev = s.dev ∧ s.bootRead.ident = s.ident ∧ s.bootRead.chart = s.chart ∧ s.bootRead.time = s.time ∧
    s.bootRead.env = s.env := lbAccess_kept _

theorem bootRead_finds (s : State) : s.bootRead.bootFinds = s.bootFinds := by
  obtain ⟨hpresent, hfirmware, -, hident, -⟩ := bootRead_kept s
  unfold State.bootFinds
  rw [hpresent, hfirmware, hident]

theorem exec_bootImageCheck {s : State} (hp : s.dev.phase = .started) (hw : s.dev.wrst = false) :
    exec .bootImageCheck s = .next (s.bootRead.bootWith s.bootFinds) := by
  rw [← bootRead_finds]
  exact congrArg _ (if_neg (by simp [hp, hw]))

/-- A start with an image found. -/
theorem bootWith_image (s : State) : (s.bootRead.bootWith 0).chart = s.chart ∧ (s.bootRead.bootWith 0).time = s.time ∧
    (s.bootRead.bootWith 0).dev = { s.dev with
      mode := .startup, phase := .imageRead, recovery := 0, unsignedFw := !itemOk 0 s.lb.firmware, codeBank := false
      image := ⟨itemVersion s.lb.firmware, Config.sha256 (itemPayload s.lb.firmware)⟩ } ∧
    (s.bootRead.bootWith 0).ident.fw = itemVersion s.lb.firmware ∧ (s.bootRead.bootWith 0).env = s.env := by
  obtain ⟨-, hfirmware, hdev, -, hchart, htime, henv⟩ := bootRead_kept s
  rw [← hfirmware, ← hdev]
  exact ⟨hchart, htime, rfl, rfl, henv⟩

theorem bootWith_recovers {β : Type} (π : State → β) (h : ∀ (t : State) (svc : Svc), π { t with svc := svc } = π t) (s : State)
    {r : Nat} (hr : r ≠ 0) : π (s.bootWith r) = π (s.recovers r) := by
  obtain ⟨n, rfl⟩ := Nat.exists_eq_succ_of_ne_zero hr
  exact proj_of_ite π (stpPlug_proj π h _) rfl

/-- RECOVERY leaves time, charters and the integration values as they were. -/
theorem bootWith_recovery (s : State) {r : Nat} (hr : r ≠ 0) :
    (s.bootRead.bootWith r).chart = s.chart ∧ (s.bootRead.bootWith r).time = s.time ∧
    (s.bootRead.bootWith r).dev = { s.dev with mode := .recovery, phase := .running, ready := true, recovery := r } ∧
    (s.bootRead.bootWith r).ident = s.ident ∧ (s.bootRead.bootWith r).env = s.env.defaults := by
  obtain ⟨-, -, hdev, hident, hchart, htime, henv⟩ := bootRead_kept s
  refine ⟨(bootWith_recovers State.chart (fun _ _ => rfl) _ hr).trans hchart,
    (bootWith_recovers State.time (fun _ _ => rfl) _ hr).trans htime,
    (bootWith_recovers State.dev (fun _ _ => rfl) _ hr).trans ?_, (bootWith_recovers State.ident (fun _ _ => rfl) _ hr).trans hident,
    (bootWith_recovers State.env (fun _ _ => rfl) _ hr).trans (congrArg Env.defaults henv)⟩
  rw [← hdev]
  rfl

/-! ## The firmware's start -/

/-- What the map, the settings and the survey of the start leave alone where the settings are the defaults (R455, R498). -/
structure StartKept where
  mode : Mode
  settingsDefault : Bool
  phase : BootPhase
  time : TimeU
  chart : Chart
  lb : Logbook

def State.startKept (s : State) : StartKept :=
  ⟨s.dev.mode, s.dev.settingsDefault, s.dev.phase, s.time, s.chart, s.lb⟩

/-- A state written out field by field: the parts kept are read off. -/
@[simp] theorem startKept_mk (pending ident dev clk time convoy probes canal basins exp mgr ledger esl chart fc lk env frame win
    ecc lb svc assay ch survey io free) :
    State.startKept ⟨pending, ident, dev, clk, time, convoy, probes, canal, basins, exp, mgr, ledger, esl, chart, fc, lk, env,
      frame, win, ecc, lb, svc, assay, ch, survey, io, free⟩ =
    ⟨dev.mode, dev.settingsDefault, dev.phase, time, chart, lb⟩ := rfl

theorem readMap_startKept (s : State) : s.readMap.startKept = s.startKept := by
  unfold State.readMap
  exact proj_of_ite State.startKept rfl rfl

theorem moveHead_startKept (s : State) (u b : Nat) : (s.moveHead u b).startKept = s.startKept := by
  unfold State.moveHead
  dsimp only
  split <;> rfl

theorem giveUp_startKept (s : State) (o n : Nat) : (s.giveUp o n).startKept = s.startKept := by
  induction n generalizing s with
  | zero => rfl
  | succ n ih =>
    unfold State.giveUp
    split
    · rfl
    · exact (ih _).trans (proj_of_ite State.startKept rfl rfl)

theorem grant_startKept (s : State) (n : Nat) : (s.grant n).startKept = s.startKept := by
  induction n generalizing s with
  | zero => rfl
  | succ n ih =>
    unfold State.grant
    split
    · rfl
    · split
      · rfl
      · exact ih _

theorem setUnitOwner_startKept (s : State) (u o : Nat) : (s.setUnitOwner u o).startKept = s.startKept := startKept_mk ..

theorem basinBankFails_startKept (s : State) (b : Nat) : (s.basinBankFails b).startKept = s.startKept := by
  unfold State.basinBankFails
  extract_lets now_ before s1 sum quotas given mine s2 _ s3 s4
  have h1 : s1.startKept = s.startKept := foldl_proj State.startKept _ (fun t u => moveHead_startKept t u b) _ _
  have h2 : s2.startKept = s1.startKept := by
    refine foldl_proj State.startKept _ (fun t e => ?_) _ _
    exact proj_of_ite State.startKept (setUnitOwner_startKept ..) (startKept_mk ..)
  have h3 : s3.startKept = s2.startKept := startKept_mk ..
  have h4 : s4.startKept = s3.startKept := foldl_proj State.startKept _ (fun t o => giveUp_startKept ..) _ _
  exact (grant_startKept ..).trans (h4.trans (h3.trans (h2.trans h1)))

theorem clearUnits_startKept (s : State) (us : List Nat) : (s.clearUnits us).startKept = s.startKept := by
  refine foldl_proj State.startKept _ (fun t u => ?_) _ _
  exact startKept_mk ..

theorem unload_startKept (s : State) (o i : Nat) : (s.unload o i).startKept = s.startKept := by
  unfold State.unload
  extract_lets s1
  have h1 : s1.startKept = s.startKept := by
    unfold s1
    split
    · exact clearUnits_startKept ..
    · rfl
  exact (startKept_mk ..).trans h1

theorem settleUnits_startKept (s : State) : s.settleUnits.startKept = s.startKept := by
  unfold State.settleUnits
  exact startKept_mk ..

theorem unloadSoon_startKept (s : State) (o i : Nat) : (s.unloadSoon o i).startKept = s.startKept := by
  unfold State.unloadSoon
  exact proj_of_ite State.startKept (startKept_mk ..) ((settleUnits_startKept _).trans (unload_startKept s o i))

theorem shrinkModels_startKept (s : State) : s.shrinkModels.startKept = s.startKept := by
  unfold State.shrinkModels
  exact foldl_proj (fun a : State × Nat => a.1.startKept) State.cutModel (fun a o => startKept_mk ..) _ _

theorem modelBankFails_startKept (s : State) (b : Nat) : (s.modelBankFails b).startKept = s.startKept := by
  unfold State.modelBankFails
  extract_lets lost slots s1 _ s2
  have h1 : s1.startKept = s.startKept := foldl_proj State.startKept _ (fun t k => unloadSoon_startKept ..) _ _
  have h2 : s2.startKept = s1.startKept := startKept_mk ..
  exact (settleUnits_startKept _).trans ((shrinkModels_startKept _).trans (h2.trans h1))

theorem modBank_startKept (s : State) (k : Nat) (f : Bank → Bank) : (s.modBank k f).startKept = s.startKept := startKept_mk ..

theorem fence_startKept (s : State) (m : MapEntry) : (s.fence m).startKept = s.startKept := by
  unfold State.fence
  extract_lets b s1
  have h1 : s1.startKept = s.startKept := modBank_startKept ..
  exact (proj_of_ite State.startKept (basinBankFails_startKept ..)
    (proj_of_ite State.startKept (modelBankFails_startKept ..) rfl)).trans h1

theorem ledgerFit_startKept (s : State) : s.ledgerFit.startKept = s.startKept := by
  unfold State.ledgerFit
  exact proj_of_ite State.startKept (startKept_mk ..) (startKept_mk ..)

theorem applyMap_startKept (s : State) : s.applyMap.startKept = s.startKept := by
  unfold State.applyMap
  extract_lets map bad s1 s2 s3 out on
  have h1 : s1.startKept = s.startKept := foldl_proj State.startKept _ (fun t m => modBank_startKept ..) _ _
  have h2 : s2.startKept = s1.startKept := foldl_proj State.startKept _ fence_startKept _ _
  have h3 : s3.startKept = s2.startKept := by
    refine foldl_proj State.startKept _ (fun t b => ?_) _ _
    exact proj_of_ite State.startKept rfl (modBank_startKept ..)
  exact (ledgerFit_startKept _).trans ((startKept_mk ..).trans (h3.trans (h2.trans h1)))

theorem askKey_startKept (s : State) (label : Nat) : (s.askKey label).startKept = s.startKept := by
  unfold State.askKey
  exact proj_of_ite State.startKept (startKept_mk ..) (startKept_mk ..)

theorem modPeer_startKept (s : State) (j : Nat) (f : Peer → Peer) : (s.modPeer j f).startKept = s.startKept := startKept_mk ..

theorem linkDefaults_startKept (s : State) : s.linkDefaults.startKept = s.startKept := by
  unfold State.linkDefaults
  extract_lets many s1
  have h1 : s1.startKept = s.startKept :=
    foldl_proj State.startKept _ (fun t j => proj_of_ite State.startKept (modPeer_startKept ..) rfl) _ _
  refine (foldl_proj State.startKept _ (fun t k => ?_) _ _).trans h1
  split
  · rfl
  · exact modPeer_startKept ..

/-- No bytes are no item. -/
theorem itemOk_nil (kind : Nat) : itemOk kind [] = false := by simp [itemOk, itemFormed, slice, ofLe]

/-- Without a settings item the defaults are taken (R498). -/
theorem takeSettings_defaults {s : State} {k : StartKept} (hk : s.startKept = k) (h : k.lb.present = false ∨ k.lb.settings = []) :
    s.takeSettings.startKept = { k with settingsDefault := true } := by
  subst hk
  replace h : s.lb.present = false ∨ s.lb.settings = [] := h
  unfold State.takeSettings
  extract_lets b mac s1
  have h1 : s1.startKept = s.startKept := proj_of_ite State.startKept (askKey_startKept ..) rfl
  have hlb : s1.lb = s.lb := congrArg StartKept.lb h1
  have hno : ¬ (s1.lb.present && !(mac && s1.io.ksErr) && itemOk 1 b) = true := by
    rw [hlb]
    rcases h with h | h
    · simp [h]
    · simp [show b = [] from h, itemOk_nil]
  rw [if_neg hno]
  exact (linkDefaults_startKept _).trans (congrArg (fun k : StartKept => { k with settingsDefault := true }) h1)

theorem setTotals_startKept (s : State) (x : Totals) : (s.setTotals x).startKept = s.startKept := startKept_mk ..

theorem restoreSurvey_startKept (s : State) (lost : Nat) : (s.restoreSurvey lost).startKept = s.startKept := by
  unfold State.restoreSurvey
  extract_lets es newest
  clear_value newest
  cases newest with
  | none => exact (startKept_mk ..).trans (setTotals_startKept ..)
  | some b => exact (startKept_mk ..).trans (setTotals_startKept ..)

theorem addIncrement_startKept (s : State) (a : Accum) (kind : Nat) : (s.addIncrement a kind).startKept = s.startKept := by
  unfold State.addIncrement
  extract_lets t
  split
  · exact setTotals_startKept ..
  · exact setTotals_startKept ..
  · exact (startKept_mk ..).trans (setTotals_startKept ..)

theorem keeperAdds_startKept (s : State) : s.keeperAdds.startKept = s.startKept := by
  unfold State.keeperAdds
  split
  · rfl
  · exact (startKept_mk ..).trans (foldl_proj State.startKept _ (fun t k => addIncrement_startKept ..) _ _)

theorem takeConsts_startKept (s : State) : s.takeConsts.startKept = s.startKept := startKept_mk ..

/-- The steps of FIRMWARE_START up to READY (R455, R487). -/
def State.firmwareSteps (s : State) : State :=
  let u := ({ s with dev := { s.dev with phase := .running } }).readMap.applyMap.takeSettings.takeConsts
  if decide (s.dev.lastReset = 0) then u.restoreSurvey u.survey.lostS else u.keeperAdds

/-- The state that FIRMWARE_START leaves: READY, with a pod that is present plugged in (R487, R504). -/
def State.firmwareStarted (s : State) : State :=
  let u := { s.firmwareSteps with dev := { s.firmwareSteps.dev with ready := true } }
  if u.svc.present then u.stpPlug else u

theorem exec_firmwareStart {s : State} (hp : s.dev.phase = .imageRead) (hw : s.dev.wrst = false) :
    exec .firmwareStart s = .next s.firmwareStarted := congrArg _ (if_neg (by simp [hp, hw]))

theorem firmwareStarted_proj {β : Type} (π : State → β) (h : ∀ (t : State) (svc : Svc), π { t with svc := svc } = π t) (s : State) :
    π s.firmwareStarted = π { s.firmwareSteps with dev := { s.firmwareSteps.dev with ready := true } } :=
  proj_of_ite π (stpPlug_proj π h _) rfl

theorem firmwareSteps_phase (s : State) : s.firmwareSteps.dev.phase = .running := by
  unfold State.firmwareSteps
  extract_lets _ u
  have hu : u.fix = ({ s with dev := { s.dev with phase := .running } } : State).fix :=
    (fix_of_rest (State.takeConsts_rest _)).trans ((State.takeSettings_fix _).trans
      (fix_of_rest ((State.applyMap_rest _).trans (State.readMap_rest _))))
  have ht := fix_of_ite (c := decide (s.dev.lastReset = 0) = true)
    ((fix_of_rest (State.restoreSurvey_rest u u.survey.lostS)).trans hu) ((fix_of_rest (State.keeperAdds_rest u)).trans hu)
  exact congrArg Fix.phase ht

theorem firmwareSteps_defaults {s : State} (h : s.lb.present = false ∨ s.lb.settings = []) :
    s.firmwareSteps.startKept = { s.startKept with phase := .running, settingsDefault := true } := by
  unfold State.firmwareSteps
  extract_lets _ u
  have hm : ({ s with dev := { s.dev with phase := .running } } : State).readMap.applyMap.startKept =
      { s.startKept with phase := .running } := (applyMap_startKept _).trans ((readMap_startKept _).trans (startKept_mk ..))
  have hu : u.startKept = { s.startKept with phase := .running, settingsDefault := true } :=
    (takeConsts_startKept _).trans (takeSettings_defaults hm h)
  exact proj_of_ite State.startKept ((restoreSurvey_startKept ..).trans hu) ((keeperAdds_startKept _).trans hu)

/-! ## The obligation -/

/-- Settles O54, command by command: PORST_N, the cold start, the warm resets, the end of WRST_N, the image check, the
firmware's start, its replacement and the end of its trial. -/
theorem resetsAndStart : Obligations.ResetsAndStart := by
  intro s frozen keeps
  refine ⟨?porst, ?cold, ?warm, rfl, ?image, ?firmware, ?restart, ?trial⟩
  case porst =>
    refine ⟨_, rfl, rfl, rfl, rfl, rfl, rfl, rfl, rfl, rfl, rfl, rfl, rfl, rfl, rfl, rfl, rfl, rfl, rfl, rfl, rfl, ?doms,
      fun p => ⟨?cfg, ?disabled⟩, porst_frozen, porst_unfrozen, porst_words s⟩
    case doms =>
      intro h hh
      have hd := tget_porstDoms s h hh
      simp only [State.dom] at hd ⊢
      rw [hd]
      exact ⟨rfl, rfl⟩
    case cfg => exact resetProbes_cfg s.probes false p
    case disabled => exact resetProbes_disabled s.probes p
  case cold =>
    intro strap faulty sfdp fuseBad ks hp
    have hu := coldStarted_untested s strap ⟨faulty, sfdp, fuseBad, ks⟩
    have hlb := congrArg Untested.lb hu
    have hio := congrArg Untested.io hu
    refine ⟨_, exec_coldStart hp strap _, congrArg Untested.dev hu, congrArg Untested.chip hu, congrArg (fun u : Untested => u.clk.tclk) hu,
      congrArg Io.htRdy hio, congrArg Io.lbRstN hio, congrArg Io.ksErr hio, congrArg Untested.fuseBad hu, congrArg Untested.time hu,
      fun h => hlb.trans (found_present h), fun h => ⟨(congrArg Logbook.present hlb).trans (found_absent h), coldStarted_absent strap h⟩,
      congrArg Untested.ledger hu, congrArg Untested.chart hu, congrArg (fun u : Untested => u.lk.doms) hu,
      fun hrows hf => coldStarted_faultless strap hrows hf,
      fun r hrows hf hrow hsp hmap => coldStarted_faulty strap hrows hf hrow hsp hmap⟩
  case warm =>
    intro src hsrc hturn
    refine ⟨_, exec_warmReset hsrc, ?_⟩
    unfold State.warm
    rw [warmTurnover_none hturn]
    refine ⟨rfl, rfl, rfl, rfl, rfl, rfl, rfl, rfl, rfl, rfl, fun h => ?_, fun h => ?_, rfl, rfl, tget_warmSlots s.chart.slots, rfl, rfl, rfl,
      tget_keptWords s.ecc.word, rfl, rfl, rfl, rfl, rfl, rfl, rfl, rfl, rfl, rfl, rfl, resetProbes_cfg s.probes true⟩
    · exact (warmTime_st s).trans (if_neg (by simp [h]))
    · exact (warmTime_st s).trans (if_pos h)
  case image =>
    intro hp hw
    refine ⟨_, exec_bootImageCheck hp hw, ?_⟩
    intro found
    have hfound : found = s.bootFinds := (bootFinds_eq s).symm
    clear_value found
    subst hfound
    by_cases h0 : s.bootFinds = 0
    · obtain ⟨hchart, htime, himage⟩ := bootWith_image s
      rw [h0]
      exact ⟨hchart, htime, fun _ => himage, fun h => absurd rfl h⟩
    · obtain ⟨hchart, htime, hdev, hident, henv⟩ := bootWith_recovery s h0
      exact ⟨hchart, htime, fun h => absurd h h0, fun _ => ⟨hdev, hident, congrArg Env.pCont henv, congrArg Env.pBurst henv,
        congrArg Env.tBurst henv, congrArg Env.shed henv⟩⟩
  case firmware =>
    intro hp hw
    have hready := firmwareStarted_proj State.dev (fun _ _ => rfl) s
    refine ⟨_, exec_firmwareStart hp hw, congrArg Dev.ready hready, (congrArg Dev.phase hready).trans (firmwareSteps_phase s), fun h => ?_⟩
    have hk := (firmwareStarted_proj State.startKept (fun _ _ => startKept_mk ..) s).trans
      ((startKept_mk ..).trans (firmwareSteps_defaults h))
    exact ⟨congrArg StartKept.mode hk, congrArg StartKept.settingsDefault hk, congrArg StartKept.time hk, congrArg StartKept.chart hk⟩
  case restart =>
    intro img himg hmode hrestarting hasleep hsafe
    change execFirmwareRestart s = _
    unfold execFirmwareRestart
    rw [himg]
    exact congrArg _ (if_neg (by simp [hmode, hrestarting, hasleep, hsafe]))
  case trial =>
    intro t ht hdue hrestarting hmode
    change execFirmwareTrialExpiry s = _
    unfold execFirmwareTrialExpiry
    rw [ht]
    exact congrArg _ (if_neg (by simp [hmode, hrestarting, hdue]))

end Sys2Proof.Machine
end

section
/-! SUPPORT. Rules of the shared operations that the statements about the ports use: bits, standing faults, wake events,
records and probes that a fold touches. -/

namespace Sys2Proof.Machine

/-! ## Bits and sums -/

theorem getLsbD_setBit {n : Nat} (v : BitVec n) (i k : Nat) (b : Bool) (hi : i < n) :
    (setBit v i b).getLsbD k = if k = i then b else v.getLsbD k := by
  have hp : (BitVec.ofNat n (2 ^ i)).getLsbD k = decide (k = i) := by
    rw [BitVec.getLsbD_ofNat, Nat.testBit_two_pow]
    by_cases h : k = i
    · simp [h, hi]
    · simp [h, Ne.symm h]
  cases b
  · simp only [setBit, Bool.false_eq_true, if_false, BitVec.getLsbD_and, BitVec.getLsbD_not, hp]
    by_cases h : k = i
    · simp [h]
    · by_cases hk : k < n
      · simp [h, hk]
      · simp [h, BitVec.getLsbD_of_ge v k (by omega)]
  · simp only [setBit, if_true, BitVec.getLsbD_or, hp]
    by_cases h : k = i <;> simp [h]

/-! ## Standing faults (R467) -/

theorem persisting_setPersist (s : State) (code unit : Nat) (on : Bool) :
    (s.setPersist code unit on).persisting code unit = on := by
  cases on
  · simp [State.persisting, State.setPersist]
  · exact setPersist_persisting s code unit

/-! ## Wake events and records -/

/-- A wake event writes the exit, its reason and its instant (R357). -/
theorem wake_proj {α : Type} (π : State → α)
    (h : ∀ (s : State) e w t, π { s with lk := { s.lk with exiting := e, heldWake := w, wakeTs := t } } = π s) (s : State) (k : WakeKind) :
    π (s.wake k) = π s := by
  unfold State.wake
  split
  · exact proj_of_ite π (h s s.lk.exiting (some (wakeReason k)) s.ts) rfl
  · exact proj_of_ite π (h s true (some (wakeReason k)) s.ts) rfl

/-- What the canal leaves alone, a record leaves alone. -/
theorem CanalOnly.proj {α : Type} {s t : State} (h : CanalOnly s t) (π : State → α)
    (hπ : ∀ (u : State) c, π { u with canal := c } = π u) : π t = π s := by
  rw [show t = { s with canal := t.canal } from h, hπ]

end Sys2Proof.Machine
end

section
/-! SUPPORT. The host envelope (R364 to R371): its samples, its loop, its losses and its shedding. -/

namespace Sys2Proof.Machine

/-! ## Rail samples -/

/-- RMON_SAMPLE of a channel that the integration has (R84, R325). -/
theorem rmonSample_env {s : State} (ch : Fin 8) (power current : BitVec 16) (hp : s.dev.phase ≠ .held) (hr : ch.val < s.ident.rails) :
    ∃ t, exec (.rmonSample ch power current) s = .next t ∧
      t.env = { s.env with latest := tset s.env.latest ch.val (power.toNat, current.toNat, s.now) (0, 0, 0), lost := setBit s.env.lost ch.val false } ∧
      t.fc = (s.setPersist 0x901 ch.val false).fc ∧
      t.survey.live.railP = tset s.survey.live.railP ch.val (satAdd (2 ^ 48 - 1) (tget s.survey.live.railP ch.val 0) power.toNat) 0 ∧
      t.survey.live.railI = tset s.survey.live.railI ch.val (satAdd (2 ^ 48 - 1) (tget s.survey.live.railI ch.val 0) current.toNat) 0 := by
  refine ⟨_, rfl, ?_⟩
  dsimp only
  rw [if_neg (by simp [State.poweredUp, hp]; omega)]
  exact ⟨rfl, rfl, rfl, rfl⟩

/-! ## The loop -/

/-- The bands of R366 in the terms of the loop of one copy. -/
theorem loop_bands (c : EnvCopy) (p eff burst eMax : Rat) (allowed : Bool) (floor : Nat) :
    let d := (c.loop p eff burst eMax allowed floor).1
    let lim := if allowed = true ∧ 0 < d.bucket then burst else eff
    d.bucket = max 0 (min eMax (c.bucket + (eff - p) * 10)) ∧
    (6 / 5 * lim < p → d.level = max floor 15) ∧
    (21 / 20 * lim < p → p ≤ 6 / 5 * lim → d.level = max floor (min 15 (c.level + 4))) ∧
    (lim < p → p ≤ 21 / 20 * lim → d.level = max floor (min 15 (c.level + 1))) ∧
    (p ≤ lim → 19 / 20 * lim < p → d.level = max floor c.level ∧ d.low = 0) ∧
    (p ≤ lim → p ≤ 19 / 20 * lim → 0 ≤ lim → c.low + 1 ≠ 8 → d.level = max floor c.level ∧ d.low = c.low + 1) ∧
    (p ≤ lim → p ≤ 19 / 20 * lim → 0 ≤ lim → c.low + 1 = 8 → d.level = max floor (c.level - 1) ∧ d.low = 0) := by
  unfold EnvCopy.loop
  simp only [Bool.and_eq_true, decide_eq_true_eq]
  generalize (if allowed = true ∧ 0 < max 0 (min eMax (c.bucket + (eff - p) * 10)) then burst else eff) = lim
  refine ⟨trivial, fun h => ?_, fun h h' => ?_, fun h h' => ?_, fun h h' => ?_, fun h h' h0 h8 => ?_, fun h h' h0 h8 => ?_⟩
  · rw [if_pos (show lim * 6 < p * 5 by linarith)]
  · rw [if_neg (show ¬ lim * 6 < p * 5 by linarith), if_pos (show lim * 21 < p * 20 by linarith)]
  · rw [if_neg (show ¬ lim * 6 < p * 5 by linarith), if_neg (show ¬ lim * 21 < p * 20 by linarith), if_pos h]
  · have hlow : ¬ p * 20 ≤ lim * 19 := by linarith
    rw [if_neg (show ¬ lim * 6 < p * 5 by linarith), if_neg (show ¬ lim * 21 < p * 20 by linarith), if_neg (not_lt.mpr h), if_neg hlow]
    exact ⟨rfl, rfl⟩
  · have hlow : p * 20 ≤ lim * 19 := by linarith
    rw [if_neg (show ¬ lim * 6 < p * 5 by linarith), if_neg (show ¬ lim * 21 < p * 20 by linarith), if_neg (not_lt.mpr h), if_pos hlow,
      if_neg h8]
    exact ⟨rfl, if_neg h8⟩
  · have hlow : p * 20 ≤ lim * 19 := by linarith
    rw [if_neg (show ¬ lim * 6 < p * 5 by linarith), if_neg (show ¬ lim * 21 < p * 20 by linarith), if_neg (not_lt.mpr h), if_pos hlow,
      if_pos h8]
    exact ⟨rfl, if_pos h8⟩

theorem emitPower_env (s : State) (new old : Power) (reason horizon ts : Nat) :
    (s.emitPower new old reason horizon ts).env = s.env := (emit_canal ..).proj State.env fun _ _ => rfl

/-- THR_LEVEL follows the higher of the copies; of the envelope it writes the level alone (R368). -/
theorem applyLevel_env (s : State) : s.applyLevel.env.thr = max s.env.a.level s.env.b.level ∧
    ∃ v w, s.applyLevel.env = { s.env with thr := v, thrMax := w } := by
  unfold State.applyLevel
  extract_lets l _ u
  split
  · next h => exact ⟨h, _, _, rfl⟩
  · rw [emitPower_env]
    exact ⟨rfl, _, _, rfl⟩

/-- The envelope that ENVELOPE_LOOP leaves before THR_LEVEL follows it (R365, R366). -/
def State.looped (s : State) : Env :=
  let sum := (List.range s.ident.rails).foldl (fun a ch => a + (tget s.env.latest ch (0, 0, 0)).1) 0
  let floor := if s.env.lost = 0 then 0 else s.env.fallback
  let run (c : EnvCopy) := (c.loop ((sum : Rat) / 500) s.env.effOf (quarter s.env.pBurst) (s.env.eMax s.env.effOf) s.env.burstOf floor).1
  { s.env with a := run s.env.a, b := run s.env.b, pInst := sum, pEff := s.env.effOf, burst := s.env.burstOf, lastLoopAt := s.now }

/-- ENVELOPE_LOOP without an upset: the copies run, THR_LEVEL follows, and of the rest only the overrun is counted. -/
theorem envelopeLoop_env {s : State} (h : s.env.lastLoopAt + 10000 ≤ s.now) : ∃ t, exec (.envelopeLoop false) s = .next t ∧
    t.env.thr = max s.looped.a.level s.looped.b.level ∧
    ∃ v w x y z, t.env = { s.looped with thr := v, thrMax := w, highRun := x, overrun := y, lastOverAt := z } := by
  change ∃ t, execEnvelopeLoop false s = .next t ∧ _
  unfold execEnvelopeLoop
  rw [if_neg (by omega)]
  extract_lets e eff sum p floor ca cb fr s1 _ b _ s2 s3 s4 _ s5 left _ s6
  have h2 : s2.env = s.looped := rfl
  have h3 : s3.env = s.looped := proj_of_ite State.env h2 h2
  obtain ⟨hlevel, v, w, hv⟩ := applyLevel_env s3
  rw [h3] at hlevel hv
  have h6 : ∀ (u : State) x y z, u.env = { s4.env with highRun := x, overrun := y, lastOverAt := z } →
      u.env.thr = max s.looped.a.level s.looped.b.level ∧
      ∃ v w x y z, u.env = { s.looped with thr := v, thrMax := w, highRun := x, overrun := y, lastOverAt := z } := by
    intro u x y z hu
    exact ⟨hu ▸ hlevel, v, w, x, y, z, by rw [hu, hv]⟩
  split
  · split
    · exact ⟨_, rfl, h6 _ _ _ _ rfl⟩
    · exact ⟨_, rfl, h6 _ _ _ _ rfl⟩
  · exact ⟨_, rfl, h6 _ _ _ _ rfl⟩

/-! ## Losses -/

/-- ENVELOPE_INPUT_LOST of a channel without a sample for 10 us (R84, R368). -/
theorem envelopeInputLost_due {s : State} (ch : Fin 8) (hr : ch.val < s.ident.rails) (hl : s.env.lost.getLsbD ch.val = false)
    (ht : (tget s.env.latest ch.val (0, 0, 0)).2.2 + 10000 ≤ s.now) : ∃ t, exec (.envelopeInputLost ch) s = .next t ∧
      t.env.lost.getLsbD ch.val = true ∧ t.env.a.level = max s.env.fallback s.env.a.level ∧
      t.env.b.level = max s.env.fallback s.env.b.level ∧ t.env.thr = max t.env.a.level t.env.b.level ∧ t.persisting 0x901 ch.val = true ∧
      t.fc.pend = s.fc.pend ++ [⟨0x901, ch.val, 0, none, s.ts, s.now, false, false⟩] := by
  change ∃ t, execEnvelopeInputLost ch s = .next t ∧ _
  unfold execEnvelopeInputLost
  rw [if_neg (by simp only [hl, Bool.or_false, Bool.or_eq_true, decide_eq_true_eq, not_or, not_le, not_lt]; omega)]
  extract_lets f _ _ _ s1
  generalize hu : (s1.raise 0x901 ch.val 0).setPersist 0x901 ch.val true = u
  have henv : u.env = s1.env := hu ▸ rfl
  obtain ⟨hthr, v, w, hv⟩ := applyLevel_env u
  rw [henv] at hthr hv
  have hfc : u.applyLevel.fc = u.fc := by
    unfold State.applyLevel
    exact proj_of_ite State.fc rfl ((emit_canal ..).proj State.fc fun _ _ => rfl)
  refine ⟨_, rfl, ?_, by rw [hv], by rw [hv], by rw [hthr, hv], ?_, ?_⟩
  · rw [hv]
    exact (getLsbD_setBit s.env.lost ch.val ch.val true ch.isLt).trans (if_pos rfl)
  · have hp : u.applyLevel.persisting 0x901 ch.val = u.persisting 0x901 ch.val := congrArg (fun x : Fc => x.persist.contains _) hfc
    rw [hp, ← hu]
    exact persisting_setPersist ..
  · rw [hfc, ← hu]
    rfl

/-! ## Shedding -/

/-- A request for a domain writes that domain alone (R360). -/
theorem requestDomain_dom (s : State) (h k : Nat) (on : Bool) (reason : Nat) (hk : k ≠ h) :
    (s.requestDomain h on reason).dom k = s.dom k := by
  unfold State.requestDomain
  exact proj_of_ite (State.dom · k) rfl ((s.setDom_dom h _ k).trans (if_neg hk))

/-- A domain that is on is asked to go off by the envelope (R360, R369). -/
theorem requestDomain_shed (s : State) (h : Nat) (hh : h < s.ident.hostDomains) : ((s.requestDomain h false 5).dom h).shed = true ∧
    ((s.dom h).req = true → (s.dom h).ack = true → ((s.requestDomain h false 5).dom h).due = some (false, 5)) := by
  unfold State.requestDomain
  rw [if_neg (by simpa using hh)]
  rw [State.setDom_dom_same]
  refine ⟨?_, fun hr ha => ?_⟩
  · split_ifs <;> simp
  · simp [hr, ha]

theorem requestDomain_env (s : State) (h : Nat) (on : Bool) (reason : Nat) : (s.requestDomain h on reason).env = s.env := by
  unfold State.requestDomain
  exact proj_of_ite State.env rfl rfl

/-- ENVELOPE_SHED asks the next domain of the list to go off (R369). -/
theorem envelopeShed_next {s : State} {h : Nat} {rest : List Nat} (ho : s.env.overrun = true)
    (hl : s.env.shed.filter (fun h => !(s.dom h).shed) = h :: rest) (hh : h < s.ident.hostDomains)
    (ht : s.env.lastShedAt = 0 ∨ s.env.lastShedAt + 100000 ≤ s.now) : ∃ t, exec .envelopeShed s = .next t ∧ t.env.lastShedAt = s.now ∧
      (t.dom h).shed = true ∧ ((s.dom h).req = true → (s.dom h).ack = true → (t.dom h).due = some (false, 5)) ∧
      (∀ k, k ≠ h → t.dom k = s.dom k) := by
  change ∃ t, execEnvelopeShed s = .next t ∧ _
  unfold execEnvelopeShed
  rw [if_neg (by simp [ho]), hl]
  dsimp only
  rw [if_neg (by rcases ht with h0 | h0 <;> simp [h0])]
  have hnow : (s.wake .shed).now = s.now := wake_proj State.now (fun _ _ _ _ => rfl) s .shed
  have hid : (s.wake .shed).ident = s.ident := wake_proj State.ident (fun _ _ _ _ => rfl) s .shed
  have hdom : ∀ k, (s.wake .shed).dom k = s.dom k := fun k => wake_proj (State.dom · k) (fun _ _ _ _ => rfl) s .shed
  generalize hu : ({ s.wake .shed with env := { (s.wake .shed).env with lastShedAt := (s.wake .shed).now } } : State) = u
  have hud : ∀ k, u.dom k = s.dom k := fun k => hu ▸ hdom k
  obtain ⟨hshed, hdue⟩ := requestDomain_shed u h (by rw [← hu]; exact hid ▸ hh)
  rw [hud] at hdue
  refine ⟨_, rfl, ?_, hshed, hdue, fun k hk => (requestDomain_dom u h k false 5 hk).trans (hud k)⟩
  rw [requestDomain_env, ← hu]
  exact hnow

/-! ## The obligation -/

/-- Settles O39: the sample, the loop by `loop_bands`, the losses and the shedding. -/
theorem envelopeEvents : Obligations.EnvelopeEvents := by
  intro s
  refine ⟨?sample, ?loop, fun ch hr hl ht => envelopeInputLost_due ch hr hl ht, ?reportLost, ?stale, fun h rest ho hl hh ht => envelopeShed_next ho hl hh ht,
    ?exhausted⟩
  case sample =>
    intro ch power current hp hr
    obtain ⟨t, hexec, henv, hfc, hP, hI⟩ := rmonSample_env ch power current hp hr
    refine ⟨t, hexec, by rw [henv], by rw [henv]; exact tget_tset_same .., ?_, fun k hk hne => ?_, ?_, ?_, ?_⟩
    · rw [henv]
      exact (getLsbD_setBit _ _ _ _ ch.isLt).trans (if_pos rfl)
    · rw [henv]
      exact (getLsbD_setBit _ _ _ _ ch.isLt).trans (if_neg hne)
    · have hpers : t.persisting 0x901 ch.val = (s.setPersist 0x901 ch.val false).persisting 0x901 ch.val :=
        congrArg (fun x : Fc => x.persist.contains _) hfc
      exact hpers.trans (persisting_setPersist ..)
    · rw [hP]
      exact tget_tset_same ..
    · rw [hI]
      exact tget_tset_same ..
  case loop =>
    intro h sum p eff next
    obtain ⟨t, hexec, hthr, v, w, x, y, z, henv⟩ := envelopeLoop_env h
    have ha : t.env.a = s.looped.a := by rw [henv]
    have hb : t.env.b = s.looped.b := by rw [henv]
    refine ⟨t, hexec, by rw [henv]; rfl, by rw [henv]; rfl, by rw [henv]; rfl, ?_, ?_, by rw [hthr, ha, hb]⟩
    · rw [ha]
      exact loop_bands s.env.a ..
    · rw [hb]
      exact loop_bands s.env.b ..
  case reportLost =>
    intro hl ht
    refine ⟨_, if_neg ?_, rfl, persisting_setPersist (({ s with env := { s.env with reportLost := true } } : State).raise 0x904 0 0) .., rfl⟩
    simp only [hl, Bool.false_or, decide_eq_true_eq]
    omega
  case stale =>
    intro hp ht
    refine congrArg _ (if_neg ?_)
    simp only [State.poweredUp, hp, ne_eq, not_false_eq_true, decide_true, Bool.not_true, Bool.false_or, decide_eq_true_eq]
    omega
  case exhausted =>
    intro ho hall ht
    have hnil : s.env.shed.filter (fun h => !(s.dom h).shed) = [] := List.filter_eq_nil_iff.mpr fun h hm => by simp [hall h hm]
    change execEnvelopeShed s = _
    unfold execEnvelopeShed
    rw [if_neg (by simp [ho]), hnil]
    exact if_neg (by omega)

end Sys2Proof.Machine
end

section
/-! SUPPORT. What the data paths can change: records, triggers, the assay's instances and dumps, and the ends of ops leave
the clocks, Convoy Time, the probes, the basins, the charters, the envelope and the frame timing alone. -/

namespace Sys2Proof.Machine

/-- The second state differs from the first in the parts that carry data alone. -/
def DataOnly (s t : State) : Prop :=
  t = { s with
    canal := t.canal, mgr := t.mgr, ledger := t.ledger, esl := t.esl, fc := t.fc, lk := t.lk, win := t.win, ecc := t.ecc
    lb := t.lb, assay := t.assay, ch := t.ch, survey := t.survey, io := t.io, free := t.free }

theorem DataOnly.rfl {s : State} : DataOnly s s := Eq.refl s

/-- A state written out with its data parts changed. -/
theorem DataOnly.parts {s : State} {canal : Canal} {mgr : Mgr} {ledger : Ledger} {esl : Esl} {fc : Fc} {lk : Lk} {win : Win} {ecc : Ecc}
    {lb : Logbook} {assay : Assay} {ch : Ch} {survey : Survey} {io : Io} {free : Nat} :
    DataOnly s { s with
      canal := canal, mgr := mgr, ledger := ledger, esl := esl, fc := fc, lk := lk, win := win, ecc := ecc
      lb := lb, assay := assay, ch := ch, survey := survey, io := io, free := free } := Eq.refl _

theorem DataOnly.trans {s t u : State} (h : DataOnly s t) (k : DataOnly t u) : DataOnly s u := by
  unfold DataOnly at *
  rw [k, h]

theorem DataOnly.ite {s a b : State} {c : Prop} [Decidable c] (ha : DataOnly s a) (hb : DataOnly s b) :
    DataOnly s (if c then a else b) := by split <;> assumption

theorem DataOnly.ite_fst {β : Type} {s : State} {a b : State × β} {c : Prop} [Decidable c] (ha : DataOnly s a.1) (hb : DataOnly s b.1) :
    DataOnly s (if c then a else b).1 := by split <;> assumption

theorem DataOnly.ite_snd {β : Type} {s : State} {a b : β × State} {c : Prop} [Decidable c] (ha : DataOnly s a.2) (hb : DataOnly s b.2) :
    DataOnly s (if c then a else b).2 := by split <;> assumption

theorem DataOnly.foldl {β : Type} (f : State → β → State) (h : ∀ s b, DataOnly s (f s b)) (l : List β) (s : State) :
    DataOnly s (l.foldl f s) := by
  induction l generalizing s with
  | nil => exact .rfl
  | cons b l ih => exact (h s b).trans (ih _)

theorem DataOnly.foldl_fst {β γ : Type} (f : State × γ → β → State × γ) (h : ∀ a b, DataOnly a.1 (f a b).1) (l : List β) (a : State × γ) :
    DataOnly a.1 (l.foldl f a).1 := by
  induction l generalizing a with
  | nil => exact .rfl
  | cons b l ih => exact (h a b).trans (ih _)

theorem CanalOnly.data {s t : State} (h : CanalOnly s t) : DataOnly s t := by
  rw [show t = { s with canal := t.canal } from h]
  exact Eq.refl _

theorem DataOnly.frame {s t : State} (h : DataOnly s t) : t.frame = s.frame := by rw [DataOnly] at h; rw [h]
theorem DataOnly.probes {s t : State} (h : DataOnly s t) : t.probes = s.probes := by rw [DataOnly] at h; rw [h]

/-! ## Triggers and interrupts -/

theorem wake_data (s : State) (k : WakeKind) : DataOnly s (s.wake k) := by
  unfold State.wake
  split
  · exact .ite .parts .rfl
  · exact .ite .parts .rfl

theorem emit_data (s : State) (src o ty cls ts payload : Nat) (extra : List Nat) : DataOnly s (s.emit src o ty cls ts payload extra) :=
  (emit_canal ..).data

theorem emitTrigger_data (s : State) (trig code : Nat) (ignored : Bool) (ts : Nat) : DataOnly s (s.emitTrigger trig code ignored ts) := by
  unfold State.emitTrigger
  exact .ite ((emit_data ..).trans .parts) (.trans .parts (wake_data ..))

theorem countTrigger_data (s : State) (trig code : Nat) : DataOnly s (s.countTrigger trig code) := by
  unfold State.countTrigger
  extract_lets _ u
  have hu : DataOnly s u := .parts
  split
  · exact hu
  · split
    · exact .ite (hu.trans (emitTrigger_data ..)) (hu.trans .parts)
    · exact hu.trans (emitTrigger_data ..)

theorem swapTrigger_data (s : State) (trig code : Nat) : DataOnly s (s.swapTrigger trig code).2 := by
  unfold State.swapTrigger
  extract_lets mine q old u _ v
  have hv : DataOnly s v := .parts
  split
  · exact hv.trans .parts
  · exact hv

theorem fireTrigger_data (s : State) (trig code : Nat) : DataOnly s (s.fireTrigger trig code) := by
  unfold State.fireTrigger
  refine .ite (.trans .parts (emitTrigger_data ..)) (.ite ?_ (countTrigger_data ..))
  exact (swapTrigger_data ..).trans (countTrigger_data ..)

/-! ## The assay's instances and dumps -/

theorem engineStart_data (s : State) : DataOnly s s.engineStart := by
  unfold State.engineStart
  refine .ite .rfl ?_
  split
  · exact .rfl
  · exact .parts
  · exact .parts
  · exact .parts

theorem engineAdd_data (s : State) (op : TabOp) : DataOnly s (s.engineAdd op).2 := by
  unfold State.engineAdd
  split
  · exact .rfl
  · exact .trans .parts (engineStart_data _)

theorem writeStage_data (s : State) (pos n : Nat) : DataOnly s (s.writeStage pos n) := .foldl _ (fun _ _ => .parts) _ _

theorem putBlock_data (s : State) (j : Nat) (d : Dump) (blk : Staged) : DataOnly s (s.putBlock j d blk).1 := .parts

theorem stageBlock_data (s : State) (j : Nat) (d : Dump) (k : Nat) (body : List Byte) (incomplete last : Bool) :
    DataOnly s (s.stageBlock j d k body incomplete last).1 := (writeStage_data ..).trans (putBlock_data ..)

theorem settleDumps_data (s : State) : DataOnly s s.settleDumps :=
  .trans .parts (.foldl State.emitDump (fun _ _ => emit_data ..) _ _)

theorem endDump_data (s : State) (j : Nat) (incomplete : Bool) : DataOnly s (s.endDump j incomplete) := by
  unfold State.endDump
  split
  · exact .rfl
  · extract_lets w ks r s1 mark _ s2 _ s3 s4 e
    have h1 : DataOnly s s1 := .foldl_fst _ (fun a e => stageBlock_data ..) _ (s, _)
    have h2 : DataOnly s1 s2 := .ite .parts .rfl
    have h3 : DataOnly s2 s3 := .parts
    have h4 : DataOnly s3 s4 := .ite .parts .rfl
    exact (h1.trans (h2.trans (h3.trans h4))).trans (.trans .parts (settleDumps_data _))

theorem dumpBytes_data (s : State) (j k n : Nat) (bs : List Byte) : DataOnly s (s.dumpBytes j k n bs) := by
  induction n generalizing s bs with
  | zero => exact .rfl
  | succ n ih =>
    unfold State.dumpBytes
    refine .ite .rfl ?_
    split
    · exact .rfl
    · exact .ite (endDump_data ..) (.trans (.ite (stageBlock_data ..) .parts) (ih _ _))

theorem dumpRowTo_data (r : RowSt) (s : State) (j : Nat) : DataOnly s (State.dumpRowTo r s j) := by
  unfold State.dumpRowTo
  extract_lets w u h
  have hu : DataOnly s u := by
    simp only [u]
    split
    · exact .parts
    · exact .rfl
  exact .ite .rfl (.ite (hu.trans (dumpBytes_data ..)) hu)

theorem rowFails_data (s : State) (t : Nat) (i : Inst) (w : RowWait) (c : RowCheck) (ts : Nat) : DataOnly s (s.rowFails t i w c ts).1 := by
  unfold State.rowFails
  extract_lets s1 _ s2 x quiet _ s4
  have h2 : DataOnly s s2 := .parts
  have h4 : DataOnly s2 s4 := .ite .parts (.trans .parts (emit_data ..))
  exact .ite_fst (h2.trans h4) ((h2.trans h4).trans .parts)

theorem decideRow_data (s : State) (t : Nat) (i : Inst) (w : RowWait) (ts : Nat) : DataOnly s (s.decideRow t i w ts).2.1 := by
  unfold State.decideRow
  extract_lets c u i2 r
  have hu : DataOnly s u := .parts
  split
  · exact hu
  · exact hu.trans (rowFails_data ..)

theorem excursion_data (s : State) (t : Nat) (i : Inst) (kind : Nat) (up : Bool) (ts : Nat) : DataOnly s (s.excursion t i kind up ts).1 := by
  unfold State.excursion
  extract_lets m req x acts fc fcBits s1 s2 s3 s4 s5 hits
  have h1 : DataOnly s s1 := .ite (emit_data ..) .rfl
  have h2 : DataOnly s1 s2 := .ite .parts .rfl
  have h3 : DataOnly s2 s3 := .ite .parts .rfl
  have h4 : DataOnly s3 s4 := .ite .parts .rfl
  have h5 : DataOnly s4 s5 := .ite (fireTrigger_data ..) .rfl
  exact (h1.trans (h2.trans (h3.trans (h4.trans h5)))).trans .parts

theorem testExcursions_data (s : State) (t : Nat) (i : Inst) (final complete : Bool) (ts : Nat) :
    DataOnly s (s.testExcursions t i final complete ts).1 := by
  unfold State.testExcursions
  extract_lets fc kUp kDown r due sat r2 zer
  have h1 : DataOnly s r.1 := .ite_fst (excursion_data ..) .rfl
  have h2 : DataOnly s r2.1 := .ite_fst (h1.trans (excursion_data ..)) h1
  exact .ite_fst (h2.trans (excursion_data ..)) h2

theorem pathFails_data (s : State) (t : Nat) : DataOnly s (s.pathFails t) := by
  unfold State.pathFails
  exact .ite .parts .parts

theorem closeRow_data (s : State) (t : Nat) (i : Inst) (r : RowSt) (ts : Nat) : DataOnly s (s.closeRow t i r ts).1 := by
  unfold State.closeRow
  extract_lets i0 fs lo hi amax flat counts code could s1 checked sh f1 s2 shadow z i1 w ref0 d s3 i2 s4 s5 f2 ref s6 row s7 s8
  have h1 : DataOnly s s1 := .ite (pathFails_data ..) .rfl
  have h2 : DataOnly s1 s2 := .ite .rfl .parts
  have h3 : DataOnly s2 s3 := by
    simp only [s3, d]
    split
    · exact .rfl
    · split
      · exact .rfl
      · exact decideRow_data ..
  have h4 : DataOnly s3 s4 := .ite .parts .rfl
  have h5 : DataOnly s4 s5 := .ite .parts .rfl
  have h6 : DataOnly s5 s6 := .ite .rfl .parts
  have h7 : DataOnly s6 s7 := .parts
  have h8 : DataOnly s7 s8 := .ite (emit_data ..) .rfl
  have h : DataOnly s s8 := h1.trans (h2.trans (h3.trans (h4.trans (h5.trans (h6.trans (h7.trans h8))))))
  exact .ite_fst .rfl (.ite_fst (h.trans (testExcursions_data ..)) h)

theorem cutRow_data (s : State) (t : Nat) (i : Inst) (ts : Nat) : DataOnly s (s.cutRow t i ts).1 := by
  unfold State.cutRow
  split
  · exact (DataOnly.foldl _ (fun s j => dumpRowTo_data ..) _ _).trans (closeRow_data ..)
  · exact .rfl

theorem instStats_data (s : State) (t : Nat) (i : Inst) (complete : Bool) (ts : Nat) : DataOnly s (s.instStats t i complete ts) := by
  unfold State.instStats
  extract_lets inst s1 s2
  have h2 : DataOnly s s2 := .ite (.trans .parts (emit_data ..)) .parts
  exact .ite (.ite (h2.trans (.foldl _ (fun _ _ => emit_data ..) _ _)) h2) .rfl

theorem queueBack_data (s : State) (t : Nat) (i : Inst) (complete : Bool) : DataOnly s (s.queueBack t i complete).2 := by
  unfold State.queueBack
  extract_lets q
  have hq : DataOnly s q.2 := engineAdd_data ..
  exact .ite_snd (.ite_snd hq (hq.trans .parts)) .rfl

/-- The close of a tap at work (R251, R273). -/
theorem closeInst_data (s : State) (t : Nat) (i : Inst) (cut : Bool) : DataOnly s (s.closeInst t i cut) := by
  unfold State.closeInst
  extract_lets ts complete r _ i1 r2 i2 s1 s2 q s3
  have h1 : DataOnly s r.1 := cutRow_data ..
  have h2 : DataOnly s r2.1 := .ite_fst (h1.trans (testExcursions_data ..)) h1
  have h3 : DataOnly s s1 := h2.trans (instStats_data ..)
  have h4 : DataOnly s s2 := .ite (h3.trans .parts) h3
  have h5 : DataOnly s s3 := (h4.trans (queueBack_data ..)).trans .parts
  exact h5.trans (.foldl _ (fun s j => endDump_data ..) _ _)

theorem cutTap_data (s : State) (t : Nat) : DataOnly s (s.cutTap t) := by
  unfold State.cutTap
  split
  · exact closeInst_data ..
  · exact .rfl

/-! ## The end of an op -/

theorem setTotals_data (s : State) (t : Totals) : DataOnly s (s.setTotals t) := .parts

theorem addIncrement_data (s : State) (a : Accum) (kind : Nat) : DataOnly s (s.addIncrement a kind) := by
  unfold State.addIncrement
  extract_lets t
  split
  · exact setTotals_data ..
  · exact setTotals_data ..
  · exact (setTotals_data ..).trans .parts

theorem levels_data (s : State) (sites : List (Nat × Mech)) : DataOnly s (s.levels sites) := by
  refine .foldl _ (fun s e => ?_) _ _
  extract_lets a w v s1 s2
  have h1 : DataOnly s s1 := .parts
  have h2 : DataOnly s s2 := .ite (h1.trans .parts) h1
  exact .ite (h2.trans .parts) h2

theorem wearRun_data (s : State) (journal : Bool) (model : List W64) : DataOnly s (s.wearRun journal model) := by
  unfold State.wearRun
  extract_lets p outs s1 latest
  have h1 : DataOnly s s1 := .foldl _ (fun _ _ => emit_data ..) _ _
  exact (h1.trans .parts).trans (levels_data ..)

theorem askKey_data (s : State) (label : Nat) : DataOnly s (s.askKey label) := by
  unfold State.askKey
  exact .ite .parts .parts

theorem lbAccess_data (s : State) : DataOnly s s.lbAccess.2 := by
  unfold State.lbAccess
  extract_lets _ fs up s1
  split
  · exact .parts
  · exact .ite .parts .parts

theorem payEntries_data (s : State) : DataOnly s s.payEntries := by
  unfold State.payEntries
  exact .ite .rfl (.ite ((lbAccess_data s).trans .parts) (lbAccess_data s))

theorem writeEntry24_data (s : State) (model : List W64) : DataOnly s (s.writeEntry24 model) := by
  unfold State.writeEntry24
  extract_lets s1 v b p
  have h1 : DataOnly s s1 := askKey_data ..
  exact .ite h1 ((h1.trans .parts).trans (payEntries_data _))

theorem surveyEnd_data (s : State) (kind status : Nat) (model : List W64) : DataOnly s (s.surveyEnd kind status model) := by
  unfold State.surveyEnd
  extract_lets ok
  refine .ite ?_ (.ite ?_ (.ite ?_ (.ite (wearRun_data ..) .rfl)))
  · split
    · exact .rfl
    · exact .ite .rfl ((addIncrement_data ..).trans .parts)
  · exact .trans (.ite (wearRun_data ..) .rfl) (writeEntry24_data ..)
  · exact .trans (.ite (wearRun_data ..) .rfl) .parts

theorem unload_data (s : State) (o i : Nat) : DataOnly s (s.unload o i) := by
  unfold State.unload
  refine DataOnly.trans ?_ .parts
  split
  · exact .foldl _ (fun _ _ => .parts) _ _
  · exact .rfl

theorem postResult_data (s : State) (x : OpInst) (status flags w2 w3 : Nat) : DataOnly s (s.postResult x status flags w2 w3) := by
  unfold State.postResult
  extract_lets d s1 s2 s3 s4 fire s5 st ws
  have h1 : DataOnly s s1 := surveyEnd_data ..
  have h2 : DataOnly s1 s2 := .ite (unload_data ..) .rfl
  have h3 : DataOnly s2 s3 := emit_data ..
  have h4 : DataOnly s3 s4 := .ite .parts .rfl
  have h5 : DataOnly s4 s5 := .ite (fireTrigger_data ..) .rfl
  have h : DataOnly s s5 := h1.trans (h2.trans (h3.trans (h4.trans h5)))
  exact .ite h (h.trans .parts)

/-- A standing op made ready once more, or skipped (R288). -/
theorem makeInstance_data (s : State) (k readyTs : Nat) : DataOnly s (s.makeInstance k readyTs) := by
  unfold State.makeInstance
  split
  · exact .rfl
  · extract_lets q spent s1 y mine busy next x' _ s2
    have h1 : DataOnly s s1 := by
      simp only [s1, q]
      split <;> exact .parts
    have h2 : DataOnly s s2 := h1.trans .parts
    exact .ite (h2.trans (postResult_data ..)) (.ite (h2.trans (postResult_data ..)) (h2.trans .parts))

theorem frameOps_data (s : State) : DataOnly s s.frameOps := by
  refine .foldl _ (fun s k => ?_) _ _
  split
  · exact .ite (makeInstance_data ..) .rfl
  · exact .rfl

end Sys2Proof.Machine
end

section
/-! SUPPORT. Frame timing: the schedule and the plan, FRAME_SYNC edges, the plan's steps and missed frames (R372 to R374). -/

namespace Sys2Proof.Machine

/-! ## FRAME_PLAN (R373) -/

/-- The steps that a FRAME_PLAN packet spells. -/
def planOf (pk : Pkt) : List PlanStep :=
  (List.range (fld (pk.p 1) 0 4)).map (fun i =>
    let w := pk.p (3 + 4 * i)
    ⟨sgn 32 (pk.p (2 + 4 * i)).toNat, fld w 0 2, BitVec.ofNat 4 (fld w 2 4),
      BitVec.ofNat 72 ((pk.p (4 + 4 * i)).toNat + (pk.p (5 + 4 * i)).toNat * 2 ^ 32 + fld w 6 8 * 2 ^ 64)⟩)

/-- A plan of at most 8 steps within the offsets of R373 is taken. -/
theorem bodyFramePlan_fits (pk : Pkt) (slot : Nat) (s : State) (hn : fld (pk.p 1) 0 4 ≤ 8)
    (ho : ∀ i < fld (pk.p 1) 0 4, -5000 ≤ sgn 32 (pk.p (2 + 4 * i)).toNat ∧ sgn 32 (pk.p (2 + 4 * i)).toNat ≤ 1000000) :
    bodyFramePlan pk slot s = .done .ok [] { s with frame := { s.frame with nextPlan := some (planOf pk) } } := by
  have hall : (List.range (fld (pk.p 1) 0 4)).find? (fun i => decide (sgn 32 (pk.p (2 + 4 * i)).toNat < -5000) ||
      decide (1000000 < sgn 32 (pk.p (2 + 4 * i)).toNat)) = none := by
    rw [List.find?_eq_none]
    intro i hi
    obtain ⟨hlo, hhi⟩ := ho i (List.mem_range.mp hi)
    simp [hlo, hhi]
  unfold bodyFramePlan
  simp only [chk, show ¬ 8 < fld (pk.p 1) 0 4 by omega, decide_false, Bool.false_eq_true, if_false]
  rw [hall]
  rfl

/-- The low word of a step's mask is the packet's word. -/
theorem setWidth_ofNat_low (w : W32) (a b : Nat) : (BitVec.ofNat 72 (w.toNat + a * 2 ^ 32 + b * 2 ^ 64)).setWidth 32 = w := by
  apply BitVec.eq_of_toNat_eq
  have := w.isLt
  simp only [BitVec.toNat_setWidth, BitVec.toNat_ofNat]
  omega

/-! ## FRAME_SYNC (R86, R157, R372) -/

/-- FRAME_SYNC asks a snapshot of the probes that its setting names. -/
def State.askFrameSnap (s : State) (p : Nat) : State :=
  if (s.probe p).cfg.frame then s.modProbe p (fun x => { x with frameSnapAt := some (s.ts + 4000) }) else s

theorem askFrameSnap_parts (s : State) (p : Nat) : s.askFrameSnap p = { s with probes := (s.askFrameSnap p).probes } := by
  unfold State.askFrameSnap
  split <;> rfl

theorem askFrameSnap_probe (s : State) (p q : Nat) : ((s.askFrameSnap p).probe q).cfg = (s.probe q).cfg ∧
    ((s.askFrameSnap p).probe q).frameSnapAt =
      if q = p ∧ (s.probe q).cfg.frame = true then some (s.ts + 4000) else (s.probe q).frameSnapAt := by
  unfold State.askFrameSnap State.modProbe
  by_cases hf : (s.probe p).cfg.frame = true
  · rw [if_pos hf, State.setProbe_probe]
    by_cases hq : q = p
    · subst hq
      rw [if_pos rfl, if_pos ⟨rfl, hf⟩]
      exact ⟨rfl, rfl⟩
    · rw [if_neg hq, if_neg fun h => hq h.1]
      exact ⟨rfl, rfl⟩
  · rw [if_neg hf]
    exact ⟨rfl, (if_neg fun (h : q = p ∧ (s.probe q).cfg.frame = true) => hf (h.1 ▸ h.2)).symm⟩

/-- A probe that the table does not list is `Probe.zero`. -/
theorem probe_unlisted {s : State} {p : Nat} (h : p ∉ s.probes.map Prod.fst) : s.probe p = Probe.zero := by
  unfold State.probe
  generalize s.probes = t at h
  induction t with
  | nil => rfl
  | cons e t ih =>
    simp only [List.map_cons, List.mem_cons, not_or] at h
    simp only [tget]
    rw [if_neg h.1]
    exact ih h.2

theorem foldl_askFrameSnap (ps : List (Nat × Probe)) (s : State) :
    let u := ps.foldl (fun s e => State.askFrameSnap s e.1) s
    u = { s with probes := u.probes } ∧
    ∀ q, (u.probe q).frameSnapAt = if q ∈ ps.map Prod.fst ∧ (s.probe q).cfg.frame = true then some (s.ts + 4000) else (s.probe q).frameSnapAt := by
  induction ps generalizing s with
  | nil => exact ⟨rfl, fun q => by simp⟩
  | cons e ps ih =>
    obtain ⟨hparts, hprobe⟩ := ih (s.askFrameSnap e.1)
    have hts : (s.askFrameSnap e.1).ts = s.ts := by rw [askFrameSnap_parts]; rfl
    refine ⟨?_, fun q => ?_⟩
    · rw [List.foldl_cons, hparts, askFrameSnap_parts s e.1]
    · obtain ⟨hcfg, hat⟩ := askFrameSnap_probe s e.1 q
      rw [List.foldl_cons, hprobe, hts, hcfg, hat]
      by_cases hf : (s.probe q).cfg.frame = true
      · by_cases hm : q ∈ ps.map Prod.fst <;> simp [hf, hm]
      · simp [hf]

/-- The state at an edge of FRAME_SYNC: the probes set for it are asked. -/
def State.atFrameSync (s : State) : State := s.probes.foldl (fun s e => s.askFrameSnap e.1) s

theorem atFrameSync_parts (s : State) : s.atFrameSync = { s with probes := s.atFrameSync.probes } := (foldl_askFrameSnap s.probes s).1

theorem atFrameSync_snap (s : State) (p : Nat) : (s.atFrameSync.probe p).frameSnapAt =
    if (s.probe p).cfg.frame = true then some (s.ts + 4000) else (s.probe p).frameSnapAt := by
  unfold State.atFrameSync
  rw [(foldl_askFrameSnap s.probes s).2]
  by_cases hp : p ∈ s.probes.map Prod.fst
  · simp [hp]
  · have hz : (s.probe p).cfg.frame = false := by rw [probe_unlisted hp]; rfl
    simp [hp, hz]

theorem frameStart_frame (s : State) : s.frameStart.frame = s.frame := by
  unfold State.frameStart
  exact proj_of_ite (c := s.fc.healthOn = true) State.frame rfl rfl

theorem frameStart_probes (s : State) : s.frameStart.probes = s.probes := by
  unfold State.frameStart
  exact proj_of_ite (c := s.fc.healthOn = true) State.probes rfl rfl

/-- A used edge (R372): the frame timing and the probes. -/
theorem usedEdge_frame (s : State) : s.usedEdge.probes = s.probes ∧ s.usedEdge.frame.lastEdge = some s.now ∧
    s.usedEdge.frame.lastUsed = some s.now ∧ s.usedEdge.frame.usable = s.frame.usable + 1 ∧ s.usedEdge.frame.missed = 0 ∧
    (s.frame.schedule = none → s.usedEdge.frame.plan = s.frame.nextPlan.getD s.frame.plan ∧ s.usedEdge.frame.nextPlan = none) := by
  unfold State.usedEdge
  extract_lets f iv g pred s1 s2
  by_cases hs : f.schedule.isSome = true
  · rw [if_pos hs, (frameOps_data _).probes, (frameOps_data _).frame]
    refine ⟨rfl, rfl, rfl, rfl, rfl, fun h => ?_⟩
    rw [show f.schedule = none from h] at hs
    cases hs
  · rw [if_neg hs, (frameOps_data _).probes, (frameOps_data _).frame]
    have hp : (if pred.isSome = true then s2.setPersist 0x907 0 false else s2).probes = s.probes :=
      proj_of_ite State.probes (frameStart_probes s) (frameStart_probes s)
    have hf : (if pred.isSome = true then s2.setPersist 0x907 0 false else s2).frame =
        { g with predicted := pred }.takePlan.begin_ s.now f.predicted.isSome pred := by
      have hnow : s1.now = s.now := by
        simp only [s1, State.frameStart]
        exact proj_of_ite (c := s.fc.healthOn = true) State.now rfl rfl
      have h2 : s2.frame = { g with predicted := pred }.takePlan.begin_ s.now f.predicted.isSome pred := by simp only [s2, hnow]
      exact proj_of_ite State.frame h2 h2
    rw [hp, hf]
    unfold Frame.begin_
    cases pred <;> exact ⟨rfl, rfl, rfl, rfl, rfl, fun _ => ⟨rfl, rfl⟩⟩

/-- An edge that comes too soon (R374). -/
theorem ignoredEdge_frame (s : State) : s.ignoredEdge.probes = s.probes ∧ s.ignoredEdge.frame.lastEdge = some s.now ∧
    s.ignoredEdge.frame.lastUsed = s.frame.lastUsed ∧ s.ignoredEdge.frame.usable = 0 ∧ s.ignoredEdge.frame.plan = s.frame.plan := by
  have h : ∀ f : Frame, f.lastEdge = some s.now ∧ f.lastUsed = s.frame.lastUsed ∧ f.usable = 0 ∧ f.plan = s.frame.plan →
      ∀ c : Prop, [Decidable c] → let u := if c then ({ s with frame := f }).raise 0x906 0 0 else { s with frame := f }
      u.probes = s.probes ∧ u.frame.lastEdge = some s.now ∧ u.frame.lastUsed = s.frame.lastUsed ∧ u.frame.usable = 0 ∧
      u.frame.plan = s.frame.plan := by
    intro f hf c _
    by_cases hc : c
    · rw [if_pos hc]
      exact ⟨rfl, hf⟩
    · rw [if_neg hc]
      exact ⟨rfl, hf⟩
  refine h _ ?_ _
  split <;> exact ⟨rfl, rfl, rfl, rfl⟩

theorem exec_frameSync {s : State} (h : s.dev.phase ≠ .held) : exec .frameSync s = .next (match s.frame.lastUsed with
    | some t => if s.now < t + 2000000 then s.atFrameSync.ignoredEdge else s.atFrameSync.usedEdge
    | none => s.atFrameSync.usedEdge) := by
  have hf : s.atFrameSync.frame = s.frame := by rw [atFrameSync_parts]
  have hn : s.atFrameSync.now = s.now := by rw [atFrameSync_parts]; rfl
  change Host.Outcome.next _ = _
  rw [if_neg h]
  change Host.Outcome.next (match s.atFrameSync.frame.lastUsed with
    | some t => if s.atFrameSync.now < t + 2000000 then s.atFrameSync.ignoredEdge else s.atFrameSync.usedEdge
    | none => s.atFrameSync.usedEdge) = _
  rw [hf, hn]

/-! ## The schedule and the plan's steps (R372, R373) -/

theorem schedStart_frame (s : State) (back next : Nat) : (s.schedStart back next).frame.lastStart = s.frame.lastStart ∧
    (s.schedStart back next).frame.plan = s.frame.nextPlan.getD s.frame.plan ∧ (s.schedStart back next).frame.nextPlan = none := by
  unfold State.schedStart
  dsimp only
  rw [frameStart_frame]
  exact ⟨rfl, rfl, rfl⟩

/-- A start of the schedule that is new, on an awake chip, begins a frame with the next plan. -/
theorem schedStep_begins (s : State) (i back next : Nat) (hlt : s.frame.lastStart < i) (ha : s.asleep = false) :
    (s.schedStep i back next).frame.lastStart = i ∧ (s.schedStep i back next).frame.plan = s.frame.nextPlan.getD s.frame.plan ∧
    (s.schedStep i back next).frame.nextPlan = none := by
  unfold State.schedStep
  rw [if_neg (by simp [ha]; omega), if_neg (by omega)]
  exact schedStart_frame ..

theorem execFrameScheduleTick_of {s : State} {sch : Nat × Nat} (h : s.frame.schedule = some sch) :
    execFrameScheduleTick s = .next (s.schedStep (schedIndex sch s.cvtNs) (schedBack sch s.cvtNs) (s.nextStart sch)) := by
  unfold execFrameScheduleTick
  rw [h]

theorem requestDomains_frame (s : State) (mask : BitVec 72) (on : Bool) (reason : Nat) :
    (s.requestDomains mask on reason).frame = s.frame :=
  foldl_proj State.frame _ (fun t h => by unfold State.requestDomain; exact proj_of_ite State.frame rfl rfl) _ _

theorem cutTaps_frame (s : State) (taps : BitVec 4) :
    ((List.range 4).foldl (fun (s : State) t => if taps.getLsbD t then s.cutTap t else s) s).frame = s.frame :=
  foldl_proj State.frame _ (fun t k => proj_of_ite State.frame (cutTap_data t k).frame rfl) _ _

/-- What the step of a plan writes of the frame timing: the gates of the taps alone. -/
theorem planAction_frame (s : State) (x : PlanStep) : (s.planAction x).frame.due = s.frame.due ∧
    (3 ≤ x.action → (s.planAction x).frame.gated = s.frame.gated ||| x.taps) := by
  unfold State.planAction
  split
  · next h => exact ⟨congrArg Frame.due (requestDomains_frame ..), fun h3 => by omega⟩
  · next h => exact ⟨congrArg Frame.due (requestDomains_frame ..), fun h3 => by omega⟩
  · next h => exact ⟨rfl, fun h3 => by omega⟩
  · dsimp only
    rw [cutTaps_frame]
    exact ⟨rfl, fun _ => rfl⟩

theorem planAction_domains (s : State) {x : PlanStep} (h : x.action < 2) :
    s.planAction x = s.requestDomains x.mask (decide (x.action = 0)) 4 := by
  obtain ⟨off, action, taps, mask⟩ := x
  obtain rfl | rfl : action = 0 ∨ action = 1 := by simp only at h; omega
  · rfl
  · rfl

theorem planAction_trigger (s : State) {x : PlanStep} (h : x.action = 2) :
    s.planAction x = { s with frame := { s.frame with gated := s.frame.gated &&& ~~~x.taps } } := by
  obtain ⟨off, action, taps, mask⟩ := x
  subst h
  rfl

/-! ## The obligation -/

/-- Settles O42: the schedule, the plan, the edges of FRAME_SYNC by `usedEdge_frame` and `ignoredEdge_frame`, the steps and
missed frames. -/
theorem frameTiming : Obligations.FrameTiming := by
  intro s
  refine ⟨?schedule, ?plan, ?sync, ?tick, ?stopped, ?step, ?missed⟩
  case schedule =>
    intro pk hh hper
    have hchk : (decide (0 < (pk.p 1).toNat) && decide ((pk.p 1).toNat < 2000)) = false := by
      rw [Bool.and_eq_false_iff]
      simp only [decide_eq_false_iff_not]
      omega
    by_cases h0 : (pk.p 1).toNat = 0
    · refine ⟨fun t => { t with frame := { t.frame.dropAhead with schedule := none, lastStart := 0 } }, hh.answers (by decide) ?_, ?_⟩
      · unfold bodyFrameSchedule
        simp only [chk, hchk, Bool.false_eq_true, if_false]
        rw [if_pos h0]
      · rw [if_pos h0]
        exact ⟨rfl, rfl, fun h => by omega⟩
    · refine ⟨fun t =>
        let sch := ((pk.p 1).toNat, pk.cvt 2)
        let f := { t.frame.dropAhead with schedule := some sch, lastStart := schedIndex sch t.cvtNs, predicted := none }
        { t with frame := f.ahead (f.nextPlan.getD f.plan) (t.nextStart sch) }.setPersist 0x907 0 false, hh.answers (by decide) ?_, ?_⟩
      · unfold bodyFrameSchedule
        simp only [chk, hchk, Bool.false_eq_true, if_false]
        rw [if_neg h0]
      · rw [if_neg h0]
        exact ⟨rfl, rfl, fun _ => ⟨rfl, persisting_setPersist ..⟩⟩
  case plan =>
    intro pk hh hn ho
    have hlen : (planOf pk).length = fld (pk.p 1) 0 4 := by simp [planOf]
    refine ⟨planOf pk, hlen, fun i hi => ?_, hh.answers (by decide) (bodyFramePlan_fits pk _ _ hn ho)⟩
    rw [hlen] at hi
    refine ⟨BitVec.ofNat 72 ((pk.p (4 + 4 * i)).toNat + (pk.p (5 + 4 * i)).toNat * 2 ^ 32 + fld (pk.p (3 + 4 * i)) 6 8 * 2 ^ 64), ?_,
      setWidth_ofNat_low ..⟩
    simp [planOf, hi]
  case sync =>
    intro hp
    have hparts := atFrameSync_parts s
    have hf : s.atFrameSync.frame = s.frame := by rw [hparts]
    have hn : s.atFrameSync.now = s.now := by rw [hparts]; rfl
    have hsnap : ∀ (u : State), u.probes = s.atFrameSync.probes → ∀ p, (u.probe p).frameSnapAt =
        if (s.probe p).cfg.frame = true then some (s.ts + 4000) else (s.probe p).frameSnapAt := by
      intro u hu p
      rw [show u.probe p = s.atFrameSync.probe p from congrArg (tget · p Probe.zero) hu]
      exact atFrameSync_snap s p
    obtain ⟨huprobes, huedge, huused, huusable, humissed, huplan⟩ := usedEdge_frame s.atFrameSync
    obtain ⟨hiprobes, hiedge, hiused, hiusable, hiplan⟩ := ignoredEdge_frame s.atFrameSync
    rw [hf] at huusable huplan hiused hiplan
    rw [hn] at huedge huused hiedge
    by_cases hi : ∃ a, s.frame.lastUsed = some a ∧ s.now < a + 2000000
    · obtain ⟨a, ha, hlt⟩ := hi
      refine ⟨s.atFrameSync.ignoredEdge, ?_, hiedge, hsnap _ hiprobes, fun h => ?_, fun b hb _ => ⟨hiused.trans hb, hiusable, hiplan⟩⟩
      · rw [exec_frameSync hp, ha]
        exact congrArg _ (if_pos hlt)
      · rcases h with h | ⟨b, hb, hle⟩
        · rw [h] at ha
          cases ha
        · rw [ha] at hb
          cases hb
          omega
    · refine ⟨s.atFrameSync.usedEdge, ?_, huedge, hsnap _ huprobes, fun _ => ⟨huused, huusable, humissed, huplan⟩,
        fun a ha hlt => absurd ⟨a, ha, hlt⟩ hi⟩
      rw [exec_frameSync hp]
      cases ha : s.frame.lastUsed with
      | none => rfl
      | some a => exact congrArg _ (if_neg fun hlt => hi ⟨a, ha, hlt⟩)
  case tick =>
    intro sch hs hlt ha
    exact ⟨_, execFrameScheduleTick_of hs, schedStep_begins s _ _ _ hlt ha⟩
  case stopped =>
    intro hr
    change execFramePlanStep s = _
    unfold execFramePlanStep
    split
    · rfl
    · rw [if_pos (by simp [hr])]
  case step =>
    intro a x hx ht ha hr
    obtain ⟨hdue, hgated⟩ := planAction_frame { s with frame := { s.frame with due := s.frame.due.erase (a, x) } } x
    refine ⟨_, ?_, hdue, fun h2 => ?_, hgated, fun h2 => ?_⟩
    · change execFramePlanStep s = _
      unfold execFramePlanStep
      rw [hx]
      dsimp only
      rw [if_neg (by simp [ha, hr]; omega)]
    · exact planAction_trigger _ h2
    · exact planAction_domains _ h2
  case missed =>
    intro p hp hs ht
    change ∃ t, execFrameMissed s = .next t ∧ _
    unfold execFrameMissed
    rw [hp]
    dsimp only
    rw [if_neg (by simp [hs]; omega)]
    unfold Frame.begin_
    by_cases h8 : s.frame.missed + 1 < 8
    · rw [if_pos h8]
      exact ⟨_, rfl, rfl, fun _ => ⟨rfl, rfl⟩, fun h => by omega⟩
    · rw [if_neg h8]
      exact ⟨_, rfl, rfl, fun h => by omega, fun _ => ⟨rfl, persisting_setPersist .., rfl⟩⟩

end Sys2Proof.Machine
end

section
/-! SUPPORT. Host domains: requests, starts, the PSW handshakes, and the probes and banks that lose their supply (R359 to
R363). -/

namespace Sys2Proof.Machine

/-! ## Folds that act once -/

/-- What one element of a list establishes and every other leaves, the fold establishes. -/
theorem foldl_establishes {α β : Type} (P : α → Prop) (f : α → β → α) (b : β) (l : List β) (hb : b ∈ l) (hp : ∀ t, P (f t b))
    (hk : ∀ t c, P t → P (f t c)) (s : α) : P (l.foldl f s) := by
  have keeps : ∀ (m : List β) t, P t → P (m.foldl f t) := by
    intro m
    induction m with
    | nil => exact fun t h => h
    | cons c m ih => exact fun t h => ih _ (hk t c h)
  obtain ⟨l₁, l₂, rfl⟩ := List.append_of_mem hb
  rw [List.foldl_append, List.foldl_cons]
  exact keeps _ _ (hp _)

/-- Seen through a projection that the other elements leave, a fold acts at one element alone. -/
theorem foldl_acts_once {α β γ : Type} (π : α → γ) (f : α → β → α) (b : β) (l : List β) (hb : b ∈ l) (hn : l.Nodup)
    (h : ∀ t c, c ≠ b → π (f t c) = π t) (s : α) : ∃ t, π t = π s ∧ π (l.foldl f s) = π (f t b) := by
  have still : ∀ (m : List β) t, b ∉ m → π (m.foldl f t) = π t := by
    intro m
    induction m with
    | nil => exact fun t _ => rfl
    | cons c m ih =>
      intro t hm
      obtain ⟨hc, hm⟩ := not_or.mp (mt List.mem_cons.mpr hm)
      rw [List.foldl_cons, ih _ hm, h t c (Ne.symm hc)]
  obtain ⟨l₁, l₂, rfl⟩ := List.append_of_mem hb
  obtain ⟨hb₁, hb₂⟩ : b ∉ l₁ ∧ b ∉ l₂ := by
    simp only [List.nodup_append, List.nodup_cons, List.mem_cons] at hn
    grind
  refine ⟨l₁.foldl f s, still l₁ s hb₁, ?_⟩
  rw [List.foldl_append, List.foldl_cons, still l₂ _ hb₂]

/-! ## A probe without its supply (R361, R538) -/

theorem settleWrites_proj {α : Type} (π : State → α) (h : ∀ (s : State) esl win, π { s with esl := esl, win := win } = π s) (s : State) :
    π s.settleWrites = π s := by
  unfold State.settleWrites
  refine (foldl_proj π _ (fun t a => ?_) _ _).trans (h s _ s.win)
  have hans : ∀ st ws, π (t.answer a.op a.pk a.slot st ws) = π t := by
    intro st ws
    unfold State.answer
    refine proj_of_ite π (h t _ t.win) (proj_of_ite π ?_ ?_)
    · exact (h (t.modApt a.pk.o _) (t.modApt a.pk.o _).esl _).trans (h t _ t.win)
    · exact (h (t.modApt a.pk.o _) (t.modApt a.pk.o _).esl _).trans (h t _ t.win)
  exact proj_of_ite π (hans ..) (hans ..)

theorem winSkip_proj {α : Type} (π : State → α) (h : ∀ (s : State) win, π { s with win := win } = π s) (s : State) (p : Nat)
    (rs : List SnapReq) : π (s.winSkip p rs) = π s := by
  refine foldl_proj π _ (fun t r => ?_) _ _
  split
  · rfl
  · next o _ =>
    extract_lets v q u
    exact proj_of_ite π (h t _) (h t _)

theorem cutStreams_canal (s : State) (src : Nat) : CanalOnly s (s.cutStreams src) := .foldl _ (fun _ _ => setStream_canal ..) _ _

/-- A fold over streams of a source keeps what the setting of one of them keeps. -/
theorem cutStreams_queue (s : State) (src q : Nat) : (s.cutStreams src).queue q = s.queue q :=
  foldl_proj (State.queue · q) (fun (s : State) o => s.setStream src o { s.stream src o with active := false }) (fun _ _ => rfl) _ _

theorem setStream_stream (s : State) (src o : Nat) (x : Stream) (q k : Nat) :
    (s.setStream src o x).stream q k = if q * 32 + k = src * 32 + o then x else s.stream q k := tget_tset ..

theorem cutStreams_stream_other (s : State) {src q k : Nat} (hq : q ≠ src) (hk : k < 17) : (s.cutStreams src).stream q k = s.stream q k := by
  have : ∀ (l : List Nat) (t : State), (∀ o ∈ l, o < 17) →
      (l.foldl (fun s o => s.setStream src o { s.stream src o with active := false }) t).stream q k = t.stream q k := by
    intro l
    induction l with
    | nil => exact fun t _ => rfl
    | cons o l ih =>
      intro t hl
      have ho := hl o List.mem_cons_self
      rw [List.foldl_cons, ih _ fun c hc => hl c (List.mem_cons_of_mem o hc), setStream_stream, if_neg (by omega)]
  exact this _ _ fun o ho => List.mem_range.mp (List.mem_filter.mp ho).1

/-- No stream of the source stands after its streams have broken off. -/
theorem cutStreams_active (s : State) (src : Nat) {o : Nat} (ho : o < 17) : ((s.cutStreams src).stream src o).active = false := by
  have hkeep : ∀ (t : State) (c : Nat), (t.stream src o).active = false →
      ((t.setStream src c { t.stream src c with active := false }).stream src o).active = false := by
    intro t c h
    rw [setStream_stream]
    split
    · rfl
    · exact h
  by_cases ha : (s.stream src o).active = true
  · refine foldl_establishes (fun t : State => (t.stream src o).active = false) _ o _ ?_ (fun t => ?_) hkeep s
    · exact List.mem_filter.mpr ⟨List.mem_range.mpr ho, ha⟩
    · rw [setStream_stream, if_pos rfl]
  · have keeps : ∀ (l : List Nat) (t : State), (t.stream src o).active = false →
        ((l.foldl (fun s o => s.setStream src o { s.stream src o with active := false }) t).stream src o).active = false := by
      intro l
      induction l with
      | nil => exact fun t h => h
      | cons c l ih => exact fun t h => ih _ (hkeep t c h)
    exact keeps _ _ (by simpa using ha)

/-- A probe that its supply has left. -/
def Probe.unpowered (x : Probe) (byHost : Bool) : Probe :=
  { x with up := false, cut := byHost, snapReq := [], inflight := [], tagged := [], due := none, wr := [], clr := 0, fatalSeen := false, railSeen := false }

/-- The canal at a probe's loss of supply: its queue is empty, and its streams break off or stop. -/
def State.canalOff (s : State) (p : Nat) (byHost : Bool) : State :=
  if byHost then ({ s.setQueue p [] with canal := { (s.setQueue p []).canal with losses := tset (s.setQueue p []).canal.losses p [] [] } }).cutStreams p
  else (((s.queue p).filter (fun r => !r.inBuffer p)).foldl (fun s r => s.noteLoss p r) (s.setQueue p [])).stopStreams p

theorem canalOff_canal (s : State) (p : Nat) (byHost : Bool) : CanalOnly s (s.canalOff p byHost) := by
  unfold State.canalOff
  refine .ite _ (cutStreams_canal _ p) ?_
  exact (setQueue_canal s p []).trans (.trans (.foldl _ (fun _ _ => noteLoss_canal ..) _ _) (stopStreams_canal ..))

theorem powerDownProbe_eq {s : State} {p : Nat} (byHost : Bool) (h : (s.probe p).up = true) : s.powerDownProbe p byHost =
    (((((s.canalOff p byHost).winSkip p (s.probe p).snapReq).setPersist 0x100 p false).setPersist 0x101 p false).modProbe p
      (fun x => x.unpowered byHost)).settleWrites := by
  unfold State.powerDownProbe
  extract_lets x q s1 s2 s3 s4
  rw [if_neg (by simp [x, h])]
  rfl

theorem powerDownProbe_down {s : State} {p : Nat} (byHost : Bool) (h : (s.probe p).up = false) : s.powerDownProbe p byHost = s := by
  unfold State.powerDownProbe
  exact if_pos (by simp [h])

/-- What neither the canal, the window, the probes, the eslog nor the standing faults hold, a probe's loss of supply leaves. -/
theorem powerDownProbe_proj {α : Type} (π : State → α)
    (h : ∀ (s : State) canal win fc esl probes, π { s with canal := canal, win := win, fc := fc, esl := esl, probes := probes } = π s)
    (s : State) (p : Nat) (byHost : Bool) : π (s.powerDownProbe p byHost) = π s := by
  by_cases hup : (s.probe p).up = true
  · rw [powerDownProbe_eq byHost hup]
    rw [settleWrites_proj π fun s esl win => h s s.canal win s.fc esl s.probes]
    calc π _ = π ((s.canalOff p byHost).winSkip p (s.probe p).snapReq) := h ((s.canalOff p byHost).winSkip p (s.probe p).snapReq) _ _ _ _ _
      _ = π (s.canalOff p byHost) := winSkip_proj π (fun s win => h s s.canal win s.fc s.esl s.probes) ..
      _ = π s := (canalOff_canal ..).proj π fun s canal => h s canal s.win s.fc s.esl s.probes
  · rw [powerDownProbe_down byHost (by simpa using hup)]

theorem powerDownProbe_probe (s : State) (p : Nat) (byHost : Bool) (q : Nat) : (s.powerDownProbe p byHost).probe q =
    if q = p ∧ (s.probe p).up = true then (s.probe p).unpowered byHost else s.probe q := by
  by_cases hup : (s.probe p).up = true
  · have hw : ∀ k, ((s.canalOff p byHost).winSkip p (s.probe p).snapReq).probe k = s.probe k := fun k =>
      (winSkip_proj (State.probe · k) (fun _ _ => rfl) ..).trans ((canalOff_canal ..).proj (State.probe · k) fun _ _ => rfl)
    rw [powerDownProbe_eq byHost hup, settleWrites_proj (State.probe · q) fun _ _ _ => rfl]
    refine (State.setProbe_probe ..).trans ?_
    change (if q = p then (((s.canalOff p byHost).winSkip p (s.probe p).snapReq).probe p).unpowered byHost
      else ((s.canalOff p byHost).winSkip p (s.probe p).snapReq).probe q) = _
    rw [hw, hw]
    simp only [hup, and_true]
  · rw [powerDownProbe_down byHost (by simpa using hup), if_neg fun h => hup h.2]

/-- A fault that does not stand does not stand after it either. -/
theorem persisting_setPersist_off {s : State} {code unit : Nat} (c u : Nat) (h : s.persisting code unit = false) :
    (s.setPersist c u false).persisting code unit = false := by
  simp only [State.persisting, List.contains_eq_mem, decide_eq_false_iff_not] at h
  simp [State.persisting, State.setPersist, h]

theorem powerDownProbe_persisting {s : State} {code unit : Nat} (h : s.persisting code unit = false) (p : Nat) (byHost : Bool) :
    (s.powerDownProbe p byHost).persisting code unit = false := by
  by_cases hup : (s.probe p).up = true
  · rw [powerDownProbe_eq byHost hup, settleWrites_proj (State.persisting · code unit) fun _ _ _ => rfl]
    refine persisting_setPersist_off 0x101 p (persisting_setPersist_off 0x100 p ?_)
    rw [winSkip_proj (State.persisting · code unit) fun _ _ => rfl]
    exact ((canalOff_canal ..).proj (State.persisting · code unit) fun _ _ => rfl).trans h
  · rwa [powerDownProbe_down byHost (by simpa using hup)]

/-- The host takes a probe's supply away: its queue is gone and its streams have broken off (R538). -/
theorem powerDownProbe_byHost_canal {s : State} {p : Nat} (h : (s.probe p).up = true) :
    (s.powerDownProbe p true).queue p = [] ∧ ∀ o < 17, ((s.powerDownProbe p true).stream p o).active = false := by
  have hc : ((s.powerDownProbe p true).canal) = (s.canalOff p true).canal := by
    rw [powerDownProbe_eq true h, settleWrites_proj State.canal fun _ _ _ => rfl]
    exact winSkip_proj State.canal (fun _ _ => rfl) ..
  have hq : (s.powerDownProbe p true).queue p = (s.canalOff p true).queue p := congrArg (fun c : Canal => tget c.q p []) hc
  have hs : ∀ o, (s.powerDownProbe p true).stream p o = (s.canalOff p true).stream p o := fun o =>
    congrArg (fun c : Canal => tget c.streams (p * 32 + o) Stream.zero) hc
  refine ⟨?_, fun o ho => ?_⟩
  · rw [hq]
    unfold State.canalOff
    rw [if_pos rfl, cutStreams_queue]
    exact tget_tset_same ..
  · rw [hs]
    unfold State.canalOff
    rw [if_pos rfl]
    exact cutStreams_active _ _ ho

theorem powerDownProbe_byHost_canal_other (s : State) {p q : Nat} (hq : q ≠ p) :
    (s.powerDownProbe p true).queue q = s.queue q ∧ ∀ o < 17, (s.powerDownProbe p true).stream q o = s.stream q o := by
  by_cases h : (s.probe p).up = true
  · have hc : ((s.powerDownProbe p true).canal) = (s.canalOff p true).canal := by
      rw [powerDownProbe_eq true h, settleWrites_proj State.canal fun _ _ _ => rfl]
      exact winSkip_proj State.canal (fun _ _ => rfl) ..
    refine ⟨(congrArg (fun c : Canal => tget c.q q []) hc).trans ?_, fun o ho =>
      (congrArg (fun c : Canal => tget c.streams (q * 32 + o) Stream.zero) hc).trans ?_⟩
    · unfold State.canalOff
      rw [if_pos rfl]
      exact (cutStreams_queue ..).trans (tget_tset_other _ _ _ _ _ hq)
    · unfold State.canalOff
      rw [if_pos rfl]
      exact cutStreams_stream_other _ hq ho
  · rw [powerDownProbe_down true (by simpa using h)]
    exact ⟨rfl, fun _ _ => rfl⟩

theorem mem_domProbes {s : State} {h p : Nat} : p ∈ s.domProbes h ↔ p < s.ident.nProbes ∧ s.probeDom p = some h := by
  simp [State.domProbes]

theorem nodup_domProbes (s : State) (h : Nat) : (s.domProbes h).Nodup := List.Pairwise.filter _ List.nodup_range

/-- HOST_SWITCHED_DOMAIN_OFF of a domain (R538). -/
theorem hostOff_of_domain (s : State) (h p : Nat) (hp : p < s.ident.nProbes) (hd : s.probeDom p = some h) :
    let t := (s.domProbes h).foldl (fun s p => s.powerDownProbe p true) s
    (t.probe p).up = false ∧ ((s.probe p).up = true → t.queue p = [] ∧ ∀ o < 17, (t.stream p o).active = false) := by
  obtain ⟨u, hu, ht⟩ := foldl_acts_once (fun t : State => (t.probe p, t.queue p, fun o : Fin 17 => t.stream p o)) (fun s p => s.powerDownProbe p true) p
    (s.domProbes h) (mem_domProbes.mpr ⟨hp, hd⟩) (nodup_domProbes s h) (fun t c hc => by
      obtain ⟨hq, hs⟩ := powerDownProbe_byHost_canal_other t (Ne.symm hc)
      simp only [Prod.mk.injEq]
      exact ⟨(powerDownProbe_probe ..).trans (if_neg fun e => hc e.1.symm), hq, funext fun o => hs o o.isLt⟩) s
  simp only [Prod.mk.injEq] at hu ht
  obtain ⟨hux, -, -⟩ := hu
  obtain ⟨htx, htq, hts⟩ := ht
  refine ⟨?_, fun hup => ?_⟩
  · rw [htx, powerDownProbe_probe]
    by_cases hup : (u.probe p).up = true
    · rw [if_pos ⟨rfl, hup⟩]
      rfl
    · rw [if_neg fun e => hup e.2]
      simpa using hup
  · obtain ⟨hq, hs⟩ := powerDownProbe_byHost_canal (hux ▸ hup : (u.probe p).up = true)
    exact ⟨htq.trans hq, fun o ho => (congrArg Stream.active (congrFun hts ⟨o, ho⟩)).trans (hs o ho)⟩

/-! ## Banks whose domain goes off (R442, R448) -/

theorem modBank_bank (s : State) (k : Nat) (f : Bank → Bank) (j : Nat) :
    (s.modBank k f).bank j = if j = k then f (s.bank k) else s.bank j := State.setBank_bank ..

theorem clearBank_word (s : State) (b : Nat) : (s.clearBank b).ecc.word = s.ecc.word.filter (fun e => e.1 / 2 ^ 25 ≠ b) := rfl

theorem bankOff_word (s : State) (b : Nat) : (s.bankOff b).ecc.word = s.ecc.word.filter (fun e => e.1 / 2 ^ 25 ≠ b) := rfl

theorem eccKey_bank {b w : Nat} (hw : w < 2 ^ 20) : eccKey b false w / 2 ^ 25 = b := by
  simp only [eccKey, Bool.false_and, b2n]
  norm_num
  omega

/-- A bank whose pass stands at word 0 and whose words are all without a valid bit. -/
def State.bankClear (s : State) (b : Nat) : Prop :=
  (s.bank (bankKey b false)).pos = 0 ∧ (s.bank (bankKey b false)).passNo = 0 ∧ ∀ w < 2 ^ 20, s.word? b false w = none

theorem word?_eq_none {s : State} {b w : Nat} : s.word? b false w = none ↔ ∀ e ∈ s.ecc.word, e.1 ≠ eccKey b false w := by
  simp [State.word?, List.find?_eq_none]

theorem modBank_start {s : State} {k j : Nat} {f : Bank → Bank} (hf : ∀ x, x.pos = 0 ∧ x.passNo = 0 → (f x).pos = 0 ∧ (f x).passNo = 0)
    (h : (s.bank j).pos = 0 ∧ (s.bank j).passNo = 0) : ((s.modBank k f).bank j).pos = 0 ∧ ((s.modBank k f).bank j).passNo = 0 := by
  rw [modBank_bank]
  split
  · next hj => exact hf _ (hj ▸ h)
  · exact h

theorem bankOff_clear (s : State) (b : Nat) : (s.bankOff b).bankClear b := by
  refine ⟨?_, ?_, fun w hw => ?_⟩
  · simp only [State.bankOff, List.foldl_cons, List.foldl_nil, modBank_bank]
    split_ifs <;> rfl
  · simp only [State.bankOff, List.foldl_cons, List.foldl_nil, modBank_bank]
    split_ifs <;> rfl
  · rw [word?_eq_none, bankOff_word]
    intro e he h
    have hne := (List.mem_filter.mp he).2
    rw [h, eccKey_bank hw] at hne
    simp at hne

theorem bankOff_keeps_clear {s : State} {b : Nat} (h : s.bankClear b) (c : Nat) : (s.bankOff c).bankClear b := by
  obtain ⟨hpos, hpass, hword⟩ := h
  have hstart : ((s.bankOff c).bank (bankKey b false)).pos = 0 ∧ ((s.bankOff c).bank (bankKey b false)).passNo = 0 := by
    have hclear : ((s.clearBank c).bank (bankKey b false)).pos = 0 ∧ ((s.clearBank c).bank (bankKey b false)).passNo = 0 := by
      unfold State.clearBank
      refine modBank_start (fun _ hx => hx) (modBank_start (fun _ hx => hx) ?_)
      exact ⟨hpos, hpass⟩
    simp only [State.bankOff, List.foldl_cons, List.foldl_nil]
    exact modBank_start (fun _ _ => ⟨rfl, rfl⟩) (modBank_start (fun _ _ => ⟨rfl, rfl⟩) hclear)
  refine ⟨hstart.1, hstart.2, fun w hw => ?_⟩
  rw [word?_eq_none, bankOff_word]
  exact fun e he => word?_eq_none.mp (hword w hw) e (List.mem_filter.mp he).1

/-! ## Requests, starts and handshakes -/

/-- A charter asks for its own domains (R402, check 8). -/
theorem checkDomains_fits {ds : List Nat} {own : BitVec 72} (k : Verdict) (h : ∀ d ∈ ds, own.getLsbD d = true) : checkDomains ds own k = k := by
  have hf : ds.find? (fun h => !own.getLsbD h) = none := List.find?_eq_none.mpr fun d hd => by simp [h d hd]
  unfold checkDomains
  rw [hf]

theorem requestDomain_parts (s : State) (h : Nat) (on : Bool) (reason : Nat) :
    s.requestDomain h on reason = { s with lk := { s.lk with doms := (s.requestDomain h on reason).lk.doms } } := by
  unfold State.requestDomain
  extract_lets d e
  split <;> rfl

/-- The first change in order stands at a domain whose PSW_ACK equals its PSW_REQ (R82). -/
theorem dueOrder_settled {s : State} {h : Nat} {on : Bool} {reason : Nat} (hm : (h, on, reason) ∈ s.dueOrder) :
    (s.dom h).req = (s.dom h).ack := by
  have hall : (h, on, reason) ∈ (List.range 72).filterMap (fun h => match (s.dom h).due with
      | some (on, reason) => if s.switchHeld reason || (s.dom h).req ≠ (s.dom h).ack then none else some (h, on, reason)
      | none => none) := by
    unfold State.dueOrder at hm
    rcases List.mem_append.mp hm with hm | hm
    · exact (List.mem_filter.mp (List.mem_reverse.mp hm)).1
    · exact (List.mem_filter.mp hm).1
  obtain ⟨k, -, hk⟩ := List.mem_filterMap.mp hall
  split at hk
  · by_cases hr : (s.dom k).req = (s.dom k).ack
    · rw [if_neg, Option.some.injEq, Prod.mk.injEq] at hk
      · exact hk.1 ▸ hr
      · intro hc
        rw [if_pos hc] at hk
        cases hk
    · rw [if_pos (by simp [hr])] at hk
      cases hk
  · cases hk

/-- A handshake that closes with nothing to follow (R361, R362). -/
theorem closeHandshake_closes (s : State) (h : Nat) (d : HostDom) (hl : d.later = none) :
    (s.closeHandshake h d).dom h = { d with ack := d.req, openAt := none, timedOut := false, later := none } ∧
    (s.closeHandshake h d).persisting 0x900 h = false ∧
    (d.req = false → ∀ p < s.ident.nProbes, s.probeDom p = some h →
      ((s.closeHandshake h d).probe p).up = false ∧ ((s.closeHandshake h d).probe p).cfg = (s.probe p).cfg) := by
  unfold State.closeHandshake
  extract_lets s1 s2 s3 s4
  rw [hl]
  have h2dom : s2.dom h = { d with ack := d.req, openAt := none, timedOut := false, later := none } := s.setDom_dom_same ..
  have h2per : s2.persisting 0x900 h = false := persisting_setPersist ..
  have h4 : ∀ {α : Type} (π : State → α), (∀ u c, π { u with canal := c } = π u) → π s4 = π s3 := fun π hπ => (emit_canal ..).proj π hπ
  refine ⟨?_, ?_, fun hoff p hp hd => ?_⟩
  · refine (h4 (State.dom · h) fun _ _ => rfl).trans (Eq.trans ?_ h2dom)
    exact proj_of_ite (State.dom · h) rfl (foldl_proj (State.dom · h) _ (fun t p => powerDownProbe_proj (State.dom · h) (fun _ _ _ _ _ _ => rfl) t p false) _ _)
  · refine (h4 (State.persisting · 0x900 h) fun _ _ => rfl).trans ?_
    have hfold : ∀ (l : List Nat) (t : State), t.persisting 0x900 h = false →
        (l.foldl (fun s p => s.powerDownProbe p false) t).persisting 0x900 h = false := by
      intro l
      induction l with
      | nil => exact fun t ht => ht
      | cons p l ih => exact fun t ht => ih _ (powerDownProbe_persisting ht p false)
    simp only [s3]
    split
    · exact h2per
    · exact hfold _ _ h2per
  · have h3 : s3 = (s2.domProbes h).foldl (fun s p => s.powerDownProbe p false) s2 := if_neg (by simp [hoff])
    have hmem : p ∈ s2.domProbes h := mem_domProbes.mpr ⟨hp, hd⟩
    obtain ⟨u, hu, ht⟩ := foldl_acts_once (State.probe · p) (fun s p => s.powerDownProbe p false) p
      (s2.domProbes h) hmem (nodup_domProbes s2 h) (fun t c hc => (powerDownProbe_probe ..).trans (if_neg fun e => hc e.1.symm)) s2
    have hp4 : s4.probe p = (u.powerDownProbe p false).probe p := (h4 (State.probe · p) fun _ _ => rfl).trans (h3 ▸ ht)
    rw [show s2.probe p = s.probe p from rfl] at hu
    dsimp only
    rw [hp4, powerDownProbe_probe]
    by_cases hup : (u.probe p).up = true
    · rw [if_pos ⟨rfl, hup⟩]
      exact ⟨rfl, hu ▸ rfl⟩
    · rw [if_neg fun e => hup e.2]
      exact ⟨by simpa using hup, congrArg (fun x : Probe => x.cfg) hu⟩

/-! ## The obligation -/

/-- The block is awake enough for a domain's start: no exit is called for. -/
theorem starts_without_wake {s : State} {h : Nat} (hst : s.lk.st = .underway ∨ s.lk.st = .slack ∨ s.needsCanal h = false) :
    (decide (2 ≤ s.lk.st.code) && s.needsCanal h) = false := by
  rcases hst with hst | hst | hst
  · rw [hst]
    rfl
  · rw [hst]
    rfl
  · rw [hst, Bool.and_false]

theorem hostDomainOffStart_starts {s : State} {h : Fin 72} {reason : Nat} (hs : (s.dom h.val).snapped = false)
    (hr : (s.dom h.val).req = (s.dom h.val).ack) (hh : s.switchHeld reason = false) (hk : s.dev.restarting = false)
    (hst : s.lk.st = .underway ∨ s.lk.st = .slack ∨ s.needsCanal h.val = false) (hd : (s.dom h.val).due = some (false, reason)) :
    exec (.hostDomainOffStart h) s = .next ((onProbes (s.domProbes h.val)
      (fun _ => Probe.request (fun e => ⟨4, false, true, none, none, e⟩)) s).setDom h.val { s.dom h.val with snapped := true, startAt := s.now }) := by
  change execHostDomainOffStart h s = _
  unfold execHostDomainOffStart
  extract_lets d
  rw [show d.due = some (false, reason) from hd]
  dsimp only
  rw [if_neg (by simp [d, hs, hr, hh, hk]), if_neg (by rw [starts_without_wake hst]; decide)]
  have hnow : (onProbes (s.domProbes h.val) (fun _ => Probe.request (fun e => ⟨4, false, true, none, none, e⟩)) s).now = s.now := by
    rw [onProbes_eq]
    rfl
  rw [← hnow]
  rfl

theorem hostDomainOnStart_starts {s : State} {h : Fin 72} {reason : Nat} (hs : (s.dom h.val).snapped = false)
    (hr : (s.dom h.val).req = (s.dom h.val).ack) (hh : s.switchHeld reason = false) (hk : s.dev.restarting = false)
    (hst : s.lk.st = .underway ∨ s.lk.st = .slack ∨ s.needsCanal h.val = false) (hd : (s.dom h.val).due = some (true, reason)) :
    exec (.hostDomainOnStart h) s = .next (s.setDom h.val { s.dom h.val with snapped := true, startAt := s.now }) := by
  change execHostDomainOnStart h s = _
  unfold execHostDomainOnStart
  dsimp only
  rw [hd]
  dsimp only
  rw [if_neg (by simp [hs, hr, hh, hk]), if_neg (by rw [starts_without_wake hst]; decide)]

theorem bodyDomainSet_fits {pk : Pkt} {slot : Nat} {s : State} (hun : specDomainSet.at_ pk = none)
    (hown : pk.o = hm ∨ (∀ h < 72, (pk.domains 1).getLsbD h = true → (tget s.lk.assign pk.o 0).getLsbD h = true)) :
    bodyDomainSet pk slot s =
      let u := s.requestDomains (pk.domains 1) (flag (pk.p 4) 0) (if pk.o = hm then 2 else 6)
      .accept [] { u with lk := { u.lk with jobs := u.lk.jobs ++ [⟨pk.o, pk.seq, slot, pk.domains 1, flag (pk.p 4) 0, 0, false⟩] } } := by
  unfold bodyDomainSet
  rw [checkDomains_fits]
  · rw [hun]
    simp
  · intro d hd
    by_cases ho : pk.o = hm
    · simp [ho] at hd
    · rw [if_neg ho] at hd
      obtain ⟨hlt, hbit⟩ := List.mem_filter.mp hd
      exact (hown.resolve_left ho) d (List.mem_range.mp hlt) hbit

theorem bodyDomainAssign_fits {pk : Pkt} {slot : Nat} {s : State} (hc : fld (pk.p 1) 0 5 < 16) (ha : s.active (fld (pk.p 1) 0 5) = true) :
    bodyDomainAssign pk slot s = .done .ok [] { s with lk := { s.lk with assign := tset s.lk.assign (fld (pk.p 1) 0 5) (pk.domains 2) 0 } } := by
  unfold bodyDomainAssign
  dsimp only
  rw [concern_named (.inr ⟨hc, ha⟩)]
  exact if_neg (by rw [decide_eq_true_eq]; exact Nat.ne_of_lt hc)

theorem exec_pswReqIssue {s : State} {h : Nat} {on : Bool} {reason : Nat} {rest : List (Nat × Bool × Nat)}
    (hd : s.dueOrder = (h, on, reason) :: rest) (hs : (s.dom h).snapped = true)
    (hgap : s.lk.lastEdgeAt = 0 ∨ s.lk.lastEdgeAt + s.lk.policy.pswGap * 1000 ≤ s.now) (hdr : on = true ∨ s.drained h = true)
    (hk : s.dev.restarting = false) : ∃ t, exec .pswReqIssue s = .next t ∧ t.lk.lastEdgeAt = s.now ∧
      t.dom h = { s.dom h with req := on, due := none, snapped := false, openAt := some s.now, reason := reason } ∧
      ∀ k, k ≠ h → t.dom k = s.dom k := by
  change ∃ t, execPswReqIssue s = .next t ∧ _
  unfold execPswReqIssue
  rw [hd]
  dsimp only
  rw [if_neg]
  · exact ⟨_, rfl, rfl, s.setDom_dom_same .., fun k hkh => (s.setDom_dom ..).trans (if_neg hkh)⟩
  · rcases hdr with hdr | hdr <;> simp [hs, hk, hdr] <;> omega

theorem exec_pswTimeout {s : State} {h : Fin 72} {a : Nat} (ho : (s.dom h.val).openAt = some a)
    (ht : a + s.lk.policy.pswTimeout * 1000 ≤ s.now) : ∃ t, exec (.pswTimeout h) s = .next t ∧
      t.dom h.val = { s.dom h.val with openAt := none, timedOut := true } ∧ t.persisting 0x900 h.val = true ∧
      t.fc.pend = s.fc.pend ++ [⟨0x900, h.val, 0, none, s.ts, s.now, false, false⟩] := by
  change ∃ t, execPswTimeout h s = .next t ∧ _
  unfold execPswTimeout
  dsimp only
  rw [ho]
  dsimp only
  rw [if_neg (by omega)]
  exact ⟨_, rfl, s.setDom_dom_same .., setPersist_persisting (s.setDom h.val { s.dom h.val with openAt := none, timedOut := true }) 0x900 h.val, rfl⟩

theorem hostOff_other (s : State) {h p : Nat} (hd : s.probeDom p ≠ some h) :
    ((s.domProbes h).foldl (fun s p => s.powerDownProbe p true) s).probe p = s.probe p := by
  have still : ∀ (l : List Nat), p ∉ l → ∀ t : State, (l.foldl (fun s p => s.powerDownProbe p true) t).probe p = t.probe p := by
    intro l
    induction l with
    | nil => exact fun _ _ => rfl
    | cons c l ih =>
      intro hm t
      obtain ⟨hc, hm⟩ := not_or.mp (mt List.mem_cons.mpr hm)
      rw [List.foldl_cons, ih hm, powerDownProbe_probe, if_neg fun e => hc e.1]
  exact still _ (fun hm => hd (mem_domProbes.mp hm).2) s

/-- The banks of the core domains go off. -/
def State.coresOff (s : State) : State := ((List.range 16).map (· + 12)).foldl State.bankOff s

theorem bankOff_ch (s : State) (b : Nat) : (s.bankOff b).ch = s.ch := rfl

theorem coresOff_ch (s : State) : s.coresOff.ch = s.ch := foldl_proj State.ch State.bankOff bankOff_ch _ _

theorem coresOff_clear (s : State) {c : Nat} (hc : c < 16) : s.coresOff.bankClear (12 + c) :=
  foldl_establishes (State.bankClear · (12 + c)) State.bankOff (12 + c) _ (List.mem_map.mpr ⟨c, List.mem_range.mpr hc, Nat.add_comm ..⟩)
    (bankOff_clear · _) (fun _ b h => bankOff_keeps_clear h b) s

theorem exec_coreIdleOff {s : State} (hi : s.lk.policy.coresIdleOff = true) (hrun : s.ch.run = none) (hon : s.ch.domOn ≠ 0)
    (hallot : ∀ e ∈ s.ch.allot, e.2.st = 0) (hidle : s.ch.idleAt + 1000000 ≤ s.now) (hst : s.lk.st = .underway)
    (hk : s.dev.restarting = false) (hh : s.switchHeld 0 = false) :
    exec .coreIdleOff s = .next { s.coresOff with ch := { s.coresOff.ch with domOn := 0, cores := [] } } := by
  have hany : s.ch.allot.any (fun e => decide (e.2.st ≠ 0)) = false := by
    rw [List.any_eq_false]
    intro e he
    simp [hallot e he]
  have hlate : decide (s.now < s.ch.idleAt + 1000000) = false := by simpa using hidle
  change execCoreIdleOff s = _
  unfold execCoreIdleOff
  have hsome : decide (s.ch.domOn = 0) = false := decide_eq_false hon
  rw [if_neg (by rw [hany, hlate, hsome]; simp [hi, hrun, hst, hk, hh])]
  rfl

theorem restarting_holds {s : State} (hk : s.dev.restarting = true) : (∀ h, exec (.hostDomainOffStart h) s = .next s ∧
    exec (.hostDomainOnStart h) s = .next s) ∧ exec .pswReqIssue s = .next s ∧ exec .coreIdleOff s = .next s := by
  refine ⟨fun h => ⟨?_, ?_⟩, ?_, ?_⟩
  · change execHostDomainOffStart h s = _
    unfold execHostDomainOffStart
    dsimp only
    split
    · exact if_pos (by simp [hk])
    · rfl
  · change execHostDomainOnStart h s = _
    unfold execHostDomainOnStart
    dsimp only
    split
    · exact if_pos (by simp [hk])
    · rfl
  · change execPswReqIssue s = _
    unfold execPswReqIssue
    split
    · rfl
    · exact if_pos (by simp [hk])
  · change execCoreIdleOff s = _
    unfold execCoreIdleOff
    exact if_pos (by simp [hk])

/-- Settles O40: the requests, their start and issue in order, the handshakes by `closeHandshake_closes`, and the supplies
taken away. -/
theorem hostDomains : Obligations.HostDomains := by
  refine ⟨fun pk s => ⟨fun hh hown => hh.accepts ?_, fun hh hc ha => hh.answers (by decide) (bodyDomainAssign_fits hc ha)⟩, ?done, ?start,
    fun s h on reason rest hd hs hgap hdr hk => ⟨dueOrder_settled (hd ▸ List.mem_cons_self), exec_pswReqIssue hd hs hgap hdr hk⟩,
    ?ack, fun s h a ho ht => exec_pswTimeout ho ht, ?hostOff, ?idle, fun s hk => restarting_holds hk⟩
  · obtain ⟨-, -, -, -, -, -, -, -, -, -, -, -, -, -, hat⟩ := hh
    exact bodyDomainSet_fits hat hown
  case done =>
    intro s j hj hun
    change execDomainSetDone s = _
    unfold execDomainSetDone
    rw [hj]
    dsimp only
    rw [hun]
    rfl
  case start =>
    intro s h reason hs hr hh hk hst
    refine ⟨fun hd => ⟨_, hostDomainOffStart_starts hs hr hh hk hst hd, State.setDom_dom_same .., fun p hp => ?_⟩,
      fun hd => hostDomainOnStart_starts hs hr hh hk hst hd⟩
    refine (onProbes_probe _ _ s (nodup_domProbes s h.val) p).trans ?_
    unfold Probe.request
    by_cases hdom : s.probeDom p = some h.val
    · rw [if_pos (mem_domProbes.mpr ⟨hp, hdom⟩)]
      by_cases hsn : (s.probe p).snaps = true
      · rw [if_pos hsn, if_pos ⟨hdom, hsn⟩]
      · rw [if_neg hsn, if_neg fun e => hsn e.2]
    · rw [if_neg fun e => hdom (mem_domProbes.mp e).2, if_neg fun e => hdom e.1]
  case ack =>
    intro s h level hh ha
    have hfirst : ¬ (decide (s.ident.hostDomains ≤ h.val) || decide ((s.dom h.val).ack = level)) = true := by
      simp [ha]
      omega
    refine ⟨fun hl ho hlater => ?_, fun hl => (congrArg _ rfl).trans ((if_neg hfirst).trans (if_neg ?_))⟩
    · obtain ⟨hdom, hper, hoff⟩ := closeHandshake_closes s h.val (s.dom h.val) hlater
      exact ⟨s.closeHandshake h.val (s.dom h.val), (if_neg hfirst).trans (if_pos (by simpa [hl] using ho)), hl ▸ hdom, hper,
        fun hf => hoff (hl ▸ hf)⟩
    · rcases hl with hl | ⟨hopen, hout⟩
      · simp [hl]
      · simp [hopen, hout]
  case hostOff =>
    intro s h hh
    exact ⟨(s.domProbes h.val).foldl (fun s p => s.powerDownProbe p true) s, congrArg _ (if_neg (by omega)),
      foldl_proj State.lk _ (fun t p => powerDownProbe_proj State.lk (fun _ _ _ _ _ _ => rfl) t p true) _ _,
      fun p hp => ⟨hostOff_of_domain s h.val p hp, hostOff_other s⟩⟩
  case idle =>
    intro s hi hrun hon hallot hidle hst hk hh
    refine ⟨_, exec_coreIdleOff hi hrun hon hallot hidle hst hk hh, congrArg (fun c : Ch => { c with domOn := 0, cores := [] }) (coresOff_ch s),
      fun c hc => ?_⟩
    have hclear := coresOff_clear s hc
    generalize s.coresOff = u at hclear
    exact hclear

end Sys2Proof.Machine
end

section
/-! SUPPORT. The upkeep of a probe: dumps, snapshots, the slot invariant, stretch and halt, HRST_N, power-up and the faults
of a probe itself (02, 04). -/

namespace Sys2Proof.Machine

theorem CanalOnly.probe {s t : State} (h : CanalOnly s t) (p : Nat) : t.probe p = s.probe p := h.proj (State.probe · p) fun _ _ => Eq.refl _
theorem CanalOnly.fc {s t : State} (h : CanalOnly s t) : t.fc = s.fc := h.proj State.fc fun _ _ => Eq.refl _
theorem CanalOnly.win {s t : State} (h : CanalOnly s t) : t.win = s.win := h.proj State.win fun _ _ => Eq.refl _

/-- A fold that reads what its steps keep may read it at the start. -/
theorem foldl_reads {α β γ : Type} (π : α → γ) (f : γ → α → β → α) (h : ∀ c s b, π (f c s b) = π s) (l : List β) (s : α) :
    l.foldl (fun t b => f (π t) t b) s = l.foldl (f (π s)) s := by
  induction l generalizing s with
  | nil => rfl
  | cons b l ih => rw [List.foldl_cons, List.foldl_cons, ih, h]

/-! ## Parity errors (R153) -/

theorem raiseParity_proj {α : Type} (π : State → α) (h : ∀ (s : State) fc, π { s with fc := fc } = π s) (s : State) (p : Nat)
    (bad : BitVec 13) (badT : BitVec 128) : π (s.raiseParity p bad badT) = π s :=
  foldl_proj π _ (fun t _ => proj_of_ite π (h t _) rfl) _ _

theorem raiseParity_none (s : State) (p : Nat) : s.raiseParity p 0 0 = s := by
  have still : ∀ (l : List Nat) (t : State),
      l.foldl (fun s i => if ((0 : BitVec 128) ++ (0 : BitVec 13)).getLsbD i then s.raise 0x401 p i else s) t = t := by
    intro l
    induction l with
    | nil => exact fun _ => rfl
    | cons i l ih =>
      intro t
      rw [List.foldl_cons, if_neg (by simp), ih]
  exact still _ s

/-- Each bad counter and each bad tally is raised with its place. -/
theorem raiseParity_pend (s : State) (p : Nat) (bad : BitVec 13) (badT : BitVec 128) {i : Nat} (hi : i < 141)
    (hb : (badT ++ bad).getLsbD i = true) :
    ∃ q ∈ (s.raiseParity p bad badT).fc.pend, q.code = 0x401 ∧ q.unit = p ∧ q.detail = BitVec.ofNat 32 i := by
  refine foldl_establishes (fun t : State => ∃ q ∈ t.fc.pend, q.code = 0x401 ∧ q.unit = p ∧ q.detail = BitVec.ofNat 32 i)
    (fun s i => if (badT ++ bad).getLsbD i then s.raise 0x401 p i else s) i _ (List.mem_range.mpr hi) (fun t => ?_) (fun t c ht => ?_) s
  · rw [if_pos hb]
    exact ⟨_, List.mem_append_right _ (List.mem_singleton_self _), rfl, rfl, rfl⟩
  · obtain ⟨q, hq, hp⟩ := ht
    split
    · exact ⟨q, List.mem_append_left _ hq, hp⟩
    · exact ⟨q, hq, hp⟩

theorem raiseParity_counter (s : State) (p : Nat) {bad : BitVec 13} (badT : BitVec 128) {i : Nat} (hb : bad.getLsbD i = true) :
    ∃ q ∈ (s.raiseParity p bad badT).fc.pend, q.code = 0x401 ∧ q.unit = p ∧ q.detail = BitVec.ofNat 32 i := by
  have hi : i < 13 := BitVec.lt_of_getLsbD hb
  exact raiseParity_pend s p bad badT (by omega) (by rw [BitVec.getLsbD_append, if_pos hi, hb])

theorem raiseParity_tally (s : State) (p : Nat) (bad : BitVec 13) {badT : BitVec 128} {i : Nat} (hb : badT.getLsbD i = true) :
    ∃ q ∈ (s.raiseParity p bad badT).fc.pend, q.code = 0x401 ∧ q.unit = p ∧ q.detail = BitVec.ofNat 32 (13 + i) := by
  have hi : i < 128 := BitVec.lt_of_getLsbD hb
  exact raiseParity_pend s p bad badT (by omega) (by rw [BitVec.getLsbD_append, if_neg (by omega), Nat.add_sub_cancel_left, hb])

/-! ## Snapshots (R156 to R158) -/

theorem emitTallies_canal (s : State) (p o ts flags : Nat) (busy stall : Tab Nat) : CanalOnly s (s.emitTallies p o ts flags busy stall) :=
  .foldl _ (fun _ _ => emit_canal ..) _ _

theorem emitGroup_canal (s : State) (p o : Nat) (tallies : Bool) : CanalOnly s (s.emitGroup p o tallies) := by
  unfold State.emitGroup
  extract_lets x h own see idx rs tal s1 s2
  have h1 : CanalOnly s s1 := emit_canal ..
  have h2 : CanalOnly s1 s2 := .foldl _ (fun _ _ => emit_canal ..) _ _
  exact .ite _ ((h1.trans h2).trans (emitTallies_canal ..)) (h1.trans h2)

theorem emitGroups_canal (s : State) (p : Nat) (served now : List SnapReq) : CanalOnly s (s.emitGroups p served now) :=
  .foldl _ (fun _ _ => emitGroup_canal ..) _ _

/-- The shadow that a snapshot of the probe fills. -/
def State.snapShadow (s : State) (p : Nat) (rs : List SnapReq) (bad : BitVec 13) (reset : Bool) : Shadow :=
  let x := s.probe p
  let halted := x.haltTs.isSome
  let tal := rs.any (fun r => r.tallies)
  { snapNo := snapNext x.shadow.snapNo, trigger := (rs.head?.map (·.trigger)).getD 0, reset := reset
    invariant := rs.any (fun r => decide (r.trigger = 6)), halted := halted, merged := decide (1 < rs.length), busy := true, hasTallies := tal
    ts := if halted then s.probeTs p else x.lastEdgeTs, st := if halted then x.replica.st else x.edgeSt
    epoch := if halted then x.replica.epoch else x.edgeEpoch, cnt := (List.range 13).foldl (fun t i => tset t i (x.snapValue i) 0) []
    ovf := x.ovf ||| x.carry ||| x.wasOvf, invalid := bad, busyT := if tal then x.busy else x.shadow.busyT
    stallT := if tal then x.stall else x.shadow.stallT }

/-- The probe once the requests are taken. -/
def State.snapped (s : State) (p : Nat) (rs : List SnapReq) (bad : BitVec 13) (reset : Bool) : State :=
  s.setProbe p { s.probe p with shadow := s.snapShadow p rs bad reset, copying := rs, snapReq := (s.probe p).snapReq.filter (fun r => !rs.contains r) }

theorem takeSnap_canal (s : State) (p : Nat) (rs : List SnapReq) (bad : BitVec 13) (badT : BitVec 128) (reset : Bool) :
    CanalOnly ((s.snapped p rs bad reset).raiseParity p bad badT) (s.takeSnap p rs bad badT reset) := emitGroups_canal ..

theorem takeSnap_probe (s : State) (p : Nat) (rs : List SnapReq) (bad : BitVec 13) (badT : BitVec 128) (reset : Bool) :
    (s.takeSnap p rs bad badT reset).probe p =
      { s.probe p with shadow := s.snapShadow p rs bad reset, copying := rs, snapReq := (s.probe p).snapReq.filter (fun r => !rs.contains r) } := by
  rw [(takeSnap_canal s p rs bad badT reset).probe, raiseParity_proj (State.probe · p) fun _ _ => rfl]
  exact State.setProbe_probe_same ..

/-- A table filled from 0 on holds each value in its place. -/
theorem tget_fill (f : Nat → Nat) (n i : Nat) (hi : i < n) : tget ((List.range n).foldl (fun t i => tset t i (f i) 0) []) i 0 = f i := by
  induction n with
  | zero => omega
  | succ n ih =>
    rw [List.range_succ, List.foldl_append]
    simp only [List.foldl_cons, List.foldl_nil, tget_tset]
    by_cases h : i = n
    · rw [if_pos h, h]
    · rw [if_neg h, ih (by omega)]

theorem snapValue_eq (x : Probe) (i : Nat) :
    x.snapValue i = ((x.was.find? (fun e => decide (e.1 = i))).map Prod.snd).getD (tget x.cnt i 0) := by
  unfold Probe.snapValue
  split
  · next e h => rw [h]; rfl
  · next h => rw [h]; rfl

theorem snapShadow_cnt (s : State) (p : Nat) (rs : List SnapReq) (bad : BitVec 13) (reset : Bool) {i : Nat} (hi : i < 13) :
    tget (s.snapShadow p rs bad reset).cnt i 0 = (((s.probe p).was.find? (fun e => decide (e.1 = i))).map Prod.snd).getD (tget (s.probe p).cnt i 0) := by
  rw [← snapValue_eq]
  unfold State.snapShadow
  dsimp only
  exact tget_fill (s.probe p).snapValue 13 i hi

/-- The probe whose slot invariant is found broken (R152). -/
def Probe.foundBroken (x : Probe) : Probe :=
  { x.rebase with invariant := true, snapReq := x.snapReq ++ [⟨6, false, true, some x.cfg.fixedOwner, none, x.edge⟩] }

theorem checkInvariant_eq (s : State) (p : Nat) : s.checkInvariant p =
    if (s.probe p).broken (s.probeW p) = true then (s.setProbe p (s.probe p).foundBroken).raise 0x400 p 0 else s := rfl

/-- The check of the slot invariant (R152) keeps what a snapshot shows, and raises at most. -/
theorem checkInvariant_kept (s : State) (p : Nat) : (∃ y : Probe, (s.checkInvariant p).probe p = y ∧ y.cnt = (s.probe p).cnt ∧
    y.cfg = (s.probe p).cfg ∧ y.copying = (s.probe p).copying ∧ y.shadow = (s.probe p).shadow) ∧
    ∀ q ∈ s.fc.pend, q ∈ (s.checkInvariant p).fc.pend := by
  rw [checkInvariant_eq]
  split
  · exact ⟨⟨_, State.setProbe_probe_same .., rfl, rfl, rfl, rfl⟩, fun q hq => List.mem_append_left _ hq⟩
  · exact ⟨⟨_, rfl, rfl, rfl, rfl, rfl⟩, fun q hq => hq⟩

/-- A snapshot and the check that follows it: what the probe shows, and the faults of bad counters and tallies. -/
theorem takeSnap_checked (s : State) (p : Nat) (rs : List SnapReq) (bad : BitVec 13) (badT : BitVec 128) :
    let t := (s.takeSnap p rs bad badT false).checkInvariant p
    (t.probe p).cnt = (s.probe p).cnt ∧ (t.probe p).cfg = (s.probe p).cfg ∧ (t.probe p).copying = rs ∧
    (t.probe p).shadow = s.snapShadow p rs bad false ∧
    (∀ i, bad.getLsbD i = true → ∃ q ∈ t.fc.pend, q.code = 0x401 ∧ q.unit = p ∧ q.detail = BitVec.ofNat 32 i) ∧
    ∀ i, badT.getLsbD i = true → ∃ q ∈ t.fc.pend, q.code = 0x401 ∧ q.unit = p ∧ q.detail = BitVec.ofNat 32 (13 + i) := by
  intro t
  obtain ⟨⟨y, hy, hcnt, hcfg, hcopy, hshadow⟩, hpend⟩ := checkInvariant_kept (s.takeSnap p rs bad badT false) p
  rw [takeSnap_probe] at hcnt hcfg hcopy hshadow
  have hfc : (s.takeSnap p rs bad badT false).fc = ((s.snapped p rs bad false).raiseParity p bad badT).fc := (takeSnap_canal ..).fc
  rw [hfc] at hpend
  have ht : t.probe p = y := hy
  rw [ht]
  refine ⟨hcnt, hcfg, hcopy, hshadow, fun i hb => ?_, fun i hb => ?_⟩
  · obtain ⟨q, hq, h⟩ := raiseParity_counter (s.snapped p rs bad false) p badT hb
    exact ⟨q, hpend q hq, h⟩
  · obtain ⟨q, hq, h⟩ := raiseParity_tally (s.snapped p rs bad false) p bad hb
    exact ⟨q, hpend q hq, h⟩

theorem broken_iff (x : Probe) (w : Nat) : x.broken w = true ↔ x.cfg.enable.toNat % 32 = 31 ∧
    (w * (tget x.cnt 0 0 + 2 ^ 64 - x.refCyc)) % 2 ^ 48 ≠
      (tget x.cnt 1 0 + tget x.cnt 2 0 + tget x.cnt 3 0 + tget x.cnt 4 0 + 2 ^ 50 - x.refSlots) % 2 ^ 48 := by
  unfold Probe.broken
  simp only [Bool.and_eq_true, decide_eq_true_eq, List.map_cons, List.map_nil, List.sum_cons, List.sum_nil, Nat.add_zero, Nat.add_assoc]

/-! ## The window's snapshots (R529) -/

theorem winDone_snapWin (s : State) (p : Nat) (o : Nat) (no : BitVec 16) (hp : p < 128) :
    ((s.winDone p o no).snapWin o).pendingP.getLsbD p = false := by
  unfold State.winDone
  extract_lets v q t
  by_cases hv : v.pendingP.getLsbD p = true
  · rw [if_neg (by simp [hv])]
    have ht : (t.snapWin o).pendingP.getLsbD p = false := by
      rw [State.setSnapWin_snapWin_same]
      exact (getLsbD_setBit v.pendingP p p false hp).trans (if_pos rfl)
    exact proj_of_ite (fun u : State => (u.snapWin o).pendingP.getLsbD p) ht ht
  · rw [if_pos (by simp [hv])]
    simpa using hv

theorem winDone_other (s : State) (p : Nat) {o k : Nat} (no : BitVec 16) (hk : k ≠ o) :
    (s.winDone p o no).snapWin k = s.snapWin k ∧ (s.winDone p o no).irqStatus k = s.irqStatus k := by
  unfold State.winDone
  extract_lets v q t
  have hw : t.snapWin k = s.snapWin k := (State.setSnapWin_snapWin ..).trans (if_neg hk)
  split
  · exact ⟨rfl, rfl⟩
  · split
    · exact ⟨hw, tget_tset_other _ _ _ _ _ hk⟩
    · exact ⟨hw, rfl⟩

/-- The owner's last probe is done: its interrupt status shows it. -/
theorem winDone_last (s : State) (p : Nat) (o : Nat) (no : BitVec 16) (hp : p < 128) (h : (s.snapWin o).pendingP = BitVec.ofNat 128 (2 ^ p)) :
    ((s.winDone p o no).irqStatus o).getLsbD 4 = true ∧ ((s.winDone p o no).snapWin o).pending = false := by
  have hbit : (s.snapWin o).pendingP.getLsbD p = true := by
    rw [h, BitVec.getLsbD_ofNat, Nat.testBit_two_pow]
    simp [hp]
  have hzero : setBit (s.snapWin o).pendingP p false = 0 := by
    rw [h]
    simp [setBit]
  unfold State.winDone
  extract_lets v q t
  rw [if_neg (by simp [v, hbit]), if_pos hzero]
  refine ⟨?_, ?_⟩
  · have : (t.setIrq o 4).irqStatus o = setBit (t.irqStatus o) 4 true := tget_tset_same ..
    rw [this, getLsbD_setBit _ _ _ _ (by decide), if_pos rfl]
  · have : (t.setIrq o 4).snapWin o = t.snapWin o := rfl
    rw [this, State.setSnapWin_snapWin_same]
    simpa using hzero

/-- A probe that the window no longer waits for is done. -/
theorem winDone_again (s : State) (p : Nat) (o : Nat) (no : BitVec 16) (h : (s.snapWin o).pendingP.getLsbD p = false) : s.winDone p o no = s := by
  unfold State.winDone
  exact if_pos (by simp [h])

theorem winDone_proj {α : Type} (π : State → α) (h : ∀ (s : State) win, π { s with win := win } = π s) (s : State) (p : Nat)
    (o : Nat) (no : BitVec 16) : π (s.winDone p o no) = π s := by
  unfold State.winDone
  extract_lets v q t
  exact proj_of_ite π rfl (proj_of_ite π (h s _) (h s _))

/-- What the end of a copy tells the windows. -/
def State.servedBy (s : State) (p : Nat) (no : BitVec 16) (r : SnapReq) : State :=
  match r.win with | some o => s.winDone p o no | none => s

theorem servedBy_proj {α : Type} (π : State → α) (h : ∀ (s : State) win, π { s with win := win } = π s) (s : State) (p : Nat)
    (no : BitVec 16) (r : SnapReq) : π (s.servedBy p no r) = π s := by
  unfold State.servedBy
  split
  · exact winDone_proj π h ..
  · rfl

theorem served_nobody (p : Nat) (no : BitVec 16) (l : List SnapReq) (s : State) (h : ∀ r ∈ l, r.win = none) :
    l.foldl (fun s r => s.servedBy p no r) s = s := by
  induction l with
  | nil => rfl
  | cons r l ih =>
    have hr : s.servedBy p no r = s := by
      unfold State.servedBy
      rw [h r List.mem_cons_self]
    rw [List.foldl_cons, hr, ih fun r hr => h r (List.mem_cons_of_mem _ hr)]

/-- The window of an owner that the probe has served. -/
def State.doneFor (s : State) (p o : Nat) : Prop := (s.snapWin o).pendingP.getLsbD p = false

theorem servedBy_doneFor {s : State} {p o : Nat} (no : BitVec 16) (r : SnapReq) (h : s.doneFor p o) : (s.servedBy p no r).doneFor p o ∧
    (s.servedBy p no r).irqStatus o = s.irqStatus o ∧ (s.servedBy p no r).snapWin o = s.snapWin o := by
  unfold State.servedBy
  split
  · next k _ =>
    by_cases hk : o = k
    · rw [winDone_again s p k no (hk ▸ h)]
      exact ⟨h, rfl, rfl⟩
    · obtain ⟨hw, hi⟩ := winDone_other s p no hk
      exact ⟨(congrArg (fun v : SnapWin => v.pendingP.getLsbD p) hw).trans h, hi, hw⟩
  · exact ⟨h, rfl, rfl⟩

/-- Every owner that triggered the copy is served, and one that waited for this probe alone sees it (R529). -/
theorem served_owner (p : Nat) (no : BitVec 16) (hp : p < 128) (l : List SnapReq) (o : Nat) (s : State) (h : ∃ r ∈ l, r.win = some o) :
    let t := l.foldl (fun s r => s.servedBy p no r) s
    t.doneFor p o ∧ ((s.snapWin o).pendingP = BitVec.ofNat 128 (2 ^ p) → (t.irqStatus o).getLsbD 4 = true ∧ (t.snapWin o).pending = false) := by
  have still : ∀ (l : List SnapReq) (t : State), t.doneFor p o → let u := l.foldl (fun s r => s.servedBy p no r) t
      u.doneFor p o ∧ u.irqStatus o = t.irqStatus o ∧ u.snapWin o = t.snapWin o := by
    intro l
    induction l with
    | nil => exact fun t ht => ⟨ht, rfl, rfl⟩
    | cons r l ih =>
      intro t ht
      obtain ⟨hd, hi, hw⟩ := servedBy_doneFor no r ht
      obtain ⟨hd', hi', hw'⟩ := ih _ hd
      exact ⟨hd', hi'.trans hi, hw'.trans hw⟩
  induction l generalizing s with
  | nil => obtain ⟨r, hr, -⟩ := h; cases hr
  | cons r l ih =>
    by_cases hr : r.win = some o
    · have hone : s.servedBy p no r = s.winDone p o no := by
        unfold State.servedBy
        rw [hr]
      obtain ⟨hd, hi, hw⟩ := still l (s.winDone p o no) (winDone_snapWin s p o no hp)
      rw [List.foldl_cons, hone]
      refine ⟨hd, fun hlast => ?_⟩
      obtain ⟨hirq, hpend⟩ := winDone_last s p o no hp hlast
      exact ⟨hi ▸ hirq, hw ▸ hpend⟩
    · have hrest : ∃ r ∈ l, r.win = some o := by
        obtain ⟨q, hq, hw⟩ := h
        rcases List.mem_cons.mp hq with rfl | hq
        · exact absurd hw hr
        · exact ⟨q, hq, hw⟩
      have hkeep : (s.servedBy p no r).snapWin o = s.snapWin o := by
        unfold State.servedBy
        split
        · next k hk => exact (winDone_other s p no fun e => hr (hk.trans (congrArg some e.symm))).1
        · rfl
      obtain ⟨hd, hlast⟩ := ih (s.servedBy p no r) hrest
      exact ⟨hd, fun hp => hlast (hkeep ▸ hp)⟩

/-- The probe's part of the end of a copy. -/
theorem endCopy_eq (s : State) (p : Nat) : s.endCopy p = (s.probe p).copying.foldl (fun t r => t.servedBy p (s.probe p).shadow.snapNo r)
    (s.setProbe p { s.probe p with copying := [], shadow := { (s.probe p).shadow with busy := false } }) := rfl

theorem endCopy_proj {α : Type} (π : State → α) (h : ∀ (s : State) win, π { s with win := win } = π s) (s : State) (p : Nat) :
    π (s.endCopy p) = π (s.setProbe p { s.probe p with copying := [], shadow := { (s.probe p).shadow with busy := false } }) := by
  rw [endCopy_eq]
  exact foldl_proj π _ (fun t r => servedBy_proj π h t p _ r) _ _

/-! ## Streams and queues of a source -/

theorem noteLoss_queue (s : State) (src : Nat) (r : Rec) (q : Nat) : (s.noteLoss src r).queue q = s.queue q := by
  unfold State.noteLoss
  exact proj_of_ite (State.queue · q) rfl rfl

theorem stopStreams_queue (s : State) (src q : Nat) : (s.stopStreams src).queue q = s.queue q :=
  foldl_proj (State.queue · q) (fun (s : State) o => s.setStream src o { s.stream src o with active := false, explained := true }) (fun _ _ => rfl) _ _

theorem dropQueue_canal (s : State) (src : Nat) : CanalOnly s (s.dropQueue src) :=
  (setQueue_canal s src []).trans (.foldl _ (fun _ _ => noteLoss_canal ..) _ _)

theorem dropQueue_queue (s : State) (src : Nat) : (s.dropQueue src).queue src = [] :=
  (foldl_proj (State.queue · src) (fun (s : State) r => s.noteLoss src r) (fun t r => noteLoss_queue t src r src) _ _).trans (State.setQueue_queue_same ..)

/-! ## Dumps and the slot invariant (R152 to R154) -/

section
variable {p : Fin 128} {s : State}

theorem exec_tallyDump (badT : BitVec 128) (hl : s.probeLive p.val = true) (he : (s.probe p.val).cfg.enable.getLsbD 0 = true)
    (ht : 2 ^ (s.probe p.val).tallyCur ≤ (s.probe p.val).tallyEdges) : exec (.tallyDump ⟨p, badT⟩) s = .next
      (((s.raiseParity p.val 0 badT).emitTallies p.val (s.probe p.val).cfg.fixedOwner (s.probe p.val).lastEdgeTs 16 (s.probe p.val).busy
        (s.probe p.val).stall).setProbe p.val { s.probe p.val with busy := [], stall := [], tallyEdges := 0, tallyCur := (s.probe p.val).cfg.tallyK }) := by
  have hx : ((s.raiseParity p.val 0 badT).emitTallies p.val (s.probe p.val).cfg.fixedOwner (s.probe p.val).lastEdgeTs 16 (s.probe p.val).busy
      (s.probe p.val).stall).probe p.val = s.probe p.val :=
    (emitTallies_canal ..).probe _ |>.trans (raiseParity_proj (State.probe · p.val) (fun _ _ => rfl) ..)
  change execTallyDump ⟨p, badT⟩ s = _
  unfold execTallyDump State.modProbe
  dsimp only
  rw [if_neg (by simp [hl, he]; omega), hx]

theorem exec_slotInvariantCheck (hl : s.probeLive p.val = true) (ht : 65536 ≤ (s.probe p.val).invEdges) :
    exec (.slotInvariantCheck p) s = .next ((s.setProbe p.val { s.probe p.val with invEdges := 0 }).checkInvariant p.val) :=
  if_neg (by simp [hl]; omega)

/-! ## Snapshots taken and copied (R156 to R158) -/

theorem exec_snapshotTake_merges {bad : ParityBad} {rs : List SnapReq} (hl : s.probeLive p.val = true)
    (hrs : (s.probe p.val).snapReq.filter (fun r => (s.probe p.val).haltTs.isSome || decide (r.edge < (s.probe p.val).edge)) = rs) (hne : rs ≠ [])
    (hc : (s.probe p.val).copying ≠ []) : ∃ t, exec (.snapshotTake p bad) s = .next t ∧ t.probe p.val = { s.probe p.val with
      copying := (s.probe p.val).copying ++ rs, snapReq := (s.probe p.val).snapReq.filter (fun r => !rs.contains r)
      shadow := { (s.probe p.val).shadow with
        merged := true, invariant := (s.probe p.val).shadow.invariant || rs.any (fun r => decide (r.trigger = 6)) } } := by
  change ∃ t, execSnapshotTake p bad s = .next t ∧ _
  unfold execSnapshotTake
  dsimp only
  rw [hrs, if_neg (by simp [hl, hne]), if_pos (by simpa using hc)]
  refine ⟨_, rfl, ?_⟩
  rw [(emitGroups_canal ..).probe, foldl_proj (State.probe · p.val) _ fun t r => ?_]
  · exact State.setProbe_probe_same ..
  · split <;> rfl

theorem exec_snapshotTake_copies {bad : ParityBad} {rs : List SnapReq} (hl : s.probeLive p.val = true)
    (hrs : (s.probe p.val).snapReq.filter (fun r => (s.probe p.val).haltTs.isSome || decide (r.edge < (s.probe p.val).edge)) = rs) (hne : rs ≠ [])
    (hc : (s.probe p.val).copying = []) :
    exec (.snapshotTake p bad) s = .next ((s.takeSnap p.val rs bad.ctr bad.tal false).checkInvariant p.val) := by
  change execSnapshotTake p bad s = _
  unfold execSnapshotTake
  dsimp only
  rw [hrs, if_neg (by simp [hl, hne]), if_neg (by simp [hc])]

theorem request_live {x : Probe} (r : Nat → SnapReq) (hx : x.snaps = true) : x.request r = { x with snapReq := x.snapReq ++ [r x.edge] } := if_pos hx

theorem snaps_of_live (hl : s.probeLive p.val = true) : (s.probe p.val).snaps = true := by
  simp only [State.probeLive, Bool.and_eq_true] at hl
  obtain ⟨⟨⟨-, hup⟩, hrst⟩, hdis⟩ := hl
  simp [Probe.snaps, hup, hrst, hdis]

theorem exec_periodicSnapshot (hl : s.probeLive p.val = true) (hp : (s.probe p.val).cfg.period ≠ 0)
    (ht : s.probeTs p.val / (4000 * (s.probe p.val).cfg.period) ≠ (s.probe p.val).lastPeriodic) :
    exec (.periodicSnapshot p) s = .next (s.setProbe p.val { s.probe p.val with
      lastPeriodic := s.probeTs p.val / (4000 * (s.probe p.val).cfg.period)
      snapReq := (s.probe p.val).snapReq ++ [⟨2, false, true, none, none, (s.probe p.val).edge⟩] }) := by
  refine (if_neg (by simp [hl, hp, ht])).trans ?_
  rw [request_live]
  exact snaps_of_live hl

theorem exec_frameSyncSnapshot {at_ : Nat} (hl : s.probeLive p.val = true) (ha : (s.probe p.val).frameSnapAt = some at_)
    (ht : at_ ≤ s.probeTs p.val) : exec (.frameSyncSnapshot p) s = .next (s.setProbe p.val { s.probe p.val with
      frameSnapAt := none, snapReq := (s.probe p.val).snapReq ++ [⟨3, false, true, none, none, (s.probe p.val).edge⟩] }) := by
  change execFrameSyncSnapshot p s = _
  unfold execFrameSyncSnapshot
  dsimp only
  rw [ha]
  dsimp only
  rw [if_neg (by simp [hl]; omega), request_live]
  exact snaps_of_live hl

/-! ## Stretch, halt and resume (R136, R137) -/

theorem probeOwnersList_setProbe (x : Probe) (hx : x.cfg = (s.probe p.val).cfg) :
    (s.setProbe p.val x).probeOwnersList p.val = s.probeOwnersList p.val := by
  unfold State.probeOwnersList
  rw [State.setProbe_probe_same, hx]
  rfl

theorem exec_clkStretchReport {d : Nat} (hd : (s.probe p.val).lastEdgeTs - (s.probe p.val).prevEdgeTs = d) (hr : s.probeRuns p.val = true)
    (hst : (s.probe p.val).stretch = true) (h0 : d ≠ 0) (hrep : (s.probe p.val).stretchReported = 0 ∨
      ((s.probe p.val).stretchReported < 8 * (max d (s.probe p.val).stretchReported - min d (s.probe p.val).stretchReported) ∧
        (s.probe p.val).stretchEdge + 64 ≤ (s.probe p.val).edge)) :
    exec (.clkStretchReport p) s = .next ((s.probeOwnersList p.val).foldl
      (fun t o => t.emit p.val o 0x08 1 (s.probe p.val).lastEdgeTs (min 0xFFFFF d) [])
      (s.setProbe p.val { s.probe p.val with stretchReported := d, stretchEdge := (s.probe p.val).edge })) := by
  change execClkStretchReport p s = _
  unfold execClkStretchReport
  dsimp only
  rw [hd, if_neg, probeOwnersList_setProbe]
  · rfl
  · rfl
  · rcases hrep with h | ⟨h, he⟩
    · simp [hr, hst, h0, h]
    · simp only [hr, hst, h0, decide_eq_true h, decide_eq_false (not_lt.mpr he)]
      simp

theorem exec_clkStretchEnd (hl : s.probeLive p.val = true) (hst : (s.probe p.val).stretch = false) (h0 : (s.probe p.val).stretchReported ≠ 0) :
    exec (.clkStretchEnd p) s = .next ((s.probeOwnersList p.val).foldl (fun t o => t.emit p.val o 0x08 1 (s.probeTs p.val) 0 [])
      (s.setProbe p.val { s.probe p.val with stretchReported := 0 })) := by
  have hts : (s.setProbe p.val { s.probe p.val with stretchReported := 0 }).probeTs p.val = s.probeTs p.val := by
    unfold State.probeTs
    rw [State.setProbe_probe_same]
    rfl
  change execClkStretchEnd p s = _
  unfold execClkStretchEnd
  dsimp only
  rw [if_neg (by simp [hl, hst, h0]), probeOwnersList_setProbe (s := s) (p := p) _ (by rfl),
    foldl_reads (State.probeTs · p.val) (fun ts t o => t.emit p.val o 0x08 1 ts 0 []) fun c t o => (emit_canal ..).proj (State.probeTs · p.val) fun _ _ => rfl, hts]

/-- A write that applies on TCLK, the clock being halted (R140). -/
theorem write_halted {x : Probe} (i v : Nat) (hh : x.hrst = false) (hu : x.up = true) (ht : x.haltTs.isSome = true) :
    ∃ c w r q, x.write i v = { x with cnt := c, was := w, refCyc := r, refSlots := q } ∧ tget c i 0 = v := by
  unfold Probe.write
  rw [if_neg (by simp [hh, hu]), if_pos ht]
  dsimp only
  split
  · exact ⟨_, _, _, _, rfl, tget_tset_same ..⟩
  · exact ⟨_, _, _, _, rfl, tget_tset_same ..⟩

/-- The writes that waited change counters alone. -/
theorem writes_halted (l : List (Nat × Nat)) (x : Probe) (hh : x.hrst = false) (hu : x.up = true) (ht : x.haltTs.isSome = true) :
    ∃ c w r q, l.foldl (fun y e => y.write e.1 (e.2 - 1)) x = { x with cnt := c, was := w, refCyc := r, refSlots := q } ∧
      (l = [] → c = x.cnt) ∧ ∀ i v, l = [(i, v)] → tget c i 0 = v - 1 := by
  have keeps : ∀ (l : List (Nat × Nat)) (x : Probe), x.hrst = false → x.up = true → x.haltTs.isSome = true →
      ∃ c w r q, l.foldl (fun y e => y.write e.1 (e.2 - 1)) x = { x with cnt := c, was := w, refCyc := r, refSlots := q } := by
    intro l
    induction l with
    | nil => exact fun x _ _ _ => ⟨_, _, _, _, rfl⟩
    | cons e l ih =>
      intro x hh hu ht
      obtain ⟨c, w, r, q, he, -⟩ := write_halted e.1 (e.2 - 1) hh hu ht
      rw [List.foldl_cons, he]
      exact ih { x with cnt := c, was := w, refCyc := r, refSlots := q } hh hu ht
  match l with
  | [] => exact ⟨_, _, _, _, rfl, fun _ => rfl, fun _ _ h => nomatch h⟩
  | [e] =>
    obtain ⟨c, w, r, q, he, hc⟩ := write_halted e.1 (e.2 - 1) hh hu ht
    refine ⟨c, w, r, q, he, fun h => (List.cons_ne_nil _ _ h).elim, fun i v h => ?_⟩
    cases h
    exact hc
  | e :: f :: l =>
    obtain ⟨c, w, r, q, he⟩ := keeps (e :: f :: l) x hh hu ht
    exact ⟨c, w, r, q, he, fun h => (List.cons_ne_nil _ _ h).elim, fun _ _ h => (List.cons_ne_nil _ _ (List.cons.inj h).2).elim⟩

theorem live_of_runs (hr : s.probeRuns p.val = true) : s.probeLive p.val = true := by
  simp only [State.probeRuns, Bool.and_eq_true] at hr
  exact hr.1

theorem exec_clkHalt (hr : s.probeRuns p.val = true) : ∃ y : Probe,
    exec (.clkHalt p) s = .next ((((s.probeOwnersList p.val).foldl (fun t o => t.emit p.val o 0x09 1 (s.probe p.val).lastEdgeTs 0
      (s.fullTime p.val (s.probe p.val).lastEdgeTs)) s).setProbe p.val y).stopStreams p.val).settleWrites ∧
    y.haltTs = some (s.probe p.val).lastEdgeTs ∧ y.wr = [] ∧ y.clr = 0 ∧ y.ovf = (s.probe p.val).ovf &&& ~~~(s.probe p.val).clr ∧
    y.cfg = (s.probe p.val).cfg ∧ y.edge = (s.probe p.val).edge ∧ ((s.probe p.val).wr = [] → y.cnt = (s.probe p.val).cnt) ∧
    ∀ i v, (s.probe p.val).wr = [(i, v)] → tget y.cnt i 0 = v - 1 := by
  have hsn := snaps_of_live (live_of_runs hr)
  simp only [Probe.snaps, Bool.and_eq_true, Bool.not_eq_true'] at hsn
  obtain ⟨⟨hup, hrst⟩, -⟩ := hsn
  obtain ⟨c, w, r, q, hw, hnone, hone⟩ := writes_halted (s.probe p.val).wr
    { s.probe p.val with haltTs := some (s.probe p.val).lastEdgeTs, wr := [], clr := 0, was := [], wasOvf := 0, ovf := (s.probe p.val).ovf &&& ~~~(s.probe p.val).clr }
    hrst hup rfl
  refine ⟨{ s.probe p.val with haltTs := some (s.probe p.val).lastEdgeTs, wr := [], clr := 0, wasOvf := 0, ovf := (s.probe p.val).ovf &&& ~~~(s.probe p.val).clr, cnt := c, was := w, refCyc := r, refSlots := q },
    ?_, rfl, rfl, rfl, rfl, rfl, rfl, hnone, hone⟩
  change execClkHalt p s = _
  unfold execClkHalt
  dsimp only
  rw [if_neg (by simp [hr]), foldl_reads (State.fullTime · p.val (s.probe p.val).lastEdgeTs)
    (fun ws t o => t.emit p.val o 0x09 1 (s.probe p.val).lastEdgeTs 0 ws) fun c t o => (emit_canal ..).proj (State.fullTime · p.val _) fun _ _ => rfl]
  have hkeep : ((s.probeOwnersList p.val).foldl (fun t o => t.emit p.val o 0x09 1 (s.probe p.val).lastEdgeTs 0
      (s.fullTime p.val (s.probe p.val).lastEdgeTs)) s).probe p.val = s.probe p.val :=
    foldl_proj (State.probe · p.val) _ (fun t o => (emit_canal ..).probe _) _ _
  rw [hkeep, hw]

theorem emitBare_probeTime (t : State) (o ts : Nat) (ws : List Nat) :
    (t.emitBare p.val o 0x0A 1 ts 0 ws).fullTime p.val ts = t.fullTime p.val ts := (emitBare_canal ..).proj (State.fullTime · p.val ts) fun _ _ => rfl

theorem exec_clkResume (hl : s.probeLive p.val = true) (ht : (s.probe p.val).haltTs.isSome = true) :
    exec (.clkResume p) s = .next ((s.probeOwnersList p.val).foldl (fun t o => t.emitBare p.val o 0x0A 1 (s.probeTs p.val) 0
      ((s.setProbe p.val { s.probe p.val with haltTs := none }).fullTime p.val (s.probeTs p.val)))
      (s.setProbe p.val { s.probe p.val with haltTs := none })) := by
  have hn : (s.probe p.val).haltTs.isNone = false := by
    cases h : (s.probe p.val).haltTs with
    | none => rw [h] at ht; cases ht
    | some _ => rfl
  change execClkResume p s = _
  unfold execClkResume State.modProbe
  dsimp only
  rw [if_neg (by simp [hl, hn]), probeOwnersList_setProbe (s := s) (p := p) _ (by rfl),
    foldl_reads (State.fullTime · p.val (s.probeTs p.val)) (fun ws t o => t.emitBare p.val o 0x0A 1 (s.probeTs p.val) 0 ws)
      fun c t o => emitBare_probeTime t o _ c]

/-! ## HRST_N and power (R23, R141, R538) -/

/-- The canal of a probe that HRST_N has cleared. -/
def State.hrstCanal (s : State) (p : Nat) : State := ((s.endCopy p).dropSamples p).stopStreams p

theorem hrstCanal_canal (s : State) (p : Nat) : CanalOnly (s.endCopy p) (s.hrstCanal p) :=
  (setQueue_canal (s.endCopy p) p _).trans (stopStreams_canal ..)

theorem hrstCanal_probe (s : State) (p : Nat) :
    (s.hrstCanal p).probe p = { s.probe p with copying := [], shadow := { (s.probe p).shadow with busy := false } } := by
  rw [(hrstCanal_canal s p).probe, endCopy_proj (State.probe · p) fun _ _ => rfl]
  exact State.setProbe_probe_same ..

theorem exec_hrstNAssert (hn : p.val < s.ident.nProbes) (hh : (s.probe p.val).hrst = false) : ∃ t, exec (.hrstNAssert p) s = .next t ∧
    t.probe p.val = { (Probe.cleared { s.probe p.val with copying := [], shadow := { (s.probe p.val).shadow with busy := false } }) with hrst := true } ∧
    t.fc = s.fc ∧ t.queue p.val = (s.queue p.val).filter (fun r => !r.inBuffer p.val) := by
  have hc : ¬ (decide (s.ident.nProbes ≤ p.val) || (s.probe p.val).hrst) = true := by
    simp [hh]
    omega
  refine ⟨(((s.hrstCanal p.val).winSkip p.val ((s.hrstCanal p.val).probe p.val).snapReq).modProbe p.val
    (fun x => { x.cleared with hrst := true })).settleWrites, if_neg hc, ?_, ?_, ?_⟩
  · rw [settleWrites_proj (State.probe · p.val) fun _ _ _ => rfl]
    refine (State.setProbe_probe_same ..).trans ?_
    rw [winSkip_proj (State.probe · p.val) fun _ _ => rfl, hrstCanal_probe]
  · rw [settleWrites_proj State.fc fun _ _ _ => rfl]
    calc (((s.hrstCanal p.val).winSkip p.val ((s.hrstCanal p.val).probe p.val).snapReq).modProbe p.val _).fc
        = (s.hrstCanal p.val).fc := winSkip_proj State.fc (fun _ _ => rfl) ..
      _ = (s.endCopy p.val).fc := (hrstCanal_canal ..).fc
      _ = s.fc := endCopy_proj State.fc (fun _ _ => rfl) ..
  · rw [settleWrites_proj (State.queue · p.val) fun _ _ _ => rfl]
    calc (((s.hrstCanal p.val).winSkip p.val ((s.hrstCanal p.val).probe p.val).snapReq).modProbe p.val _).queue p.val
        = (s.hrstCanal p.val).queue p.val := winSkip_proj (State.queue · p.val) (fun _ _ => rfl) ..
      _ = ((s.endCopy p.val).dropSamples p.val).queue p.val := stopStreams_queue ..
      _ = ((s.endCopy p.val).queue p.val).filter (fun r => !r.inBuffer p.val) := State.setQueue_queue_same ..
      _ = (s.queue p.val).filter (fun r => !r.inBuffer p.val) :=
        congrArg _ (endCopy_proj (State.queue · p.val) (fun _ _ => rfl) s p.val)

/-- A probe that HRST_N has just released. -/
def State.released (s : State) (p : Nat) : State := s.setProbe p { s.probe p with
  hrst := false, lastEdgeTs := s.probeTs p, edgeEpoch := (s.probe p).replica.epoch, edgePart := (s.probe p).replica.part, edgeSt := (s.probe p).replica.st }

theorem exec_hrstNRelease (hn : p.val < s.ident.nProbes) (hh : (s.probe p.val).hrst = true) : exec (.hrstNRelease p) s = .next
    (if (s.released p.val).probeLive p.val = true then (s.released p.val).takeSnap p.val [⟨5, false, true, none, none, 0⟩] 0 0 true
      else s.released p.val) := if_neg (by simp [hh]; omega)

theorem released_live (hn : p.val < s.ident.nProbes) : (s.released p.val).probeLive p.val = ((s.probe p.val).up && !(s.probe p.val).disabled) := by
  have hx : (s.released p.val).probe p.val = { s.probe p.val with
    hrst := false, lastEdgeTs := s.probeTs p.val, edgeEpoch := (s.probe p.val).replica.epoch, edgePart := (s.probe p.val).replica.part, edgeSt := (s.probe p.val).replica.st } :=
    State.setProbe_probe_same ..
  have hi : (s.released p.val).ident = s.ident := rfl
  unfold State.probeLive
  rw [hx, hi]
  simp [hn]

theorem addMarks_canal (t : State) (ws : List Weir) : CanalOnly t (t.addMarks ws) := Eq.refl _

theorem markCut_canal (s : State) (p : Nat) : CanalOnly s (s.markCut p) := by
  unfold State.markCut
  exact .ite _ (.foldl _ (fun _ _ => (addMarks_canal ..).trans (setStream_canal ..)) _ _) .rfl

theorem armed_setProbe (t : State) (x : Probe) (hd : x.disabled = (t.probe p.val).disabled) (hc : x.cfg = (t.probe p.val).cfg) :
    (t.setProbe p.val x).armed p.val = t.armed p.val := by
  unfold State.armed
  rw [State.setProbe_probe_same, hd, hc]
  rfl

/-- The probe that its supply brings up (R23, R124, R538). -/
def Probe.poweredUp (x : Probe) (p : Nat) : Probe :=
  { x.cleared with up := true, cut := false, lfsr := lfsrSeed x.cfg.seed p, replica := { x.replica with loaded := false } }

theorem exec_probePowerUp (hn : p.val < s.ident.nProbes) (hu : (s.probe p.val).up = false) (hp : s.probePowered p.val = true) :
    exec (.probePowerUp p) s = .next { (s.markCut p.val).setProbe p.val ((s.probe p.val).poweredUp p.val) with
      time := { s.time with oweLoad := true }
      clk := { s.clk with tclk := s.clk.tclk || (decide (s.lk.st = .slack) && s.armed p.val)
                          stop := s.clk.stop && !(decide (s.lk.st = .slack) && s.armed p.val) } } := by
  have hc := markCut_canal s p.val
  have harmed : ((s.markCut p.val).setProbe p.val ((s.probe p.val).poweredUp p.val)).armed p.val = s.armed p.val := by
    rw [armed_setProbe]
    · exact hc.proj (State.armed · p.val) fun _ _ => rfl
    · rw [hc.probe]
      rfl
    · rw [hc.probe]
      rfl
  change execProbePowerUp p s = _
  unfold execProbePowerUp
  dsimp only
  rw [if_neg (by simp [hu, hp]; omega), ← harmed]
  generalize hu : s.markCut p.val = u at hc
  rw [show u = { s with canal := u.canal } from hc]
  rfl

/-- The RESET snapshot that the release takes (R141). -/
theorem release_snap (s : State) (p : Fin 128) : let t := (s.released p.val).takeSnap p.val [⟨5, false, true, none, none, 0⟩] 0 0 true
    let x := s.probe p.val
    (t.probe p.val).hrst = false ∧ (t.probe p.val).cnt = x.cnt ∧ (t.probe p.val).shadow.reset = true ∧ (t.probe p.val).shadow.trigger = 5 ∧
    (t.probe p.val).shadow.busy = true ∧ (x.cnt = [] → x.was = [] → ∀ i < 13, tget (t.probe p.val).shadow.cnt i 0 = 0) ∧ t.fc = s.fc := by
  intro t x
  have hr : (s.released p.val).probe p.val = { x with
    hrst := false, lastEdgeTs := s.probeTs p.val, edgeEpoch := x.replica.epoch, edgePart := x.replica.part, edgeSt := x.replica.st } :=
    State.setProbe_probe_same ..
  have ht : t.probe p.val = _ := takeSnap_probe ..
  have hfc : t.fc = s.fc := by
    rw [(takeSnap_canal ..).fc, raiseParity_none]
    rfl
  rw [ht]
  refine ⟨?_, ?_, rfl, rfl, rfl, fun hc hw i hi => ?_, hfc⟩
  · rw [hr]
  · rw [hr]
  · dsimp only
    rw [snapShadow_cnt _ _ _ _ _ hi, hr]
    dsimp only
    rw [hc, hw]
    rfl

/-! ## Faults of a probe (R54, R171) -/

theorem exec_fatalIn (pos : Bool) (hn : p.val < s.ident.nProbes) (hu : (s.probe p.val).up = true) :
    let u := (s.setProbe p.val { s.probe p.val with fatalSeen := pos, railSeen := false }).setPersist 0x101 p.val false
    exec (.fatalIn p pos !pos) s = .next (if pos = false then u.setPersist 0x100 p.val false
      else if (s.probe p.val).fatalSeen = true then u else (u.raiseFatal 0x100 p.val).setPersist 0x100 p.val true) := by
  intro u
  refine (if_neg (by simp [hu]; omega)).trans ?_
  cases pos
  · rfl
  · rfl

theorem exec_tclkLoss (hn : p.val < s.ident.nProbes) (hl : (s.probe p.val).tclkLost = false) (ha : s.armed p.val = true)
    (hu : (s.probe p.val).up = true) : exec (.tclkLoss p true) s =
      .next (((s.setProbe p.val { s.probe p.val with tclkLost := true }).raiseFixed 0x309 p.val 0).setPersist 0x309 p.val true) := by
  refine (if_neg (by omega)).trans ?_
  refine (if_pos rfl).trans ?_
  exact if_neg (by simp [hl, ha, hu])

/-- What stays of a probe that a fault disables, and who hears of it (R171, R189, R190). -/
theorem disableProbe_probe (s : State) (p : Nat) :
    ((s.disableProbe p).probe p).disabled = true ∧ ((s.disableProbe p).probe p).inflight = [] ∧ ((s.disableProbe p).probe p).tagged = [] ∧
    ((s.disableProbe p).probe p).cfg = (s.probe p).cfg ∧ ((s.disableProbe p).probe p).disabledFor =
      (List.range 17).filter (fun o => decide (o = hm) || ((s.probe p).cfg.streams s.esl.idMode o && s.active o)) := by
  unfold State.disableProbe State.modProbe
  dsimp only
  rw [State.setProbe_probe_same]
  refine ⟨rfl, rfl, rfl, ?_, rfl⟩
  dsimp only
  rw [winSkip_proj (State.probe · p) fun _ _ => rfl, (stopStreams_canal ..).probe, (dropQueue_canal ..).probe]

theorem disableProbe_rest (s : State) (p : Nat) : (s.disableProbe p).fc = s.fc ∧ (s.disableProbe p).queue p = [] := by
  refine ⟨?_, ?_⟩
  · refine (winSkip_proj State.fc (fun _ _ => rfl) ..).trans ?_
    rw [(stopStreams_canal ..).fc, (dropQueue_canal ..).fc]
  · refine (winSkip_proj (State.queue · p) (fun _ _ => rfl) ..).trans ?_
    rw [stopStreams_queue, dropQueue_queue]

end

/-! ## The obligation -/

/-- Settles O59: each command by the rule of its own above. -/
theorem probeUpkeep : Obligations.ProbeUpkeep := by
  intro p s hn
  dsimp only
  refine ⟨?dump, ?invariant, ?take, ?copied, exec_periodicSnapshot, fun at_ => exec_frameSyncSnapshot, ?stretch, exec_clkStretchEnd,
    exec_clkHalt, exec_clkResume, ?assert, ?release, ?powerUp, fun pos hu => exec_fatalIn pos hn hu, ?rail, exec_tclkLoss hn,
    if_neg (by omega), ?link⟩
  case dump =>
    intro badT hl he ht
    refine ⟨s.raiseParity p.val 0 badT, raiseParity_proj State.probes (fun _ _ => rfl) .., fun h => ?_, fun i _ hb => raiseParity_tally s p.val 0 hb,
      exec_tallyDump badT hl he ht⟩
    rw [h, raiseParity_none]
  case invariant =>
    intro hl ht
    rw [exec_slotInvariantCheck hl ht, checkInvariant_eq, State.setProbe_probe_same]
    refine ⟨fun hb => congrArg _ (if_neg fun h => hb ((broken_iff ..).mp h)), fun hb => ?_⟩
    exact ⟨Probe.foundBroken { s.probe p.val with invEdges := 0 }, congrArg _ (if_pos ((broken_iff ..).mpr hb)), rfl, rfl, rfl, rfl, rfl⟩
  case take =>
    intro bad badT hl hne
    generalize hrs : (s.probe p.val).snapReq.filter (fun r => (s.probe p.val).haltTs.isSome || decide (r.edge < (s.probe p.val).edge)) = rs at hne ⊢
    by_cases hc : (s.probe p.val).copying = []
    · obtain ⟨hcnt, hcfg, hcopy, hshadow, hctr, htal⟩ := takeSnap_checked s p.val rs bad badT
      refine ⟨_, exec_snapshotTake_copies hl hrs hne hc, hcnt, hcfg, hcopy.trans ?_, fun h => absurd hc h, fun _ => ?_⟩
      · rw [hc, List.nil_append]
      · rw [hshadow]
        exact ⟨rfl, rfl, rfl, rfl, rfl, rfl, rfl, rfl, rfl, rfl, fun i hi => snapShadow_cnt s p.val rs bad false hi, fun i _ hb => hctr i hb,
          fun i _ hb => htal i hb⟩
    · obtain ⟨t, ht, hx⟩ := exec_snapshotTake_merges (bad := ⟨bad, badT⟩) hl hrs hne hc
      refine ⟨t, ht, ?_⟩
      rw [hx]
      exact ⟨rfl, rfl, rfl, fun _ => ⟨rfl, rfl⟩, fun h => absurd h hc⟩
  case copied =>
    intro hc
    refine ⟨s.endCopy p.val, if_neg (by simpa using hc), ?_, endCopy_proj State.fc (fun _ _ => rfl) .., fun h => ?_, fun r hr o ho => ?_⟩
    · exact (endCopy_proj (State.probe · p.val) (fun _ _ => rfl) ..).trans (State.setProbe_probe_same ..)
    · rw [endCopy_eq, served_nobody _ _ _ _ h]
      rfl
    · rw [endCopy_eq]
      exact served_owner p.val _ p.isLt _ o (s.setProbe p.val { s.probe p.val with copying := [], shadow := { (s.probe p.val).shadow with busy := false } }) ⟨r, hr, ho⟩
  case stretch =>
    intro hr hst hd hrep
    exact exec_clkStretchReport rfl hr hst hd hrep
  case assert =>
    intro hh
    obtain ⟨t, ht, hx, hfc, hq⟩ := exec_hrstNAssert hn hh
    refine ⟨t, ht, ?_⟩
    rw [hx, hq]
    refine ⟨rfl, rfl, rfl, rfl, rfl, rfl, rfl, rfl, rfl, rfl, rfl, rfl, rfl, hfc, fun r hr => ?_⟩
    have hb := (List.mem_filter.mp hr).2
    simpa [Rec.inBuffer] using hb
  case release =>
    intro hh
    rw [exec_hrstNRelease hn hh, released_live hn]
    refine ⟨fun h => congrArg _ (if_neg ?_), fun hu hd => ?_⟩
    · rcases h with h | h <;> simp [h]
    · rw [if_pos (by simp [hu, hd])]
      exact ⟨_, rfl, release_snap s p⟩
  case powerUp =>
    intro hu hp
    exact ⟨(s.probe p.val).poweredUp p.val, exec_probePowerUp hn hu hp, fun hc => if_neg (by simp [hc]), rfl, rfl, rfl, rfl, rfl, rfl, rfl, rfl, rfl, rfl⟩
  case rail =>
    intro v hr hu
    exact if_neg (by simp [hr, hu]; omega)
  case link =>
    intro hd
    obtain ⟨hdis, hin, htag, hcfg, hfor⟩ := disableProbe_probe s p.val
    obtain ⟨hfc, hq⟩ := disableProbe_rest s p.val
    refine ⟨s.disableProbe p.val, if_neg (by simp [hd]; omega), hdis, hin, htag, hcfg, hq, hfc, fun o => ?_⟩
    rw [hfor]
    simp only [List.mem_filter, List.mem_range, Bool.or_eq_true, Bool.and_eq_true, decide_eq_true_eq]
    rw [show hm = 16 from rfl]
    constructor
    · rintro ⟨hlt, h⟩
      exact (Decidable.em (o = 16)).imp id fun hne => ⟨by omega, h.resolve_left hne⟩
    · rintro (h | ⟨hlt, h⟩)
      · exact ⟨by omega, .inl h⟩
      · exact ⟨by omega, .inr h⟩

end Sys2Proof.Machine
end

section
/-! SUPPORT. One access of the host target port (R66, R67, R514): what it is answered, and what a write of a page's word
does. -/

namespace Sys2Proof.Machine

/-! ## Accesses of a page -/

/-- The address of an offset of an owner's page (R68). -/
theorem page_toNat (o : Fin 17) {off : Nat} (h : off < 0x80000) : (BitVec.ofNat 24 (o.val * 0x80000 + off)).toNat = o.val * 0x80000 + off := by
  have := o.isLt
  rw [BitVec.toNat_ofNat]
  omega

/-- An access of the port, outside PORST_N (R42, R66, R515). -/
theorem exec_registerWrite {s : State} (hp : s.dev.phase ≠ .held) (req : HtReq) (size64 : Bool) (strb : BitVec 8) (data : W64) :
    exec (.registerWrite req size64 strb data) s = .next (
      if h : req.addr.toNat / 0x80000 < 17 then
        if s.hostAccess.rspErr req.addr.toNat req.wr size64 strb ≠ 0 then
          s.hostAccess.respond req.id (s.hostAccess.rspErr req.addr.toNat req.wr size64 strb) 0
        else if req.wr then (s.hostAccess.writeAt ⟨req.addr.toNat / 0x80000, h⟩ (req.addr.toNat % 0x80000) size64 data).respond req.id 0 0
        else
          let u := if req.addr.toNat % 0x80000 = 0x1010 then s.hostAccess.latchCvt (req.addr.toNat / 0x80000) 0 else s.hostAccess
          u.respond req.id 0 (u.readData req.addr.toNat size64)
      else s.hostAccess.respond req.id (s.hostAccess.rspErr req.addr.toNat req.wr size64 strb) 0) := by
  change execRegisterWrite req size64 strb data s = _
  unfold execRegisterWrite State.access
  rw [if_neg hp]

theorem registerWrite_faulty {s : State} (hp : s.dev.phase ≠ .held) (req : HtReq) (size64 : Bool) (strb : BitVec 8) (data : W64) {e : BitVec 2}
    (he : s.hostAccess.rspErr req.addr.toNat req.wr size64 strb = e) (h0 : e ≠ 0) :
    exec (.registerWrite req size64 strb data) s = .next (s.hostAccess.respond req.id e 0) := by
  rw [exec_registerWrite hp, he]
  split <;> rfl

/-- An access of assigned words of a page is answered OK (R514); one of 32 bits is none of the marker aperture (R527). -/
theorem rspErr_page (s : State) (o : Fin 17) {off : Nat} {wr size64 : Bool} {strb : BitVec 8} (h : off < 0x80000)
    (ha : accepted off wr size64 strb = true) (hr : ∀ a ∈ accessOffs off size64, (s.regRead o.val a).isSome = true)
    (hm : wr = true → size64 = true ∨ off < 0x32000 ∨ 0x32018 ≤ off) : s.rspErr (o.val * 0x80000 + off) wr size64 strb = 0 := by
  have hdiv : (o.val * 0x80000 + off) / 0x80000 = o.val := by omega
  have hmod : (o.val * 0x80000 + off) % 0x80000 = off := by omega
  have hacc : accepted (o.val * 0x80000 + off) wr size64 strb = true := by
    unfold accepted at ha ⊢
    rwa [show (o.val * 0x80000 + off) % 8 = off % 8 by omega, show (o.val * 0x80000 + off) % 4 = off % 4 by omega]
  have hany : (accessOffs off size64).any (fun a => (s.regRead o.val a).isNone) = false := by
    rw [List.any_eq_false]
    intro a hmem
    simpa [Option.isSome_iff_ne_none] using hr a hmem
  unfold State.rspErr
  dsimp only
  rw [hacc, hdiv, hmod, hany, decide_eq_false (by omega : ¬ 17 ≤ o.val)]
  cases wr
  · rfl
  · rcases hm rfl with h64 | hlt | hge
    · rw [h64]
      rfl
    · rw [decide_eq_false (by omega : ¬ 0x32000 ≤ off)]
      simp
    · rw [decide_eq_false (by omega : ¬ off < 0x32018)]
      simp

theorem page_write {s : State} (hp : s.dev.phase ≠ .held) (id : BitVec 8) (o : Fin 17) {off : Nat} (size64 : Bool) (strb : BitVec 8)
    (data : W64) (h : off < 0x80000) (he : s.hostAccess.rspErr (o.val * 0x80000 + off) true size64 strb = 0) :
    exec (.registerWrite ⟨id, true, BitVec.ofNat 24 (o.val * 0x80000 + off)⟩ size64 strb data) s =
      .next ((s.hostAccess.writeAt o off size64 data).respond id 0 0) := by
  have hdiv : (o.val * 0x80000 + off) / 0x80000 = o.val := by omega
  have hmod : (o.val * 0x80000 + off) % 0x80000 = off := by omega
  rw [exec_registerWrite hp]
  dsimp only
  simp only [page_toNat o h, he, hdiv, hmod]
  rw [dif_pos o.isLt, if_neg (fun hne => hne rfl), if_pos trivial]

theorem page_read {s : State} (hp : s.dev.phase ≠ .held) (id : BitVec 8) (o : Fin 17) {off : Nat} (size64 : Bool) (strb : BitVec 8)
    (data : W64) (h : off < 0x80000) (he : s.hostAccess.rspErr (o.val * 0x80000 + off) false size64 strb = 0) :
    exec (.registerWrite ⟨id, false, BitVec.ofNat 24 (o.val * 0x80000 + off)⟩ size64 strb data) s =
      .next (let u := if off = 0x1010 then s.hostAccess.latchCvt o.val 0 else s.hostAccess
             u.respond id 0 (u.readData (o.val * 0x80000 + off) size64)) := by
  have hdiv : (o.val * 0x80000 + off) / 0x80000 = o.val := by omega
  have hmod : (o.val * 0x80000 + off) % 0x80000 = off := by omega
  rw [exec_registerWrite hp]
  dsimp only
  simp only [page_toNat o h, he, hdiv, hmod]
  rw [dif_pos o.isLt, if_neg (fun hne => hne rfl)]
  rfl

/-- Two words joined, low word first. -/
theorem foldr_two_words (f : Nat → Nat) (b x y : Nat) : [x, y].foldr (fun a v => f a + v * b) 0 = f x + f y * b := by
  rw [List.foldr_cons, List.foldr_cons, List.foldr_nil, Nat.zero_mul, Nat.add_zero]

theorem readData_page32 (s : State) (o : Fin 17) {off v : Nat} (h : off < 0x80000) (hv : s.regRead o.val off = some v) :
    s.readData (o.val * 0x80000 + off) false = BitVec.ofNat 64 v := by
  unfold State.readData
  rw [show (o.val * 0x80000 + off) / 0x80000 = o.val by omega, show (o.val * 0x80000 + off) % 0x80000 = off by omega]
  simp [accessOffs, hv]

theorem readData_page64 (s : State) (o : Fin 17) {off v v' : Nat} (h : off < 0x80000) (hv : s.regRead o.val off = some v)
    (hv' : s.regRead o.val (off + 4) = some v') : s.readData (o.val * 0x80000 + off) true = BitVec.ofNat 64 (v + v' * 2 ^ 32) := by
  have hd : v = (s.regRead o.val off).getD 0 := by rw [hv, Option.getD_some]
  have hd' : v' = (s.regRead o.val (off + 4)).getD 0 := by rw [hv', Option.getD_some]
  unfold State.readData
  rw [show (o.val * 0x80000 + off) / 0x80000 = o.val by omega, show (o.val * 0x80000 + off) % 0x80000 = off by omega,
    show accessOffs off true = [off, off + 4] from rfl, foldr_two_words (fun a => (s.regRead o.val a).getD 0), ← hd, ← hd']

/-! ## 32-bit writes -/

/-- A 32-bit write of an assigned word outside the command aperture and what follows it (R516). -/
theorem page_write32 {s : State} (hp : s.dev.phase ≠ .held) (id : BitVec 8) (o : Fin 17) (off : Nat) (w : W32) (h4 : off % 4 = 0)
    (h : off < 0x30000 ∨ 0x32018 ≤ off ∧ off < 0x80000) (hr : (s.hostAccess.regRead o.val off).isSome = true) :
    exec (.registerWrite ⟨id, true, BitVec.ofNat 24 (o.val * 0x80000 + off)⟩ false 0x0F (w.setWidth 64)) s =
      .next ((s.hostAccess.regWrite o.val off w).respond id 0 0) := by
  have he : s.hostAccess.rspErr (o.val * 0x80000 + off) true false 0x0F = 0 := by
    refine rspErr_page _ o (by omega) ?_ (fun a ha => ?_) fun _ => .inr (by omega)
    · simp [accepted, h4]
    · rw [List.mem_singleton.mp ha]
      exact hr
  have hw : BitVec.ofNat 32 (w.setWidth 64).toNat = w := by
    apply BitVec.eq_of_toNat_eq
    simp [w.isLt]
  rw [page_write hp id o false _ _ (by omega) he]
  unfold State.writeAt accessWords
  dsimp only
  rw [if_neg (by simp; omega), hw]
  rfl

/-! ## 64-bit accesses and reads -/

theorem page_write64 {s : State} (hp : s.dev.phase ≠ .held) (id : BitVec 8) (o : Fin 17) {off : Nat} (data : W64) (h8 : off % 8 = 0)
    (h : off < 0x80000) (hbuf : off < 0x30000 ∨ 0x31000 ≤ off) (hlo : (s.hostAccess.regRead o.val off).isSome = true)
    (hhi : (s.hostAccess.regRead o.val (off + 4)).isSome = true) :
    exec (.registerWrite ⟨id, true, BitVec.ofNat 24 (o.val * 0x80000 + off)⟩ true 0xFF data) s =
      .next (((s.hostAccess.regWrite o.val off (data.setWidth 32)).regWrite o.val (off + 4) ((data >>> 32).setWidth 32)).respond id 0 0) := by
  have he : s.hostAccess.rspErr (o.val * 0x80000 + off) true true 0xFF = 0 := by
    refine rspErr_page _ o h (by simp [accepted, h8]) (fun a ha => ?_) fun _ => .inl rfl
    rcases List.mem_pair.mp ha with rfl | rfl
    · exact hlo
    · exact hhi
  have hw : BitVec.ofNat 32 data.toNat = data.setWidth 32 := by
    apply BitVec.eq_of_toNat_eq
    simp
  have hw' : BitVec.ofNat 32 (data.toNat / 2 ^ 32) = (data >>> 32).setWidth 32 := by
    apply BitVec.eq_of_toNat_eq
    simp [Nat.shiftRight_eq_div_pow]
  rw [page_write hp id o true _ _ h he]
  unfold State.writeAt accessWords
  dsimp only
  rw [if_neg (by simp; omega), if_pos rfl, hw, hw']
  rfl

theorem page_read32 {s : State} (hp : s.dev.phase ≠ .held) (id : BitVec 8) (o : Fin 17) {off v : Nat} (strb : BitVec 8) (data : W64)
    (h4 : off % 4 = 0) (h : off < 0x80000) (hne : off ≠ 0x1010) (hv : s.hostAccess.regRead o.val off = some v) :
    exec (.registerWrite ⟨id, false, BitVec.ofNat 24 (o.val * 0x80000 + off)⟩ false strb data) s =
      .next (s.hostAccess.respond id 0 (BitVec.ofNat 64 v)) := by
  have he : s.hostAccess.rspErr (o.val * 0x80000 + off) false false strb = 0 := by
    refine rspErr_page _ o h (by simp [accepted, h4]) (fun a ha => ?_) fun hf => nomatch hf
    rw [List.mem_singleton.mp ha, hv]
    rfl
  rw [page_read hp id o false strb data h he]
  dsimp only
  rw [if_neg hne, readData_page32 _ o h hv]

theorem page_read64 {s : State} (hp : s.dev.phase ≠ .held) (id : BitVec 8) (o : Fin 17) {off v v' : Nat} (strb : BitVec 8) (data : W64)
    (h8 : off % 8 = 0) (h : off < 0x80000) (hne : off ≠ 0x1010) (hv : s.hostAccess.regRead o.val off = some v)
    (hv' : s.hostAccess.regRead o.val (off + 4) = some v') :
    exec (.registerWrite ⟨id, false, BitVec.ofNat 24 (o.val * 0x80000 + off)⟩ true strb data) s =
      .next (s.hostAccess.respond id 0 (BitVec.ofNat 64 (v + v' * 2 ^ 32))) := by
  have he : s.hostAccess.rspErr (o.val * 0x80000 + off) false true strb = 0 := by
    refine rspErr_page _ o h (by simp [accepted, h8]) (fun a ha => ?_) fun hf => nomatch hf
    rcases List.mem_pair.mp ha with rfl | rfl
    · rw [hv]
      rfl
    · rw [hv']
      rfl
  rw [page_read hp id o true strb data h he]
  dsimp only
  rw [if_neg hne, readData_page64 _ o h hv hv']

/-- The two words of a 64-bit value. -/
theorem ofNat_two_words (x : Nat) : BitVec.ofNat 64 (x % 2 ^ 64 % 2 ^ 32 + x % 2 ^ 64 / 2 ^ 32 % 2 ^ 32 * 2 ^ 32) = BitVec.ofNat 64 x := by
  apply BitVec.eq_of_toNat_eq
  simp only [BitVec.toNat_ofNat]
  omega

/-- The two words of CVT_LATCH_LO (R522). -/
theorem regRead_latch (s : State) (o : Nat) : s.regRead o 0x1010 = some ((s.latch o).cvt.toNat % 2 ^ 64 % 2 ^ 32) ∧
    s.regRead o 0x1014 = some ((s.latch o).cvt.toNat % 2 ^ 64 / 2 ^ 32 % 2 ^ 32) := by
  unfold State.regRead
  constructor <;> simp

theorem page_readLatch {s : State} (hp : s.dev.phase ≠ .held) (id : BitVec 8) (o : Fin 17) (strb : BitVec 8) (data : W64) :
    exec (.registerWrite ⟨id, false, BitVec.ofNat 24 (o.val * 0x80000 + 0x1010)⟩ true strb data) s =
      .next ((s.hostAccess.latchCvt o.val 0).respond id 0 (BitVec.ofNat 64 ((s.hostAccess.latchCvt o.val 0).latch o.val).cvt.toNat)) := by
  obtain ⟨hlo, hhi⟩ := regRead_latch s.hostAccess o.val
  have he : s.hostAccess.rspErr (o.val * 0x80000 + 0x1010) false true strb = 0 := by
    refine rspErr_page _ o (by decide) rfl (fun a ha => ?_) fun hf => nomatch hf
    rcases List.mem_pair.mp ha with rfl | rfl
    · rw [hlo]
      rfl
    · exact hhi ▸ rfl
  rw [page_read hp id o true strb data (by decide) he]
  dsimp only
  obtain ⟨hlo, hhi⟩ := regRead_latch (s.hostAccess.latchCvt o.val 0) o.val
  rw [if_pos rfl, readData_page64 _ o (by decide) hlo hhi, ofNat_two_words]

/-! ## The registers of a page (R523, R529, R537) -/

section
variable (s : State) (o : Nat) (w : W32)

theorem regWrite_ovfProbe {k : Nat} (hk : k < 4) : s.regWrite o (0x2008 + 4 * k) w =
    { s with win := { s.win with ovfProbe := tset s.win.ovfProbe o (clearOf (tget s.win.ovfProbe o 0) k w) 0 } } := by
  unfold State.regWrite
  rw [if_neg (by omega), if_neg (by omega), if_pos (by simp; omega), show (0x2008 + 4 * k - 0x2008) / 4 = k by omega]

theorem regWrite_snapSet {k : Nat} (hk : k < 4) : s.regWrite o (0x4000 + 4 * k) w =
    s.setSnapWin o { s.snapWin o with set := setWordOf (s.snapWin o).set k w } := by
  unfold State.regWrite
  rw [if_neg (by omega), if_neg (by omega), if_neg (by simp; omega), if_pos (by simp; omega), show (0x4000 + 4 * k - 0x4000) / 4 = k by omega]

theorem regWrite_eccOvf {k : Nat} (hk : k < 2) : s.regWrite hm (0x41400 + 4 * k) w =
    { s with win := { s.win with eccOvf := clearOf s.win.eccOvf k w } } := by
  obtain rfl | rfl : k = 0 ∨ k = 1 := by omega
  · rfl
  · rfl

theorem regWrite_cbtLo {k : Nat} (hk : k < 2) : s.regWrite hm (0x42008 + 4 * k) w =
    { s with ecc := { s.ecc with cbt := { s.ecc.cbt with lo := setWordOf s.ecc.cbt.lo k w } } } := by
  obtain rfl | rfl : k = 0 ∨ k = 1 := by omega
  · rfl
  · rfl

theorem regWrite_cbtHi {k : Nat} (hk : k < 2) : s.regWrite hm (0x42010 + 4 * k) w =
    { s with ecc := { s.ecc with cbt := { s.ecc.cbt with hi := setWordOf s.ecc.cbt.hi k w } } } := by
  obtain rfl | rfl : k = 0 ∨ k = 1 := by omega
  · rfl
  · rfl

theorem regRead_irq : (s.regRead o 0x2000).isSome = true ∧ (s.regRead o 0x2004).isSome = true := by
  constructor <;> simp [State.regRead]

theorem regRead_ovfProbe {k : Nat} (hk : k < 4) : (s.regRead o (0x2008 + 4 * k)).isSome = true := by
  unfold State.regRead
  interval_cases k <;> simp

theorem regRead_snapSet {k : Nat} (hk : k < 4) : (s.regRead o (0x4000 + 4 * k)).isSome = true := by
  unfold State.regRead
  interval_cases k <;> simp

theorem regRead_eccOvf {k : Nat} (hk : k < 2) : (s.regRead hm (0x41400 + 4 * k)).isSome = true := by
  unfold State.regRead State.hmWord
  interval_cases k <;> simp

/-- The words of the check-bit test port that may be written (R537). -/
theorem regRead_cbt {off : Nat} (h : off ∈ [0x42000, 0x42008, 0x4200C, 0x42010, 0x42014, 0x42018]) : (s.regRead hm off).isSome = true := by
  unfold State.regRead State.hmWord
  simp only [List.mem_cons, List.not_mem_nil, or_false] at h
  rcases h with rfl | rfl | rfl | rfl | rfl | rfl <;> simp

end

/-! ## The obligation -/

/-- Settles O14: an access by what it is answered, a page's word by the register that stands there. -/
theorem registerWrites : Obligations.RegisterWrites := by
  intro id s hp q
  refine ⟨fun addr wr size64 strb data ha => registerWrite_faulty hp _ size64 strb data ?_ (by decide),
    fun addr wr size64 strb data ha hu => registerWrite_faulty hp _ size64 strb data ?_ (by decide), fun o w => ?_⟩
  · unfold State.rspErr
    dsimp only
    rw [if_pos (by simp [ha])]
  · unfold State.rspErr
    dsimp only
    rw [if_neg (by simp [ha]), if_pos]
    rcases hu with h | ⟨a, hmem, hnone⟩
    · simp only [Bool.or_eq_true, decide_eq_true_eq]
      omega
    · simp only [Bool.or_eq_true, List.any_eq_true]
      exact .inr ⟨a, hmem, by rw [hnone]; rfl⟩
  have write : ∀ (off : Nat), off % 4 = 0 → off < 0x30000 ∨ 0x32018 ≤ off ∧ off < 0x80000 → (q.regRead o.val off).isSome = true →
      exec (.registerWrite ⟨id, true, BitVec.ofNat 24 (o.val * 0x80000 + off)⟩ false 0x0F (w.setWidth 64)) s =
        .next ((q.regWrite o.val off w).respond id 0 0) := fun off h4 h hr => page_write32 hp id o off w h4 h hr
  dsimp only
  refine ⟨?_, ?_, fun k hk => ?_, fun k hk => ?_, fun ho => ?_, ?_, ?_, ?_, ?_⟩
  · rw [write _ (by decide) (by decide) (regRead_irq q o.val).1]
    rfl
  · rw [write _ (by decide) (by decide) (regRead_irq q o.val).2]
    rfl
  · rw [write _ (by omega) (by omega) (regRead_ovfProbe q o.val hk), regWrite_ovfProbe q o.val w hk]
    rfl
  · rw [write _ (by omega) (by omega) (regRead_snapSet q o.val hk), regWrite_snapSet q o.val w hk]
    rfl
  · have cbt : ∀ off ∈ [0x42000, 0x42008, 0x4200C, 0x42010, 0x42014, 0x42018], (q.regRead o.val off).isSome = true :=
      fun off h => ho.symm ▸ regRead_cbt q h
    refine ⟨fun k hk => ?_, ?_, fun k hk => ?_, fun k hk => ?_, ?_⟩
    · rw [write _ (by omega) (by omega) (ho.symm ▸ regRead_eccOvf q hk), ho, regWrite_eccOvf q w hk]
      rfl
    · rw [write _ (by decide) (by decide) (cbt _ (by simp)), ho]
      rfl
    · rw [write _ (by omega) (by omega) (cbt _ (by interval_cases k <;> simp)), ho, regWrite_cbtLo q w hk]
      rfl
    · rw [write _ (by omega) (by omega) (cbt _ (by interval_cases k <;> simp)), ho, regWrite_cbtHi q w hk]
      rfl
    · rw [write _ (by decide) (by decide) (cbt _ (by simp)), ho]
      rfl
  · intro off data h8 h hbuf hlo hhi
    exact page_write64 hp id o data h8 h hbuf hlo hhi
  · intro off strb data v h4 h hne hv
    exact page_read32 hp id o strb data h4 h hne hv
  · intro off strb data v v' h8 h hne hv hv'
    exact page_read64 hp id o strb data h8 h hne hv hv'
  · intro strb data
    exact page_readLatch hp id o strb data

end Sys2Proof.Machine
end

section
/-! SUPPORT. The time input and its servo (R106 to R118): what a servo run writes of the time unit, and the PI loop on one
sample. -/

namespace Sys2Proof.Machine

/-! ## The time state and the rate (R118, R119) -/

/-- A change of the time state writes the state, what counts towards the next one, and the fault of DETACHED. -/
theorem setTState_proj {α : Type} (π : State → α)
    (h : ∀ (s : State) st agree lock far owe fc canal, π { s with
      time := { s.time with st := st, agree := agree, lockRun := lock, farRuns := far, oweStatus := owe }, fc := fc, canal := canal } = π s)
    (s : State) (st : TState) : π (s.setTState st) = π s := by
  have hfault : ∀ (u : State) fc, π { u with fc := fc } = π u := fun u fc =>
    h u u.time.st u.time.agree u.time.lockRun u.time.farRuns u.time.oweStatus fc u.canal
  have hcanal : ∀ (u : State) c, π { u with canal := c } = π u := fun u c =>
    h u u.time.st u.time.agree u.time.lockRun u.time.farRuns u.time.oweStatus u.fc c
  have hshow : ∀ u : State, π u.showState = π u := fun u =>
    ((syncOf_canal _ _).proj π hcanal).trans (h u u.time.st u.time.agree u.time.lockRun u.time.farRuns true u.fc u.canal)
  unfold State.setTState
  extract_lets old _ u v
  have hu : π u = π s := h s st [] 0 0 s.time.oweStatus s.fc s.canal
  have hv : π v = π s := (proj_of_ite π (hfault u _) (hfault u _)).trans hu
  exact proj_of_ite π rfl (proj_of_ite π hv ((hshow v).trans hv))

theorem showState_time (s : State) : s.showState.time = { s.time with oweStatus := true } :=
  (syncOf_canal ({ s with time := { s.time with oweStatus := true } }) blockSources).proj State.time fun _ _ => rfl

theorem setTState_st {s : State} {st : TState} (h : s.time.st ≠ st) : (s.setTState st).time.st = st := by
  unfold State.setTState
  rw [if_neg h]
  extract_lets old _ u v
  have hv : v.time.st = st := proj_of_ite (fun t : State => t.time.st) rfl rfl
  exact proj_of_ite (fun t : State => t.time.st) hv ((congrArg TimeU.st (showState_time v)).trans hv)

/-- A change to another state than DETACHED ends its fault. -/
theorem setTState_fc {s : State} {st : TState} (h : s.time.st ≠ st) (hd : st ≠ .detached) :
    (s.setTState st).fc = (s.setPersist 0x301 0 false).fc := by
  unfold State.setTState
  rw [if_neg h]
  extract_lets old _ u v
  have hv : v.fc = (u.setPersist 0x301 0 false).fc := congrArg State.fc (if_neg hd)
  refine proj_of_ite State.fc hv (Eq.trans ?_ hv)
  exact (syncOf_canal ({ v with time := { v.time with oweStatus := true } }) blockSources).fc

theorem persisting_setPersist_other {c u c' u' : Nat} (s : State) (on : Bool) (h : fKey c' u' ≠ fKey c u) :
    (s.setPersist c u on).persisting c' u' = s.persisting c' u' := by
  cases on
  · simp [State.persisting, State.setPersist, h]
  · unfold State.persisting State.setPersist
    by_cases hk : fKey c u ∈ s.fc.persist
    · simp [hk]
    · simp [hk, h]

/-- HOLDOVER holds f, ends the slew term and notes the bound and its instant (R118, R120). -/
theorem enterHoldover_time {s : State} (h : s.time.st ≠ .holdover) : s.enterHoldover.time.inputLost = s.time.inputLost ∧
    s.enterHoldover.time.f = s.time.f ∧ s.enterHoldover.time.sl = 0 ∧ s.enterHoldover.time.holdBound = s.boundNow ∧
    s.enterHoldover.time.holdAt = s.now ∧ s.enterHoldover.time.st = .holdover ∧ s.enterHoldover.fc = (s.setPersist 0x301 0 false).fc := by
  unfold State.enterHoldover
  dsimp only
  generalize hu : State.setRate _ _ 0 = u
  have keep : ∀ {α : Type} (π : TimeU → α), (∀ (t : TimeU) st agree lock far owe,
      π { t with st := st, agree := agree, lockRun := lock, farRuns := far, oweStatus := owe } = π t) → π (u.setTState .holdover).time = π u.time :=
    fun π hπ => setTState_proj (fun t : State => π t.time) (fun t st agree lock far owe _ _ => hπ t.time st agree lock far owe) u _
  have hst : u.time.st ≠ .holdover := hu ▸ h
  refine ⟨?_, ?_, ?_, ?_, ?_, setTState_st hst, (setTState_fc hst (by decide)).trans (hu ▸ rfl)⟩
  · rw [keep TimeU.inputLost fun _ _ _ _ _ _ => rfl, ← hu]
    rfl
  · rw [keep TimeU.f fun _ _ _ _ _ _ => rfl, ← hu]
    rfl
  · rw [keep TimeU.sl fun _ _ _ _ _ _ => rfl, ← hu]
    rfl
  · rw [keep TimeU.holdBound fun _ _ _ _ _ _ => rfl, ← hu]
    rfl
  · rw [keep TimeU.holdAt fun _ _ _ _ _ _ => rfl, ← hu]
    rfl

/-! ## What a servo run holds (R108) -/

/-- The time of the last run, the samples held, and CVT. -/
def State.servoIn (s : State) : Nat × List Sample × Option Sample × Nat := (s.time.lastServoAt, s.time.ring, s.time.latch, s.time.cvt)

theorem setTState_servoIn (s : State) (st : TState) : (s.setTState st).servoIn = s.servoIn := setTState_proj State.servoIn (fun _ _ _ _ _ _ _ _ => rfl) s st

theorem exhaust_servoIn (s : State) : s.exhaust.servoIn = s.servoIn := by
  unfold State.exhaust
  exact proj_of_ite State.servoIn rfl rfl

theorem slewBy_servoIn (s : State) (d : Rat) (slew ns : Rat) : (s.slewBy d slew ns).servoIn = s.servoIn := setTState_servoIn _ _

theorem detach_servoIn (s : State) : s.detach.servoIn = s.servoIn := by
  unfold State.detach
  extract_lets _ u v _
  have hu : u.servoIn = s.servoIn := proj_of_ite State.servoIn (exhaust_servoIn _) rfl
  exact (setTState_servoIn _ _).trans hu

theorem decideStep_servoIn (s : State) (d : Int) (slew : Rat) (cause : Nat) (re : Bool) (ns : Rat) :
    (s.decideStep d slew cause re ns).servoIn = s.servoIn := by
  unfold State.decideStep
  extract_lets u _ v req _ w
  have hv : v.servoIn = s.servoIn := by
    refine proj_of_ite State.servoIn ?_ (exhaust_servoIn s)
    split
    · exact exhaust_servoIn s
    · exact exhaust_servoIn s
  exact proj_of_ite State.servoIn (proj_of_ite State.servoIn ((slewBy_servoIn ..).trans hv) ((detach_servoIn v).trans hv)) (setTState_servoIn _ _)

theorem jump_servoIn (s : State) (d : Int) (slew ns : Rat) : (s.jump d slew ns).servoIn = s.servoIn := by
  unfold State.jump
  exact proj_of_ite _ (decideStep_servoIn ..) (proj_of_ite _ (slewBy_servoIn ..) (detach_servoIn s))

theorem pi_servoIn (s : State) (d : Rat) (slew ns : Rat) : (s.pi d slew ns).servoIn = s.servoIn := by
  unfold State.pi
  extract_lets t dn i f u v n _ w
  exact proj_of_ite State.servoIn (proj_of_ite State.servoIn (setTState_servoIn w .locked) rfl) rfl

theorem detachedSample_servoIn (s : State) (x : Sample) (d : Int) (ns : Rat) : (s.detachedSample x d ns).servoIn = s.servoIn := by
  unfold State.detachedSample
  extract_lets l l' _ u
  refine proj_of_ite _ rfl (proj_of_ite _ (decideStep_servoIn ..) (proj_of_ite _ (decideStep_servoIn ..) (proj_of_ite _ rfl ?_)))
  exact proj_of_ite _ (decideStep_servoIn ..) (proj_of_ite _ (slewBy_servoIn ..) rfl)

theorem servoSample_servoIn (a : State × Bool) (x : Sample) (re : Bool) (ns : Rat) : (State.servoSample a x re ns).1.servoIn = a.1.servoIn := by
  unfold State.servoSample
  extract_lets s adj d _ l l'
  refine proj_of_ite (fun b : State × Bool => b.1.servoIn) (decideStep_servoIn ..) ?_
  split
  · exact detachedSample_servoIn ..
  · exact jump_servoIn ..
  · extract_lets
    refine proj_of_ite (fun b : State × Bool => b.1.servoIn) (jump_servoIn ..) ?_
    refine proj_of_ite (fun b : State × Bool => b.1.servoIn) ?_ (pi_servoIn ..)
    exact proj_of_ite (fun b : State × Bool => b.1.servoIn) (jump_servoIn ..) rfl

theorem servoBatch_servoIn (s : State) (b : List (Sample × Bool)) (ns : Rat) : (s.servoBatch b ns).servoIn = s.servoIn := by
  have hfold : ∀ (b : List (Sample × Bool)) (a : State × Bool), (b.foldl (fun a x => State.servoSample a x.1 x.2 ns) a).1.servoIn = a.1.servoIn :=
    fun b a => foldl_proj (fun a : State × Bool => a.1.servoIn) _ (fun a x => servoSample_servoIn a x.1 x.2 ns) b a
  unfold State.servoBatch
  exact proj_of_ite State.servoIn (hfold b (s, false)) (hfold b (s, false))

theorem servoFar_servoIn (s : State) (b : List (Sample × Bool)) : (s.servoFar b).servoIn = s.servoIn := by
  unfold State.servoFar
  extract_lets far n _ u
  exact proj_of_ite State.servoIn rfl (proj_of_ite State.servoIn (setTState_servoIn u .slewing) rfl)

theorem mapDetached_canal (s : State) : CanalOnly s s.mapDetached := by
  unfold State.mapDetached
  refine .ite _ ?_ .rfl
  split
  · exact emit_canal ..
  · exact .rfl

/-! ## One sample on a SLEWING lead (R108 to R110) -/

/-- What the PI loop leaves of one sample: the integral, the correction, the slew term, the last offset and the bound. -/
def State.servoOut (s : State) : Rat × Rat × Rat × Option (Rat × Rat) × BitVec 22 :=
  (s.time.integral, s.time.f, s.time.sl, s.time.dLast, s.time.bound)

theorem setTState_servoOut (s : State) (st : TState) : (s.setTState st).servoOut = s.servoOut :=
  setTState_proj State.servoOut (fun _ _ _ _ _ _ _ _ => rfl) s st

theorem pi_servoOut (s : State) (d slew ns : Rat) : (s.pi d slew ns).servoOut =
    let i := s.time.integral + fp32Rat s.time.ki * (d / 4)
    (i, clampRat (-(500 / 1000000)) (500 / 1000000) (s.time.f + i / ns), fp32Rat s.time.kp * (d / 4) / ns, some (d, slew), boundOf d) := by
  unfold State.pi
  extract_lets t dn i f u v n _ w
  exact proj_of_ite State.servoOut (proj_of_ite State.servoOut (setTState_servoOut w .locked) rfl) rfl

theorem servoFar_servoOut (s : State) (b : List (Sample × Bool)) : (s.servoFar b).servoOut = s.servoOut := by
  unfold State.servoFar
  extract_lets far n _ u
  exact proj_of_ite State.servoOut rfl (proj_of_ite State.servoOut (setTState_servoOut u .slewing) rfl)

/-- A plain sample in SLEWING, no step being decided, goes to the PI loop. -/
theorem servoSample_slewing {s : State} (x : Sample) (ns : Rat) (hst : s.time.st = .slewing) (hno : s.time.step = none) (hx : x.step = false) :
    (State.servoSample (s, false) x false ns).1 = ({ s with time := { s.time with agree := [] } }).pi
      ((((x.sec.toNat * 1000000000 + x.ns.toNat : Nat) : Int) * 4 - x.cap : Int) : Rat) x.slew ns := by
  unfold State.servoSample
  dsimp only
  rw [hno, hst, hx]
  dsimp only
  rw [if_neg (by decide), if_neg (by decide), Int.sub_zero, if_neg]
  cases s.time.dLast <;> simp

theorem servoBatch_one (s : State) (x : Sample) (ns : Rat) :
    (s.servoBatch [(x, false)] ns).servoOut = (State.servoSample (s, false) x false ns).1.servoOut := by
  unfold State.servoBatch
  dsimp only [List.foldl_cons, List.foldl_nil]
  generalize State.servoSample (s, false) x false ns = a
  exact proj_of_ite State.servoOut rfl rfl

theorem boundOf_int (d : Int) : boundOf (d : Rat) = BitVec.ofNat 22 (min 0x3FFFFF d.natAbs) := by
  have habs : ratAbs (d : Rat) = ((d.natAbs : Int) : Rat) := by
    unfold ratAbs
    split
    · next h =>
      have hd : d < 0 := by exact_mod_cast h
      rw [show (d.natAbs : Int) = -d by omega]
      push_cast
      rfl
    · next h =>
      have hd : ¬ d < 0 := by exact_mod_cast h
      rw [show (d.natAbs : Int) = d by omega]
  unfold boundOf
  rw [habs, Rat.ceil_intCast]
  rfl

/-! ## The obligation -/

/-- A servo run that is due (R108). -/
theorem exec_servoRun {s : State} (hk : s.keeperRuns = true) (ht : s.time.lastServoAt + s.time.period * 1000 ≤ s.now) :
    exec .servoRun s = .next (
      let u := { s with time := { s.time with lastServoAt := s.now, ring := [], latch := none } }
      if s.ident.chip ≠ (0 : BitVec 2) then if u.leadGone then u.mapDetached else u
      else ((u.servoBatch s.time.batch ((s.time.period * 1000 : Nat) : Rat)).servoFar s.time.batch).mapDetached) := by
  change execServoRun s = _
  unfold execServoRun
  rw [if_neg (by simp [hk]; omega)]
  dsimp only
  split <;> rfl

/-- A servo run empties what it holds, and CVT is as before. -/
theorem servoRun_servoIn {s : State} (hk : s.keeperRuns = true) (ht : s.time.lastServoAt + s.time.period * 1000 ≤ s.now) :
    ∃ t, exec .servoRun s = .next t ∧ t.servoIn = (s.now, [], none, s.time.cvt) := by
  refine ⟨_, exec_servoRun hk ht, ?_⟩
  dsimp only
  generalize hu : ({ s with time := { s.time with lastServoAt := s.now, ring := [], latch := none } } : State) = u
  have hin : u.servoIn = (s.now, [], none, s.time.cvt) := hu ▸ rfl
  refine proj_of_ite State.servoIn (proj_of_ite State.servoIn ?_ hin) ?_
  · exact ((mapDetached_canal u).proj State.servoIn fun _ _ => rfl).trans hin
  · rw [(mapDetached_canal _).proj State.servoIn fun _ _ => rfl, servoFar_servoIn, servoBatch_servoIn, hin]

/-- A servo run of a SLEWING lead with one plain sample is one pass of the PI loop (R108 to R110). -/
theorem servoRun_servoOut {s t : State} {x : Sample} (hk : s.keeperRuns = true) (ht : s.time.lastServoAt + s.time.period * 1000 ≤ s.now)
    (he : exec .servoRun s = .next t) (hc : s.ident.chip = 0) (hst : s.time.st = .slewing) (hno : s.time.step = none)
    (hring : s.time.ring = [x]) (hlatch : s.time.latch = none) (hx : x.step = false) : t.servoOut =
      let d : Int := ((x.sec.toNat * 1000000000 + x.ns.toNat : Nat) : Int) * 4 - x.cap
      let ns : Rat := ((s.time.period * 1000 : Nat) : Rat)
      let i := s.time.integral + fp32Rat s.time.ki * ((d : Rat) / 4)
      (i, clampRat (-(500 / 1000000)) (500 / 1000000) (s.time.f + i / ns), fp32Rat s.time.kp * ((d : Rat) / 4) / ns, some ((d : Rat), x.slew),
        BitVec.ofNat 22 (min 0x3FFFFF d.natAbs)) := by
  have hbatch : s.time.batch = [(x, false)] := by
    unfold TimeU.batch
    rw [hlatch, hring]
    rfl
  rw [exec_servoRun hk ht, hbatch, if_neg (not_not.mpr hc)] at he
  cases he
  rw [(mapDetached_canal _).proj State.servoOut fun _ _ => rfl, servoFar_servoOut]
  rw [servoBatch_one]
  generalize hu : ({ s with time := { s.time with lastServoAt := s.now, ring := [], latch := none } } : State) = u
  have hst' : u.time.st = .slewing := hu ▸ hst
  have hno' : u.time.step = none := hu ▸ hno
  rw [servoSample_slewing x _ hst' hno' hx, pi_servoOut, boundOf_int, ← hu]

/-- The loss of the time input on an awake lead that follows it (R118). -/
theorem exec_timeInputLost {s : State} (hc : s.ident.chip = 0) (hin : s.time.inputLost = false) (ht : s.time.lastTinAt + 250000000 ≤ s.now)
    (hst : s.time.st = .locked ∨ s.time.st = .slewing) (ha : s.asleep = false) : exec .timeInputLost s = .next
      ((({ s with time := { s.time with inputLost := true } }).raise 0x303 0 0).setPersist 0x303 0 true).enterHoldover := by
  change execTimeInputLost s = _
  unfold execTimeInputLost
  rw [if_neg]
  · exact congrArg _ (if_neg (show ¬ s.asleep = true by rw [ha]; decide))
  · rcases hst with hst | hst <;> simp [hc, hin, hst] <;> omega

/-- Settles O32: a sample held, a servo run by what it holds and what the PI loop leaves, and the loss of the input. -/
theorem timeInputCommands : Obligations.TimeInputCommands := by
  refine ⟨?sample, ?run, ?lost⟩
  case sample =>
    intro sec ns step phase s x re
    have hre : (s.time.latch.isNone && s.time.reanchor.isSome && !s.time.reanchorLatched && !s.time.reanchorStep) = true ↔ re := by
      simp [re, and_assoc]
    refine ⟨_, rfl, rfl, ?_, rfl, rfl, rfl, fun l hl => ?_, fun hl h => ?_, fun hl hn h => ?_, fun h => ?_⟩
    · rw [List.length_append]
      rfl
    · dsimp only
      rw [hl]
    · rw [hl] at hre
      dsimp only
      rw [hl]
      dsimp only
      rw [if_pos]
      rcases h with h | h
      · rw [hre.mpr h, Bool.true_or]
      · rw [h, Bool.or_true]
    · rw [hl] at hre
      dsimp only
      rw [hl]
      dsimp only
      rw [if_neg]
      rw [h, Bool.or_false]
      exact fun e => hn (hre.mp e)
    · dsimp only
      rw [hre.mpr h, Bool.or_true]
  case run =>
    intro s hk ht
    obtain ⟨t, he, hin⟩ := servoRun_servoIn hk ht
    simp only [State.servoIn, Prod.mk.injEq] at hin
    obtain ⟨hat, hring, hlatch, hcvt⟩ := hin
    refine ⟨t, he, hat, hring, hlatch, hcvt, fun x hc hst hno hr hl hx => ?_⟩
    have hout := servoRun_servoOut hk ht he hc hst hno hr hl hx
    simp only [State.servoOut, Prod.mk.injEq] at hout
    exact hout
  case lost =>
    intro s hc hin ht hst ha
    have hne : s.time.st ≠ .holdover := by rcases hst with h | h <;> rw [h] <;> decide
    obtain ⟨hlost, hf, hsl, hbound, hat, hstate, hfc⟩ := enterHoldover_time
      (s := (({ s with time := { s.time with inputLost := true } }).raise 0x303 0 0).setPersist 0x303 0 true) hne
    refine ⟨_, exec_timeInputLost hc hin ht hst ha, hlost, hstate, hf, hsl, hbound, hat, ?_, congrArg Fc.pend hfc⟩
    refine (congrArg (fun c : Fc => c.persist.contains (fKey 0x303 0)) hfc).trans ?_
    exact (persisting_setPersist_other _ false (by decide)).trans (persisting_setPersist ..)

end Sys2Proof.Machine
end

section
/-! SUPPORT. The Convoy link: its lanes, the frames that cross it, and the follower's runs (R127 to R132, R425 to R429). -/

namespace Sys2Proof.Machine

/-! ## Peers and lanes -/

/-- A peer with one of its lanes changed. -/
def Peer.modLane (p : Peer) (b : Bool) (f : Lane → Lane) : Peer := if b then { p with b := f p.b } else { p with a := f p.a }

section
variable (p : Peer) (b : Bool) (f : Lane → Lane)

@[simp] theorem Peer.modLane_lane : (p.modLane b f).lane b = f (p.lane b) := by cases b <;> rfl
@[simp] theorem Peer.modLane_lane_not : (p.modLane b f).lane (!b) = p.lane (!b) := by cases b <;> rfl
@[simp] theorem Peer.modLane_active : (p.modLane b f).active = p.active := by cases b <;> rfl
@[simp] theorem Peer.modLane_sealMode : (p.modLane b f).sealMode = p.sealMode := by cases b <;> rfl
@[simp] theorem Peer.modLane_asleep : (p.modLane b f).asleep = p.asleep := by cases b <;> rfl
@[simp] theorem Peer.modLane_hello : (p.modLane b f).hello = p.hello := by cases b <;> rfl
@[simp] theorem Peer.modLane_sentNext : (p.modLane b f).sentNext = p.sentNext := by cases b <;> rfl
@[simp] theorem Peer.modLane_gotNext : (p.modLane b f).gotNext = p.gotNext := by cases b <;> rfl

end

section
variable (s : State) (j : Nat)

theorem modPeer_peer (f : Peer → Peer) : (s.modPeer j f).peer j = f (s.peer j) := State.setPeer_peer_same ..

theorem modLane_peer (b : Bool) (f : Lane → Lane) : (s.modLane j b f).peer j = (s.peer j).modLane b f := State.setPeer_peer_same ..

theorem modLane_lane (b : Bool) (f : Lane → Lane) : ((s.modLane j b f).peer j).lane b = f ((s.peer j).lane b) := by
  rw [modLane_peer, Peer.modLane_lane]

/-- What peers do not hold, a change of a peer leaves. -/
theorem modPeer_proj {α : Type} (π : State → α) (h : ∀ (s : State) ps, π { s with convoy := { s.convoy with peers := ps } } = π s)
    (f : Peer → Peer) : π (s.modPeer j f) = π s := h s _

theorem modLane_proj {α : Type} (π : State → α) (h : ∀ (s : State) ps, π { s with convoy := { s.convoy with peers := ps } } = π s)
    (b : Bool) (f : Lane → Lane) : π (s.modLane j b f) = π s := h s _

theorem setActive_peer (a : Nat) : (s.setActive j a).peer j = { s.peer j with
    active := a, a := { (s.peer j).a with sum := 0, count := 0, measFrom := none }, b := { (s.peer j).b with sum := 0, count := 0, measFrom := none } } :=
  State.setPeer_peer_same ..

/-! ## The state of the follower (R118, R120) -/

/-- What the time unit, the faults and the canal do not hold, a change of the time state leaves. -/
theorem setTState_outside {α : Type} (π : State → α)
    (h : ∀ (s : State) time fc canal, π { s with time := time, fc := fc, canal := canal } = π s) (st : TState) : π (s.setTState st) = π s :=
  setTState_proj π (fun u _ _ _ _ _ fc canal => h u _ fc canal) s st

theorem beUncertain_outside {α : Type} (π : State → α)
    (h : ∀ (s : State) time fc canal, π { s with time := time, fc := fc, canal := canal } = π s) (rtt : Rat) : π (s.beUncertain rtt) = π s :=
  (setTState_outside _ π h .uncertain).trans (h s _ s.fc s.canal)

/-- After a change of the active lane the time state and the bound may follow, and nothing else (R118, R120). -/
theorem checkLane_proj {α : Type} (π : State → α)
    (h : ∀ (s : State) bound st agree lock far owe fc canal, π { s with
      time := { s.time with bound := bound, st := st, agree := agree, lockRun := lock, farRuns := far, oweStatus := owe }, fc := fc, canal := canal } = π s) :
    π (s.checkLane j) = π s := by
  have hstate : ∀ (u : State) st, π (u.setTState st) = π u := fun u st =>
    setTState_proj π (fun v st agree lock far owe fc canal => h v v.time.bound st agree lock far owe fc canal) u st
  unfold State.checkLane
  dsimp only
  refine proj_of_ite π rfl (proj_of_ite π (proj_of_ite π rfl ?_) (proj_of_ite π (hstate ..) rfl))
  exact (hstate ..).trans (h s _ s.time.st s.time.agree s.time.lockRun s.time.farRuns s.time.oweStatus s.fc s.canal)

theorem checkLane_outside {α : Type} (π : State → α)
    (h : ∀ (s : State) time fc canal, π { s with time := time, fc := fc, canal := canal } = π s) : π (s.checkLane j) = π s :=
  checkLane_proj s j π fun u _ _ _ _ _ _ fc canal => h u _ fc canal

theorem enterHoldover_outside {α : Type} (π : State → α)
    (h : ∀ (s : State) time fc canal, π { s with time := time, fc := fc, canal := canal } = π s) : π s.enterHoldover = π s := by
  unfold State.enterHoldover
  extract_lets _ u
  exact (setTState_outside _ π h .holdover).trans ((h u _ u.fc u.canal).trans (h s _ s.fc s.canal))

theorem loseLink_outside {α : Type} (π : State → α)
    (h : ∀ (s : State) time fc canal split, π { s with time := time, fc := fc, canal := canal, convoy := { s.convoy with split := split } } = π s) :
    π (s.loseLink j) = π s := by
  have hfc : ∀ (u : State) fc, π { u with fc := fc } = π u := fun u fc => h u u.time fc u.canal u.convoy.split
  have hsplit : ∀ (u : State) split, π { u with convoy := { u.convoy with split := split } } = π u := fun u split => h u u.time u.fc u.canal split
  unfold State.loseLink
  extract_lets p u _
  have hu : π u = π s := (hfc (s.raise 0x307 j 0) _).trans (hfc s _)
  refine proj_of_ite π rfl (proj_of_ite π ?_ hu)
  exact (enterHoldover_outside _ π fun v time fc canal => h v time fc canal v.convoy.split).trans ((hsplit u _).trans hu)

/-! ## A lane goes down (R129) -/

/-- A lane but for the measurement of its constant, which ends with a change of the active lane (R130). -/
def Lane.unmeasured (x : Lane) : Lane := { x with sum := 0, count := 0, measFrom := none }

theorem setActive_lane (a : Nat) (b : Bool) : ((s.setActive j a).peer j).lane b = ((s.peer j).lane b).unmeasured := by
  rw [setActive_peer]
  cases b <;> rfl

theorem checkLane_peer (i : Nat) : (s.checkLane j).peer i = s.peer i := checkLane_outside s j (State.peer · i) fun _ _ _ _ => rfl

theorem loseLink_peer (i : Nat) : (s.loseLink j).peer i = s.peer i := loseLink_outside s j (State.peer · i) fun _ _ _ _ _ => rfl

/-- The lane is down, and another lane or none is the active one. -/
theorem laneDown_peer (b : Bool) : (((s.laneDown j b).peer j).lane b).unmeasured =
    ({ (s.peer j).lane b with up := false, fails := 0, opened := false } : Lane).unmeasured ∧
    ((s.laneDown j b).peer j).active ≠ (if b then 2 else 1) ∧ ((s.laneDown j b).peer j).hello = (s.peer j).hello := by
  unfold State.laneDown
  extract_lets u p me v
  have hu : p = (s.peer j).modLane b (fun l => { l with up := false, fails := 0, opened := false }) := modLane_peer ..
  have hlane : p.lane b = { (s.peer j).lane b with up := false, fails := 0, opened := false } := by rw [hu, Peer.modLane_lane]
  have hhello : p.hello = (s.peer j).hello := by rw [hu, Peer.modLane_hello]
  have hset : ∀ a, ((u.setActive j a).peer j).lane b = (p.lane b).unmeasured ∧ ((u.setActive j a).peer j).active = a ∧
      ((u.setActive j a).peer j).hello = p.hello := fun a => ⟨setActive_lane u j a b, by rw [setActive_peer], by rw [setActive_peer]⟩
  split
  · next h => exact ⟨congrArg Lane.unmeasured hlane, h, hhello⟩
  · split
    · obtain ⟨hl, ha, hh⟩ := hset (if b then 1 else 2)
      have hv : (if b then v else v.raise 0x306 (2 * j + 1) 0).peer j = v.peer j := proj_of_ite (State.peer · j) rfl rfl
      rw [checkLane_peer, hv, hl, ha, hh, hlane]
      exact ⟨rfl, by cases b <;> decide, hhello⟩
    · obtain ⟨hl, ha, hh⟩ := hset 0
      rw [loseLink_peer, hl, ha, hh, hlane]
      exact ⟨rfl, by cases b <;> decide, hhello⟩

/-! ## Frames (R425, R426, R429) -/

/-- A lane but for the counters of its frames and the last of them. -/
def Lane.timing (x : Lane) : Lane := { x with tx := 0, rx := 0, txNext := 0, rxNext := 0, armed := false, sent := none }

/-- A peer but for the frames of its lanes, the use of a NEXT key, and when it was heard. -/
def Peer.timing (p : Peer) : Peer :=
  { p with a := p.a.timing, b := p.b.timing, sentNext := false, gotNext := false, heard := 0, asleep := none }

theorem Peer.timing_lane {p q : Peer} (h : p.timing = q.timing) (b : Bool) : (p.lane b).timing = (q.lane b).timing := by
  cases b
  · exact congrArg Peer.a h
  · exact congrArg Peer.b h

theorem Peer.modLane_timing (p : Peer) (b : Bool) {f : Lane → Lane} (hf : ∀ l, (f l).timing = l.timing) : (p.modLane b f).timing = p.timing := by
  cases b
  · exact congrArg (fun x : Lane => ({ p with a := x, b := p.b.timing, sentNext := false, gotNext := false, heard := 0, asleep := none } : Peer)) (hf p.a)
  · exact congrArg (fun x : Lane => ({ p with a := p.a.timing, b := x, sentNext := false, gotNext := false, heard := 0, asleep := none } : Peer)) (hf p.b)

theorem modLane_timing (b : Bool) {f : Lane → Lane} (hf : ∀ l, (f l).timing = l.timing) : ((s.modLane j b f).peer j).timing = (s.peer j).timing := by
  rw [modLane_peer, Peer.modLane_timing _ _ hf]

/-- A switch of keys writes the peer and the key slots (R429). -/
theorem switchKey_proj {α : Type} (π : State → α)
    (h : ∀ (s : State) ps slots, π { s with convoy := { s.convoy with peers := ps }, chart := { s.chart with slots := slots } } = π s) :
    π (s.switchKey j) = π s := by
  have hslot : ∀ (u : State) i x, π (u.setKeySlot i x) = π u := fun u i x => h u u.convoy.peers _
  unfold State.switchKey
  extract_lets p u v
  have hu : π u = π s := by
    simp only [u]
    split
    · exact hslot ..
    · rfl
  have hv : π v = π u := by
    simp only [v]
    split
    · exact hslot ..
    · rfl
  exact proj_of_ite π rfl ((h v _ v.chart.slots).trans (hv.trans hu))

theorem switchKey_timing : ((s.switchKey j).peer j).timing = (s.peer j).timing := by
  unfold State.switchKey
  extract_lets p u v
  refine proj_of_ite (fun t : State => (t.peer j).timing) rfl ?_
  rw [State.setPeer_peer_same]
  rfl

theorem switchKey_unused (h : ¬ ((s.peer j).sentNext = true ∧ (s.peer j).gotNext = true)) : s.switchKey j = s := by
  unfold State.switchKey
  refine if_pos ?_
  rw [Bool.not_eq_true', Bool.and_eq_false_iff, ← Bool.not_eq_true, ← Bool.not_eq_true]
  exact not_and_or.mp h

theorem hear_timing : ((s.hear j).peer j).timing = (s.peer j).timing := by
  unfold State.hear
  rw [modPeer_peer]
  rfl

end

/-- An authentic frame on an open lane that is up (R426). -/
def State.takes (s : State) (fr : LinkFrame) : Prop :=
  s.connected fr.peer.val fr.lane = true ∧ s.linkOpen fr.peer.val = true ∧ ((s.peer fr.peer.val).lane fr.lane).up = true ∧
  fr.auth = true ∧ fr.phase = false

/-- The lane that has taken a frame under the CURRENT key. -/
def Lane.counted (l : Lane) (ctr : BitVec 32) : Lane := { l with armed := true, rx := fullCounter l.rx ctr + 1 }

/-- The state that has taken a frame (R426, R429, R131). -/
def State.taken (s : State) (fr : LinkFrame) : State :=
  ((s.modLane fr.peer.val fr.lane (fun l => { l with
    armed := true, rx := fullCounter ((s.peer fr.peer.val).lane fr.lane).rx fr.ctr + 1 })).switchKey fr.peer.val).hear fr.peer.val

section
variable {s : State} {fr : LinkFrame}

theorem acceptFrame_takes (hst : s.lk.st = .underway) (h : s.takes fr) : s.acceptFrame fr = (true, s.taken fr) := by
  obtain ⟨hconn, hopen, hup, hauth, hphase⟩ := h
  have hfast : s.fastClocks = true := by simp [State.fastClocks, hst]
  unfold State.acceptFrame
  dsimp only
  rw [if_neg (by simp [hfast, hconn, hopen, hup]), if_neg (by simp [hauth, hphase]), hphase]
  rfl

theorem acceptFrame_off (hst : s.lk.st ≠ .underway) : s.acceptFrame fr = (false, s) := by
  have hfast : s.fastClocks = false := by simp [State.fastClocks, hst]
  unfold State.acceptFrame
  dsimp only
  rw [if_pos (by simp [hfast])]

theorem taken_timing : ((s.taken fr).peer fr.peer.val).timing = (s.peer fr.peer.val).timing := by
  unfold State.taken
  rw [hear_timing, switchKey_timing]
  exact modLane_timing _ _ _ fun _ => rfl

theorem taken_proj {α : Type} (π : State → α)
    (h : ∀ (s : State) ps slots, π { s with convoy := { s.convoy with peers := ps }, chart := { s.chart with slots := slots } } = π s) :
    π (s.taken fr) = π s := by
  have hpeers : ∀ (u : State) ps, π { u with convoy := { u.convoy with peers := ps } } = π u := fun u ps => h u ps u.chart.slots
  unfold State.taken State.hear
  rw [modPeer_proj _ _ π hpeers, switchKey_proj _ _ π h, modLane_proj _ _ π hpeers]

/-- Where no NEXT key is in use both ways, no key switches. -/
theorem taken_linkKey (h : ¬ ((s.peer fr.peer.val).sentNext = true ∧ (s.peer fr.peer.val).gotNext = true)) (i : Nat) (next : Bool) :
    (s.taken fr).linkKey i next = s.linkKey i next := by
  unfold State.taken State.hear
  rw [switchKey_unused]
  · rfl
  · rw [modLane_peer, Peer.modLane_sentNext, Peer.modLane_gotNext]
    exact h

/-- Without a NEXT key in use both ways a frame taken counts, and no more. -/
theorem taken_lane (h : ¬ ((s.peer fr.peer.val).sentNext = true ∧ (s.peer fr.peer.val).gotNext = true)) :
    ((s.taken fr).peer fr.peer.val).lane fr.lane = ((s.peer fr.peer.val).lane fr.lane).counted fr.ctr := by
  unfold State.taken State.hear
  rw [switchKey_unused, modPeer_peer, modLane_peer]
  · exact Peer.modLane_lane ..
  · rw [modLane_peer, Peer.modLane_sentNext, Peer.modLane_gotNext]
    exact h

end

section
variable (s : State) (j : Nat) (b : Bool)

/-- The header and nonce of the frame that the lane sends next under the CURRENT key (R425). -/
def State.nextSent (s : State) (j : Nat) (b : Bool) : SentFrame :=
  ⟨false, s.chip, s.peerChip j, b, ((s.peer j).lane b).tx,
    if (s.peer j).sealMode then [] else convoyNonce s.chip (s.peerChip j) b ((s.peer j).lane b).tx⟩

/-- With no NEXT key a frame takes the lane's counter (R425, R426). -/
theorem sendFrame_current (hkey : s.linkKey j true = none) (hroom : ((s.peer j).lane b).tx + 1 < 2 ^ 64) :
    s.sendFrame j b = s.modLane j b (fun l => { l with sent := some (s.nextSent j b), tx := ((s.peer j).lane b).tx + 1 }) := by
  unfold State.sendFrame
  simp only [hkey, Option.isSome_none, Bool.and_false, Bool.false_and, Bool.false_eq_true, if_false]
  rw [if_neg (Nat.not_le.mpr hroom)]
  rfl

/-- A frame that is sent changes counters alone, or, where its counter would wrap, the lane stops (R426). -/
theorem sendFrame_peer : ((s.sendFrame j b).peer j).timing = (s.peer j).timing ∨
    (2 ^ 64 ≤ ((s.peer j).lane b).tx + 1 ∨ 2 ^ 64 ≤ ((s.peer j).lane b).txNext + 1) ∧ (((s.sendFrame j b).peer j).lane b).unmeasured =
      ({ (s.peer j).lane b with stopped := true, up := false, fails := 0, opened := false } : Lane).unmeasured := by
  unfold State.sendFrame
  extract_lets p next l n non u
  by_cases hn : 2 ^ 64 ≤ n + 1
  · right
    rw [if_pos hn]
    refine ⟨?_, ?_⟩
    · simp only [n] at hn
      split at hn
      · exact .inr hn
      · exact .inl hn
    · rw [(laneDown_peer ..).1, modLane_lane]
  · left
    rw [if_neg hn]
    have hu : (u.peer j).timing = (s.peer j).timing := by
      refine modLane_timing _ _ _ fun l => ?_
      dsimp only
      split <;> rfl
    refine proj_of_ite (fun t : State => (t.peer j).timing) ?_ hu
    rw [switchKey_timing, modPeer_peer]
    exact hu

theorem sendFrame_timing (hroom : ((s.peer j).lane b).tx + 1 < 2 ^ 64 ∧ ((s.peer j).lane b).txNext + 1 < 2 ^ 64) :
    ((s.sendFrame j b).peer j).timing = (s.peer j).timing := by
  refine (sendFrame_peer s j b).resolve_right fun ⟨hwrap, _⟩ => ?_
  exact hwrap.elim (Nat.not_le.mpr hroom.1) (Nat.not_le.mpr hroom.2)

/-- A lane whose exchange is over and counts no failure stays so when it sends. -/
theorem sendFrame_closed (ho : ((s.peer j).lane b).opened = false) (hf : ((s.peer j).lane b).fails = 0) :
    let l := ((s.sendFrame j b).peer j).lane b
    l.opened = false ∧ l.fails = 0 ∧ l.t2 = ((s.peer j).lane b).t2 ∧ l.t3 = ((s.peer j).lane b).t3 := by
  intro l
  rcases sendFrame_peer s j b with h | ⟨-, h⟩
  · have h := Peer.timing_lane h b
    have h2 := congrArg Lane.t2 h
    have h3 := congrArg Lane.t3 h
    exact ⟨(congrArg Lane.opened h).trans ho, (congrArg Lane.fails h).trans hf, h2, h3⟩
  · have h2 := congrArg Lane.t2 h
    have h3 := congrArg Lane.t3 h
    exact ⟨congrArg Lane.opened h, congrArg Lane.fails h, h2, h3⟩

end

/-! ## A run of the follower (R118, R127, R128, R134) -/

section
variable (s : State)

theorem pi_outside {α : Type} (π : State → α)
    (h : ∀ (s : State) time fc canal, π { s with time := time, fc := fc, canal := canal } = π s) (d slew ns : Rat) : π (s.pi d slew ns) = π s := by
  have htime : ∀ (u : State) time, π { u with time := time } = π u := fun u time => h u time u.fc u.canal
  unfold State.pi
  extract_lets t dn i f u v n _ w
  have hv : π v = π s := (htime u _).trans (htime s _)
  have hw : π w = π s := (htime v _).trans hv
  exact proj_of_ite π (proj_of_ite π ((setTState_outside w π h .locked).trans hw) hw) hv

theorem slewBy_outside {α : Type} (π : State → α)
    (h : ∀ (s : State) time fc canal, π { s with time := time, fc := fc, canal := canal } = π s) (d slew ns : Rat) : π (s.slewBy d slew ns) = π s := by
  have htime : ∀ (u : State) time, π { u with time := time } = π u := fun u time => h u time u.fc u.canal
  unfold State.slewBy
  extract_lets u _ v
  exact (setTState_outside v π h .slewing).trans ((htime u _).trans (htime s _))

theorem showState_outside {α : Type} (π : State → α)
    (h : ∀ (s : State) time fc canal, π { s with time := time, fc := fc, canal := canal } = π s) : π s.showState = π s :=
  ((syncOf_canal _ _).proj π fun u c => h u u.time u.fc c).trans (h s _ s.fc s.canal)

/-- A run of the follower leaves its peers as they are. -/
theorem rejoin_peer (j : Nat) (theta : Rat) (i : Nat) : (s.rejoin j theta).peer i = s.peer i := by
  have houter : ∀ (u : State) time fc canal, State.peer { u with time := time, fc := fc, canal := canal } i = u.peer i := fun _ _ _ _ => rfl
  unfold State.rejoin
  extract_lets d back u v w _ x
  refine proj_of_ite (State.peer · i) ?_ (proj_of_ite (State.peer · i) ?_ rfl)
  · rw [showState_outside _ (State.peer · i) houter, setTState_outside _ (State.peer · i) houter]
    rfl
  · rw [checkLane_peer, showState_outside _ (State.peer · i) houter, setTState_outside _ (State.peer · i) houter]
    rfl

theorem followState_outside {α : Type} (π : State → α)
    (h : ∀ (s : State) time fc canal, π { s with time := time, fc := fc, canal := canal } = π s) (d rtt : Rat) (cal : Bool) :
    π (s.followState d rtt cal) = π s := by
  unfold State.followState
  refine proj_of_ite π (beUncertain_outside s π h rtt) ?_
  split
  · exact setTState_outside s π h _
  · extract_lets n _ u
    have hu : π u = π s := h s _ s.fc s.canal
    exact proj_of_ite π ((setTState_outside u π h _).trans hu) hu
  · rfl

theorem follow_peer (j : Nat) (theta rtt : Rat) (cal : Bool) (i : Nat) : (s.follow j theta rtt cal).peer i = s.peer i := by
  have houter : ∀ (u : State) time fc canal, State.peer { u with time := time, fc := fc, canal := canal } i = u.peer i := fun _ _ _ _ => rfl
  unfold State.follow
  extract_lets d per u
  refine proj_of_ite (State.peer · i) rfl (proj_of_ite (State.peer · i) (rejoin_peer s j theta i) ?_)
  split
  · exact proj_of_ite (State.peer · i) ((emit_canal ..).proj (State.peer · i) fun _ _ => rfl) (slewBy_outside s (State.peer · i) houter _ _ _)
  · exact setTState_outside s (State.peer · i) houter _
  · rw [followState_outside _ (State.peer · i) houter]
    have hu : u.peer i = s.peer i := pi_outside s (State.peer · i) houter _ _ _
    exact proj_of_ite (State.peer · i) hu hu

/-- On a lane with a constant the follower's state changes no offset. -/
theorem followState_dLast (d rtt : Rat) : (s.followState d rtt true).time.dLast = s.time.dLast := by
  have hset : ∀ (u : State) st, (u.setTState st).time.dLast = u.time.dLast := fun u st =>
    setTState_proj (fun t : State => t.time.dLast) (fun _ _ _ _ _ _ _ _ => rfl) u st
  unfold State.followState
  rw [if_neg (by decide)]
  split
  · exact hset ..
  · extract_lets n _ u
    exact proj_of_ite (fun t : State => t.time.dLast) (hset u _) rfl
  · rfl

/-- LOCKED or SLEWING on a lead that it has not lost, the follower runs its loop on the offset (R127, R128). -/
theorem follow_dLast {s : State} (j : Nat) (theta rtt : Rat) (hpend : s.convoy.pend = none) (hsplit : s.convoy.split = false) (hpart : s.time.part = 0)
    (hk : s.keeperRuns = true) (hst : s.time.st = .locked ∨ s.time.st = .slewing) :
    (s.follow j theta rtt true).time.dLast = some (-theta * 4, s.time.slewed) := by
  have hpi : (s.pi (-theta * 4) s.time.slewed 125000).time.dLast = some (-theta * 4, s.time.slewed) :=
    congrArg (fun x : Rat × Rat × Rat × Option (Rat × Rat) × BitVec 22 => x.2.2.2.1) (pi_servoOut s (-theta * 4) s.time.slewed 125000)
  unfold State.follow
  dsimp only
  rw [if_neg (by simp [hpend, hpart, hk]), if_neg (by simp [hsplit])]
  have hrun : ∀ c : Prop, [Decidable c] → ((if c then (s.pi (-theta * 4) s.time.slewed 125000).raise 0x300 0 0
      else s.pi (-theta * 4) s.time.slewed 125000).followState (-theta * 4) rtt true).time.dLast = some (-theta * 4, s.time.slewed) := by
    intro c _
    rw [followState_dLast]
    exact proj_of_ite (fun t : State => t.time.dLast) hpi hpi
  rcases hst with h | h
  · rw [h]
    exact hrun _
  · rw [h]
    exact hrun _

end

/-! ## The exchange (R128) -/

section
variable {fr : LinkFrame} {s : State}

theorem sync_sends (t1 : BitVec 96) (hst : s.lk.st = .underway) (hs : s.sender fr.peer.val = true)
    (hup : ((s.peer fr.peer.val).lane fr.lane).up = true) : exec (.sync fr t1) s =
      .next ((s.sendFrame fr.peer.val fr.lane).modLane fr.peer.val fr.lane (fun l => { l with opened := true, t1 := fineOf96 t1.toNat })) := by
  have hfast : s.fastClocks = true := by simp [State.fastClocks, hst]
  change execSync fr t1 s = _
  unfold execSync
  dsimp only
  rw [if_pos hs, if_neg (by simp [hfast, hup])]

theorem sync_takes (t1 : BitVec 96) (hst : s.lk.st = .underway) (hs : s.sender fr.peer.val = false) (h : s.takes fr) : exec (.sync fr t1) s =
    .next (((s.taken fr).modLane fr.peer.val fr.lane
      (fun l => { l with t1 := fineOf96 t1.toNat, t2 := s.cvtFine, t3 := s.cvtFine, opened := true })).sendFrame fr.peer.val fr.lane) := by
  have hcvt : (s.taken fr).cvtFine = s.cvtFine := taken_proj State.cvtFine fun _ _ _ => rfl
  change execSync fr t1 s = _
  unfold execSync
  dsimp only
  rw [if_neg (by simp [hs]), acceptFrame_takes hst h]
  dsimp only
  rw [if_neg (by decide), hcvt]

theorem syncAck_takes (t2 t3 : BitVec 96) (hst : s.lk.st = .underway) (hs : s.sender fr.peer.val = true) (h : s.takes fr) :
    exec (.syncAck fr t2 t3) s = .next (((s.taken fr).modLane fr.peer.val fr.lane
      (fun l => { l with opened := false, fails := 0, t2 := fineOf96 t2.toNat, t3 := fineOf96 t3.toNat })).sendFrame fr.peer.val fr.lane) := by
  change execSyncAck fr t2 t3 s = _
  unfold execSyncAck
  dsimp only
  rw [if_neg (by simp [hs]), acceptFrame_takes hst h]
  dsimp only
  rw [if_neg (by decide)]

/-- What SYNC_RSP measures on a lane, in ns: the two ways, and the offset with the lane's constant (R128, R130). -/
def Lane.forth (l : Lane) : Rat := (((l.t2 : Int) - (l.t1 : Int) : Int) : Rat) / (((2 ^ 40 : Nat) : Rat))
def Lane.back (l : Lane) (t4 : Nat) : Rat := (((t4 : Int) - (l.t3 : Int) : Int) : Rat) / (((2 ^ 40 : Nat) : Rat))
def Lane.offset (l : Lane) (t4 : Nat) : Rat := (l.forth - l.back t4 - (((l.asym.getD 0 : Int)) : Rat) / 100) / 2

theorem Lane.timing_asym {l m : Lane} (h : l.timing = m.timing) : l.asym = m.asym := by
  have := congrArg Lane.asym h
  exact this

theorem Lane.timing_rtt {l m : Lane} (h : l.timing = m.timing) (t4 : Nat) : l.forth + l.back t4 = m.forth + m.back t4 := by
  have := congrArg (fun x : Lane => x.forth + x.back t4) h
  exact this

theorem Lane.timing_offset {l m : Lane} (h : l.timing = m.timing) (t4 : Nat) : l.offset t4 = m.offset t4 := by
  have := congrArg (fun x : Lane => x.offset t4) h
  exact this

theorem Peer.timing_active {p q : Peer} (h : p.timing = q.timing) : p.active = q.active := by
  have := congrArg Peer.active h
  exact this

/-- The lane holds what SYNC_RSP measured, and its exchange is over. -/
def State.exchanged (s : State) (j : Nat) (b : Bool) (t4 : Nat) : State :=
  s.modLane j b (fun x => { x with
    opened := false, fails := 0, theta := ((s.peer j).lane b).offset t4, rtt := ((s.peer j).lane b).forth + ((s.peer j).lane b).back t4 })

/-- The state once the lane holds what SYNC_RSP measured; the other lane's difference may feed its constant (R130). -/
def State.measured (s : State) (j : Nat) (b : Bool) (t4 : Nat) : State :=
  let l := (s.peer j).lane b
  let u := s.exchanged j b t4
  let o := (u.peer j).lane !b
  if !decide ((u.peer j).active = (if b then 2 else 1)) && l.asym.isNone && o.up && o.asym.isSome then
    u.modLane j b (fun x => { x with sum := x.sum + 2 * (l.offset t4 - o.theta), count := x.count + 1, measFrom := some (x.measFrom.getD u.now) })
  else u

theorem measured_peer (s : State) (j : Nat) (b : Bool) (t4 : Nat) :
    (((s.measured j b t4).peer j).lane b).unmeasured = ({ (s.peer j).lane b with
      opened := false, fails := 0, theta := ((s.peer j).lane b).offset t4
      rtt := ((s.peer j).lane b).forth + ((s.peer j).lane b).back t4 } : Lane).unmeasured ∧
    ((s.measured j b t4).peer j).active = (s.peer j).active := by
  unfold State.measured
  extract_lets l u o
  have hu : u.peer j = (s.peer j).modLane b (fun x => { x with
    opened := false, fails := 0, theta := l.offset t4, rtt := l.forth + l.back t4 }) := modLane_peer ..
  have hlane : (u.peer j).lane b = { l with opened := false, fails := 0, theta := l.offset t4, rtt := l.forth + l.back t4 } := by
    rw [hu, Peer.modLane_lane]
  have hact : (u.peer j).active = (s.peer j).active := by rw [hu, Peer.modLane_active]
  refine ⟨proj_of_ite (fun t : State => ((t.peer j).lane b).unmeasured) ?_ (congrArg Lane.unmeasured hlane),
    proj_of_ite (fun t : State => (t.peer j).active) ?_ hact⟩
  · rw [modLane_lane, hlane]
    rfl
  · rw [modLane_peer, Peer.modLane_active, hact]

theorem measured_proj {α : Type} (π : State → α) (h : ∀ (s : State) ps, π { s with convoy := { s.convoy with peers := ps } } = π s)
    (s : State) (j : Nat) (b : Bool) (t4 : Nat) : π (s.measured j b t4) = π s := by
  unfold State.measured
  extract_lets l u o
  have hu : π u = π s := modLane_proj s j π h ..
  exact proj_of_ite π ((modLane_proj u j π h ..).trans hu) hu

/-- The end of SYNC_RSP: the active lane to the lead drives the follower, or the link to a lost lead is back. -/
def State.rspEnd (s : State) (j : Nat) (b : Bool) (active : Nat) (theta rtt : Rat) (cal : Bool) : State :=
  if !decide (active = (if b then 2 else 1)) then s
  else if s.leadSlot = some j then s.follow j theta rtt cal
  else if decide (s.time.part ≠ 0) && decide (s.peerChip j = 0) then s.rejoin j theta
  else s

theorem rspEnd_peer (s : State) (j : Nat) (b : Bool) (active : Nat) (theta rtt : Rat) (cal : Bool) (i : Nat) :
    (s.rspEnd j b active theta rtt cal).peer i = s.peer i := by
  unfold State.rspEnd
  exact proj_of_ite (State.peer · i) rfl (proj_of_ite (State.peer · i) (follow_peer s j theta rtt cal i)
    (proj_of_ite (State.peer · i) (rejoin_peer s j theta i) rfl))

theorem syncRsp_takes (t4 : BitVec 96) (hst : s.lk.st = .underway) (hs : s.sender fr.peer.val = false) (h : s.takes fr)
    (ho : ((s.peer fr.peer.val).lane fr.lane).opened = true) :
    let l := ((s.taken fr).peer fr.peer.val).lane fr.lane
    exec (.syncRsp fr t4) s = .next (((s.taken fr).measured fr.peer.val fr.lane (fineOf96 t4.toNat)).rspEnd fr.peer.val fr.lane
      (((s.taken fr).exchanged fr.peer.val fr.lane (fineOf96 t4.toNat)).peer fr.peer.val).active (l.offset (fineOf96 t4.toNat)) (l.forth + l.back (fineOf96 t4.toNat)) l.asym.isSome) := by
  intro l
  have hopen : l.opened = true := (congrArg Lane.opened (Peer.timing_lane taken_timing fr.lane)).trans ho
  change execSyncRsp fr t4 s = _
  unfold execSyncRsp
  dsimp only
  rw [if_neg (by simp [hs]), acceptFrame_takes hst h]
  dsimp only
  rw [if_neg (by decide), if_neg (by simpa using hopen)]
  rfl

theorem exchanged_active (s : State) (j : Nat) (b : Bool) (t4 : Nat) : ((s.exchanged j b t4).peer j).active = (s.peer j).active := by
  unfold State.exchanged
  rw [modLane_peer, Peer.modLane_active]

/-- What SYNC_RSP leaves on its lane and, on the active lane to the lead, of the follower. -/
theorem syncRsp_ends (t4 : BitVec 96) (hst : s.lk.st = .underway) (hs : s.sender fr.peer.val = false) (h : s.takes fr)
    (ho : ((s.peer fr.peer.val).lane fr.lane).opened = true) :
    let j := fr.peer.val
    let b := fr.lane
    let l := (s.peer j).lane b
    let theta := l.offset (fineOf96 t4.toNat)
    ∃ t, exec (.syncRsp fr t4) s = .next t ∧ ((t.peer j).lane b).opened = false ∧ ((t.peer j).lane b).fails = 0 ∧
      ((t.peer j).lane b).theta = theta ∧ ((t.peer j).lane b).rtt = l.forth + l.back (fineOf96 t4.toNat) ∧
      ((s.peer j).active = (if b then 2 else 1) → s.leadSlot = some j → l.asym.isSome = true → s.convoy.pend = none →
        s.convoy.split = false → s.time.part = 0 → s.keeperRuns = true → s.time.st = .locked ∨ s.time.st = .slewing →
        t.time.dLast = some (-theta * 4, s.time.slewed)) := by
  intro j b l theta
  have htiming : ((s.taken fr).peer j).timing = (s.peer j).timing := taken_timing
  have hlane := Peer.timing_lane htiming b
  have htheta : (((s.taken fr).peer j).lane b).offset (fineOf96 t4.toNat) = theta := Lane.timing_offset hlane _
  have hrtt : (((s.taken fr).peer j).lane b).forth + (((s.taken fr).peer j).lane b).back (fineOf96 t4.toNat) =
      l.forth + l.back (fineOf96 t4.toNat) := Lane.timing_rtt hlane _
  have hasym : (((s.taken fr).peer j).lane b).asym = l.asym := Lane.timing_asym hlane
  have hact : ((s.taken fr).peer j).active = (s.peer j).active := Peer.timing_active htiming
  obtain ⟨hm, -⟩ := measured_peer (s.taken fr) j b (fineOf96 t4.toNat)
  refine ⟨_, syncRsp_takes t4 hst hs h ho, ?_⟩
  rw [rspEnd_peer]
  refine ⟨congrArg Lane.opened hm, congrArg Lane.fails hm, (congrArg Lane.theta hm).trans htheta, (congrArg Lane.rtt hm).trans hrtt, ?_⟩
  intro hactive hlead hcal hpend hsplit hpart hk htime
  have hkeep : ∀ {α : Type} (π : State → α),
      (∀ (s : State) ps slots, π { s with convoy := { s.convoy with peers := ps }, chart := { s.chart with slots := slots } } = π s) →
      π ((s.taken fr).measured j b (fineOf96 t4.toNat)) = π s := fun π hπ =>
    (measured_proj π (fun u ps => hπ u ps u.chart.slots) ..).trans (taken_proj π hπ)
  have hleadSlot : ((s.taken fr).measured j b (fineOf96 t4.toNat)).leadSlot = some j := (hkeep State.leadSlot fun _ _ _ => rfl).trans hlead
  unfold State.rspEnd
  rw [exchanged_active, hact, hactive, if_neg (by simp [b]), if_pos hleadSlot, hasym, hcal, htheta,
    follow_dLast j _ _ ((hkeep (fun u : State => u.convoy.pend) fun _ _ _ => rfl).trans hpend)
      ((hkeep (fun u : State => u.convoy.split) fun _ _ _ => rfl).trans hsplit) ((hkeep (fun u : State => u.time.part) fun _ _ _ => rfl).trans hpart)
      ((hkeep State.keeperRuns fun _ _ _ => rfl).trans hk) ((hkeep (fun u : State => u.time.st) fun _ _ _ => rfl).symm ▸ htime)]
  exact congrArg (fun x : Rat => some (-theta * 4, x)) (hkeep (fun u : State => u.time.slewed) fun _ _ _ => rfl)

/-- The receiver of SYNC, which holds t1 with its own CVT as t2 and t3 and is about to answer (R128). -/
def State.answering (s : State) (fr : LinkFrame) (t1 : BitVec 96) : State := (s.taken fr).modLane fr.peer.val fr.lane
  (fun l => { l with t1 := fineOf96 t1.toNat, t2 := s.cvtFine, t3 := s.cvtFine, opened := true })

theorem answering_lane (t1 : BitVec 96) (hkeys : ¬ ((s.peer fr.peer.val).sentNext = true ∧ (s.peer fr.peer.val).gotNext = true)) :
    ((s.answering fr t1).peer fr.peer.val).lane fr.lane = { ((s.peer fr.peer.val).lane fr.lane).counted fr.ctr with
      t1 := fineOf96 t1.toNat, t2 := s.cvtFine, t3 := s.cvtFine, opened := true } := by
  unfold State.answering
  rw [modLane_lane, taken_lane hkeys]

theorem answer_times (t1 : BitVec 96) (hroom : ((s.peer fr.peer.val).lane fr.lane).tx + 1 < 2 ^ 64 ∧ ((s.peer fr.peer.val).lane fr.lane).txNext + 1 < 2 ^ 64)
    (hkeys : ¬ ((s.peer fr.peer.val).sentNext = true ∧ (s.peer fr.peer.val).gotNext = true)) :
    let l := (((s.answering fr t1).sendFrame fr.peer.val fr.lane).peer fr.peer.val).lane fr.lane
    l.opened = true ∧ l.t1 = fineOf96 t1.toNat ∧ l.t2 = s.cvtFine ∧ l.t3 = s.cvtFine := by
  intro l
  have hlane := answering_lane (s := s) (fr := fr) t1 hkeys
  have hsend := Peer.timing_lane (sendFrame_timing (s.answering fr t1) fr.peer.val fr.lane (by rw [hlane]; exact hroom)) fr.lane
  rw [hlane] at hsend
  have h1 := congrArg Lane.t1 hsend
  have h2 := congrArg Lane.t2 hsend
  have h3 := congrArg Lane.t3 hsend
  exact ⟨congrArg Lane.opened hsend, h1, h2, h3⟩

theorem answer_counts (t1 : BitVec 96) (hroom : ((s.peer fr.peer.val).lane fr.lane).tx + 1 < 2 ^ 64)
    (hkeys : ¬ ((s.peer fr.peer.val).sentNext = true ∧ (s.peer fr.peer.val).gotNext = true)) (hkey : s.linkKey fr.peer.val true = none) :
    let l := (((s.answering fr t1).sendFrame fr.peer.val fr.lane).peer fr.peer.val).lane fr.lane
    l.rx = fullCounter ((s.peer fr.peer.val).lane fr.lane).rx fr.ctr + 1 ∧ l.tx = ((s.peer fr.peer.val).lane fr.lane).tx + 1 := by
  have hlane := answering_lane (s := s) (fr := fr) t1 hkeys
  have hnone : (s.answering fr t1).linkKey fr.peer.val true = none := (taken_linkKey hkeys fr.peer.val true).trans hkey
  rw [sendFrame_current _ _ _ hnone (by rw [hlane]; exact hroom), modLane_lane, hlane]
  exact ⟨rfl, rfl⟩

/-! ## Failures, lane A and the measured constant (R129, R130) -/

theorem exec_convoyExchangeFail (peer : Fin 3) (b : Bool) (hst : s.lk.st = .underway) (hup : ((s.peer peer.val).lane b).up = true)
    (ha : (s.peer peer.val).asleep = none) : exec (.convoyExchangeFail peer b) s = .next (if 2 ≤ ((s.peer peer.val).lane b).fails
      then s.laneDown peer.val b else s.modLane peer.val b (fun l => { l with fails := l.fails + 1, opened := false })) := by
  have hfast : s.fastClocks = true := by simp [State.fastClocks, hst]
  change Host.Outcome.next _ = _
  rw [if_pos hfast]
  unfold State.failExchange
  dsimp only
  rw [if_neg (by simp [hup, ha])]

theorem exec_laneARestore (peer : Fin 3) (hst : s.lk.st = .underway) (ha : (s.peer peer.val).active = 2) (hup : (s.peer peer.val).a.up = true)
    (ht : (s.peer peer.val).a.upAt + 1000000000 ≤ s.now) :
    exec (.laneARestore peer) s = .next ((s.setActive peer.val 1).checkLane peer.val) :=
  congrArg _ (if_pos (by simp [State.fastClocks, hst, ha, hup, ht]))

theorem lbWrite_data (s : State) (f : Logbook → Logbook) : DataOnly s (s.lbWrite f) := by
  unfold State.lbWrite
  exact .ite ((lbAccess_data s).trans .parts) (lbAccess_data s)

theorem DataOnly.convoy {s t : State} (h : DataOnly s t) : t.convoy = s.convoy := by rw [DataOnly] at h; rw [h]

/-- The constant of the lane that is not the active one (R130). -/
theorem exec_asymMeasureDone (peer : Fin 3) (b : Bool) (hst : s.lk.st = .underway) (ha : (s.peer peer.val).active = (if b then 1 else 2))
    (hup : ((s.peer peer.val).lane b).up = true) (hasym : ((s.peer peer.val).lane b).asym = none)
    (hm : ∃ m, ((s.peer peer.val).lane b).measFrom = some m ∧ m + 1000000000 ≤ s.now) (hauto : s.convoy.noAuto = false) :
    ∃ t, exec (.asymMeasureDone peer) s = .next t ∧ (t.peer peer.val).lane b = { (s.peer peer.val).lane b with
      asym := some (roundInt .rna (((s.peer peer.val).lane b).sum / ((((s.peer peer.val).lane b).count : Nat) : Rat) * 100))
      sum := 0, count := 0, measFrom := none } := by
  obtain ⟨m, hm, ht⟩ := hm
  have hb : decide ((s.peer peer.val).active = 1) = b := by rw [ha]; cases b <;> rfl
  have h0 : (s.peer peer.val).active ≠ 0 := by rw [ha]; cases b <;> decide
  have hfast : s.fastClocks = true := by simp [State.fastClocks, hst]
  change ∃ t, execAsymMeasureDone peer s = .next t ∧ _
  unfold execAsymMeasureDone
  dsimp only
  rw [hb, if_neg]
  · refine ⟨_, rfl, ?_⟩
    have hpeer : ∀ (u : State) f, (u.lbWrite f).peer peer.val = u.peer peer.val := fun u f =>
      congrArg (fun c : Convoy => tget c.peers peer.val Peer.zero) (lbWrite_data u f).convoy
    rw [hpeer, modLane_lane]
  · simp [hfast, h0, hup, hasym, hm, hauto, ht]

end

/-! ## The obligation -/

/-- Settles O36: a frame taken by `taken_timing`, a frame sent by `sendFrame_peer`, and the rules of the lanes. -/
theorem convoyExchanges : Obligations.ConvoyExchanges := by
  intro fr s j b l taken room
  refine ⟨fun hst => ?off, fun hst => ⟨?send, ?take, ?ack, ?rsp, ?fail, ?restore, ?measure⟩⟩
  case off =>
    have hfast : s.fastClocks = false := by simp [State.fastClocks, hst]
    refine ⟨fun t1 => ?_, fun t2 t3 => ?_, fun t4 => ?_, congrArg _ (if_neg (by simp [hfast])), congrArg _ (if_neg (by simp [hfast])),
      if_pos (by simp [hfast])⟩
    · change execSync fr t1 s = _
      unfold execSync
      dsimp only
      rw [acceptFrame_off hst]
      simp [hfast]
    · change execSyncAck fr t2 t3 s = _
      unfold execSyncAck
      dsimp only
      rw [acceptFrame_off hst]
      simp
    · change execSyncRsp fr t4 s = _
      unfold execSyncRsp
      dsimp only
      rw [acceptFrame_off hst]
      simp
  case send =>
    intro t1 hs hup
    refine ⟨_, sync_sends t1 hst hs hup, congrArg Lane.opened (modLane_lane ..), congrArg Lane.t1 (modLane_lane ..), fun hkey hroom => ?_⟩
    rw [modLane_lane, sendFrame_current s j b hkey hroom.1, modLane_lane]
    exact ⟨rfl, rfl⟩
  case take =>
    intro t1 hs htaken hroom hkeys
    obtain ⟨hopen, ht1, ht2, ht3⟩ := answer_times (s := s) (fr := fr) t1 hroom hkeys
    exact ⟨_, sync_takes t1 hst hs htaken, hopen, ht1, ht2, ht3, answer_counts t1 hroom.1 hkeys⟩
  case ack =>
    intro t2 t3 hs htaken
    obtain ⟨hopen, hfails, ht2, ht3⟩ := sendFrame_closed ((s.taken fr).modLane j b
      (fun l => { l with opened := false, fails := 0, t2 := fineOf96 t2.toNat, t3 := fineOf96 t3.toNat })) j b
      (congrArg Lane.opened (modLane_lane ..)) (congrArg Lane.fails (modLane_lane ..))
    exact ⟨_, syncAck_takes t2 t3 hst hs htaken, hopen, hfails, ht2.trans (congrArg Lane.t2 (modLane_lane ..)),
      ht3.trans (congrArg Lane.t3 (modLane_lane ..))⟩
  case rsp =>
    intro t4 hs htaken hopen
    exact syncRsp_ends t4 hst hs htaken hopen
  case fail =>
    intro hup ha
    refine ⟨_, exec_convoyExchangeFail fr.peer b hst hup ha, fun hf => ?_, fun hf => ?_⟩
    · rw [if_neg (Nat.not_le.mpr hf), modLane_lane, modLane_peer, Peer.modLane_active]
      exact ⟨rfl, rfl⟩
    · obtain ⟨hl, hact, -⟩ := laneDown_peer s j b
      rw [if_pos hf]
      exact ⟨congrArg Lane.up hl, hact⟩
  case restore =>
    intro ha hup ht
    refine ⟨_, exec_laneARestore fr.peer hst ha hup ht, ?_⟩
    rw [checkLane_peer, setActive_peer]
    exact ⟨rfl, rfl, rfl⟩
  case measure =>
    intro ha hup hasym _ hm hauto
    exact exec_asymMeasureDone fr.peer b hst ha hup hasym hm hauto

end Sys2Proof.Machine
end

section
/-! SUPPORT. HELLO, the messages of the link, and the partition of a split (R118 to R120, R127, R131, R132, R424, R428). -/

namespace Sys2Proof.Machine

section
variable (s : State) (j : Nat)

/-! ## What stays when a lane changes -/

/-- CVT and the clocks: what the instant of a record or fault is read from. -/
def State.instant (s : State) : Nat × Clk := (s.time.cvt, s.clk)

theorem instant_ts {t : State} (h : t.instant = s.instant) : t.ts = s.ts ∧ t.now = s.now := by
  have hcvt := congrArg (fun x : Nat × Clk => x.1 / qtUnit) h
  have hnow := congrArg (fun x : Nat × Clk => x.2.powered * 40 + x.2.phase) h
  exact ⟨hcvt, hnow⟩

theorem checkLane_instant : (s.checkLane j).instant = s.instant := checkLane_proj s j State.instant fun _ _ _ _ _ _ _ _ _ => rfl

theorem enterHoldover_instant : s.enterHoldover.instant = s.instant :=
  setTState_proj State.instant (fun _ _ _ _ _ _ _ _ => rfl) _ .holdover

theorem loseLink_instant : (s.loseLink j).instant = s.instant := by
  unfold State.loseLink
  extract_lets p u _
  exact proj_of_ite State.instant rfl (proj_of_ite State.instant (enterHoldover_instant _) rfl)

theorem laneDown_instant (b : Bool) : (s.laneDown j b).instant = s.instant := by
  unfold State.laneDown
  extract_lets u p me v
  refine proj_of_ite State.instant rfl (proj_of_ite State.instant ?_ (loseLink_instant ..))
  rw [checkLane_instant]
  exact proj_of_ite State.instant rfl rfl

/-- A change to another state than DETACHED lets no fault stand. -/
theorem setTState_persisting {s : State} {st : TState} {code unit : Nat} (hd : st ≠ .detached) (h : s.persisting code unit = false) :
    (s.setTState st).persisting code unit = false := by
  by_cases hs : s.time.st = st
  · unfold State.setTState
    rwa [if_pos hs]
  · exact (congrArg (fun c : Fc => c.persist.contains (fKey code unit)) (setTState_fc hs hd)).trans (persisting_setPersist_off 0x301 0 h)

theorem checkLane_persisting {s : State} {code unit : Nat} (h : s.persisting code unit = false) (j : Nat) :
    (s.checkLane j).persisting code unit = false := by
  unfold State.checkLane
  dsimp only
  split
  · exact h
  · split
    · split
      · exact h
      · exact setTState_persisting (s := { s with time := { s.time with bound := _ } }) (by decide) h
    · split
      · exact setTState_persisting (by decide) h
      · exact h

/-! ## HELLO (R424, R428) -/

/-- Both ends name the same mode and, SEALED, the same housing ID. -/
def State.sameMode (s : State) (j : Nat) (m : Bool) (housing : BitVec 32) : Bool :=
  (s.peer j).sealMode == m && (!m || (decide (setHousing s.dev.settings ≠ 0) && decide (housing.toNat = setHousing s.dev.settings)))

theorem sameMode_iff (m : Bool) (housing : BitVec 32) : s.sameMode j m housing = true ↔
    (s.peer j).sealMode = m ∧ (m = true → setHousing s.dev.settings ≠ 0 ∧ housing.toNat = setHousing s.dev.settings) := by
  unfold State.sameMode
  cases m <;> simp

/-- The lane that both ends agree on is up. -/
def Lane.raised (l : Lane) (now : Nat) : Lane := { l with up := true, everUp := true, fails := 0, upAt := now, sum := 0, count := 0, measFrom := none }

theorem takeLane_peer (b : Bool) : ((s.takeLane j b).peer j).active = (if (s.peer j).active = 0 then (if b then 2 else 1)
      else if b = false ∧ (s.peer j).active = 2 ∧ (s.peer j).b.upAt / 125000 = s.now / 125000 then 1 else (s.peer j).active) ∧
    (((s.takeLane j b).peer j).lane b).unmeasured = ((s.peer j).lane b).unmeasured ∧ ((s.takeLane j b).peer j).hello = (s.peer j).hello := by
  have hset : ∀ a, ((s.setActive j a).peer j).active = a ∧ (((s.setActive j a).peer j).lane b).unmeasured = ((s.peer j).lane b).unmeasured ∧
      ((s.setActive j a).peer j).hello = (s.peer j).hello := fun a => ⟨by rw [setActive_peer], by rw [setActive_lane]; rfl, by rw [setActive_peer]⟩
  unfold State.takeLane
  dsimp only
  by_cases h0 : (s.peer j).active = 0
  · rw [if_pos h0, if_pos h0]
    exact hset _
  · rw [if_neg h0, if_neg h0]
    by_cases h1 : b = false ∧ (s.peer j).active = 2 ∧ (s.peer j).b.upAt / 125000 = s.now / 125000
    · rw [if_pos h1, if_pos (by simp [h1])]
      exact hset 1
    · rw [if_neg h1, if_neg (by simpa [and_assoc] using h1)]
      exact ⟨rfl, rfl, rfl⟩

theorem takeLane_proj {α : Type} (π : State → α) (h : ∀ (s : State) ps, π { s with convoy := { s.convoy with peers := ps } } = π s) (b : Bool) :
    π (s.takeLane j b) = π s := by
  unfold State.takeLane
  exact proj_of_ite π (h s _) (proj_of_ite π (h s _) rfl)

/-- The peer slot holds the HELLO. -/
def State.heardHello (s : State) (j : Nat) (m : Bool) (housing : BitVec 32) : State := s.setPeer j { s.peer j with hello := some (m, housing) }

theorem heardHello_peer (m : Bool) (housing : BitVec 32) : (s.heardHello j m housing).peer j = { s.peer j with hello := some (m, housing) } :=
  State.setPeer_peer_same ..

/-- A HELLO of another mode: the lane goes down, and the fault stands. -/
def State.mismatched (s : State) (j : Nat) (b : Bool) : State :=
  (if ((s.peer j).lane b).up then s.laneDown j b else s).raise 0xA04 (2 * j + b2n b) 0 |>.setPersist 0xA04 (2 * j + b2n b) true

/-- A lane that comes up, and what follows at the follower (R118, R129, R132). -/
def State.laneUp (s : State) (j : Nat) (b : Bool) : State :=
  let u := (s.modLane j b (fun l => l.raised s.now)).takeLane j b
  if u.leadSlot = some j then u.checkLane j else if u.persisting 0x307 j then u.setPersist 0x307 j false else u

/-- A HELLO of the same mode: no fault stands, and a lane that may come up does. -/
def State.matched (s : State) (j : Nat) (b : Bool) (m : Bool) (housing : BitVec 32) : State :=
  let v := (s.heardHello j m housing).setPersist 0xA04 (2 * j + b2n b) false
  let l := (s.peer j).lane b
  if !v.linkOpen j || l.up || l.stopped then v else v.laneUp j b

theorem exec_hello {s : State} (peer : Fin 3) (b : Bool) (chip : BitVec 2) (m : Bool) (housing : BitVec 32) (hst : s.lk.st = .underway)
    (hc : s.connected peer.val b = true) (hchip : chip.toNat = s.peerChip peer.val) : exec (.hello peer b chip m housing) s = .next (
      if s.sameMode peer.val m housing = false then (s.heardHello peer.val m housing).mismatched peer.val b
      else s.matched peer.val b m housing) := by
  have hfast : s.fastClocks = true := by simp [State.fastClocks, hst]
  have hl : ((s.heardHello peer.val m housing).peer peer.val).lane b = (s.peer peer.val).lane b := by
    rw [heardHello_peer]
    cases b <;> rfl
  change execHello peer b chip m housing s = _
  unfold execHello
  dsimp only
  rw [if_neg (by simp [hfast, hc, hchip])]
  by_cases hsame : s.sameMode peer.val m housing = true
  · rw [show ((s.peer peer.val).sealMode == m && (!m || (decide (setHousing s.dev.settings ≠ 0) && decide (housing.toNat = setHousing s.dev.settings)))) =
      true from hsame, hsame, if_neg (show ¬ (!true) = true by decide), if_neg (show ¬ true = false by decide)]
    exact (apply_ite Host.Outcome.next _ _ _).symm
  · rw [Bool.not_eq_true] at hsame
    rw [show ((s.peer peer.val).sealMode == m && (!m || (decide (setHousing s.dev.settings ≠ 0) && decide (housing.toNat = setHousing s.dev.settings)))) =
      false from hsame, hsame, if_pos (show (!false) = true by decide), if_pos rfl]
    unfold State.mismatched
    rw [hl]
    rfl

theorem mismatched_ends (b : Bool) : (((s.mismatched j b).peer j).lane b).up = false ∧ ((s.mismatched j b).peer j).hello = (s.peer j).hello ∧
    (s.mismatched j b).persisting 0xA04 (2 * j + b2n b) = true ∧
    ∃ q, (s.mismatched j b).fc.pend = q ++ [⟨0xA04, 2 * j + b2n b, 0, none, s.ts, s.now, false, false⟩] := by
  unfold State.mismatched
  generalize hu : (if ((s.peer j).lane b).up then s.laneDown j b else s) = u
  have hi : u.instant = s.instant := hu ▸ proj_of_ite State.instant (laneDown_instant s j b) rfl
  obtain ⟨hts, hnow⟩ := instant_ts s hi
  obtain ⟨hl, -, hh⟩ := laneDown_peer s j b
  have hup : ((u.peer j).lane b).up = false ∧ (u.peer j).hello = (s.peer j).hello := by
    rw [← hu]
    split
    · exact ⟨congrArg Lane.up hl, hh⟩
    · next h => exact ⟨by simpa using h, rfl⟩
  refine ⟨hup.1, hup.2, setPersist_persisting (u.raise 0xA04 (2 * j + b2n b) 0) 0xA04 (2 * j + b2n b), u.fc.pend, ?_⟩
  rw [← hts, ← hnow]
  rfl

theorem laneUp_ends (b : Bool) : (((s.laneUp j b).peer j).lane b).up = true ∧ (((s.laneUp j b).peer j).lane b).fails = 0 ∧
    (((s.laneUp j b).peer j).lane b).upAt = s.now ∧ ((s.laneUp j b).peer j).hello = (s.peer j).hello ∧
    ((s.laneUp j b).peer j).active = (if (s.peer j).active = 0 then (if b then 2 else 1)
      else if b = false ∧ (s.peer j).active = 2 ∧ (s.peer j).b.upAt / 125000 = s.now / 125000 then 1 else (s.peer j).active) := by
  obtain ⟨hact, hlane, hhello⟩ := takeLane_peer (s.modLane j b (fun l => l.raised s.now)) j b
  have hend : (s.laneUp j b).peer j = ((s.modLane j b (fun l => l.raised s.now)).takeLane j b).peer j := by
    unfold State.laneUp
    exact proj_of_ite (State.peer · j) (checkLane_peer ..) (proj_of_ite (State.peer · j) rfl rfl)
  rw [modLane_lane] at hlane
  rw [modLane_peer, Peer.modLane_hello] at hhello
  have hother : b = false → ((s.modLane j b (fun l => l.raised s.now)).peer j).b = (s.peer j).b := by
    rintro rfl
    rw [modLane_peer]
    rfl
  have hcond : (b = false ∧ ((s.modLane j b (fun l => l.raised s.now)).peer j).active = 2 ∧
      ((s.modLane j b (fun l => l.raised s.now)).peer j).b.upAt / 125000 = (s.modLane j b (fun l => l.raised s.now)).now / 125000) ↔
      (b = false ∧ (s.peer j).active = 2 ∧ (s.peer j).b.upAt / 125000 = s.now / 125000) := by
    refine and_congr_right fun hb => ?_
    rw [hother hb, modLane_peer, Peer.modLane_active]
    rfl
  simp only [hcond] at hact
  rw [modLane_peer, Peer.modLane_active] at hact
  rw [hend]
  exact ⟨congrArg Lane.up hlane, congrArg Lane.fails hlane, congrArg Lane.upAt hlane, hhello, hact⟩

theorem laneUp_persisting {s : State} {code unit : Nat} (h : s.persisting code unit = false) (j : Nat) (b : Bool) :
    (s.laneUp j b).persisting code unit = false := by
  have hu : ((s.modLane j b (fun l => l.raised s.now)).takeLane j b).persisting code unit = false := by
    rw [takeLane_proj _ _ (State.persisting · code unit) fun _ _ => rfl]
    exact h
  unfold State.laneUp
  dsimp only
  split
  · exact checkLane_persisting hu j
  · split
    · exact persisting_setPersist_off 0x307 j hu
    · exact hu

theorem matched_ends (b : Bool) (m : Bool) (housing : BitVec 32) : let l := (s.peer j).lane b
    ((s.matched j b m housing).peer j).hello = some (m, housing) ∧ (s.matched j b m housing).persisting 0xA04 (2 * j + b2n b) = false ∧
    (s.linkOpen j = true → l.up = false → l.stopped = false →
      (((s.matched j b m housing).peer j).lane b).up = true ∧ (((s.matched j b m housing).peer j).lane b).fails = 0 ∧
      (((s.matched j b m housing).peer j).lane b).upAt = s.now ∧
      ((s.matched j b m housing).peer j).active = (if (s.peer j).active = 0 then (if b then 2 else 1)
        else if b = false ∧ (s.peer j).active = 2 ∧ (s.peer j).b.upAt / 125000 = s.now / 125000 then 1 else (s.peer j).active)) := by
  intro l
  unfold State.matched
  dsimp only
  generalize hv : (s.heardHello j m housing).setPersist 0xA04 (2 * j + b2n b) false = v
  have hpeer : v.peer j = { s.peer j with hello := some (m, housing) } := hv ▸ heardHello_peer ..
  have hnow : v.now = s.now := hv ▸ rfl
  have hopen : v.linkOpen j = s.linkOpen j := by
    have hkey : v.linkKey j false = s.linkKey j false := hv ▸ rfl
    unfold State.linkOpen
    rw [hpeer, hkey]
  have hper : v.persisting 0xA04 (2 * j + b2n b) = false := hv ▸ persisting_setPersist ..
  obtain ⟨hup, hfails, hat, hhello, hact⟩ := laneUp_ends v j b
  rw [hpeer] at hhello hact
  rw [hnow] at hat hact
  refine ⟨?_, proj_of_ite (State.persisting · 0xA04 (2 * j + b2n b)) hper (laneUp_persisting hper j b), fun ho hdown hstop => ?_⟩
  · exact proj_of_ite (fun t : State => (t.peer j).hello) (congrArg Peer.hello hpeer) hhello
  · have hfree : ¬ (!v.linkOpen j || l.up || l.stopped) = true := by simp [hopen, ho, hdown, hstop]
    rw [if_neg hfree]
    exact ⟨hup, hfails, hat, hact⟩

/-- A HELLO of the same mode on an open link brings a lane up that is down and not stopped, and one of another mode takes it
down (R424, R428). -/
theorem hello_ends {s : State} (peer : Fin 3) (b : Bool) (chip : BitVec 2) (m : Bool) (housing : BitVec 32) (hst : s.lk.st = .underway)
    (hc : s.connected peer.val b = true) (hchip : chip.toNat = s.peerChip peer.val) :
    let j := peer.val
    let l := (s.peer j).lane b
    ∃ t, exec (.hello peer b chip m housing) s = .next t ∧ (t.peer j).hello = some (m, housing) ∧
      t.persisting 0xA04 (2 * j + b2n b) = !s.sameMode j m housing ∧
      (s.sameMode j m housing = true → s.linkOpen j = true → l.up = false → l.stopped = false →
        ((t.peer j).lane b).up = true ∧ ((t.peer j).lane b).fails = 0 ∧ ((t.peer j).lane b).upAt = s.now ∧
        (t.peer j).active = (if (s.peer j).active = 0 then (if b then 2 else 1)
          else if b = false ∧ (s.peer j).active = 2 ∧ (s.peer j).b.upAt / 125000 = s.now / 125000 then 1 else (s.peer j).active)) ∧
      (s.sameMode j m housing = false → ((t.peer j).lane b).up = false ∧
        ∃ q, t.fc.pend = q ++ [⟨0xA04, 2 * j + b2n b, 0, none, s.ts, s.now, false, false⟩]) := by
  intro j l
  have hexec := exec_hello peer b chip m housing hst hc hchip
  cases hsame : s.sameMode j m housing with
  | false =>
    obtain ⟨hup, hhello, hper, hpend⟩ := mismatched_ends (s.heardHello j m housing) j b
    exact ⟨_, hexec.trans (congrArg _ (if_pos hsame)), hhello.trans (congrArg Peer.hello (heardHello_peer ..)), hper, nofun, fun _ => ⟨hup, hpend⟩⟩
  | true =>
    obtain ⟨hhello, hper, hup⟩ := matched_ends s j b m housing
    exact ⟨_, hexec.trans (congrArg _ (if_neg fun h => Bool.noConfusion (hsame.symm.trans h))), hhello, hper, fun _ => hup, nofun⟩

/-! ## EPOCH_MSG (R127) -/

theorem epochMsg_holds {s : State} {fr : LinkFrame} {epoch : BitVec 16} (step : BitVec 64) (cvt : BitVec 96) (hst : s.lk.st = .underway)
    (hs : s.sender fr.peer.val = false) (h : s.takes fr) (hc : s.peerChip fr.peer.val = 0) (he : s.time.epoch.toNat < epoch.toNat) :
    exec (.epochMsg fr epoch step cvt) s = .next { s.taken fr with
      convoy := { (s.taken fr).convoy with pend := some (epoch, sgn 64 step.toNat, fineOf96 cvt.toNat) } } := by
  have htime : (s.taken fr).time = s.time := taken_proj State.time fun _ _ _ => rfl
  change execEpochMsg fr epoch step cvt s = _
  unfold execEpochMsg
  dsimp only
  rw [hs, if_neg Bool.false_ne_true, acceptFrame_takes hst h, if_neg (by simp [htime, hc, Nat.not_le.mpr he])]

theorem epochMsg_sends {s : State} (fr : LinkFrame) (epoch : BitVec 16) (step : BitVec 64) (cvt : BitVec 96) (hst : s.lk.st = .underway)
    (hs : s.sender fr.peer.val = true) (ha : (s.peer fr.peer.val).active ≠ 0) :
    exec (.epochMsg fr epoch step cvt) s = .next (s.sendFrame fr.peer.val fr.lane) := by
  have hfast : s.fastClocks = true := by simp [State.fastClocks, hst]
  change execEpochMsg fr epoch step cvt s = _
  unfold execEpochMsg
  dsimp only
  rw [if_pos hs, if_neg (by simp [hfast, ha])]

/-! ## FOLLOWER_STEP (R127, R134) -/

/-- What a step of CVT and what follows it move, and what the choice of the follower's state reads. -/
def State.following (s : State) : Nat × BitVec 16 × BitVec 2 × TState × Convoy × Ident × Fc :=
  (s.time.cvt, s.time.epoch, s.time.part, s.time.st, s.convoy, s.ident, s.fc)

theorem stepCvt_following (d : Int) (epoch : BitVec 16) (cause : Nat) : (s.stepCvt d epoch cause).following =
    (((s.time.cvt : Int) + d * (qtUnit : Int)).toNat, epoch, s.time.part, s.time.st, s.convoy, s.ident, s.fc) := by
  unfold State.stepCvt
  extract_lets was old t0 t1 gap t2 lag s1 s2 ts
  have h2 : s2.following = s1.following := by
    refine foldl_proj State.following _ (fun _ _ => ?_) _ _
    exact proj_of_ite State.following rfl rfl
  have hsync : ((s2.retime was).syncOf blockSources).following = (s2.retime was).following := (syncOf_canal ..).proj State.following fun _ _ => rfl
  exact ((emit_canal ..).proj State.following fun _ _ => rfl).trans (hsync.trans h2)

theorem setTState_is (st : TState) : (s.setTState st).time.st = st := by
  by_cases h : s.time.st = st
  · unfold State.setTState
    rwa [if_pos h]
  · exact setTState_st h

/-- The lane that is active, lane A where none is. -/
def Peer.activeLane (p : Peer) : Lane := p.lane (decide (p.active = 2))

theorem checkLane_st {s : State} (h : s.time.st = .slewing) (j : Nat) : (s.checkLane j).time.st =
    (if s.leadSlot = some j ∧ (s.peer j).active ≠ 0 ∧ (s.peer j).activeLane.asym = none then .uncertain else .slewing) := by
  unfold State.checkLane
  dsimp only
  by_cases hl : s.leadSlot = some j ∧ (s.peer j).active ≠ 0
  · rw [if_neg (by simp [hl])]
    have hnone : ((s.peer j).lane (decide ((s.peer j).active = 2))).asym.isNone = true ↔ (s.peer j).activeLane.asym = none := Option.isNone_iff_eq_none
    by_cases ha : (s.peer j).activeLane.asym = none
    · rw [if_pos (hnone.mpr ha), if_neg (by simp [h]), if_pos ⟨hl.1, hl.2, ha⟩]
      exact setTState_is ..
    · rw [if_neg (hnone.not.mpr ha), if_neg (by simp [h]), if_neg fun hc => ha hc.2.2]
      exact h
  · rw [if_pos (by simpa [← imp_iff_not_or] using hl), if_neg fun hc => hl ⟨hc.1, hc.2.1⟩]
    exact h

theorem leadSlot_zero {s : State} (h : s.time.part = 0) : s.leadSlot = some 0 ↔ s.ident.chip ≠ 0 := by
  have hpart : s.time.part.toNat = 0 := by rw [h]; rfl
  have hchip : s.ident.chip = 0 ↔ s.ident.chip.toNat = 0 := ⟨fun h => h ▸ rfl, fun h => BitVec.eq_of_toNat_eq h⟩
  unfold State.leadSlot
  dsimp only
  rw [hpart, ne_eq, hchip]
  by_cases hc : s.ident.chip.toNat = 0
  · simp [hc]
  · simp [hc, Ne.symm hc, Nat.pos_of_ne_zero hc]

/-- The chip is in step with the lead of a new epoch (R134). -/
def State.inStep (s : State) (epoch : BitVec 16) : Bool :=
  decide (s.time.epoch.toNat + 1 = epoch.toNat) && decide (s.time.st ≠ .detached) && decide (s.time.part = 0)

theorem inStep_iff (epoch : BitVec 16) : s.inStep epoch = true ↔
    s.time.epoch.toNat + 1 = epoch.toNat ∧ s.time.st ≠ .detached ∧ s.time.part = 0 := by
  simp [State.inStep, and_assoc]

/-- The follower with its CVT moved by `d` qt into an epoch. -/
def State.stepTo (s : State) (d : Int) (epoch : BitVec 16) : State :=
  let s := { s with convoy := { s.convoy with pend := none, split := false, acting := false }, time := { s.time with part := 0 } }
  (((s.setTState .slewing).stepCvt d epoch 3).setPersist 0x307 0 false).checkLane 0

/-- The step in qt that takes the chip to the lead's CVT (R127, R128). -/
def State.stepBy (s : State) (epoch : BitVec 16) (d : Int) (e : Nat) : Int :=
  if s.inStep epoch then d else (if (s.peer 0).activeLane.before e then d else 0) - roundInt .rna ((s.peer 0).activeLane.theta * 4)

theorem exec_followerStep {s : State} {epoch : BitVec 16} {d : Int} {e : Nat} (hst : s.lk.st = .underway) (hp : s.convoy.pend = some (epoch, d, e))
    (hdue : s.inStep epoch = true → (e : Int) - roundInt .rne ((s.peer 0).activeLane.theta * ((2 ^ 40 : Nat) : Rat)) ≤ (s.time.cvt : Int)) :
    exec .followerStep s = .next (s.stepTo (s.stepBy epoch d e) epoch) := by
  have hfast : s.fastClocks = true := by simp [State.fastClocks, hst]
  change execFollowerStep s = _
  unfold execFollowerStep
  rw [hp]
  dsimp only
  refine (if_neg ?_).trans rfl
  rw [Bool.or_eq_true, Bool.and_eq_true, decide_eq_true_eq, hfast]
  rintro (h | ⟨hin, hlt⟩)
  · exact Bool.noConfusion h
  · exact absurd hlt (Int.not_lt.mpr (hdue hin))

theorem stepTo_ends (d : Int) (epoch : BitVec 16) : let t := s.stepTo d epoch
    t.time.cvt = ((s.time.cvt : Int) + d * (qtUnit : Int)).toNat ∧ t.time.epoch = epoch ∧ t.time.part = 0 ∧
    t.convoy = { s.convoy with pend := none, split := false, acting := false } ∧ t.persisting 0x307 0 = false ∧
    t.time.st = (if s.ident.chip ≠ 0 ∧ (s.peer 0).active ≠ 0 ∧ (s.peer 0).activeLane.asym = none then .uncertain else .slewing) := by
  unfold State.stepTo
  dsimp only
  generalize hu : ({ s with convoy := { s.convoy with pend := none, split := false, acting := false }, time := { s.time with part := 0 } } : State) = u
  generalize hv : (u.setTState .slewing).stepCvt d epoch 3 = v
  have hmoves := stepCvt_following (u.setTState .slewing) d epoch 3
  rw [hv, setTState_is, setTState_proj (fun x : State => x.time.cvt) (fun _ _ _ _ _ _ _ _ => rfl),
    setTState_proj (fun x : State => x.time.part) (fun _ _ _ _ _ _ _ _ => rfl), setTState_outside u State.convoy (fun _ _ _ _ => rfl),
    setTState_outside u State.ident (fun _ _ _ _ => rfl), ← hu] at hmoves
  simp only [State.following, Prod.mk.injEq] at hmoves
  obtain ⟨hcvt, hepoch, hpart, hvst, hconvoy, hident, -⟩ := hmoves
  have hpeer : v.peer 0 = s.peer 0 := by
    change tget v.convoy.peers 0 Peer.zero = _
    rw [hconvoy]
    rfl
  have hlead : (v.setPersist 0x307 0 false).leadSlot = some 0 ↔ s.ident.chip ≠ 0 := hident ▸ leadSlot_zero (s := v.setPersist 0x307 0 false) hpart
  refine ⟨?_, ?_, ?_, ?_, checkLane_persisting (persisting_setPersist ..) 0, ?_⟩
  · exact (checkLane_proj _ 0 (fun x : State => x.time.cvt) fun _ _ _ _ _ _ _ _ _ => rfl).trans hcvt
  · exact (checkLane_proj _ 0 (fun x : State => x.time.epoch) fun _ _ _ _ _ _ _ _ _ => rfl).trans hepoch
  · exact (checkLane_proj _ 0 (fun x : State => x.time.part) fun _ _ _ _ _ _ _ _ _ => rfl).trans hpart
  · exact (checkLane_outside _ 0 State.convoy fun _ _ _ _ => rfl).trans hconvoy
  · refine (checkLane_st (s := v.setPersist 0x307 0 false) hvst 0).trans ?_
    have hactive : (v.setPersist 0x307 0 false).peer 0 = s.peer 0 := hpeer
    exact if_congr (and_congr hlead (by rw [hactive])) rfl rfl

/-! ## STATE (R119, R131) -/

/-- What a peer's STATE leaves, `wake` the instant of its announced wake. -/
def State.heardState (s : State) (j : Nat) (st : TState) (part : BitVec 2) (wake : Option Nat) : State :=
  let grows := wake.isSome || (decide (st = .holdover) && decide (s.convoy.leadState ≠ .holdover))
  let u := if grows && s.leadSlot = some j then { s with time := { s.time with holdBound := s.boundNow, holdAt := s.now } } else s
  let v := u.modPeer j (fun p => { p with pst := st, part := part, asleep := wake })
  let w := if v.leadSlot = some j then { v with convoy := { v.convoy with leadState := st } } else v
  if w.tstate = s.tstate then w else w.showState

theorem exec_state {s : State} {fr : LinkFrame} (tstate : BitVec 3) (part : BitVec 2) (sleep : Option (BitVec 96)) (hst : s.lk.st = .underway)
    (h : s.takes fr) : exec (.state fr tstate part sleep) s = .next ((s.taken fr).heardState fr.peer.val (TState.ofCode tstate.toNat) part
      (sleep.map (fun w => s.now + (fineOf96 w.toNat - s.time.cvt) / 2 ^ 40))) := by
  have hnow : (s.taken fr).now = s.now := taken_proj State.now fun _ _ _ => rfl
  have hcvt : (s.taken fr).time.cvt = s.time.cvt := taken_proj (fun x : State => x.time.cvt) fun _ _ _ => rfl
  rw [← hnow, ← hcvt]
  change execState fr tstate part sleep s = _
  unfold execState
  rw [acceptFrame_takes hst h]
  exact if_neg Bool.false_ne_true

theorem heardState_ends (st : TState) (part : BitVec 2) (wake : Option Nat) :
    (s.heardState j st part wake).peer j = { s.peer j with pst := st, part := part, asleep := wake } ∧
    (s.leadSlot = some j → (s.heardState j st part wake).convoy.leadState = st) := by
  unfold State.heardState
  extract_lets grows _ u v _ w
  have hulead : u.leadSlot = s.leadSlot := proj_of_ite State.leadSlot rfl rfl
  have hvpeer : v.peer j = { s.peer j with pst := st, part := part, asleep := wake } := by
    have hu : u.peer j = s.peer j := proj_of_ite (State.peer · j) rfl rfl
    rw [← hu]
    exact modPeer_peer ..
  have hw : w.peer j = v.peer j := proj_of_ite (State.peer · j) rfl rfl
  refine ⟨(proj_of_ite (State.peer · j) hw ((showState_outside w (State.peer · j) fun _ _ _ _ => rfl).trans hw)).trans hvpeer, fun hl => ?_⟩
  have hwlead : w.convoy.leadState = st := by
    have hv : v.leadSlot = some j := hulead.trans hl
    exact congrArg (fun x : State => x.convoy.leadState) (if_pos hv)
  exact proj_of_ite (fun x : State => x.convoy.leadState) hwlead
    ((showState_outside w (fun x : State => x.convoy.leadState) fun _ _ _ _ => rfl).trans hwlead)

/-! ## PEER_SLEEP_TIMEOUT (R131) -/

/-- Both lanes of a peer are down, and none is active. -/
def Peer.silent (p : Peer) : Peer := { p with
  active := 0, a := { p.a with up := false, sum := 0, count := 0, measFrom := none }, b := { p.b with up := false, sum := 0, count := 0, measFrom := none } }

theorem exec_peerSleepTimeout {s : State} (peer : Fin 3) {w : Nat} (hst : s.lk.st = .underway) (hw : (s.peer peer.val).asleep = some w)
    (ht : w + 1000000000 ≤ s.now) : ∃ t, exec (.peerSleepTimeout peer) s = .next t ∧
      t.peer peer.val = (if s.now ≤ (s.peer peer.val).heard + 375000 then { s.peer peer.val with asleep := none }
        else ({ s.peer peer.val with asleep := none } : Peer).silent) := by
  have hfast : s.fastClocks = true := by simp [State.fastClocks, hst]
  change ∃ t, execPeerSleepTimeout peer s = .next t ∧ _
  unfold execPeerSleepTimeout
  dsimp only
  rw [hw]
  dsimp only
  rw [if_neg (by simp [hfast, ht])]
  refine ⟨_, rfl, ?_⟩
  have hpeer : (s.modPeer peer.val (fun p => { p with asleep := none })).peer peer.val = { s.peer peer.val with asleep := none } := modPeer_peer ..
  have hnow : (s.modPeer peer.val (fun p => { p with asleep := none })).now = s.now := rfl
  rw [hpeer, hnow]
  split
  · exact hpeer
  · rw [loseLink_peer, setActive_peer, modPeer_peer, hpeer]
    rfl

/-! ## PARTITION_SPLIT (R132) -/

/-- The lead that the reachable chips elect. -/
def State.elected (s : State) (reach : BitVec 4) : Nat :=
  ([1, 2, 3].find? (fun i => decide (i = s.ident.chip.toNat) || reach.getLsbD i)).getD s.ident.chip.toNat

theorem elected_lowest {s : State} {reach : BitVec 4} (hc : s.ident.chip ≠ 0) : let l := s.elected reach
    0 < l ∧ l ≤ s.ident.chip.toNat ∧ (l = s.ident.chip.toNat ∨ reach.getLsbD l = true) ∧ ∀ c, 0 < c → c < l → reach.getLsbD c = false := by
  have hpos : 0 < s.ident.chip.toNat := by
    rw [Nat.pos_iff_ne_zero]
    exact fun h => hc (BitVec.eq_of_toNat_eq h)
  have hlt : s.ident.chip.toNat < 4 := s.ident.chip.isLt
  unfold State.elected
  generalize s.ident.chip.toNat = n at hpos hlt ⊢
  simp only [List.find?_cons]
  cases h1 : decide (1 = n) || reach.getLsbD 1 with
  | true =>
    simp only [Bool.or_eq_true, decide_eq_true_eq] at h1
    exact ⟨Nat.one_pos, hpos, h1, fun c h0 h => absurd h (Nat.not_lt.mpr h0)⟩
  | false =>
    simp only [Bool.or_eq_false_iff, decide_eq_false_iff_not] at h1
    have hbelow : ∀ c, 0 < c → c < 2 → reach.getLsbD c = false := fun c h0 h => (show c = 1 by omega) ▸ h1.2
    cases h2 : decide (2 = n) || reach.getLsbD 2 with
    | true =>
      simp only [Bool.or_eq_true, decide_eq_true_eq] at h2
      exact ⟨Nat.two_pos, (show 2 ≤ n by omega), h2, hbelow⟩
    | false =>
      simp only [Bool.or_eq_false_iff, decide_eq_false_iff_not] at h2
      obtain rfl : n = 3 := by omega
      refine ⟨Nat.succ_pos 2, Nat.le_refl 3, .inl rfl, fun c h0 (h : c < 3) => ?_⟩
      obtain hc | rfl : c < 2 ∨ c = 2 := by omega
      · exact hbelow c h0 hc
      · exact h2.2

/-- The chip in the partition of an elected lead. -/
def State.splitTo (s : State) (l : Nat) : State :=
  let u := { s with time := { s.time with part := BitVec.ofNat 2 l }, convoy := { s.convoy with acting := decide (l = s.ident.chip.toNat) } }
  let v := if u.time.st = .holdover then u else u.enterHoldover
  if decide (s.time.part.toNat ≠ l) then v.showState else v

theorem exec_partitionSplit {s : State} (reach : BitVec 4) (hst : s.lk.st = .underway) (hc : s.ident.chip ≠ 0) (hs : s.convoy.split = true) :
    exec (.partitionSplit reach) s = .next (s.splitTo (s.elected reach)) := by
  have hfast : s.fastClocks = true := by simp [State.fastClocks, hst]
  have hchip : s.ident.chip.toNat ≠ 0 := fun h => hc (BitVec.eq_of_toNat_eq h)
  change execPartitionSplit reach s = _
  unfold execPartitionSplit
  exact if_neg (by simp [hfast, hchip, hs])

theorem splitTo_ends (l : Nat) : (s.splitTo l).time.part = BitVec.ofNat 2 l ∧ (s.splitTo l).convoy.acting = decide (l = s.ident.chip.toNat) ∧
    (s.splitTo l).time.st = .holdover := by
  unfold State.splitTo
  extract_lets _ _ u v
  have hshow : ∀ (x : State), x.showState.time.part = x.time.part ∧ x.showState.time.st = x.time.st ∧ x.showState.convoy = x.convoy := fun x =>
    ⟨by rw [showState_time], by rw [showState_time], showState_outside x State.convoy fun _ _ _ _ => rfl⟩
  obtain ⟨hpart, hstate, hconvoy⟩ := hshow v
  have hv : v.time.part = BitVec.ofNat 2 l ∧ v.time.st = .holdover ∧ v.convoy = u.convoy := by
    by_cases h : u.time.st = .holdover
    · rw [show v = u from if_pos h]
      exact ⟨rfl, h, rfl⟩
    · rw [show v = u.enterHoldover from if_neg h]
      refine ⟨?_, setTState_is .., enterHoldover_outside u State.convoy fun _ _ _ _ => rfl⟩
      exact setTState_proj (fun x : State => x.time.part) (fun _ _ _ _ _ _ _ _ => rfl) _ _
  obtain ⟨hvpart, hvst, hvconvoy⟩ := hv
  refine ⟨proj_of_ite (fun x : State => x.time.part) (hpart.trans hvpart) hvpart, ?_, proj_of_ite (fun x : State => x.time.st) (hstate.trans hvst) hvst⟩
  have hacting : v.convoy.acting = decide (l = s.ident.chip.toNat) := congrArg Convoy.acting hvconvoy
  exact proj_of_ite (fun x : State => x.convoy.acting) ((congrArg Convoy.acting hconvoy).trans hacting) hacting

end

/-! ## The obligation -/

/-- Settles O37: a HELLO by `hello_ends`, a step by `stepTo_ends`, and the rules of the messages and of the partition. -/
theorem convoyMessages : Obligations.ConvoyMessages := by
  intro fr s j b l taken hst
  refine ⟨?hello, ?epoch, ?sends, ?step, ?state, ?sleep, ?split⟩
  case hello =>
    intro chip m housing hc hchip same
    obtain ⟨t, hexec, hhello, hper, hup, hdown⟩ := hello_ends fr.peer b chip m housing hst hc hchip
    have hiff : s.sameMode j m housing = true ↔ same := sameMode_iff ..
    exact ⟨t, hexec, hhello, hper.trans (congrArg _ (Bool.eq_iff_iff.mpr (hiff.trans decide_eq_true_iff.symm))), fun h => hup (hiff.mpr h),
      fun h => hdown (Bool.eq_false_iff.mpr (hiff.not.mpr h))⟩
  case epoch =>
    intro epoch step cvt hs htaken hc he
    exact ⟨_, epochMsg_holds step cvt hst hs htaken hc he, taken_proj State.time fun _ _ _ => rfl, rfl⟩
  case sends => exact fun epoch step cvt hs ha => epochMsg_sends fr epoch step cvt hst hs ha
  case step =>
    intro epoch d e hp k inStep hdue
    obtain ⟨hcvt, hepoch, hpart, hconvoy, hper, hstate⟩ := stepTo_ends s (s.stepBy epoch d e) epoch
    have hunit : (qtUnit : Int) = 2 ^ 38 := by norm_num [qtUnit]
    rw [hunit] at hcvt
    have hin : s.inStep epoch = true ↔ inStep := inStep_iff s epoch
    refine ⟨_, exec_followerStep hst hp fun h => hdue (hin.mp h), hepoch, hpart, congrArg Convoy.pend hconvoy, hstate,
      congrArg Convoy.split hconvoy, congrArg Convoy.acting hconvoy, hper, fun h => ?_, fun h => ?_⟩
    · rw [hcvt, State.stepBy, if_pos (hin.mpr h)]
    · have hbefore : k.before e = true ↔ k.t1 ≤ e ∧ e ≤ k.t1 + 2 ^ 40 * 1000000 := by simp [Lane.before]
      rw [hcvt, State.stepBy, if_neg (hin.not.mpr h)]
      simp only [← hbefore]
      rfl
  case state =>
    intro tstate part sleep htaken
    obtain ⟨hpeer, hlead⟩ := heardState_ends (s.taken fr) j (TState.ofCode tstate.toNat) part
      (sleep.map (fun w => s.now + (fineOf96 w.toNat - s.time.cvt) / 2 ^ 40))
    have htl : (s.taken fr).leadSlot = s.leadSlot := taken_proj State.leadSlot fun _ _ _ => rfl
    exact ⟨_, exec_state tstate part sleep hst htaken, congrArg Peer.pst hpeer, congrArg Peer.part hpeer, congrArg Peer.asleep hpeer,
      fun h => hlead (htl.trans h)⟩
  case sleep =>
    intro w hw ht
    obtain ⟨t, hexec, hpeer⟩ := exec_peerSleepTimeout fr.peer hst hw ht
    refine ⟨t, hexec, ?_, fun h => ?_, fun h => ?_⟩
    · exact (congrArg Peer.asleep hpeer).trans (proj_of_ite Peer.asleep rfl rfl)
    · have hactive := congrArg Peer.active (hpeer.trans (if_pos h))
      exact hactive
    · have hsilent := hpeer.trans (if_neg (Nat.not_le.mpr h))
      exact ⟨congrArg Peer.active hsilent, congrArg (fun p : Peer => p.a.up) hsilent, congrArg (fun p : Peer => p.b.up) hsilent⟩
  case split =>
    intro reach hc hs
    obtain ⟨hpos, hle, hreach, hlow⟩ := elected_lowest (reach := reach) hc
    obtain ⟨hpart, hacting, hstate⟩ := splitTo_ends s (s.elected reach)
    have hlt : s.elected reach < 2 ^ 2 := Nat.lt_of_le_of_lt hle s.ident.chip.isLt
    have hnat : (s.splitTo (s.elected reach)).time.part.toNat = s.elected reach := by
      rw [hpart, BitVec.toNat_ofNat, Nat.mod_eq_of_lt hlt]
    have hown : (s.splitTo (s.elected reach)).time.part = s.ident.chip ↔ s.elected reach = s.ident.chip.toNat := by
      rw [← BitVec.toNat_inj, hnat]
    refine ⟨_, exec_partitionSplit reach hst hc hs, fun h => ?_, ?_⟩
    · rw [h] at hnat
      exact Nat.ne_of_gt hpos hnat.symm
    · rw [hnat]
      exact ⟨hle, hreach.imp_left hown.mpr, hlow, hacting.trans (decide_eq_decide.mpr hown.symm), hstate⟩

end Sys2Proof.Machine
end

section
/-! SUPPORT. What moves Convoy Time and the power state, the PPS input, the packets of the time unit and the packets with a
stated instant (R102, R115, R116, R121, R130, R391, R401). -/

namespace Sys2Proof.Machine

/-! ## Who moves CVT and the power state -/

theorem Moves.cvt {f g : Fix} {i : Instr} (h : Moves f i g) (hstep : i ≠ .stepEdge) (hfollow : i ≠ .followerStep)
    (hporst : i ≠ .porstNAssert) : g.cvt = f.cvt := by
  cases h with
  | stepsCvt _ _ hi => exact (hi.elim hstep hfollow).elim
  | porst => exact absurd rfl hporst
  | _ => rfl

theorem Moves.power {f g : Fix} {i : Instr} (h : Moves f i g) (hchoice : i ≠ .powerStateChoice) (hentry : i ≠ .sleepEntryComplete)
    (hexit : i ≠ .sleepExitComplete) (hporst : i ≠ .porstNAssert) (hwarm : ∀ c, i ≠ .warmReset c) :
    g.power = f.power ∧ g.entering = f.entering := by
  cases h with
  | porst => exact absurd rfl hporst
  | warm _ hi => exact (hi.elim hexit fun ⟨c, hc⟩ => hwarm c hc).elim
  | sleeps _ _ _ hi => exact (hi.elim hchoice hentry).elim
  | rises => exact absurd rfl hexit
  | _ => exact ⟨rfl, rfl⟩

/-- Settles O8: of the ways of `Moves`, those that write CVT and those that write the power state are the commands named. -/
theorem whoMovesTimeAndPower : Obligations.WhoMovesTimeAndPower := by
  intro i s t he
  obtain ⟨u, hu, hm⟩ := exec_acts i s
  cases hu.symm.trans he
  exact ⟨hm.cvt, hm.power⟩

/-! ## PPS (R115) -/

/-- The distance of a capture from the nearest whole second, in units of 250 ps. -/
def secondOffset (c : Nat) : Nat := if c % 4000000000 ≤ 2000000000 then c % 4000000000 else 4000000000 - c % 4000000000

/-- A capture is far from every whole second when it is so from the one before and the one after. -/
theorem far_iff_secondOffset (c : Nat) :
    (∀ k : Nat, 4000 < ((c : Int) - 4000000000 * (k : Int)).natAbs) ↔ 4000 < secondOffset c := by
  unfold secondOffset
  constructor
  · intro h
    have before := h (c / 4000000000)
    have after := h (c / 4000000000 + 1)
    split <;> omega
  · intro h k
    rcases Nat.lt_or_ge (c / 4000000000) k with hk | hk <;> split at h <;> omega

theorem exec_ppsEdge (phase : BitVec 2) (s : State) : exec (.ppsEdge phase) s = .next
    (if s.time.st = .locked ∧ 4000 < secondOffset (s.capture phase) then s.raise 0x302 0 (secondOffset (s.capture phase) / 4) else s) := by
  change execPpsEdge phase s = _
  unfold execPpsEdge
  simp only [Bool.and_eq_true, decide_eq_true_eq]
  rfl

/-- Settles O31: the raise happens exactly in LOCKED and far from every whole second. -/
theorem ppsCompared : Obligations.PpsCompared := by
  refine ⟨by decide, fun phase s => ?_⟩
  intro far
  have hfar : far ↔ 4000 < secondOffset (s.capture phase) := far_iff_secondOffset _
  rw [exec_ppsEdge]
  refine ⟨fun hst h => ⟨_, congrArg _ (if_pos ⟨hst, hfar.mp h⟩), rfl⟩, fun h => congrArg _ (if_neg ?_)⟩
  rintro ⟨hst, hoff⟩
  exact h.elim (fun hn => hn hst) (fun hn => hn (hfar.mpr hoff))

/-! ## The packets of the time unit (R401) -/

theorem laneBits_eq (s : State) : s.laneBits = (s.peer 0).active + (s.peer 1).active * 4 + (s.peer 2).active * 16 := by
  simp [State.laneBits, List.range_succ]

theorem gainOk_of_rat {w : W32} {m q : Rat} (hq : fp32Rat? w = some q) (h0 : 0 < q) (hm : q ≤ m) : gainOk w m = true := by
  simp [gainOk, hq, h0, hm]

theorem bodyServoSet_fits {pk : Pkt} (slot : Nat) (s : State) (hlo : 1000 ≤ (pk.p 1).toNat) (hhi : (pk.p 1).toNat ≤ 1000000)
    (hkp : gainOk (pk.p 2) 1 = true) (hki : gainOk (pk.p 3) (1 / 2) = true) : bodyServoSet pk slot s =
      .done .ok [] { s with time := { s.time with period := (pk.p 1).toNat, kp := pk.p 2, ki := pk.p 3 } } := by
  have hper : (decide ((pk.p 1).toNat < 1000) || decide (1000000 < (pk.p 1).toNat)) = false := by
    simp only [Bool.or_eq_false_iff, decide_eq_false_iff_not]
    omega
  simp only [bodyServoSet, chk, hper, hkp, hki]
  rfl

theorem bodyReanchor_fits (pk : Pkt) (slot : Nat) {s : State} (hlead : s.ident.chip = 0) (hst : s.time.st = .detached)
    (hepoch : s.time.epoch ≠ 0xFFFF) (hnone : s.time.reanchor = none) : bodyReanchor pk slot s =
      .accept [] { s with time := { s.time with
        reanchor := some (slot, pk.seq), reanchorLatched := false, reanchorStep := s.time.step.isSome } } := by
  have hlast : decide (s.time.epoch = 0xFFFF) = false := decide_eq_false hepoch
  simp only [bodyReanchor, chk, hlead, hst, hlast, hnone]
  rfl

theorem bodyLaneAsym_fits {pk : Pkt} (slot : Nat) (s : State) (hj : fld (pk.p 1) 0 2 ≤ 2) :
    let v := if flag (pk.p 1) 5 then none else some (sgn 32 (pk.p 2).toNat)
    let u := ({ s with convoy := { s.convoy with noAuto := flag (pk.p 1) 4 } }).modLane (fld (pk.p 1) 0 2) (flag (pk.p 1) 2)
      (fun l => { l with asym := v, sum := 0, count := 0, measFrom := none })
    bodyLaneAsym pk slot s = .done .ok []
      (if flag (pk.p 1) 3 then u.lbWrite (fun l => { l with asym := tset l.asym (2 * fld (pk.p 1) 0 2 + b2n (flag (pk.p 1) 2)) v none }) else u) := by
  simp [bodyLaneAsym, chk, Nat.not_lt.mpr hj]

/-- Settles O30: what each body answers and changes, at the doorbell. -/
theorem timePackets : Obligations.TimePackets := by
  refine fun pk s => ⟨fun h => ?_, fun h hlo hhi q r hq hq0 hq1 hr hr0 hr1 => ?_, fun h hlead hst hepoch hnone => ?_, fun h hj => ?_⟩
  · refine h.answers (body := bodyTimeStatus) (f := fun t => t) (by decide) ?_
    rw [← laneBits_eq s]
    rfl
  · exact h.answers (by decide) (bodyServoSet_fits _ _ hlo hhi (gainOk_of_rat hq hq0 hq1) (gainOk_of_rat hr hr0 hr1))
  · exact h.accepts (bodyReanchor_fits pk _ (s := s.rung specReanchor pk) hlead hst hepoch hnone)
  · exact h.answers (by decide) (bodyLaneAsym_fits _ _ hj)

/-! ## Stated instants (R121, R391) -/

/-- A launch that passes checks 1 to 7, with fields accepted and an instant stated. -/
theorem runPacket_stated {sp : OpSpec} {body : Pkt → Nat → State → Verdict} {pk : Pkt} {s u : State} {at_ : Nat} {ws : List Nat}
    (hcheck : preCheck sp pk s = none) (hat : sp.at_ pk = some at_) :
    let slot := if sp.needsSlot pk s then (s.apt pk.o).freeSlot.getD 0 else 0
    let held : State := { s with esl := { s.esl with held := s.esl.held ++ [⟨sp.op, pk, slot, at_, s.time.epoch, s.uncertain⟩] } }
    body pk slot s = .done .ok ws u → runPacket sp body pk s =
      if s.time.cvt + 60000 * msFine < at_ then s.reply sp.op pk .badParam [sp.instant.getD 0 + 1, 0]
      else if s.uncertain = true ∧ pk.force = false then s.reply sp.op pk .timeUncertain [0, 0]
      else if at_ ≤ s.time.cvt then finish sp pk slot s.uncertain s (.done .ok ws u)
      else if slot = 0 then held
      else (held.modApt pk.o (fun a => a.setSlot slot { a.slot slot with pending := true })).reply sp.op pk .accepted [slot] := by
  intro slot held hbody
  unfold runPacket
  rw [hcheck]
  dsimp only
  rw [hbody]
  dsimp only
  rw [hat]
  simp only [Bool.and_eq_true, Bool.not_eq_true']
  rfl

/-- A reply posted or put off leaves the writes that wait (R388). -/
theorem answerHeld_deferred (s : State) (h : Held) (st : Status) (ws : List Nat) :
    (s.answerHeld h st ws).esl.deferred = s.esl.deferred :=
  proj_of_ite (fun t : State => t.esl.deferred) rfl (proj_of_ite (fun t : State => t.esl.deferred) rfl rfl)

theorem runDeferred_none {s : State} (h : s.esl.deferred = []) : s.runDeferred = s := by
  unfold State.runDeferred
  rw [h, List.foldl_nil, ← h]

/-- A held action that is due, when its body is done (R121, R391). -/
theorem exec_instantActionDue {idx : Nat} {s u : State} {h : Held} {ws : List Nat} (hidx : s.esl.held[idx]? = some h)
    (hawake : s.asleep = false) (hrest : s.dev.restarting = false) (hdue : h.epoch ≠ s.time.epoch ∨ h.instant ≤ s.time.cvt)
    (hbody : (packetOf h.op).2 h.pk h.slot { s with esl := { s.esl with held := removeAt s.esl.held idx } } = .done .ok ws u) :
    exec (.instantActionDue idx) s = .next (u.answerHeld h
      (if h.uncertain = true ∨ h.epoch ≠ s.time.epoch then .timeUncertain else .ok) ws).runDeferred := by
  change execInstantActionDue idx s = _
  unfold execInstantActionDue
  rw [hidx]
  dsimp only
  rw [if_neg (by simp [hawake, hrest]; tauto), hbody]
  simp

/-- Settles O12: a launch by `runPacket_stated`, a held action by `exec_instantActionDue`. -/
theorem statedInstants : Obligations.StatedInstants := by
  refine ⟨fun sp body pk s at_ ws u hcheck hat hbody => ?launch, fun idx s h ws u hidx hawake hrest hdue _ hu hbody => ?due⟩
  case launch =>
    intro slot held
    rw [runPacket_stated hcheck hat hbody]
    refine ⟨fun hlate => if_pos hlate, fun hnear => ?_⟩
    rw [if_neg (Nat.not_lt.mpr hnear)]
    refine ⟨fun hun hforce => if_pos ⟨hun, hforce⟩, fun hsure => ?_⟩
    rw [if_neg (by rintro ⟨hun, hforce⟩; simp [hun, hforce] at hsure)]
    refine ⟨fun hpast => if_pos hpast, fun hahead hslot => ?_, fun hahead hslot => ?_⟩
    · rw [if_neg (Nat.not_le.mpr hahead), if_pos hslot]
    · rw [if_neg (Nat.not_le.mpr hahead), if_neg hslot]
  case due =>
    rw [exec_instantActionDue hidx hawake hrest hdue hbody, runDeferred_none ((answerHeld_deferred ..).trans hu)]

end Sys2Proof.Machine
end

section
/-! SUPPORT. TIME_SYNC_DUE (R101, R178): which streams send their TIME_SYNC, and what that leaves of every stream. -/

namespace Sys2Proof.Machine

/-- What the TIME_SYNC of a stream goes by: whether it is active, its last one, and the records since. -/
structure SyncState where
  active : Bool
  lastSync : Nat
  since : Nat

def Stream.sync (x : Stream) : SyncState := ⟨x.active, x.lastSync, x.since⟩

/-- A TIME_SYNC at ts, where 262 us have passed since the last: a stream with no record since goes idle (R101). -/
def SyncState.dueAt (x : SyncState) (ts : Nat) : SyncState :=
  if x.lastSync + 1048000 ≤ ts then ⟨!decide (x.since = 0), ts, 0⟩ else x

theorem dueAt_sync (x : Stream) (ts : Nat) : x.sync.dueAt ts =
    if x.lastSync + 1048000 ≤ ts then ⟨!decide (x.since = 0), ts, 0⟩ else x.sync := rfl

/-- A lost record leaves a resync owed, which its stream's times do not show. -/
theorem noteLoss_sync (s : State) (q : Nat) (r : Rec) (src o : Nat) : ((s.noteLoss q r).stream src o).sync = (s.stream src o).sync := by
  unfold State.noteLoss
  extract_lets l u
  refine proj_of_ite (fun t : State => (t.stream src o).sync) ?_ rfl
  rw [setStream_stream]
  split
  · next hkey =>
    have hsame : s.stream src o = s.stream q r.owner := congrArg (tget s.canal.streams · Stream.zero) hkey
    rw [hsame]
    rfl
  · rfl

theorem pushRec_sync (s : State) (q : Nat) (r : Rec) (src o : Nat) : ((s.pushRec q r).stream src o).sync = (s.stream src o).sync :=
  foldl_proj (fun t : State => (t.stream src o).sync) _ (fun t d => noteLoss_sync t q d src o) _ _

theorem emitSync_sync (s : State) (q k ts : Nat) (resync idle : Bool) (src o : Nat) : ((s.emitSync q k ts resync idle).stream src o).sync =
    if src * 32 + o = q * 32 + k then ⟨!idle, ts, 0⟩ else (s.stream src o).sync := by
  refine (pushRec_sync ..).trans ?_
  rw [setStream_stream]
  split <;> rfl

/-- The TIME_SYNC of one stream where it is due. -/
def State.syncOwner (src ts : Nat) (s : State) (o : Nat) : State :=
  if (s.stream src o).lastSync + 1048000 ≤ ts then s.emitSync src o ts (s.stream src o).resync (decide ((s.stream src o).since = 0)) else s

/-- The TIME_SYNCs of one source (R101); a halted probe sends none (R137). -/
def State.syncSource (s : State) (src : Nat) : State :=
  let ts := if src < 128 then s.probeTs src else s.ts
  if src < 128 && ((s.probe src).haltTs.isSome || !s.probeLive src) then s else (s.activeOwners src).foldl (State.syncOwner src ts) s

theorem exec_timeSyncDue (s : State) : exec .timeSyncDue s = .next ((List.range 139).foldl State.syncSource s) := rfl

theorem syncOwner_self (s : State) (src ts o : Nat) : ((s.syncOwner src ts o).stream src o).sync = (s.stream src o).sync.dueAt ts := by
  rw [dueAt_sync]
  unfold State.syncOwner
  split
  · rw [emitSync_sync, if_pos rfl]
  · rfl

theorem syncOwner_other {src o q k : Nat} (s : State) (ts : Nat) (h : q * 32 + k ≠ src * 32 + o) :
    ((s.syncOwner src ts o).stream q k).sync = (s.stream q k).sync := by
  refine proj_of_ite (fun t : State => (t.stream q k).sync) ?_ rfl
  rw [emitSync_sync, if_neg h]

theorem syncOwner_canal (s : State) (src ts o : Nat) : CanalOnly s (s.syncOwner src ts o) := .ite _ (emitSync_canal ..) .rfl

theorem syncSource_canal (s : State) (src : Nat) : CanalOnly s (s.syncSource src) :=
  .ite _ .rfl (.foldl _ (fun t o => syncOwner_canal t src _ o) _ _)

theorem mem_activeOwners {s : State} {src o : Nat} : o ∈ s.activeOwners src ↔ o < 17 ∧ (s.stream src o).active = true := by
  simp [State.activeOwners]

/-- The streams of the other sources keep their times. -/
theorem syncSource_other {src q k : Nat} (s : State) (hq : q ≠ src) (hk : k < 17) :
    ((s.syncSource src).stream q k).sync = (s.stream q k).sync := by
  refine proj_of_ite (fun t : State => (t.stream q k).sync) rfl ?_
  refine List.foldlRecOn (motive := fun t : State => (t.stream q k).sync = (s.stream q k).sync) _ _ rfl fun t ht o ho => ?_
  have hlt := (mem_activeOwners.mp ho).1
  exact (syncOwner_other t _ (by omega)).trans ht

/-- A block source sends the TIME_SYNC of its active streams at the timestamp of now. -/
theorem syncSource_block {src o : Nat} (s : State) (hsrc : 128 ≤ src) (ho : o < 17) : ((s.syncSource src).stream src o).sync =
    if (s.stream src o).active = true then (s.stream src o).sync.dueAt s.ts else (s.stream src o).sync := by
  have hfold : s.syncSource src = (s.activeOwners src).foldl (State.syncOwner src s.ts) s := by
    simp [State.syncSource, Nat.not_lt.mpr hsrc]
  rw [hfold]
  by_cases hactive : (s.stream src o).active = true
  · obtain ⟨t, ht, hend⟩ := foldl_acts_once (fun t : State => (t.stream src o).sync) (State.syncOwner src s.ts) o
      (s.activeOwners src) (mem_activeOwners.mpr ⟨ho, hactive⟩) (List.Pairwise.filter _ List.nodup_range)
      (fun t c hc => syncOwner_other t _ (by omega)) s
    rw [if_pos hactive, ← ht]
    exact hend.trans (syncOwner_self ..)
  · rw [if_neg hactive]
    refine List.foldlRecOn (motive := fun t : State => (t.stream src o).sync = (s.stream src o).sync) _ _ rfl fun t ht c hc => ?_
    have hne : c ≠ o := by
      rintro rfl
      exact hactive (mem_activeOwners.mp hc).2
    exact (syncOwner_other t _ (by omega)).trans ht

/-- Each block stream meets its own source once, the timestamp being that of the start. -/
theorem timeSyncDue_sync {src o : Nat} (s : State) (hlo : 128 ≤ src) (hhi : src < 139) (ho : o < 17) :
    (((List.range 139).foldl State.syncSource s).stream src o).sync =
      if (s.stream src o).active = true then (s.stream src o).sync.dueAt s.ts else (s.stream src o).sync := by
  obtain ⟨t, ht, hend⟩ := foldl_acts_once (fun t : State => ((t.stream src o).sync, t.ts)) State.syncSource src (List.range 139)
    (List.mem_range.mpr hhi) List.nodup_range
    (fun t c hc => Prod.ext (syncSource_other t (Ne.symm hc) ho) ((syncSource_canal t c).proj State.ts fun _ _ => rfl)) s
  obtain ⟨hsync, hts⟩ := Prod.mk.inj ht
  have hactive : (t.stream src o).active = (s.stream src o).active := congrArg SyncState.active hsync
  rw [(Prod.mk.inj hend).1, syncSource_block t hlo ho, hactive, hsync, hts]

/-- Settles O35: the canal alone by `syncSource_canal`, the times of a stream by `timeSyncDue_sync`. -/
theorem timeSyncDueEmits : Obligations.TimeSyncDueEmits := by
  intro s
  have hcanal : CanalOnly s ((List.range 139).foldl State.syncSource s) := .foldl _ syncSource_canal _ _
  refine ⟨_, exec_timeSyncDue s, hcanal.proj (fun t : State => { t with canal := s.canal }) (fun _ _ => rfl), fun src o hlo hhi ho => ?_⟩
  have hsync := timeSyncDue_sync s hlo hhi ho
  generalize ((List.range 139).foldl State.syncSource s).stream src o = x at hsync ⊢
  refine ⟨fun hactive hdue => ?_, fun hnot => ?_⟩
  · rw [if_pos hactive, dueAt_sync, if_pos hdue] at hsync
    exact ⟨congrArg SyncState.lastSync hsync, congrArg SyncState.since hsync, congrArg SyncState.active hsync⟩
  · have hkept : x.sync = (s.stream src o).sync := by
      rw [hsync]
      split
      · next hactive =>
        have hyoung : ¬ (s.stream src o).lastSync + 1048000 ≤ s.ts := by
          rw [hactive] at hnot
          simpa using hnot
        rw [dueAt_sync, if_neg hyoung]
      · rfl
    exact ⟨congrArg SyncState.lastSync hkept, congrArg SyncState.active hkept⟩

end Sys2Proof.Machine
end

section
/-! SUPPORT. TSYNC frames (R122 to R125): their bits, what a broadcast does to each probe, and what a replica takes. -/

namespace Sys2Proof.Machine

/-! ## The bits of a frame (R122) -/

theorem tstate_code_lt (st : TState) : st.code < 2 ^ 3 := by cases st <;> decide

theorem cvt96_lt (s : State) : s.cvt96 < 2 ^ 96 := by
  unfold State.cvt96
  omega

theorem loadBits_fields (s : State) {k : Nat} (hk : k < 16) : bits (s.loadBits k) 0 4 = k ∧
    bits (s.loadBits k) 8 16 = s.time.epoch.toNat ∧ bits (s.loadBits k) 24 2 = s.time.part.toNat ∧
    bits (s.loadBits k) 26 3 = s.tstate.code ∧ bits (s.loadBits k) 32 96 = s.cvt96 := by
  have hepoch := s.time.epoch.isLt
  have hpart := s.time.part.isLt
  have hst := tstate_code_lt s.tstate
  have hcvt := cvt96_lt s
  unfold State.loadBits bits
  omega

theorem rateBits_fields (s : State) : bits s.rateBits 0 4 = 2 ∧ bits s.rateBits 8 48 = s.time.incOn % 2 ^ 48 := by
  unfold State.rateBits bits
  omega

theorem statusBits_fields (s : State) : bits s.statusBits 0 4 = 3 ∧ bits s.statusBits 8 16 = s.time.epoch.toNat ∧
    bits s.statusBits 24 2 = s.time.part.toNat ∧ bits s.statusBits 26 3 = s.tstate.code := by
  have hepoch := s.time.epoch.isLt
  have hpart := s.time.part.isLt
  have hst := tstate_code_lt s.tstate
  unfold State.statusBits bits
  omega

/-- A route that inverts no bit delivers the body. -/
theorem received_intact (n body : Nat) : received n body 0 = some body := by simp [received]

theorem frameOf_parts {n body : Nat} (h : body < 2 ^ n) : frameOf n body % 2 ^ n = body ∧ frameOf n body / 2 ^ n = crc16 n body := by
  unfold frameOf
  rw [Nat.add_mul_mod_self_right, Nat.mod_eq_of_lt h, Nat.add_mul_div_right _ _ (Nat.two_pow_pos n), Nat.div_eq_of_lt h, Nat.zero_add]
  exact ⟨rfl, rfl⟩

/-! ## What a frame shows of one probe -/

/-- A probe, the time that raises are stamped with, and the raises of the probe's unit. -/
def State.probeView (s : State) (p : Nat) : Probe × TimeU × Clk × List Pend :=
  (s.probe p, s.time, s.clk, s.fc.pend.filter (fun x => decide (x.unit = p)))

theorem setProbe_probeView (s : State) (p : Nat) (x : Probe) : (s.setProbe p x).probeView p = (x, (s.probeView p).2) :=
  Prod.ext (State.setProbe_probe_same ..) rfl

theorem setProbe_probeView_other {p q : Nat} (s : State) (x : Probe) (h : p ≠ q) : (s.setProbe q x).probeView p = s.probeView p :=
  Prod.ext ((State.setProbe_probe ..).trans (if_neg h)) rfl

theorem raise_probeView_other {p q : Nat} (s : State) (code detail : Nat) (h : p ≠ q) : (s.raise code q detail).probeView p = s.probeView p := by
  simp [State.probeView, State.raise, State.raiseAs, State.probe, Ne.symm h]

theorem CanalOnly.probeView {s t : State} (h : CanalOnly s t) (p : Nat) : t.probeView p = s.probeView p :=
  h.proj (State.probeView · p) fun _ _ => Eq.refl _

/-- A raise of a probe's unit, as it stands in the queue of the state that shows the same time. -/
theorem raise_mem_probeView {s t : State} {p : Nat} (code : Nat) (h : (t.probeView p).2 = (s.probeView p).2) :
    ⟨code, p, 0, none, s.ts, s.now, false, false⟩ ∈ ((t.raise code p 0).probeView p).2.2.2 := by
  obtain ⟨htime, hclk, -⟩ := Prod.mk.inj h |>.imp_right Prod.mk.inj
  obtain ⟨hts, hnow⟩ := instant_ts s (t := t) (Prod.ext (congrArg TimeU.cvt htime) hclk)
  simp [State.probeView, State.raise, State.raiseAs, hts, hnow]

theorem mem_pend_of_probeView {s t : State} {p : Nat} {x : Pend} (h : s.probeView p = t.probeView p) (hx : x ∈ (t.probeView p).2.2.2) :
    x ∈ s.fc.pend := by
  rw [← h] at hx
  exact (List.mem_filter.mp hx).1

/-! ## A broadcast -/

/-- A replica after a frame that fails its CRC: the third in a row starts the count again (R125). -/
def Replica.failed (r : Replica) : Replica := { r with crcRun := if 2 ≤ r.crcRun then 0 else r.crcRun + 1 }

def Replica.heard (r : Replica) : Replica := { r with crcRun := 0 }

theorem badFrame_probe (s : State) (p : Nat) : (s.badFrame p).probe p = { s.probe p with replica := (s.probe p).replica.failed } := by
  unfold State.badFrame Replica.failed
  dsimp only
  split
  · exact State.setProbe_probe_same ..
  · exact State.setProbe_probe_same ..

theorem badFrame_probeView_other {p q : Nat} (s : State) (h : p ≠ q) : (s.badFrame q).probeView p = s.probeView p := by
  unfold State.badFrame
  exact proj_of_ite (State.probeView · p) ((raise_probeView_other _ _ _ h).trans (setProbe_probeView_other _ _ h)) (setProbe_probeView_other _ _ h)

theorem badFrame_time (s : State) (p : Nat) : (s.badFrame p).time = s.time := proj_of_ite State.time rfl rfl

theorem badFrame_raises {s t : State} {p : Nat} (h : t.probeView p = s.probeView p) (hrun : 2 ≤ (s.probe p).replica.crcRun) :
    ⟨0x304, p, 0, none, s.ts, s.now, false, false⟩ ∈ ((t.badFrame p).probeView p).2.2.2 := by
  have hprobe : t.probe p = s.probe p := congrArg Prod.fst h
  unfold State.badFrame
  dsimp only
  rw [if_pos (hprobe ▸ hrun)]
  have hrest : (t.probeView p).2 = (s.probeView p).2 := congrArg Prod.snd h
  exact raise_mem_probeView 0x304 ((congrArg Prod.snd (setProbe_probeView ..)).trans hrest)

/-- What one probe does at a frame. -/
def State.atFrame (n body : Nat) (flips : Tab Nat) (take : State → Nat → Nat → State) (s : State) (p : Nat) : State :=
  match received n body (tget flips p 0) with
  | some rx => take (s.modProbe p (fun x => { x with replica := x.replica.heard })) p rx
  | none => s.badFrame p

/-- How a replica takes a frame: its probe alone shows it, and time stands. -/
structure Takes (take : State → Nat → Nat → State) : Prop where
  others : ∀ s p q rx, p ≠ q → (take s q rx).probeView p = s.probeView p
  time : ∀ s q rx, (take s q rx).time = s.time

theorem mem_replicas {s : State} {p : Nat} : p ∈ s.replicas ↔ p < s.ident.nProbes ∧ (s.probe p).up = true := by
  simp [State.replicas]

section
variable {take : State → Nat → Nat → State} (hT : Takes take) (n body : Nat) (flips : Tab Nat) (s : State)

theorem broadcast_eq : s.broadcast n body flips take = s.replicas.foldl (State.atFrame n body flips take) s := rfl

include hT

theorem atFrame_other {p q : Nat} (h : p ≠ q) : (s.atFrame n body flips take q).probeView p = s.probeView p := by
  unfold State.atFrame
  split
  · exact (hT.others _ _ _ _ h).trans (setProbe_probeView_other _ _ h)
  · exact badFrame_probeView_other s h

theorem broadcast_time : (s.broadcast n body flips take).time = s.time := by
  refine foldl_proj State.time (State.atFrame n body flips take) (fun t q => ?_) s.replicas s
  unfold State.atFrame
  split
  · exact hT.time ..
  · exact badFrame_time t q

/-- A frame reaches a powered probe once. -/
theorem broadcast_probeView {p : Nat} (hp : p ∈ s.replicas) : ∃ t : State, t.probeView p = s.probeView p ∧
    (s.broadcast n body flips take).probeView p = (t.atFrame n body flips take p).probeView p :=
  foldl_acts_once (State.probeView · p) (State.atFrame n body flips take) p s.replicas hp (List.Pairwise.filter _ List.nodup_range)
    (fun t _ hc => atFrame_other hT n body flips t (Ne.symm hc)) s

/-- A frame does not reach a probe that is off. -/
theorem broadcast_off {p : Nat} (hp : (s.probe p).up = false) : (s.broadcast n body flips take).probe p = s.probe p := by
  refine congrArg Prod.fst (List.foldlRecOn (motive := fun t : State => t.probeView p = s.probeView p) s.replicas
    (State.atFrame n body flips take) rfl fun t ht q hq => ?_)
  have hne : p ≠ q := by
    rintro rfl
    simp [(mem_replicas.mp hq).2] at hp
  exact (atFrame_other hT n body flips t hne).trans ht

/-- A powered probe's replica takes the frame, or counts it, the third in a row raised (R125). -/
theorem broadcast_brings {p : Nat} (hn : p < s.ident.nProbes) (hup : (s.probe p).up = true) (f : Nat → Replica)
    (htake : ∀ t rx, t.time = s.time → t.probe p = { s.probe p with replica := (s.probe p).replica.heard } →
      (take t p rx).probe p = { s.probe p with replica := f rx }) :
    (s.broadcast n body flips take).probe p = { s.probe p with replica := match received n body (tget flips p 0) with
      | some rx => f rx
      | none => (s.probe p).replica.failed } ∧
    (received n body (tget flips p 0) = none → 2 ≤ (s.probe p).replica.crcRun →
      ⟨0x304, p, 0, none, s.ts, s.now, false, false⟩ ∈ (s.broadcast n body flips take).fc.pend) := by
  obtain ⟨t, ht, hend⟩ := broadcast_probeView hT n body flips s (mem_replicas.mpr ⟨hn, hup⟩)
  have hprobe : t.probe p = s.probe p := congrArg Prod.fst ht
  have htime : t.time = s.time := congrArg (·.2.1) ht
  refine ⟨(congrArg Prod.fst hend).trans ?_, fun hnone hrun => mem_pend_of_probeView hend ?_⟩
  · change (t.atFrame n body flips take p).probe p = _
    unfold State.atFrame
    split
    · refine htake _ _ htime ?_
      rw [State.modProbe, State.setProbe_probe_same, hprobe]
    · rw [badFrame_probe, hprobe]
  · unfold State.atFrame
    rw [hnone]
    exact badFrame_raises ht hrun

end

/-! ## What a replica takes (R123, R124, R125) -/

/-- The fields of a LOAD, CHECK or STATUS in a replica. -/
def Replica.fields (r : Replica) (rx : Nat) : Replica :=
  { r with epoch := BitVec.ofNat 16 (bits rx 8 16), part := BitVec.ofNat 2 (bits rx 24 2), st := TState.ofCode (bits rx 26 3) }

/-- The CVT of a LOAD or CHECK in a replica, against the master's. -/
def Replica.timed (r : Replica) (master rx : Nat) : Replica := { r with skew := (fineOf96 (bits rx 32 96) : Int) - (fineOf96 master : Int) }

theorem oweSync_canal (s : State) (p : Nat) : CanalOnly s (s.oweSync p) := .foldl _ (fun _ _ => setStream_canal ..) _ _

theorem takeFields_canal (s : State) (p rx : Nat) :
    CanalOnly (s.setProbe p { s.probe p with replica := (s.probe p).replica.fields rx }) (s.takeFields p rx) := .ite _ .rfl (oweSync_canal ..)

theorem takeFields_probeView (s : State) (p rx : Nat) : (s.takeFields p rx).probeView p =
    ({ s.probe p with replica := (s.probe p).replica.fields rx }, (s.probeView p).2) :=
  ((takeFields_canal s p rx).probeView p).trans (setProbe_probeView ..)

theorem takeFields_other {p q : Nat} (s : State) (rx : Nat) (h : p ≠ q) : (s.takeFields q rx).probeView p = s.probeView p :=
  ((takeFields_canal s q rx).probeView p).trans (setProbe_probeView_other _ _ h)

theorem takeFields_time (s : State) (p rx : Nat) : (s.takeFields p rx).time = s.time := (takeFields_canal s p rx).proj State.time fun _ _ => rfl

/-- CVT and the fields together. -/
def State.takeTime (s : State) (p rx : Nat) : State := (s.takeCvt p rx).takeFields p rx

theorem takeTime_probeView (s : State) (p rx : Nat) : (s.takeTime p rx).probeView p =
    ({ s.probe p with replica := ((s.probe p).replica.timed s.cvt96 rx).fields rx }, (s.probeView p).2) := by
  have hcvt : (s.takeCvt p rx).probeView p = ({ s.probe p with replica := (s.probe p).replica.timed s.cvt96 rx }, (s.probeView p).2) :=
    setProbe_probeView ..
  have hprobe := congrArg Prod.fst hcvt
  dsimp only [State.probeView] at hprobe
  rw [State.takeTime, takeFields_probeView, hcvt, hprobe]

theorem takeTime_other {p q : Nat} (s : State) (rx : Nat) (h : p ≠ q) : (s.takeTime q rx).probeView p = s.probeView p :=
  (takeFields_other _ rx h).trans (setProbe_probeView_other _ _ h)

theorem takeTime_time (s : State) (p rx : Nat) : (s.takeTime p rx).time = s.time := takeFields_time ..

theorem cvt96_of_time {s t : State} (h : t.time = s.time) : t.cvt96 = s.cvt96 := by
  unfold State.cvt96
  rw [h]

theorem agrees_of_time {s t : State} {p : Nat} (rx : Nat) (h : t.time = s.time) (hr : (t.probe p).replica = (s.probe p).replica.heard) :
    t.agrees p rx = s.agrees p rx := by
  unfold State.agrees State.replicaCvt State.cvt96
  rw [hr, h]
  rfl

def State.takeLoad (s : State) (p rx : Nat) : State :=
  (s.takeTime p rx).modProbe p (fun x => { x with replica := { x.replica with loaded := true } })

def State.takeRate (s : State) (p rx : Nat) : State :=
  s.modProbe p (fun x => { x with replica := { x.replica with rate := (bits rx 8 48 : Int) - (s.time.incOn : Int) } })

def State.takeCheck (s : State) (p rx : Nat) : State := if s.agrees p rx then s else (s.takeTime p rx).raise 0x305 p 0

theorem takeLoad_takes : Takes State.takeLoad where
  others s _ _ rx h := (setProbe_probeView_other _ _ h).trans (takeTime_other s rx h)
  time s q rx := takeTime_time s q rx

theorem takeRate_takes : Takes State.takeRate where
  others s _ _ _ h := setProbe_probeView_other s _ h
  time _ _ _ := rfl

theorem takeFields_takes : Takes State.takeFields where
  others s _ _ rx h := takeFields_other s rx h
  time s q rx := takeFields_time s q rx

theorem takeCheck_takes : Takes State.takeCheck where
  others s p _ rx h := proj_of_ite (State.probeView · p) rfl ((raise_probeView_other _ _ _ h).trans (takeTime_other s rx h))
  time s q rx := proj_of_ite State.time rfl (takeTime_time s q rx)

section
variable {s t : State} {p : Nat} (rx : Nat) (htime : t.time = s.time)
  (hprobe : t.probe p = { s.probe p with replica := (s.probe p).replica.heard })
include htime hprobe

theorem takeTime_probe : (t.takeTime p rx).probe p =
    { s.probe p with replica := ((s.probe p).replica.heard.timed s.cvt96 rx).fields rx } := by
  refine (congrArg Prod.fst (takeTime_probeView t p rx)).trans ?_
  rw [hprobe, cvt96_of_time htime]

theorem takeLoad_probe : (t.takeLoad p rx).probe p =
    { s.probe p with replica := { ((s.probe p).replica.heard.timed s.cvt96 rx).fields rx with loaded := true } } := by
  rw [State.takeLoad, State.modProbe, State.setProbe_probe_same, takeTime_probe rx htime hprobe]

theorem takeRate_probe : (t.takeRate p rx).probe p =
    { s.probe p with replica := { (s.probe p).replica.heard with rate := (bits rx 8 48 : Int) - (s.time.incOn : Int) } } := by
  rw [State.takeRate, State.modProbe, State.setProbe_probe_same, hprobe, htime]

theorem takeCheck_probe : (t.takeCheck p rx).probe p = { s.probe p with
    replica := if s.agrees p rx then (s.probe p).replica.heard else ((s.probe p).replica.heard.timed s.cvt96 rx).fields rx } := by
  unfold State.takeCheck
  rw [agrees_of_time rx htime (congrArg Probe.replica hprobe)]
  split
  · exact hprobe
  · exact takeTime_probe rx htime hprobe

end

/-- A CHECK that differs is raised (R125). -/
theorem broadcast_mismatch (n body : Nat) (flips : Tab Nat) {s : State} {p rx : Nat} (hn : p < s.ident.nProbes) (hup : (s.probe p).up = true)
    (hrx : received n body (tget flips p 0) = some rx) (hdiff : s.agrees p rx = false) :
    ⟨0x305, p, 0, none, s.ts, s.now, false, false⟩ ∈ (s.broadcast n body flips State.takeCheck).fc.pend := by
  obtain ⟨t, ht, hend⟩ := broadcast_probeView takeCheck_takes n body flips s (mem_replicas.mpr ⟨hn, hup⟩)
  have hprobe : t.probe p = s.probe p := congrArg Prod.fst ht
  have htime : t.time = s.time := congrArg (·.2.1) ht
  refine mem_pend_of_probeView hend ?_
  unfold State.atFrame
  rw [hrx]
  dsimp only
  generalize hu : t.modProbe p (fun x => { x with replica := x.replica.heard }) = u
  have hview : u.probeView p = ({ s.probe p with replica := (s.probe p).replica.heard }, (s.probeView p).2) := by
    rw [← hu, State.modProbe, setProbe_probeView, ht, hprobe]
  have huprobe : u.probe p = { s.probe p with replica := (s.probe p).replica.heard } := congrArg Prod.fst hview
  have hutime : u.time = s.time := congrArg (·.2.1) hview
  rw [State.takeCheck, agrees_of_time rx hutime (congrArg Probe.replica huprobe), if_neg (by simp [hdiff])]
  refine raise_mem_probeView 0x305 ?_
  rw [takeTime_probeView, hview]

/-! ## The change of the increment (R124) -/

theorem listed_tset_other {α : Type} [DecidableEq α] (t : Tab α) (v d : α) {p q : Nat} (h : p ≠ q) :
    (tset t q v d).any (fun e => decide (e.1 = p)) = t.any (fun e => decide (e.1 = p)) := by
  induction t with
  | nil => by_cases hv : v = d <;> simp [tset, hv, Ne.symm h]
  | cons e t ih =>
    obtain ⟨k, x⟩ := e
    simp only [tset]
    split
    · next hk =>
      subst hk
      split
      · simp [ih, Ne.symm h]
      · simp
    · split
      · simp [Ne.symm h]
      · simp [ih]

theorem tget_map {α : Type} (f : α → α) (t : Tab α) (k : Nat) (d : α) : tget (t.map (fun e => (e.1, f e.2))) k d =
    if t.any (fun e => decide (e.1 = k)) then f (tget t k d) else d := by
  induction t with
  | nil => rfl
  | cons e t ih =>
    by_cases hk : k = e.1
    · simp [tget, hk]
    · rw [List.map_cons, tget, if_neg hk, ih, List.any_cons, decide_eq_false (Ne.symm hk), Bool.false_or, tget, if_neg hk]

/-- A replica whose increment stays while the master's changes. -/
def Probe.lag (gap : Int) (x : Probe) : Probe := { x with replica := { x.replica with rate := x.replica.rate + gap } }

/-- What the master's increment loses by its change. -/
def State.rateGap (s : State) : Int := (s.time.incOn : Int) - (s.time.inc : Int)

/-- The change in the master and in the probes of the table. -/
def State.rateSent (s : State) : State :=
  { s with
    time := { s.time with oweRate := false, incOn := s.time.inc, slOn := s.time.sHw, lastRateAt := some s.now }
    probes := s.probes.map (fun e => (e.1, e.2.lag s.rateGap)) }

/-- The change at a probe that the table does not list. -/
def State.lagUnlisted (gap : Int) (s : State) (p : Nat) : State :=
  if s.probes.any (fun e => decide (e.1 = p)) then s else s.modProbe p (fun x => { x with replica := { x.replica with rate := gap } })

def State.rateLagged (s : State) : State := s.rateSent.replicas.foldl (State.lagUnlisted s.rateGap) s.rateSent

theorem rateLagged_proj {α : Type} (π : State → α) (h : ∀ (t : State) ps, π { t with probes := ps } = π t) (s : State) :
    π s.rateLagged = π s.rateSent :=
  foldl_proj π _ (fun t _ => proj_of_ite π rfl (h t _)) _ _

/-- A probe and whether the table lists it. -/
def State.listing (s : State) (p : Nat) : Probe × Bool := (s.probe p, s.probes.any (fun e => decide (e.1 = p)))

theorem rateSent_listing (s : State) (p : Nat) : s.rateSent.listing p =
    (if s.probes.any (fun e => decide (e.1 = p)) then (s.probe p).lag s.rateGap else Probe.zero, (s.listing p).2) :=
  Prod.ext (tget_map ..) (List.any_map ..)

theorem lagUnlisted_listing_other {p q : Nat} (gap : Int) (s : State) (h : p ≠ q) : (s.lagUnlisted gap q).listing p = s.listing p :=
  proj_of_ite (State.listing · p) rfl (Prod.ext ((State.setProbe_probe ..).trans (if_neg h)) (listed_tset_other _ _ _ h))

theorem probe_of_not_listed {s : State} {p : Nat} (h : s.probes.any (fun e => decide (e.1 = p)) = false) : s.probe p = Probe.zero := by
  refine probe_unlisted fun hm => ?_
  obtain ⟨e, he, rfl⟩ := List.mem_map.mp hm
  simpa using List.any_eq_false.mp h e he

/-- Every powered probe lags by the change. -/
theorem rateLagged_probe {s : State} {p : Nat} (hn : p < s.ident.nProbes) (hup : (s.probe p).up = true) :
    s.rateLagged.probe p = (s.probe p).lag s.rateGap := by
  have hsent := rateSent_listing s p
  have hmem : p ∈ s.rateSent.replicas := by
    refine mem_replicas.mpr ⟨hn, ?_⟩
    rw [show s.rateSent.probe p = _ from congrArg Prod.fst hsent]
    split
    · exact hup
    · rfl
  obtain ⟨t, ht, hend⟩ := foldl_acts_once (State.listing · p) (State.lagUnlisted s.rateGap) p s.rateSent.replicas hmem
    (List.Pairwise.filter _ List.nodup_range) (fun t _ hc => lagUnlisted_listing_other _ t (Ne.symm hc)) s.rateSent
  refine (congrArg Prod.fst hend).trans ?_
  obtain ⟨hprobe, hlisted⟩ := Prod.mk.inj (ht.trans hsent)
  change (t.lagUnlisted s.rateGap p).probe p = _
  rw [State.lagUnlisted, hlisted]
  cases hl : s.probes.any (fun e => decide (e.1 = p))
  · rw [hl] at hprobe
    simp only [State.listing, hl, Bool.false_eq_true, if_false, State.modProbe, State.setProbe_probe_same, hprobe,
      probe_of_not_listed hl] at hprobe ⊢
    simp [Probe.lag, Probe.zero, Replica.zero]
  · rw [hl] at hprobe
    simp only [State.listing, hl, if_true, hprobe]

/-- A probe that is off lags at most. -/
theorem rateLagged_off {s : State} {p : Nat} (hoff : (s.probe p).up = false) :
    ∃ n, s.rateLagged.probe p = { s.probe p with replica := { (s.probe p).replica with rate := n } } := by
  have hsent := rateSent_listing s p
  have hlisted : s.probes.any (fun e => decide (e.1 = p)) = true := by
    by_contra h
    rw [probe_of_not_listed (Bool.eq_false_of_not_eq_true h)] at hoff
    cases hoff
  rw [hlisted] at hsent
  have hprobe : s.rateSent.probe p = (s.probe p).lag s.rateGap := congrArg Prod.fst hsent
  refine ⟨(s.probe p).replica.rate + s.rateGap, (congrArg Prod.fst (List.foldlRecOn
    (motive := fun t : State => t.listing p = s.rateSent.listing p) s.rateSent.replicas (State.lagUnlisted s.rateGap) rfl
    fun t ht q hq => ?_)).trans hprobe⟩
  have hne : p ≠ q := by
    rintro rfl
    have hup := (mem_replicas.mp hq).2
    rw [hprobe] at hup
    exact absurd (hup.symm.trans hoff) (by decide)
  exact (lagUnlisted_listing_other _ t hne).trans ht

/-! ## The obligation -/

section
variable {s : State} (flips : Tab Nat) (hclk : s.clk.tclk = true)
include hclk

theorem exec_tsyncLoad (hd : s.time.oweLoad = true) : exec (.tsyncLoad flips) s = .next
    (({ s with time := { s.time with oweLoad := false } }).broadcast 128 (s.loadBits 1) flips State.takeLoad) :=
  if_neg (by simp [hd, hclk])

theorem exec_tsyncRate (hd : s.time.oweRate = true) (hlast : ∀ a, s.time.lastRateAt = some a → a + 1000 ≤ s.now) :
    exec (.tsyncRate flips) s = .next (s.rateLagged.broadcast 64 s.rateLagged.rateBits flips State.takeRate) := by
  refine if_neg ?_
  cases ha : s.time.lastRateAt with
  | none => simp [hd, hclk]
  | some a => simp [hd, hclk, hlast a ha]

theorem exec_tsyncStatus (hd : s.time.oweStatus = true) : exec (.tsyncStatus flips) s = .next
    (({ s with time := { s.time with oweStatus := false } }).broadcast 32 s.statusBits flips State.takeFields) :=
  if_neg (by simp [hd, hclk])

theorem exec_tsyncCheck (hd : 65536 ≤ s.time.sinceCheck) : exec (.tsyncCheck flips) s = .next
    (({ s with time := { s.time with sinceCheck := 0 } }).broadcast 128 (s.loadBits 4) flips State.takeCheck) :=
  if_neg (by simp [hd, hclk])

end

/-- Settles O34: the bits of each frame, and a broadcast by `broadcast_brings` with what its replicas take. -/
theorem tsyncFrames : Obligations.TsyncFrames := by
  refine ⟨fun s k hk => ?bits, fun n body => ⟨received_intact n body, frameOf_parts⟩, ?frames⟩
  case bits =>
    obtain ⟨htype, hepoch, hpart, hst, hcvt⟩ := loadBits_fields s hk
    obtain ⟨hrtype, hinc⟩ := rateBits_fields s
    exact ⟨htype, hepoch, hpart, hst, hcvt, hrtype, hinc, statusBits_fields s⟩
  case frames =>
    intro flips s hclk crc fields timed brings others
    refine ⟨fun hd => ?load, fun hd hlast => ?rate, fun hd => ?status, fun hd => ?check⟩
    case load =>
      refine ⟨_, exec_tsyncLoad flips hclk hd, broadcast_time takeLoad_takes .., fun p _ hoff => broadcast_off takeLoad_takes _ _ _ _ hoff,
        fun p hn hup => ?_⟩
      exact broadcast_brings takeLoad_takes 128 _ flips { s with time := { s.time with oweLoad := false } } hn hup _
        fun _ rx htime hprobe => takeLoad_probe rx htime hprobe
    case status =>
      refine ⟨_, exec_tsyncStatus flips hclk hd, broadcast_time takeFields_takes .., fun p _ hoff => broadcast_off takeFields_takes _ _ _ _ hoff,
        fun p hn hup => ?_⟩
      refine broadcast_brings takeFields_takes 32 _ flips { s with time := { s.time with oweStatus := false } } hn hup
        (fun rx => (s.probe p).replica.heard.fields rx) fun t rx _ hprobe => ?_
      exact (congrArg Prod.fst (takeFields_probeView t p rx)).trans (by rw [hprobe]; rfl)
    case check =>
      refine ⟨_, exec_tsyncCheck flips hclk hd, broadcast_time takeCheck_takes .., fun p _ hoff => broadcast_off takeCheck_takes _ _ _ _ hoff,
        fun p hn hup => ?_, fun p hn hup rx hrx hdiff => ?_⟩
      · exact broadcast_brings takeCheck_takes 128 _ flips { s with time := { s.time with sinceCheck := 0 } } hn hup _
          fun _ rx htime hprobe => takeCheck_probe rx htime hprobe
      · exact broadcast_mismatch 128 _ flips (s := { s with time := { s.time with sinceCheck := 0 } }) hn hup hrx hdiff
    case rate =>
      have htime : s.rateLagged.time = s.rateSent.time := rateLagged_proj State.time (fun _ _ => rfl) s
      obtain ⟨hts, hnow⟩ := instant_ts s (t := s.rateLagged) (rateLagged_proj State.instant (fun _ _ => rfl) s)
      have hident : s.rateLagged.ident = s.ident := rateLagged_proj State.ident (fun _ _ => rfl) s
      have hinc : s.rateLagged.time.incOn = s.time.inc := congrArg TimeU.incOn htime
      have hbody : s.rateLagged.rateBits = 2 + s.time.inc * 2 ^ 8 := by rw [State.rateBits, hinc]
      have hmaster := (broadcast_time takeRate_takes 64 s.rateLagged.rateBits flips s.rateLagged).trans htime
      refine ⟨_, exec_tsyncRate flips hclk hd hlast, hmaster, fun p _ hoff => ?_, fun p hn hup => ?_⟩
      · obtain ⟨n, hprobe⟩ := rateLagged_off hoff
        exact ⟨n, (broadcast_off takeRate_takes _ _ _ _ (by rw [hprobe]; exact hoff)).trans hprobe⟩
      · have hprobe := rateLagged_probe hn hup
        obtain ⟨hend, hraise⟩ := broadcast_brings takeRate_takes 64 s.rateLagged.rateBits flips s.rateLagged (hident ▸ hn)
          (by rw [hprobe]; exact hup) _ fun _ rx htime hprobe => takeRate_probe rx htime hprobe
        rw [hbody, hts, hnow, hprobe] at hraise
        rw [hprobe, htime, hbody] at hend
        rw [hbody]
        refine ⟨hend.trans ?_, hraise⟩
        cases received 64 (2 + s.time.inc * 2 ^ 8) (tget flips p 0) with
        | none =>
          exact congrArg (fun rate : Int => { s.probe p with replica := { (s.probe p).replica.failed with rate := rate } })
            (Int.add_sub_assoc ..).symm
        | some rx => rfl

end Sys2Proof.Machine
end

section
/-! SUPPORT. The packets of a probe's counters, tallies, timing and snapshots (R140, R150, R154, R157, R159, R160). -/

namespace Sys2Proof.Machine

/-! ## Answers of a packet that a counter write may hold back (R140) -/

theorem stillApplies_congr {s t : State} (op : Nat) (pk : Pkt) (h : t.probes = s.probes) : t.stillApplies op pk = s.stillApplies op pk := by
  unfold State.stillApplies State.probe
  rw [h]

/-- A packet that no counter write holds back has its final reply at once. -/
theorem finish_settled {sp : OpSpec} {pk : Pkt} {s t u : State} (ws : List Nat) (h : Heard sp pk s) (ht : t.stillApplies sp.op pk = false) :
    finish sp pk (slotFor sp pk s) false u (.done .ok ws t) = t.answered sp pk (slotFor sp pk s) ws := by
  simp only [finish, State.answered, State.answer, Bool.false_and, Bool.false_eq_true, if_false, failWords, decide_true, Bool.true_or, if_true]
  split
  · next hl =>
    rw [if_neg, if_neg (h.slot hl)]
    · rfl
    · rw [stillApplies_congr (s := t) sp.op pk (by rfl), ht]
      decide
  · rw [if_neg (by simp [ht])]

/-- A counter write that has still to be applied is listed as applying. -/
theorem finish_applying {sp : OpSpec} {pk : Pkt} {s t u : State} (hl : sp.long = false) (ht : t.stillApplies sp.op pk = true) :
    finish sp pk (slotFor sp pk s) false u (.done .ok [] t) =
      let a := if pk.async then t.accepting sp pk (slotFor sp pk s) [] else t
      { a with esl := { a.esl with applying := a.esl.applying ++ [⟨sp.op, pk, slotFor sp pk s, false⟩] } } := by
  simp only [finish, State.answer, Bool.false_and, Bool.false_eq_true, if_false, failWords, decide_true, Bool.true_or, if_true, hl, Bool.false_or]
  split
  · rw [if_pos]
    · rfl
    · exact (stillApplies_congr (s := t) sp.op pk (by rfl)).trans ht
  · next ha =>
    have hslot : slotFor sp pk s = 0 := if_neg (by simp [hl, ha])
    rw [hslot]
    rfl

/-! ## Counter writes (R140, R160) -/

/-- A write to a probe whose clock does not run waits for nothing. -/
theorem write_applied {x : Probe} {i : Nat} (v : Nat) (hw : tget x.wr i 0 = 0) (hx : x.hrst = true ∨ x.up = false ∨ x.haltTs.isSome = true) :
    tget (x.write i v).wr i 0 = 0 := by
  unfold Probe.write
  split
  · exact hw
  · next hlive =>
    have halt : x.haltTs.isSome = true := by
      rcases hx with h | h | h
      · exact absurd h (by simp_all)
      · exact absurd h (by simp_all)
      · exact h
    rw [if_pos halt]
    exact proj_of_ite (fun y : Probe => tget y.wr i 0) hw hw

/-- A write to a probe whose clock runs waits for the next edge. -/
theorem write_waits {x : Probe} (i v : Nat) (hrst : x.hrst = false) (hup : x.up = true) (halt : x.haltTs = none) :
    tget (x.write i v).wr i 0 = v + 1 := by
  unfold Probe.write
  rw [if_neg (by simp [hrst, hup]), if_neg (by simp [halt])]
  exact tget_tset_same ..

/-- The writes of a packet. -/
def State.written (s : State) (pk : Pkt) : State :=
  onProbes (probeList pk.probes) (fun _ x => x.write (fld (pk.p 5) 0 4) ((pk.p 6).toNat + (pk.p 7).toNat * 2 ^ 32)) s

theorem written_probe (s : State) (pk : Pkt) (p : Nat) : (s.written pk).probe p = if pk.probes.getLsbD p = true
    then (s.probe p).write (fld (pk.p 5) 0 4) ((pk.p 6).toNat + (pk.p 7).toNat * 2 ^ 32) else s.probe p := by
  unfold State.written
  rw [onProbes_probe _ _ _ (nodup_probeList _)]
  simp only [mem_probeList]

theorem written_stillApplies (s : State) (pk : Pkt) : (s.written pk).stillApplies 0x14 pk = true ↔ ∃ p, pk.probes.getLsbD p = true ∧
    tget ((s.probe p).write (fld (pk.p 5) 0 4) ((pk.p 6).toNat + (pk.p 7).toNat * 2 ^ 32)).wr (fld (pk.p 5) 0 4) 0 ≠ 0 := by
  simp only [State.stillApplies, decide_true, Bool.true_and, List.any_eq_true, mem_probeList, decide_eq_true_eq]
  refine exists_congr fun p => and_congr_right fun hp => ?_
  rw [written_probe, if_pos hp]

theorem launch_counterWrite {pk : Pkt} {s : State} (h : Heard specCounterWrite pk s)
    (hfit : SetFits pk s (fun x => x.cfg.ownerOf (fld (pk.p 5) 0 4) = pk.o)) (hi : fld (pk.p 5) 0 4 ≤ 12)
    (hv : (pk.p 6).toNat + (pk.p 7).toNat * 2 ^ 32 < 2 ^ ctrWidth (fld (pk.p 5) 0 4)) :
    exec (.counterWrite pk) s =
      .next (finish specCounterWrite pk (slotFor specCounterWrite pk s) false ((s.rung specCounterWrite pk).written pk)
        (.done .ok [] ((s.rung specCounterWrite pk).written pk))) := by
  have hbody : bodyCounterWrite pk (slotFor specCounterWrite pk s) (s.rung specCounterWrite pk) =
      .done .ok [] ((s.rung specCounterWrite pk).written pk) := by
    refine (checkSet_rung hfit fun p hp => by simp [hp]).trans ?_
    simp only [chk, decide_eq_false (not_lt.mpr hi), decide_eq_false (not_le.mpr hv), Bool.false_eq_true, if_false]
    rfl
  change Host.Outcome.next (launch specCounterWrite bodyCounterWrite pk s) = _
  rw [h.launch, hbody]

/-! ## The number of a snapshot (R157) -/

/-- A set's lowest probe heads the list of its probes. -/
theorem probeList_low {v : BitVec 128} {low : Nat} (hlow : v.getLsbD low = true) (hmin : ∀ p < low, v.getLsbD p = false) :
    (probeList v).head? = some low := by
  rw [probeList, List.head?_filter, List.find?_range_eq_some]
  exact ⟨hlow, List.mem_range.mpr (BitVec.lt_of_getLsbD hlow), fun p hp => by simp [hmin p hp]⟩

theorem bodySnapshot_fits {pk : Pkt} (slot : Nat) {s : State} {low : Nat} (hfit : SetFits pk s (fun x => x.cfg.owned pk.o ≠ 0))
    (hlow : pk.probes.getLsbD low = true) (hmin : ∀ p < low, pk.probes.getLsbD p = false) (hsnaps : (s.probe low).snaps = true) :
    bodySnapshot pk slot s = .done .ok [(s.probe low).snapNoNext.toNat]
      (onProbes (probeList pk.probes) (fun _ x => x.request (fun e => ⟨1, flag (pk.p 5) 0, flag (pk.p 5) 1, some pk.o, none, e⟩)) s) := by
  obtain ⟨ps, hps⟩ := List.head?_eq_some_iff.mp (probeList_low hlow hmin)
  refine (checkSet_fits hfit fun p hp => decide_eq_true hp).trans ?_
  rw [hps]
  dsimp only
  rw [if_pos hsnaps]

/-! ## The obligation -/

/-- Settles O20: each body by the set that passes its checks, a counter write by whether a probe has still to apply it. -/
theorem probeCounterPackets : Obligations.ProbeCounterPackets := by
  intro pk s
  refine ⟨?enable, ?write, ?clear, ?tally, ?timing, ?snapshot⟩
  case enable =>
    intro h hfit
    exact h.retunes (by decide) (checkSet_rung hfit fun p hp => by simp [hp])
  case write =>
    intro h hfit hi hv
    rw [launch_counterWrite h hfit hi hv]
    refine ⟨fun hall => ?_, fun p hp hrst hup halt => ?_⟩
    · refine ⟨((s.rung specCounterWrite pk).written pk).probes, ?_, written_probe (s.rung specCounterWrite pk) pk⟩
      have hdone : ((s.rung specCounterWrite pk).written pk).stillApplies 0x14 pk = false := by
        rw [Bool.eq_false_iff, Ne, written_stillApplies]
        rintro ⟨p, hp, hne⟩
        obtain ⟨hw, hx⟩ := hall p hp
        exact hne (write_applied _ hw hx)
      rw [finish_settled [] h hdone, State.written, onProbes_eq]
      rfl
    · refine ⟨((s.rung specCounterWrite pk).written pk).probes, ?_, written_probe (s.rung specCounterWrite pk) pk⟩
      have hwait : ((s.rung specCounterWrite pk).written pk).stillApplies 0x14 pk = true :=
        (written_stillApplies _ pk).mpr ⟨p, hp, (write_waits _ _ hrst hup halt).trans_ne (Nat.succ_ne_zero _)⟩
      rw [finish_applying (sp := specCounterWrite) rfl hwait, State.written, onProbes_eq]
      rfl
  case clear =>
    intro h hfit
    exact h.retunes (by decide) (checkSet_rung hfit fun p hp => by simp [hp])
  case tally =>
    intro h hfit hlo hhi
    refine h.retunes (by decide) ((checkSet_rung hfit fun p hp => by simp [hp]).trans ?_)
    simp only [chk, decide_eq_false (not_lt.mpr hlo), decide_eq_false (not_lt.mpr hhi), Bool.or_self, Bool.false_eq_true, if_false]
  case timing =>
    intro h hfit hper
    refine h.retunes (by decide) ((checkSet_rung hfit fun _ _ => rfl).trans ?_)
    simp only [chk, decide_eq_false (not_lt.mpr hper), Bool.false_eq_true, if_false]
    rfl
  case snapshot =>
    intro h hfit low hlow hmin hsnaps
    exact h.retunes (by decide) (bodySnapshot_fits (s := s.rung specSnapshot pk) _ hfit hlow hmin hsnaps)

end Sys2Proof.Machine
end

section
/-! SUPPORT. The events of a probe's PAI: issues, retires, samples, stages, EVT edges, charter switches and HCLK edges (04). -/

namespace Sys2Proof.Machine

/-- A fold whose steps leave a state alone leaves it alone. -/
theorem foldl_still {α β : Type} {f : α → β → α} {l : List β} {s : α} (h : ∀ b ∈ l, f s b = s) : l.foldl f s = s := by
  induction l with
  | nil => rfl
  | cons b l ih =>
    rw [List.foldl_cons, h b List.mem_cons_self]
    exact ih fun c hc => h c (List.mem_cons_of_mem b hc)

/-! ## One HCLK edge (R138, R139, R147, R154, R160) -/

/-- The value listed for a key in the list of a function's values. -/
theorem getD_find_graph (f : Nat → Nat) (n i : Nat) (hi : i < n) :
    ((((List.range n).map (fun j => (j, f j))).find? (fun q => decide (q.1 = i))).map Prod.snd).getD 0 = f i := by
  have hfind : (List.range n).find? (fun j => decide (j = i)) = some i := by
    rw [List.find?_range_eq_some]
    exact ⟨decide_eq_true rfl, List.mem_range.mpr hi, fun j hj => by simp [Nat.ne_of_lt hj]⟩
  rw [List.find?_map]
  change (Option.map Prod.snd (Option.map _ ((List.range n).find? (fun j => decide (j = i))))).getD 0 = f i
  rw [hfind]
  rfl

/-- A vector written bit by bit from 0 on. -/
theorem getLsbD_foldl_setBit {w : Nat} (f : Nat → Bool) (n i : Nat) (hi : i < n) (hn : n ≤ w) :
    ((List.range n).foldl (fun (a : BitVec w) j => setBit a j (f j)) 0).getLsbD i = f i := by
  induction n with
  | zero => omega
  | succ n ih =>
    rw [List.range_succ, List.foldl_append, List.foldl_cons, List.foldl_nil, getLsbD_setBit _ _ _ _ (by omega)]
    split
    · next h => rw [h]
    · exact ih (by omega) (by omega)

/-- Tallies that count the units of a vector. -/
theorem tget_tallied (v : Nat → Bool) (g : Nat → Nat) (t : Tab Nat) (n u : Nat) :
    tget ((List.range n).foldl (fun t u => if v u then tset t u (g (tget t u 0)) 0 else t) t) u 0 =
      if u < n ∧ v u = true then g (tget t u 0) else tget t u 0 := by
  induction n with
  | zero => rfl
  | succ n ih =>
    rw [List.range_succ, List.foldl_append, List.foldl_cons, List.foldl_nil]
    by_cases hu : u = n
    · subst hu
      have hn : ¬ (u < u ∧ v u = true) := fun h => Nat.lt_irrefl u h.1
      rw [if_neg hn] at ih
      split
      · next hv => rw [tget_tset_same, ih, if_pos ⟨Nat.lt_succ_self u, hv⟩]
      · next hv => rw [ih, if_neg fun h => hv h.2]
    · have hlt : (u < n + 1 ∧ v u = true) ↔ (u < n ∧ v u = true) := and_congr_left' (by omega)
      rw [if_congr hlt rfl rfl, ← ih]
      split
      · exact tget_tset_other _ _ _ _ _ hu
      · rfl

/-- The increment of a counter by its kind: a PMC's event, the cycles, or the slots of a class (R138, R142, R147). -/
theorem ctrInc_eq (x : Probe) (e : PaiEdge) (units w i : Nat) : ctrInc x e units w i =
    if x.cfg.enable.getLsbD i = false then 0
    else if 5 ≤ i then eventInc x e units w (tget x.cfg.pmc (i - 5) Pmc.zero)
    else if ¬ (x.cfg.fixedOwner = 16 ∨ (e.curPriv = false ∧ e.curCharter.toNat = x.cfg.fixedOwner)) then 0 else if i = 0 then 1
    else ((List.range w).filter (fun j => decide (bits e.slotCls.toNat (2 * j) 2 = i - 1))).length := by
  have hcounts : (decide (x.cfg.fixedOwner ≠ hm) && (e.curPriv || decide (e.curCharter.toNat ≠ x.cfg.fixedOwner))) = true ↔
      ¬ (x.cfg.fixedOwner = 16 ∨ (e.curPriv = false ∧ e.curCharter.toNat = x.cfg.fixedOwner)) := by
    rw [not_or, not_and, Bool.and_eq_true, decide_eq_true_eq, Bool.or_eq_true, decide_eq_true_eq]
    refine and_congr Iff.rfl ?_
    cases e.curPriv
    · simp
    · simp
  unfold ctrInc
  rw [if_congr hcounts rfl rfl, if_congr (P := (!x.cfg.enable.getLsbD i) = true) (Q := x.cfg.enable.getLsbD i = false) (by simp) rfl rfl]

section
variable (x : Probe) (e : PaiEdge) (units w ts : Nat)

/-- What an edge writes of a probe besides its counters and tallies, and what it keeps. -/
theorem clock_frame {y : Probe} (hy : x.clock e units w ts = y) :
    y.edge = x.edge + 1 ∧ y.lastEdgeTs = ts ∧ y.prevEdgeTs = x.lastEdgeTs ∧ y.evt = e.evt ∧ y.curCharter = e.curCharter ∧ y.curPriv = e.curPriv ∧
    y.stretch = e.stretch ∧ y.cfg = x.cfg ∧ y.ovf = x.ovf &&& ~~~x.clr ∧ y.wr = [] ∧ y.clr = 0 ∧ y.tagged = x.tagged ∧ y.shadow = x.shadow := by
  unfold Probe.clock at hy
  extract_lets incs raw wraps wrote cnt was counts tally z at hy
  subst hy
  split
  · simp only [Probe.rebase, z, and_self]
  · simp only [z, and_self]

/-- A counter takes the write that waits for it, or its increment. -/
theorem clock_cnt {i : Nat} (hi : i < 13) : tget (x.clock e units w ts).cnt i 0 =
    if decide (tget x.wr i 0 ≠ 0) = true then tget x.wr i 0 - 1 else (tget x.cnt i 0 + ctrInc x e units w i) % 2 ^ ctrWidth i := by
  unfold Probe.clock
  extract_lets incs raw wraps wrote cnt was counts tally z
  have hraw : raw i = tget x.cnt i 0 + ctrInc x e units w i := congrArg _ (getD_find_graph _ 13 i hi)
  have hcnt : tget cnt i 0 = if wrote i then tget x.wr i 0 - 1 else raw i % 2 ^ ctrWidth i :=
    tget_fill (fun i => if wrote i then tget x.wr i 0 - 1 else raw i % 2 ^ ctrWidth i) 13 i hi
  rw [hraw] at hcnt
  split
  · simp only [Probe.rebase, z]
    exact hcnt
  · simp only [z]
    exact hcnt

/-- A counter that wraps leaves its carry. -/
theorem clock_carry {i : Nat} (hi : i < 13) : (x.clock e units w ts).carry.getLsbD i =
    (x.carry.getLsbD i || decide (2 ^ ctrWidth i ≤ tget x.cnt i 0 + ctrInc x e units w i)) := by
  unfold Probe.clock
  extract_lets incs raw wraps wrote cnt was counts tally z
  have hraw : raw i = tget x.cnt i 0 + ctrInc x e units w i := congrArg _ (getD_find_graph _ 13 i hi)
  have hcarry : z.carry.getLsbD i = (x.carry.getLsbD i || decide (2 ^ ctrWidth i ≤ raw i)) :=
    (BitVec.getLsbD_or ..).trans (congrArg _ (getLsbD_foldl_setBit _ 13 i hi (by decide)))
  rw [← hraw]
  exact proj_of_ite (fun y : Probe => y.carry.getLsbD i) hcarry hcarry

/-- An edge's tallies: those of the units of a vector, with CYC enabled and at an edge that counts (R154). -/
def Probe.tallied (t : Tab Nat) (v : BitVec 64) : Tab Nat :=
  if x.cfg.enable.getLsbD 0 && (decide (x.cfg.fixedOwner = hm) || (!e.curPriv && decide (e.curCharter.toNat = x.cfg.fixedOwner))) then
    (List.range 64).foldl (fun t u => if v.getLsbD u then tset t u ((tget t u 0 + 1) % 2 ^ 24) 0 else t) t else t

theorem clock_tallies : (x.clock e units w ts).busy = x.tallied e x.busy e.busy ∧ (x.clock e units w ts).stall = x.tallied e x.stall e.stall := by
  unfold Probe.clock
  extract_lets incs raw wraps wrote cnt was counts tally z
  have hbusy : z.busy = x.tallied e x.busy e.busy := rfl
  have hstall : z.stall = x.tallied e x.stall e.stall := rfl
  exact ⟨proj_of_ite Probe.busy hbusy hbusy, proj_of_ite Probe.stall hstall hstall⟩

theorem tget_probe_tallied (t : Tab Nat) (v : BitVec 64) {u : Nat} (hu : u < 64) : tget (x.tallied e t v) u 0 =
    if x.cfg.enable.getLsbD 0 = true ∧ (x.cfg.fixedOwner = 16 ∨ (e.curPriv = false ∧ e.curCharter.toNat = x.cfg.fixedOwner)) ∧ v.getLsbD u = true
    then (tget t u 0 + 1) % 2 ^ 24 else tget t u 0 := by
  have hcounts : (x.cfg.enable.getLsbD 0 && (decide (x.cfg.fixedOwner = hm) || (!e.curPriv && decide (e.curCharter.toNat = x.cfg.fixedOwner)))) = true ↔
      x.cfg.enable.getLsbD 0 = true ∧ (x.cfg.fixedOwner = 16 ∨ (e.curPriv = false ∧ e.curCharter.toNat = x.cfg.fixedOwner)) := by
    rw [Bool.and_eq_true, Bool.or_eq_true, Bool.and_eq_true, Bool.not_eq_true', decide_eq_true_eq, decide_eq_true_eq]
    rfl
  unfold Probe.tallied
  split
  · next h =>
    rw [tget_tallied v.getLsbD (fun n => (n + 1) % 2 ^ 24) t 64 u]
    exact if_congr ⟨fun hv => ⟨(hcounts.mp h).1, (hcounts.mp h).2, hv.2⟩, fun hv => ⟨hu, hv.2.2⟩⟩ rfl rfl
  · next h => exact (if_neg fun hv => h (hcounts.mpr ⟨hv.1, hv.2.1⟩)).symm

end

/-! ## What an edge has still to show or answer -/

theorem paySync_none {s : State} {src : Nat} (ts : Nat) (h : ∀ o < 17, (s.stream src o).owe = false) : s.paySync src ts = s := by
  refine foldl_still fun o ho => if_neg ?_
  simp [h o (mem_activeOwners.mp ho).1]

theorem settleWrites_none {s : State} (h : s.esl.applying = []) : s.settleWrites = s := by
  unfold State.settleWrites
  rw [h, List.foldl_nil, ← h]

section
variable {p : Fin 128} {s : State}

theorem exec_hclkEdge (e : PaiEdge) (hr : s.probeRuns p.val = true) : exec (.hclkEdge p e) s = .next (((s.setProbe p.val
    ((s.probe p.val).clock e (s.probeUnits p.val) (s.probeW p.val) (s.probeTs p.val))).paySync p.val (s.probeTs p.val)).settleWrites) :=
  congrArg Host.Outcome.next (if_pos hr)

end

/-! ## Records and samples -/

theorem emitSample_canal (s : State) (p o ty ts payload : Nat) (extra : List Nat) : CanalOnly s (s.emitSample p o ty ts payload extra).2 := by
  unfold State.emitSample
  split
  · split
    · exact emit_canal ..
    · dsimp only
      exact noteLoss_canal ..
  · exact .rfl

/-- With room in the sample buffer a sample is emitted as any record is. -/
theorem emitSample_room {s : State} {p : Nat} (o ty ts payload : Nat) (extra : List Nat)
    (h : ((s.queue p).filter (fun r => r.inBuffer p)).length < 64) :
    s.emitSample p o ty ts payload extra = (true, s.emit p o ty 2 ts payload extra) := by
  unfold State.emitSample
  by_cases hc : s.canEmit p o = true
  · rw [if_pos hc, if_pos h]
  · rw [if_neg hc, emit_without_destination s p o ty 2 ts payload extra (by simpa using hc)]

/-- With the sample buffer full a sample is lost (R166). -/
theorem emitSample_full {s : State} {p o : Nat} (ty ts payload : Nat) (extra : List Nat) (hc : s.canEmit p o = true)
    (h : 64 ≤ ((s.queue p).filter (fun r => r.inBuffer p)).length) :
    s.emitSample p o ty ts payload extra = (false, s.noteLoss p (s.mkRec p o ty 2 ts payload extra)) := by
  unfold State.emitSample
  rw [if_pos hc, if_neg (by omega)]

/-- The CMD_ISSUE or CMD_RETIRE record of a command, where the probe's stream shows it (R168, R179). -/
def Probe.cmdRecord (x : Probe) (p ty ts : Nat) (c : PaiCmd) (flushed : Bool) (lat : Nat) (t : State) : State :=
  if x.cfg.cmdOn = true ∧ x.cfg.cmdFlt.cmd x.cfg c = true then
    t.emit p x.cfg.cmdOwner ty 3 ts (c.cls.toNat + c.mid.toNat * 16 + b2n flushed * 2 ^ 12)
      [c.addr.toNat + c.layer.toNat * 2 ^ 48, c.tag.toNat + c.op.toNat * 2 ^ 24 + min 0xFFFFF lat * 2 ^ 40] else t

theorem cmdRecord_eq (x : Probe) (p ty ts : Nat) (c : PaiCmd) (flushed : Bool) (lat : Nat) (t : State) :
    (if x.cfg.cmdOn && x.cfg.cmdFlt.cmd x.cfg c then t.emit p x.cfg.cmdOwner ty 3 ts (cmdPayload c flushed) (cmdWords c lat) else t) =
      x.cmdRecord p ty ts c flushed lat t := if_congr (by rw [Bool.and_eq_true]) rfl rfl

theorem cmdRecord_canal (x : Probe) (p ty ts : Nat) (c : PaiCmd) (flushed : Bool) (lat : Nat) (t : State) :
    CanalOnly t (x.cmdRecord p ty ts c flushed lat t) := .ite _ (emit_canal ..) .rfl

/-! ## Layers (R169) -/

theorem emitLayer_canal (s : State) (p ty ts : Nat) (layer : BitVec 16) (early : Bool) (c : PaiCmd) :
    CanalOnly s (s.emitLayer p ty ts layer early c) := emit_canal ..

theorem idCharter_iff (s : State) (c : PaiCmd) : s.idCharter c = true ↔
    c.priv = false ∧ s.esl.idMode.getLsbD c.charter.toNat = true ∧ s.active c.charter.toNat = true := by
  unfold State.idCharter
  rw [Bool.and_eq_true, Bool.and_eq_true, Bool.not_eq_true', and_assoc]

/-- What a change of layer writes of the probe: its layers and the charter's layer of now. -/
theorem layerIssue_probe (s : State) (p ts : Nat) (c : PaiCmd) :
    ∃ cur layers, (s.layerIssue p ts c).probe p = { s.probe p with curLayer := cur, layers := layers } := by
  unfold State.layerIssue
  extract_lets x ch t mine gone live early u v
  split
  · exact ⟨x.curLayer, x.layers, rfl⟩
  · have hv : CanalOnly s v := ((emitLayer_canal ..).trans (.foldl _ (fun _ _ => emitLayer_canal ..) _ _)).trans
      (.foldl _ (fun _ _ => emitLayer_canal ..) _ _)
    unfold State.modProbe
    rw [State.setProbe_probe_same, hv.probe]
    exact ⟨_, _, rfl⟩

theorem layerIssue_same {s : State} {p : Nat} (ts : Nat) {c : PaiCmd}
    (h : ¬ s.idCharter c = true ∨ tget (s.probe p).curLayer c.charter.toNat 0 = c.layer.toNat + 1) : s.layerIssue p ts c = s := by
  refine if_pos ?_
  rw [Bool.or_eq_true, Bool.not_eq_true', decide_eq_true_eq]
  exact h.imp_left Bool.eq_false_of_not_eq_true

/-- The first layer that the probe sees of a charter. -/
theorem layerIssue_first {s : State} {p : Nat} (ts : Nat) {c : PaiCmd} (hid : s.idCharter c = true)
    (hcur : tget (s.probe p).curLayer c.charter.toNat 0 ≠ c.layer.toNat + 1) (hnone : ∀ r ∈ (s.probe p).layers, r.charter ≠ c.charter) :
    s.layerIssue p ts c = (s.emitLayer p 0x0C ts c.layer false c).setProbe p { s.probe p with
      curLayer := tset (s.probe p).curLayer c.charter.toNat (c.layer.toNat + 1) 0
      layers := (s.probe p).layers ++ [⟨c.charter, c.layer, c.op, false⟩] } := by
  have hmine : (s.probe p).layers.filter (fun l => decide (l.charter = c.charter) && decide (l.layer ≠ c.layer)) = [] :=
    List.filter_eq_nil_iff.mpr fun r hr => by simp [hnone r hr]
  have hothers : (s.probe p).layers.filter (fun l => decide (l.charter ≠ c.charter)) = (s.probe p).layers :=
    List.filter_eq_self.mpr fun r hr => decide_eq_true (hnone r hr)
  unfold State.layerIssue State.modProbe
  dsimp only
  rw [if_neg (by simp [hid, hcur]), hmine]
  simp only [List.filter_nil, List.foldl_nil, List.length_nil, List.take_nil, List.drop_nil, List.map_nil, List.append_nil]
  rw [(emitLayer_canal ..).probe, hothers]

theorem layerRetire_probe (s : State) (p ts : Nat) (c : PaiCmd) : ∃ layers, (s.layerRetire p ts c).probe p = { s.probe p with layers := layers } := by
  unfold State.layerRetire State.modProbe
  dsimp only
  split
  · rw [State.setProbe_probe_same, (emitLayer_canal ..).probe]
    exact ⟨_, rfl⟩
  · exact ⟨(s.probe p).layers, rfl⟩

theorem layerRetire_same {s : State} {p : Nat} (ts : Nat) (c : PaiCmd) (h : ∀ r ∈ (s.probe p).layers, r.superseded = false) :
    s.layerRetire p ts c = s := by
  refine if_neg ?_
  have hany : (s.probe p).layers.any (fun l => decide (l.charter = c.charter) && decide (l.layer = c.layer) && l.superseded) = false :=
    List.any_eq_false.mpr fun r hr => by simp [h r hr]
  rw [hany, Bool.and_false]
  exact Bool.false_ne_true

/-! ## An issue (R164, R168, R539) -/

section
variable {p : Fin 128} {s : State}

/-- Random tagging selects a command at its issue: the LFSR's low bits after its step are 0 (R164, R539). -/
def State.selects (s : State) (p : Nat) (c : PaiCmd) : Bool :=
  decide (s.dev.mode = .startup ∨ s.dev.mode = .test ∨ s.dev.mode = .recovery) && (s.probe p).cfg.sampler.enable &&
    (s.probe p).cfg.sampler.flt.cmd (s.probe p).cfg c && decide ((lfsrNext (s.probe p).lfsr).toNat % 2 ^ (s.probe p).cfg.sampler.k = 0)

/-- A probe with an issued command in flight. -/
def State.issued (s : State) (p : Nat) (c : PaiCmd) : Probe :=
  let x := s.probe p
  let tag := s.selects p c && decide (x.tagged.length < 4)
  { x with
    lfsr := lfsrNext x.lfsr
    inflight := x.inflight.filter (fun f => decide (f.cmd.tag.toNat % 256 ≠ c.tag.toNat % 256)) ++ [⟨c, x.edge + 1, s.probeTs p, false⟩]
    tagged := if tag = true then x.tagged ++ [⟨c.tag, x.edge + 1, s.probeTs p, x.cfg.sampler.flt.sampleOwner⟩] else x.tagged
    ev := { x.ev with iss := some c, issTagged := tag, issSkipped := s.selects p c && !tag } }

theorem exec_commandIssue (c : PaiCmd) (hr : s.probeRuns p.val = true) : exec (.commandIssue p c) s = .next ((s.probe p.val).cmdRecord p.val 0x10
    (s.probeTs p.val) c false 0 ((s.setProbe p.val (s.issued p.val c)).layerIssue p.val (s.probeTs p.val) c)) := by
  have hmode : s.randomTagging = decide (s.dev.mode = .startup ∨ s.dev.mode = .test ∨ s.dev.mode = .recovery) := by
    unfold State.randomTagging
    simp only [Bool.decide_or, Bool.or_assoc]
  change execCommandIssue p c s = _
  unfold execCommandIssue
  dsimp only
  rw [if_neg (by simp [hr]), hmode, ← cmdRecord_eq]
  rfl

/-! ## A retire (R150, R163, R165, R168) -/

/-- The retire steps the precise sampler (R163). -/
def State.samples (s : State) (p : Nat) (c : PaiCmd) (flushed : Bool) : Bool :=
  (s.probe p).cfg.sampler.enable && decide (s.dev.mode = .service) && !flushed && (s.probe p).cfg.sampler.flt.cmd (s.probe p).cfg c

/-- A probe with a retired command out of those in flight: its latency in edges and in qt, and whether the clock was stretched
meanwhile. -/
def State.retired (s : State) (p : Nat) (c : PaiCmd) (flushed : Bool) (lat latQt : Nat) (str : Bool) : Probe :=
  let x := s.probe p
  { x with
    inflight := x.inflight.filter (fun f => decide (f.cmd.tag.toNat % 256 ≠ c.tag.toNat % 256))
    tagged := x.tagged.filter (fun e => decide (e.tag ≠ c.tag))
    countdown := if s.samples p c flushed = true ∧ x.countdown ≤ 1 then x.interval else if s.samples p c flushed = true then x.countdown - 1 else x.countdown
    due := if s.samples p c flushed = true ∧ x.countdown ≤ 1 then some (c, lat, latQt, s.probeTs p, str) else x.due
    ev := { x.ev with ret := some c, retFlushed := flushed, retLat := lat } }

/-- The SAMPLE record of a tagged command at its retire (R165, R166). -/
def State.tagSample (s : State) (p ts : Nat) (c : PaiCmd) (flushed : Bool) (lat latQt : Nat) (str : Bool) : Option Tagged → State
  | none => s
  | some e =>
    let r := s.emitSample p e.owner 0x12 ts (min 0xFFFFF lat) (sampleWords c lat latQt true flushed str)
    if r.1 then r.2 else r.2.modProbe p (fun z => { z with ev := { z.ev with lost := true } })

/-- A retire of a command with its latency known. -/
def State.retireWith (s u : State) (p : Nat) (c : PaiCmd) (flushed : Bool) (lat latQt : Nat) (str : Bool) : State :=
  ((s.probe p).cmdRecord p 0x11 (s.probeTs p) c flushed lat ((u.setProbe p (s.retired p c flushed lat latQt str)).layerRetire p (s.probeTs p) c)).tagSample
    p (s.probeTs p) c flushed lat latQt str ((s.probe p).tagged.find? (fun e => decide (e.tag = c.tag)))

theorem exec_commandRetire (c : PaiCmd) (flushed : Bool) (hr : s.probeRuns p.val = true) {fl : Option Flight}
    (hfl : (s.probe p.val).inflight.find? (fun f => decide (f.cmd.tag.toNat % 256 = c.tag.toNat % 256)) = fl) :
    exec (.commandRetire p c flushed) s = .next (s.retireWith (s.freshIf fl.isNone).2 p.val c flushed
      (fl.elim (s.freshIf fl.isNone).1 fun f => (s.probe p.val).edge + 1 - f.edge)
      (fl.elim (s.freshIf fl.isNone).1 fun f => s.probeTs p.val - f.ts) (fl.elim (s.probe p.val).stretch Flight.stretched)) := by
  have hu : (s.freshIf fl.isNone).2.probe p.val = s.probe p.val := by
    unfold State.freshIf
    split <;> rfl
  have hmode : (s.freshIf fl.isNone).2.dev = s.dev := by
    unfold State.freshIf
    split <;> rfl
  change execCommandRetire p c flushed s = _
  unfold execCommandRetire State.retireWith State.retired State.samples
  dsimp only
  rw [if_neg (by simp [hr]), hfl, hu, hmode, cmdRecord_eq]
  cases fl <;> cases (s.probe p.val).tagged.find? (fun e => decide (e.tag = c.tag))
  all_goals simp only [Bool.and_eq_true, decide_eq_true_eq]
  all_goals rfl

theorem tagSample_probe (t : State) (p ts : Nat) (c : PaiCmd) (flushed : Bool) (lat latQt : Nat) (str : Bool) (tg : Option Tagged) :
    ∃ ev, (t.tagSample p ts c flushed lat latQt str tg).probe p = { t.probe p with ev := ev } := by
  cases tg with
  | none => exact ⟨(t.probe p).ev, rfl⟩
  | some e =>
    unfold State.tagSample State.modProbe
    dsimp only
    split
    · exact ⟨(t.probe p).ev, (emitSample_canal ..).probe p⟩
    · rw [State.setProbe_probe_same, (emitSample_canal ..).probe]
      exact ⟨_, rfl⟩

theorem retireWith_probe (s u : State) (p : Nat) (c : PaiCmd) (flushed : Bool) (lat latQt : Nat) (str : Bool) :
    ∃ layers ev, (s.retireWith u p c flushed lat latQt str).probe p = { s.retired p c flushed lat latQt str with layers := layers, ev := ev } := by
  obtain ⟨ev, hev⟩ := tagSample_probe ((s.probe p).cmdRecord p 0x11 (s.probeTs p) c flushed lat
    ((u.setProbe p (s.retired p c flushed lat latQt str)).layerRetire p (s.probeTs p) c)) p (s.probeTs p) c flushed lat latQt str
    ((s.probe p).tagged.find? (fun e => decide (e.tag = c.tag)))
  obtain ⟨layers, hlayers⟩ := layerRetire_probe (u.setProbe p (s.retired p c flushed lat latQt str)) p (s.probeTs p) c
  refine ⟨layers, ev, hev.trans ?_⟩
  rw [(cmdRecord_canal ..).probe, hlayers, State.setProbe_probe_same]

theorem tagSample_room {t : State} {p : Nat} (ts : Nat) (c : PaiCmd) (flushed : Bool) (lat latQt : Nat) (str : Bool) (e : Tagged)
    (h : ((t.queue p).filter (fun r => r.inBuffer p)).length < 64) : t.tagSample p ts c flushed lat latQt str (some e) =
      t.emit p e.owner 0x12 2 ts (min 0xFFFFF lat) (sampleWords c lat latQt true flushed str) := by
  unfold State.tagSample
  dsimp only
  rw [emitSample_room _ _ _ _ _ h]
  rfl

/-- A retire where no layer of the probe is superseded: the record and the tagged sample alone (R168, R169). -/
theorem retireWith_same {s : State} {p : Nat} (c : PaiCmd) (flushed : Bool) (lat latQt : Nat) (str : Bool)
    (h : ∀ r ∈ (s.probe p).layers, r.superseded = false) : s.retireWith s p c flushed lat latQt str =
      ((s.probe p).cmdRecord p 0x11 (s.probeTs p) c flushed lat (s.setProbe p (s.retired p c flushed lat latQt str))).tagSample
        p (s.probeTs p) c flushed lat latQt str ((s.probe p).tagged.find? (fun e => decide (e.tag = c.tag))) := by
  unfold State.retireWith
  rw [layerRetire_same]
  rw [State.setProbe_probe_same]
  exact h

/-! ## Precise samples and stages (R163, R165, R166) -/

theorem exec_preciseSample_room {c : PaiCmd} {lat latQt at_ : Nat} {str : Bool} (hd : (s.probe p.val).due = some (c, lat, latQt, at_, str))
    (h : ¬ 64 ≤ ((s.queue p.val).filter (fun r => r.inBuffer p.val)).length) : exec (.preciseSample p) s = .next
      (((s.setProbe p.val { s.probe p.val with due := none }).emit p.val (s.probe p.val).cfg.sampler.flt.sampleOwner 0x12 2 at_ (min 0xFFFFF lat)
        (sampleWords c lat latQt false false str)).setProbe p.val
        { s.probe p.val with due := none, ev := { (s.probe p.val).ev with sampled := true } }) := by
  have hq : (((s.setProbe p.val { s.probe p.val with due := none }).queue p.val).filter (fun r => r.inBuffer p.val)).length < 64 := not_le.mp h
  change execPreciseSample p s = _
  unfold execPreciseSample State.modProbe
  dsimp only
  rw [hd]
  dsimp only
  rw [emitSample_room _ _ _ _ _ hq]
  dsimp only
  rw [(emit_canal ..).probe, State.setProbe_probe_same, Bool.not_true, Bool.or_false]
  rfl

theorem exec_preciseSample_full {c : PaiCmd} {lat latQt at_ : Nat} {str : Bool} (hd : (s.probe p.val).due = some (c, lat, latQt, at_, str))
    (h : 64 ≤ ((s.queue p.val).filter (fun r => r.inBuffer p.val)).length)
    (hc : s.canEmit p.val (s.probe p.val).cfg.sampler.flt.sampleOwner = true) : ∃ t : State, exec (.preciseSample p) s = .next t ∧
      t.probe p.val = { s.probe p.val with due := none, ev := { (s.probe p.val).ev with sampled := true, lost := true } } ∧
      t.queue p.val = s.queue p.val := by
  have hcan : (s.setProbe p.val { s.probe p.val with due := none }).canEmit p.val (s.probe p.val).cfg.sampler.flt.sampleOwner = true := by
    rw [← hc]
    unfold State.canEmit
    rw [State.setProbe_probe_same]
    rfl
  change ∃ t, execPreciseSample p s = .next t ∧ _
  unfold execPreciseSample State.modProbe
  dsimp only
  rw [hd]
  dsimp only
  rw [emitSample_full _ _ _ _ hcan h]
  refine ⟨_, rfl, ?_, noteLoss_queue ..⟩
  dsimp only
  rw [State.setProbe_probe_same, (noteLoss_canal ..).probe, State.setProbe_probe_same, Bool.not_false, Bool.or_true]

/-- A tagged command's TAG_STAGE record, or its loss (R165, R166). -/
def State.tagStage (s : State) (p ts edge stage : Nat) (e : Tagged) : State :=
  let r := s.emitSample p e.owner 0x13 ts (min 0xFFFFF (edge + 1 - e.edge)) [e.tag.toNat + stage * 2 ^ 24]
  if r.1 then r.2 else r.2.modProbe p (fun z => { z with ev := { z.ev with stageLost := true } })

theorem exec_stageEntry (stage : Fin 8) (tid : BitVec 8) (hr : s.probeRuns p.val = true) : exec (.stageEntry p stage tid) s = .next
    (((s.probe p.val).tagged.filter (fun e => decide (e.tag.toNat % 256 = tid.toNat))).foldl
      (fun t e => t.tagStage p.val (s.probeTs p.val) (s.probe p.val).edge stage.val e)
      (s.setProbe p.val { s.probe p.val with ev := { (s.probe p.val).ev with stages := setBit (s.probe p.val).ev.stages stage.val true } })) :=
  if_neg (by simp [hr])

theorem tagStage_room {t : State} {p : Nat} (ts edge stage : Nat) (e : Tagged) (h : ((t.queue p).filter (fun r => r.inBuffer p)).length < 64) :
    t.tagStage p ts edge stage e = t.emit p e.owner 0x13 2 ts (min 0xFFFFF (edge + 1 - e.edge)) [e.tag.toNat + stage * 2 ^ 24] := by
  unfold State.tagStage
  rw [emitSample_room _ _ _ _ _ h]
  rfl

/-- A TAG_STAGE record changes of the probe at most that one was lost. -/
theorem tagStage_probe (t : State) (p ts edge stage : Nat) (e : Tagged) :
    (t.tagStage p ts edge stage e).probe p = t.probe p ∨
      (t.tagStage p ts edge stage e).probe p = { t.probe p with ev := { (t.probe p).ev with stageLost := true } } := by
  unfold State.tagStage State.modProbe
  dsimp only
  split
  · exact .inl ((emitSample_canal ..).probe p)
  · rw [State.setProbe_probe_same, (emitSample_canal ..).probe]
    exact .inr rfl

theorem tagStages_proj {α : Type} (π : Probe → α) (h : ∀ x : Probe, π { x with ev := { x.ev with stageLost := true } } = π x)
    (p ts edge stage : Nat) (es : List Tagged) (t : State) : π ((es.foldl (fun t e => t.tagStage p ts edge stage e) t).probe p) = π (t.probe p) :=
  foldl_proj (fun t : State => π (t.probe p)) _ (fun t e => by
    rcases tagStage_probe t p ts edge stage e with he | he
    · exact congrArg π he
    · exact (congrArg π he).trans (h _)) es t

/-! ## EVT edges (R170) -/

theorem closeWindow_empty {s : State} {p line : Nat} (h : (tget (s.probe p).windows line ⟨0, 0, 0⟩).count = 0) : s.closeWindow p line = s := if_pos h

theorem closeWindow_counted {s : State} {p line : Nat} (h : (tget (s.probe p).windows line ⟨0, 0, 0⟩).count ≠ 0) : s.closeWindow p line =
    (s.setProbe p { s.probe p with
      windows := tset (s.probe p).windows line ⟨(tget (s.probe p).windows line ⟨0, 0, 0⟩).start, 0, 0⟩ ⟨0, 0, 0⟩ }).emit p (s.probe p).cfg.edgeOwner
      0x0B 1 (tget (s.probe p).windows line ⟨0, 0, 0⟩).first (line + min 63 (tget (s.probe p).windows line ⟨0, 0, 0⟩).count * 64) [] := if_neg h

section
variable {line : Fin 64} {rising : Bool} {levels : BitVec 64} (hr : s.probeRuns p.val = true) (hlevel : (s.probe p.val).evt.getLsbD line.val ≠ rising)
  (hnow : levels.getLsbD line.val = rising)
  (hon : (if rising then (s.probe p.val).cfg.rise else (s.probe p.val).cfg.fall).getLsbD line.val = true)
include hr hlevel hnow hon

theorem evtEdge_enabled : ¬ (!s.probeRuns p.val || decide ((s.probe p.val).evt.getLsbD line.val = rising) || decide (levels.getLsbD line.val ≠ rising)
    || !(if rising then (s.probe p.val).cfg.rise else (s.probe p.val).cfg.fall).getLsbD line.val) = true := by
  rw [hr, hon, decide_eq_false hlevel, decide_eq_false (not_not.mpr hnow)]
  decide

theorem exec_evtEdge_suppressed (h0 : (tget (s.probe p.val).windows line.val ⟨0, 0, 0⟩).start ≠ 0)
    (hin : (s.probe p.val).edge + 1 ≤ (tget (s.probe p.val).windows line.val ⟨0, 0, 0⟩).start + 63) :
    let w := tget (s.probe p.val).windows line.val ⟨0, 0, 0⟩
    exec (.evtEdge p line rising levels) s = .next (s.setProbe p.val { s.probe p.val with
      windows := tset (s.probe p.val).windows line.val ⟨w.start, w.count + 1, if w.count = 0 then s.probeTs p.val else w.first⟩ ⟨0, 0, 0⟩
      ev := { (s.probe p.val).ev with suppressed := (s.probe p.val).ev.suppressed + 1 } }) :=
  (if_neg (evtEdge_enabled hr hlevel hnow hon)).trans (if_pos (by rw [decide_eq_true h0, decide_eq_true hin]; rfl))

/-- An edge outside its line's window closes the window, opens the next and is emitted. -/
theorem exec_evtEdge_emitted (hout : (tget (s.probe p.val).windows line.val ⟨0, 0, 0⟩).start = 0 ∨
      (tget (s.probe p.val).windows line.val ⟨0, 0, 0⟩).start + 63 < (s.probe p.val).edge + 1) :
    exec (.evtEdge p line rising levels) s = .next (((s.closeWindow p.val line.val).modProbe p.val
      (fun y => { y with windows := tset y.windows line.val ⟨y.edge + 1, 0, 0⟩ ⟨0, 0, 0⟩ })).emit p.val (s.probe p.val).cfg.edgeOwner 0x16 2
      (s.probeTs p.val) (line.val + b2n rising * 64) [levels.toNat]) := by
  refine (if_neg (evtEdge_enabled hr hlevel hnow hon)).trans (if_neg ?_)
  rw [Bool.and_eq_true, decide_eq_true_eq, decide_eq_true_eq]
  rintro ⟨h0, hin⟩
  rcases hout with h | h
  · exact h0 h
  · omega

end

theorem exec_rateExceeded {line : Fin 64} (hr : s.probeRuns p.val = true)
    (h : (tget (s.probe p.val).windows line.val ⟨0, 0, 0⟩).start + 63 ≤ (s.probe p.val).edge) :
    exec (.rateExceeded p line) s = .next (s.closeWindow p.val line.val) :=
  congrArg Host.Outcome.next (if_pos (by rw [live_of_runs hr, decide_eq_true h]; rfl))

/-! ## Charter switches and wraps (R159, R167) -/

theorem exec_charterSwitch (charter : BitVec 4) (priv : Bool) (hr : s.probeRuns p.val = true)
    (h : (if priv then 16 else charter.toNat) ≠ if (s.probe p.val).curPriv then 16 else (s.probe p.val).curCharter.toNat) :
    exec (.charterSwitch p charter priv) s = .next
      (let u := s.setProbe p.val { s.probe p.val with curCharter := charter, curPriv := priv }
      if (s.probe p.val).cfg.cswitch = true then u.emit p.val 16 0x07 1 (s.probeTs p.val)
        ((if priv then 16 else charter.toNat) + (if (s.probe p.val).curPriv then 16 else (s.probe p.val).curCharter.toNat) * 32) [] else u) := by
  have hts : (s.setProbe p.val { s.probe p.val with curCharter := charter, curPriv := priv }).probeTs p.val = s.probeTs p.val := by
    unfold State.probeTs
    rw [State.setProbe_probe_same]
    rfl
  refine (if_neg (by rw [hr, Bool.not_true, Bool.false_or, decide_eq_true_eq]; exact h)).trans ?_
  dsimp only
  rw [hts]
  rfl

end

/-! ## The obligation -/

/-- Settles O58: each event by the rule of its own above, an HCLK edge by what `Probe.clock` writes. -/
theorem paiEvents : Obligations.PaiEvents := by
  intro p s hr
  dsimp only
  refine ⟨?issue, ?retire, ?precise, ?stage, ?evt, ?rate, ?switch, ?edge, ?wrap⟩
  case issue =>
    intro c
    rw [exec_commandIssue c hr, ← idCharter_iff]
    refine ⟨?_, fun h => ?_, fun hid hcur hnone => ?_⟩
    · obtain ⟨cur, layers, hx⟩ := layerIssue_probe (s.setProbe p.val (s.issued p.val c)) p.val (s.probeTs p.val) c
      refine ⟨_, rfl, ?_⟩
      rw [(cmdRecord_canal ..).probe, hx, State.setProbe_probe_same]
      exact ⟨rfl, rfl, rfl, rfl, rfl⟩
    · rw [layerIssue_same]
      · rfl
      · rw [State.setProbe_probe_same]
        exact h
    · rw [layerIssue_first]
      · rw [State.setProbe_probe_same]
        rfl
      · exact hid
      · rw [State.setProbe_probe_same]
        exact hcur
      · rw [State.setProbe_probe_same]
        exact hnone
  case retire =>
    intro c flushed
    refine ⟨?_, fun f hf hnone => ?_⟩
    · obtain ⟨layers, ev, hx⟩ := retireWith_probe s _ p.val c flushed _ _ _
      refine ⟨_, exec_commandRetire c flushed hr rfl, ?_⟩
      rw [hx]
      exact ⟨rfl, rfl, rfl, rfl, rfl⟩
    · have hexec := (exec_commandRetire c flushed hr hf).trans (congrArg Host.Outcome.next (retireWith_same c flushed _ _ _ hnone))
      refine ⟨fun h => hexec.trans ?_, fun e he hroom => hexec.trans ?_⟩
      · rw [List.find?_eq_none.mpr fun e he => by simp [h e he]]
        rfl
      · rw [he, tagSample_room]
        · rfl
        · exact hroom
  case precise =>
    intro c lat latQt at_ str hd
    exact ⟨exec_preciseSample_room hd, exec_preciseSample_full hd⟩
  case stage =>
    intro stage tid
    rw [exec_stageEntry stage tid hr]
    refine ⟨⟨_, rfl, ?_⟩, fun h => ?_, fun e h hroom => ?_⟩
    · refine ⟨(tagStages_proj (fun x => x.ev.stages) (fun _ => rfl) ..).trans ?_, (tagStages_proj Probe.tagged (fun _ => rfl) ..).trans ?_,
        (tagStages_proj Probe.cnt (fun _ => rfl) ..).trans ?_⟩
      · rw [State.setProbe_probe_same]
      · rw [State.setProbe_probe_same]
      · rw [State.setProbe_probe_same]
    · rw [h]
      rfl
    · rw [h, List.foldl_cons, List.foldl_nil, tagStage_room]
      exact hroom
  case evt =>
    intro line rising levels hlevel hnow hon
    refine ⟨exec_evtEdge_suppressed hr hlevel hnow hon, fun hout h => ?_, fun hout h => ?_⟩
    · rw [exec_evtEdge_emitted hr hlevel hnow hon hout, closeWindow_empty h]
      rfl
    · rw [exec_evtEdge_emitted hr hlevel hnow hon hout, closeWindow_counted h, State.modProbe, (emit_canal ..).probe, State.setProbe_probe_same]
  case rate =>
    intro line hcount hend
    rw [exec_rateExceeded hr hend, closeWindow_counted hcount]
  case switch =>
    intro charter priv h
    exact exec_charterSwitch charter priv hr h
  case edge =>
    intro e
    obtain ⟨hedge, hts, hprev, hevt, hcharter, hpriv, hstretch, hcfg, hovf, hwr, hclr, htagged, hshadow⟩ :=
      clock_frame (s.probe p.val) e (s.probeUnits p.val) (s.probeW p.val) (s.probeTs p.val) rfl
    refine ⟨_, exec_hclkEdge e hr, fun howe happ => ?_, hedge, hts, hprev, hevt, hcharter, hpriv, hstretch, hcfg, hovf, hwr, hclr, htagged, hshadow,
      fun i hi => ?_, fun u hu => ?_⟩
    · rw [exec_hclkEdge e hr, paySync_none, settleWrites_none]
      · exact happ
      · exact howe
    · have hinc := ctrInc_eq (s.probe p.val) e (s.probeUnits p.val) (s.probeW p.val) i
      have hcnt := clock_cnt (s.probe p.val) e (s.probeUnits p.val) (s.probeW p.val) (s.probeTs p.val) hi
      have hcarry := clock_carry (s.probe p.val) e (s.probeUnits p.val) (s.probeW p.val) (s.probeTs p.val) hi
      rw [hinc] at hcnt hcarry
      exact ⟨fun h => hcnt.trans (if_neg (by simp [h])), fun h => hcnt.trans (if_pos (decide_eq_true h)), hcarry⟩
    · obtain ⟨hbusy, hstall⟩ := clock_tallies (s.probe p.val) e (s.probeUnits p.val) (s.probeW p.val) (s.probeTs p.val)
      rw [hbusy, hstall]
      exact ⟨tget_probe_tallied _ _ _ _ hu, tget_probe_tallied _ _ _ _ hu⟩
  case wrap =>
    intro i hc
    refine ⟨fun hi => (if_neg (by simp [hc])).trans (if_pos hi), fun hi => ?_⟩
    refine (if_neg (by simp [hc])).trans ((if_neg (by omega)).trans ?_)
    rw [show (s.probe p.val).cfg.ownerOf i.val = tget (s.probe p.val).cfg.pmcOwner (i.val - 5) 16 from if_neg (by omega)]

end Sys2Proof.Machine
end

section
/-! SUPPORT. The spine's deliveries, drops at a source, loss tokens and the weir engine (R184 to R220). -/

namespace Sys2Proof.Machine

/-! ## What a write to memory and an op's inputs change -/

/-- The second state differs from the first in stored words, faults and interrupts, the ledger and the ops' inputs, and the same
banks take cells. -/
def Carried (s t : State) : Prop :=
  t = { s with ledger := t.ledger, fc := t.fc, win := t.win, ecc := t.ecc, ch := t.ch } ∧ ∀ b, t.bankUp b = s.bankUp b

theorem Carried.rfl {s : State} : Carried s s := ⟨Eq.refl s, fun _ => Eq.refl _⟩

theorem Carried.trans {s t u : State} (h : Carried s t) (k : Carried t u) : Carried s u := by
  obtain ⟨ht, hup⟩ := h
  obtain ⟨hu, kup⟩ := k
  exact ⟨by rw [hu, ht], fun b => (kup b).trans (hup b)⟩

theorem Carried.ite {s a b : State} {c : Prop} [Decidable c] (ha : Carried s a) (hb : Carried s b) : Carried s (if c then a else b) := by
  split <;> assumption

theorem Carried.foldl {α : Type} {f : State → α → State} (h : ∀ s a, Carried s (f s a)) (l : List α) (s : State) : Carried s (l.foldl f s) := by
  induction l generalizing s with
  | nil => exact .rfl
  | cons a l ih => exact (h s a).trans (ih _)

theorem Carried.proj {α : Type} {s t : State} (h : Carried s t) (π : State → α)
    (hπ : ∀ (u : State) ledger fc win ecc ch, π { u with ledger := ledger, fc := fc, win := win, ecc := ecc, ch := ch } = π u) : π t = π s := by
  rw [h.1, hπ]

theorem dropWord_carried (s : State) (b : Nat) (copy : Bool) (w : Nat) : Carried s (s.dropWord b copy w) := ⟨rfl, fun _ => rfl⟩
theorem poisonWord_carried (s : State) (b : Nat) (copy : Bool) (w : Nat) : Carried s (s.poisonWord b copy w) := ⟨rfl, fun _ => rfl⟩
theorem raise_carried (s : State) (code unit detail : Nat) : Carried s (s.raise code unit detail) := ⟨rfl, fun _ => rfl⟩
theorem streamIn_carried (s : State) (r : Rec) : Carried s (s.streamIn r) := ⟨rfl, fun _ => rfl⟩
theorem setLedger_carried (s : State) (l : Ledger) : Carried s { s with ledger := l } := ⟨rfl, fun _ => rfl⟩
theorem basinIn_carried (s : State) (cell : Nat) (r : Rec) : Carried s (s.basinIn cell r) := ⟨rfl, fun _ => rfl⟩

/-- A bank that neither fails nor starts a migration takes cells as before (R230). -/
theorem setBank_carried (s : State) (k : Nat) (x : Bank) (hf : x.failed = (s.bank k).failed) (hm : x.migrating = (s.bank k).migrating) :
    Carried s (s.setBank k x) := by
  refine ⟨rfl, fun b => ?_⟩
  unfold State.bankUp
  rw [State.setBank_bank]
  split
  · next h =>
    dsimp only
    rw [hf, hm, h]
  · rfl

theorem modBank_carried (s : State) (k : Nat) {f : Bank → Bank} (h : ∀ x, (f x).failed = x.failed ∧ (f x).migrating = x.migrating) :
    Carried s (s.modBank k f) := setBank_carried s k _ (h _).1 (h _).2

theorem dropMerge_carried (s : State) (b w : Nat) : Carried s (s.dropMerge b w) := modBank_carried s _ fun _ => ⟨rfl, rfl⟩

theorem countUe_carried (s : State) (b : Nat) (copy : Bool) (w : Nat) : Carried s (s.countUe b copy w) := modBank_carried s _ fun _ => ⟨rfl, rfl⟩

theorem countCe_carried (s : State) (b : Nat) (copy : Bool) : Carried s (s.countCe b copy) := by
  have hbank := setBank_carried s (bankKey b copy)
    { s.bank (bankKey b copy) with ce := satAdd (2 ^ 32 - 1) (s.bank (bankKey b copy)).ce 1, bucket := min 16 ((s.bank (bankKey b copy)).bucket + 1) } rfl rfl
  exact .ite hbank (.ite hbank (hbank.trans ⟨rfl, fun _ => rfl⟩))

theorem rmw_carried (s : State) (b : Nat) (e : Merge) : Carried s (s.rmw b e).2 := by
  have hdrop := dropMerge_carried s b e.word
  unfold State.rmw
  dsimp only
  split
  · exact hdrop
  · split
    · exact hdrop.trans (dropWord_carried ..)
    · exact hdrop.trans ((countCe_carried ..).trans (dropWord_carried ..))
    · have hue := hdrop.trans ((countUe_carried _ b false e.word).trans ((poisonWord_carried _ b false e.word).trans (raise_carried _ 0xB01 b e.word)))
      exact .ite (hue.trans (raise_carried ..)) hue
    · exact hdrop

theorem writeWord_carried (s : State) (b w : Nat) : Carried s (s.writeWord b w) := (dropMerge_carried ..).trans (dropWord_carried ..)

theorem mergeWord_carried (s : State) (b w : Nat) (mask : BitVec 16) : Carried s (s.mergeWord b w mask) := by
  unfold State.mergeWord
  dsimp only
  refine .ite (writeWord_carried ..) ?_
  split
  · exact .ite (writeWord_carried ..) (modBank_carried _ _ fun _ => ⟨rfl, rfl⟩)
  · refine Carried.trans (.ite .rfl ?_) (modBank_carried _ _ fun _ => ⟨rfl, rfl⟩)
    split
    · exact rmw_carried ..
    · exact .rfl

theorem mergeBytes_carried (s : State) (b a n : Nat) : Carried s (s.mergeBytes b a n) := .foldl (fun _ _ => mergeWord_carried ..) _ _

theorem writeCell_carried (s : State) (c : Cell) (r : Rec) : Carried s (s.writeCell c r) :=
  ((mergeBytes_carried ..).trans (dropWord_carried ..)).trans (dropWord_carried ..)

theorem ledgerPut_carried (s : State) (r : Rec) : Carried s (s.ledgerPut r) := by
  unfold State.ledgerPut
  extract_lets l n post at_ rs kept t
  have ht : Carried s t := .foldl (fun t (e : Nat × Nat × Nat) => mergeBytes_carried t e.1 e.2.1 e.2.2) at_ s
  exact ht.trans (setLedger_carried ..)

theorem ledgerTake_carried (s : State) (r : Rec) : Carried s (s.ledgerTake r) := by
  have hput := ledgerPut_carried s r
  unfold State.ledgerTake
  dsimp only
  split
  · exact .ite hput .rfl
  · exact .ite (hput.trans (setLedger_carried ..)) (.ite hput .rfl)
  · exact .rfl

/-! ## Room in the basins, by the basins and the banks that take cells -/

section
variable {s t : State} (hb : t.basins = s.basins) (hup : ∀ b, t.bankUp b = s.bankUp b)
include hb

theorem prioQ_congr (o : Nat) : t.prioQ o = s.prioQ o := congrArg (fun b : Basins => tget b.prioQ o []) hb
theorem charterQ_congr (o : Nat) : t.charterQ o = s.charterQ o := congrArg (fun b : Basins => tget b.charterQ o []) hb

theorem allCells_congr : t.allCells = s.allCells := by
  unfold State.allCells
  rw [hb]

theorem units_congr (o : Nat) : t.units o = s.units o := by
  unfold State.units State.unitOwner
  rw [hb]

theorem used_congr (o : Nat) : t.used o = s.used o := by
  unfold State.used
  rw [hb, charterQ_congr hb]

theorem baseCells_congr (o : Nat) : t.baseCells o = s.baseCells o := by
  unfold State.baseCells State.quotaOf
  rw [hb, units_congr hb]

include hup

theorem freeCell_congr (us : List Nat) : t.freeCell us = s.freeCell us := by
  unfold State.freeCell
  rw [funext hup, allCells_congr hb]

omit hb in
theorem fitsTail_congr (q : List Cell) (r : Rec) : t.fitsTail q r = s.fitsTail q r := by
  unfold State.fitsTail
  rw [funext hup]

theorem prioRoom_congr (r : Rec) : t.prioRoom r = s.prioRoom r := by
  unfold State.prioRoom State.prioUnits
  rw [prioQ_congr hb, fitsTail_congr hup, freeCell_congr hb hup, hb]

theorem admitTo_congr (r : Rec) : t.admitTo r = s.admitTo r := by
  unfold State.admitTo State.unitsInTurn State.orderUnits
  dsimp only
  rw [charterQ_congr hb, fitsTail_congr hup, used_congr hb, baseCells_congr hb, units_congr hb, hb, funext (freeCell_congr hb hup)]

end

/-! ## Weir accumulators (R217, R218) -/

theorem weirKey_eq (w : Weir) (o lost cause : Nat) : w.key o lost cause = decide (w.owner = o ∧ w.lost = lost ∧ w.cause = cause) := by
  unfold Weir.key
  simp only [Bool.decide_and, Bool.and_assoc]

section
variable (c : Canal) (cause lost now : Nat) (l : Loss)

/-- The second canal differs from the first in its marks, open and closed. -/
def MarksOnly (c d : Canal) : Prop := d = { c with acc := d.acc, closed := d.closed }

theorem addOpen_marks {d : Canal} (h : c.addOpen cause lost now l = some d) : MarksOnly c d := by
  unfold Canal.addOpen at h
  split at h
  · split at h
    · cases h
      exact rfl
    · cases h
  · cases h

theorem addOverflow_marks : MarksOnly c (c.addOverflow cause now l) := by
  unfold Canal.addOverflow
  split
  · next h => exact addOpen_marks _ _ _ _ _ h
  · dsimp only
    split
    · exact rfl
    · exact rfl

theorem addLoss_marks : MarksOnly c (c.addLoss cause lost now l) := by
  unfold Canal.addLoss
  split
  · next h => exact addOpen_marks _ _ _ _ _ h
  · dsimp only
    split
    · exact rfl
    · exact (addOverflow_marks (c.closeKey l.owner cause lost) cause now l).trans rfl

variable {c cause lost now l}

theorem addOpen_none (h : ∀ w ∈ c.acc, w.key l.owner lost cause = false) : c.addOpen cause lost now l = none := by
  unfold Canal.addOpen
  rw [List.find?_eq_none.mpr fun w hw => Bool.not_eq_true _ ▸ h w hw]

theorem closeKey_none {o : Nat} (h : ∀ w ∈ c.acc, w.key o lost cause = false) : c.closeKey o cause lost = c := by
  have hkeep : c.acc.filter (fun w => !w.key o lost cause) = c.acc := List.filter_eq_self.mpr fun w hw => by rw [h w hw]; rfl
  have hgone : c.acc.filter (fun w => w.key o lost cause) = [] := List.filter_eq_nil_iff.mpr fun w hw => by rw [h w hw]; exact Bool.false_ne_true
  unfold Canal.closeKey
  rw [hkeep, hgone, List.append_nil]

/-- The first loss of a key opens an accumulator while the table has a free entry. -/
theorem addLoss_opens (h : ∀ w ∈ c.acc, w.key l.owner lost cause = false) (hroom : c.tableUsed < 512) :
    c.addLoss cause lost now l = { c with acc := c.acc ++ [Weir.of cause lost now l] } := by
  unfold Canal.addLoss
  rw [addOpen_none h]
  dsimp only
  rw [closeKey_none h, if_pos hroom]

/-- With the table full a loss goes to the overflow accumulator. -/
theorem addLoss_full (h : ∀ w ∈ c.acc, w.key l.owner lost cause = false) (hfull : 512 ≤ c.tableUsed) :
    c.addLoss cause lost now l = c.addOverflow cause now l := by
  unfold Canal.addLoss
  rw [addOpen_none h]
  dsimp only
  rw [closeKey_none h, if_neg (by omega)]

theorem addOverflow_opens (h : ∀ w ∈ c.acc, w.key l.owner 255 cause = false) (hclosed : ∀ w ∈ c.closed, w.key l.owner 255 cause = false) :
    c.addOverflow cause now l = { c with acc := c.acc ++ [Weir.of cause 255 now l] } := by
  unfold Canal.addOverflow
  rw [addOpen_none h]
  dsimp only
  rw [closeKey_none h, if_neg]
  rw [List.any_eq_false.mpr fun w hw => Bool.not_eq_true _ ▸ hclosed w hw]
  exact Bool.false_ne_true

/-- A loss is counted in the closed overflow mark that still waits (log 70). -/
theorem addOverflow_counts (h : ∀ w ∈ c.acc, w.key l.owner 255 cause = false) (hclosed : ∃ w ∈ c.closed, w.key l.owner 255 cause = true) :
    (c.addOverflow cause now l).acc = c.acc ∧ (c.addOverflow cause now l).closed.length = c.closed.length := by
  unfold Canal.addOverflow
  rw [addOpen_none h]
  dsimp only
  rw [closeKey_none h, if_pos (List.any_eq_true.mpr hclosed)]
  exact ⟨rfl, List.length_map ..⟩

theorem covers_iff (w : Weir) (span : Nat) (l : Loss) :
    w.covers span l = true ↔ l.epoch = w.epoch ∧ l.part = w.part ∧ w.first ≤ l.ts ∧ l.ts < w.first + span := by
  unfold Weir.covers
  rw [Bool.and_eq_true, Bool.and_eq_true, Bool.and_eq_true, decide_eq_true_eq, decide_eq_true_eq, decide_eq_true_eq, decide_eq_true_eq,
    and_assoc, and_assoc]

/-- A loss inside the span of its key's only accumulator is counted in it. -/
theorem addLoss_counts {w : Weir} (hacc : c.acc = [w]) (hkey : w.key l.owner lost cause = true) (hfits : w.covers (2 ^ 18) l = true) :
    c.addLoss cause lost now l = { c with acc := [w.count now l] } := by
  have hfind : [w].find? (fun w => w.key l.owner lost cause) = some w := List.find?_cons_of_pos hkey
  unfold Canal.addLoss Canal.addOpen
  rw [hacc, hfind]
  dsimp only
  rw [if_pos hfits, List.map_cons, List.map_nil, if_pos hkey]

/-- A loss outside the span closes the accumulator and opens the next. -/
theorem addLoss_reopens {w : Weir} (hacc : c.acc = [w]) (hkey : w.key l.owner lost cause = true) (hfits : ¬ w.covers (2 ^ 18) l = true)
    (hroom : c.tableUsed < 512) :
    c.addLoss cause lost now l = { c with acc := [Weir.of cause lost now l], closed := c.closed ++ [w] } := by
  have hopen : c.addOpen cause lost now l = none := by
    have hfind : [w].find? (fun w => w.key l.owner lost cause) = some w := List.find?_cons_of_pos hkey
    unfold Canal.addOpen
    rw [hacc, hfind]
    exact if_neg hfits
  have hclose : c.closeKey l.owner cause lost = { c with acc := [], closed := c.closed ++ [w] } := by
    have hgone : [w].filter (fun w => !w.key l.owner lost cause) = [] := List.filter_cons_of_neg (by simp [hkey])
    have hkept : [w].filter (fun w => w.key l.owner lost cause) = [w] := List.filter_cons_of_pos hkey
    unfold Canal.closeKey
    rw [hacc, hgone, hkept]
  have hused : ({ c with acc := [], closed := c.closed ++ [w] } : Canal).tableUsed = c.tableUsed := by
    unfold Canal.tableUsed
    rw [hacc]
    exact List.Perm.countP_eq _ (List.perm_append_comm (l₁ := c.closed) (l₂ := [w]))
  unfold Canal.addLoss
  rw [hopen]
  dsimp only
  rw [hclose, hused, if_pos hroom]
  rfl

end

/-! ## Deliveries -/

/-- The second state differs from the first in its streams, losses and marks, the basins, and what memory and the ops' inputs
carry; the same banks take cells. -/
def Delivery (s t : State) : Prop :=
  t = { s with
    canal := { s.canal with streams := t.canal.streams, losses := t.canal.losses, acc := t.canal.acc, closed := t.canal.closed }
    basins := t.basins, ledger := t.ledger, fc := t.fc, win := t.win, ecc := t.ecc, ch := t.ch } ∧ ∀ b, t.bankUp b = s.bankUp b

theorem Delivery.rfl {s : State} : Delivery s s := ⟨Eq.refl s, fun _ => Eq.refl _⟩

theorem Delivery.trans {s t u : State} (h : Delivery s t) (k : Delivery t u) : Delivery s u := by
  obtain ⟨ht, hup⟩ := h
  obtain ⟨hu, kup⟩ := k
  exact ⟨by rw [hu, ht], fun b => (kup b).trans (hup b)⟩

theorem Delivery.ite {s a b : State} {c : Prop} [Decidable c] (ha : Delivery s a) (hb : Delivery s b) : Delivery s (if c then a else b) := by
  split <;> assumption

theorem Delivery.foldl {α : Type} {f : State → α → State} (h : ∀ s a, Delivery s (f s a)) (l : List α) (s : State) : Delivery s (l.foldl f s) := by
  induction l generalizing s with
  | nil => exact .rfl
  | cons a l ih => exact (h s a).trans (ih _)

theorem Delivery.proj {α : Type} {s t : State} (h : Delivery s t) (π : State → α)
    (hπ : ∀ (u : State) streams losses acc closed basins ledger fc win ecc ch, π { u with
      canal := { u.canal with streams := streams, losses := losses, acc := acc, closed := closed }
      basins := basins, ledger := ledger, fc := fc, win := win, ecc := ecc, ch := ch } = π u) : π t = π s := by
  rw [h.1, hπ]

theorem Carried.delivery {s t : State} (h : Carried s t) : Delivery s t := ⟨by rw [h.1], h.2⟩

theorem setStream_delivery (s : State) (src o : Nat) (x : Stream) : Delivery s (s.setStream src o x) := ⟨rfl, fun _ => rfl⟩
theorem setCharterQ_delivery (s : State) (o : Nat) (q : List Cell) : Delivery s (s.setCharterQ o q) := ⟨rfl, fun _ => rfl⟩
theorem setPrioQ_delivery (s : State) (o : Nat) (q : List Cell) : Delivery s (s.setPrioQ o q) := ⟨rfl, fun _ => rfl⟩

/-- What a loss leaves alone: all but the marks. -/
theorem lose_marks (s : State) (cause src : Nat) (l : Loss) : ∃ acc closed, s.lose cause src l = { s with canal := { s.canal with acc := acc, closed := closed } } := by
  unfold State.lose
  split
  · exact ⟨s.canal.acc, s.canal.closed, rfl⟩
  · exact ⟨_, _, congrArg (fun c => { s with canal := c }) (addLoss_marks ..)⟩

theorem lose_delivery (s : State) (cause src : Nat) (l : Loss) : Delivery s (s.lose cause src l) := by
  obtain ⟨acc, closed, h⟩ := lose_marks s cause src l
  rw [h]
  exact ⟨rfl, fun _ => rfl⟩

theorem loseHeld_marks (s : State) (src : Nat) (ov : Bool) (l : Loss) :
    ∃ acc closed, s.loseHeld src ov l = { s with canal := { s.canal with acc := acc, closed := closed } } := by
  unfold State.loseHeld
  extract_lets c lost
  split
  · exact ⟨s.canal.acc, s.canal.closed, rfl⟩
  · split
    · next h =>
      obtain ⟨d, hd⟩ := Option.isSome_iff_exists.mp h
      rw [hd, Option.getD_some]
      exact ⟨_, _, congrArg (fun c => { s with canal := c }) (addOpen_marks _ _ _ _ _ hd)⟩
    · split
      · exact ⟨_, _, rfl⟩
      · exact lose_marks ..

theorem loseHeld_delivery (s : State) (src : Nat) (ov : Bool) (l : Loss) : Delivery s (s.loseHeld src ov l) := by
  obtain ⟨acc, closed, h⟩ := loseHeld_marks s src ov l
  rw [h]
  exact ⟨rfl, fun _ => rfl⟩

/-! ## A record into its basin (R212 to R216) -/

theorem intoTail_last {q : List Cell} {c : Cell} (r : Rec) (h : q.getLast? = some c) :
    (intoTail q r).getLast?.bind (fun c => c.recs.getLast?) = some r := by
  unfold intoTail
  rw [h]
  dsimp only
  rw [List.getLast?_concat, Option.bind_some, List.getLast?_concat]

theorem newCell_last (q : List Cell) (a : Nat × Nat) (order : Bool) (r : Rec) :
    (newCell q a order r).getLast?.bind (fun c => c.recs.getLast?) = some r := by
  unfold newCell
  rw [List.getLast?_concat]
  rfl

/-- A record admitted is the last of its owner's queue, in the tail cell or in a new one. -/
theorem admitTo_last {s : State} {r : Rec} {e : Cell × List Cell} (h : s.admitTo r = some e) :
    e.2.getLast?.bind (fun c => c.recs.getLast?) = some r := by
  have tail : ∀ {e}, (s.charterQ r.owner).getLast?.map (fun c => (c, intoTail (s.charterQ r.owner) r)) = some e →
      e.2.getLast?.bind (fun c => c.recs.getLast?) = some r := by
    intro e he
    obtain ⟨c, hc, rfl⟩ := Option.map_eq_some_iff.mp he
    exact intoTail_last r hc
  have fresh : ∀ {e us order}, (s.freeCell us).map (fun a => ((⟨a.1, a.2, [], 0, order⟩ : Cell), newCell (s.charterQ r.owner) a order r)) = some e →
      e.2.getLast?.bind (fun c => c.recs.getLast?) = some r := by
    intro e us order he
    obtain ⟨a, -, rfl⟩ := Option.map_eq_some_iff.mp he
    exact newCell_last ..
  unfold State.admitTo at h
  extract_lets q fits order after base room norm at h
  have hnorm : norm = some e → e.2.getLast?.bind (fun c => c.recs.getLast?) = some r := by
    intro hn
    unfold norm at hn
    split at hn
    · split at hn
      · exact tail hn
      · exact fresh hn
    · cases hn
  split at h
  · exact hnorm h
  · split at h
    · exact tail h
    · exact fresh h

/-- The record is of a source whose records enter the charter queues (R213). -/
def Rec.ordinary (r : Rec) : Prop := r.src.toNat ≠ 136 ∧ r.src.toNat ≠ 137

section
variable {s : State} {r : Rec}

theorem letIn_ordinary (h : r.ordinary) : ¬ (decide (r.src.toNat = 136) || decide (r.src.toNat = 137)) = true := by
  obtain ⟨h1, h2⟩ := h
  rw [decide_eq_false h1, decide_eq_false h2]
  exact Bool.false_ne_true

/-- A held stream takes class 0 only (R216). -/
theorem letIn_held (hsrc : r.ordinary) (hheld : (s.stream r.src.toNat r.owner).held = true) (hc : r.cls ≠ 0) :
    s.letIn r = s.loseHeld r.src.toNat (s.stream r.src.toNat r.owner).heldOv r.loss :=
  (if_neg (letIn_ordinary hsrc)).trans (if_pos (by rw [hheld, decide_eq_true hc]; rfl))

theorem letIn_open (hopen : (s.stream r.src.toNat r.owner).held = false ∨ r.cls = 0) :
    ¬ ((s.stream r.src.toNat r.owner).held && decide (r.cls ≠ 0)) = true := by
  rw [Bool.and_eq_true, decide_eq_true_eq]
  rintro ⟨hheld, hc⟩
  rcases hopen with h | h
  · rw [h] at hheld
    cases hheld
  · exact hc h

theorem letIn_admitted (hsrc : r.ordinary) (hopen : (s.stream r.src.toNat r.owner).held = false ∨ r.cls = 0) {e : Cell × List Cell}
    (ha : s.admitTo r = some e) : s.letIn r = ((s.writeCell e.1 r).setCharterQ r.owner e.2).basinIn e.1.no r := by
  refine (if_neg (letIn_ordinary hsrc)).trans ((if_neg (letIn_open hopen)).trans ?_)
  rw [ha]

/-- A record that is not admitted is lost, and one of class 1 holds its stream (R177, R216). -/
theorem letIn_lost (hsrc : r.ordinary) (hopen : (s.stream r.src.toNat r.owner).held = false ∨ r.cls = 0) (ha : s.admitTo r = none) :
    s.letIn r = if r.cls = 1 then (s.lose 0 r.src.toNat r.loss).setStream r.src.toNat r.owner { s.stream r.src.toNat r.owner with
      held := true, heldOv := (s.lose 0 r.src.toNat r.loss).inOverflow 0 r.src.toNat r.owner } else s.lose 0 r.src.toNat r.loss := by
  refine (if_neg (letIn_ordinary hsrc)).trans ((if_neg (letIn_open hopen)).trans ?_)
  rw [ha]

end

/-- A record of the sources 136 and 137 goes to its owner's priority queue, and the BASIN inputs see it (R213, R284). -/
theorem letIn_prio {s : State} {r : Rec} (h : ¬ r.ordinary) : Carried (s.putPrio r) (s.letIn r) := by
  have hsrc : (decide (r.src.toNat = 136) || decide (r.src.toNat = 137)) = true := by
    rw [Bool.or_eq_true, decide_eq_true_eq, decide_eq_true_eq]
    unfold Rec.ordinary at h
    omega
  unfold State.letIn
  dsimp only
  rw [if_pos hsrc]
  split
  · exact basinIn_carried ..
  · exact .rfl

/-! ## What a delivery can change -/

theorem putPrio_delivery (s : State) (r : Rec) : Delivery s (s.putPrio r) := by
  unfold State.putPrio
  dsimp only
  split
  · split
    · exact (writeCell_carried ..).delivery.trans (setPrioQ_delivery ..)
    · exact .rfl
  · split
    · exact (writeCell_carried ..).delivery.trans (setPrioQ_delivery ..)
    · exact .rfl

theorem letIn_delivery (s : State) (r : Rec) : Delivery s (s.letIn r) := by
  by_cases hsrc : r.ordinary
  · by_cases hheld : (s.stream r.src.toNat r.owner).held = true ∧ r.cls ≠ 0
    · rw [letIn_held hsrc hheld.1 hheld.2]
      exact loseHeld_delivery ..
    · have hopen : (s.stream r.src.toNat r.owner).held = false ∨ r.cls = 0 :=
        (not_and_or.mp hheld).imp Bool.eq_false_of_not_eq_true Decidable.of_not_not
      cases ha : s.admitTo r with
      | some e =>
        rw [letIn_admitted hsrc hopen ha]
        exact ((writeCell_carried ..).delivery.trans (setCharterQ_delivery ..)).trans (basinIn_carried ..).delivery
      | none =>
        rw [letIn_lost hsrc hopen ha]
        exact .ite ((lose_delivery ..).trans (setStream_delivery ..)) (lose_delivery ..)
  · exact (putPrio_delivery s r).trans (letIn_prio hsrc).delivery

/-- A stream's record as the canal has seen it (R190, R220). -/
def Stream.delivered (x : Stream) (r : Rec) (ts : Nat) : Stream :=
  { x with seen := true, lastDeliv := ts, lastTs := r.ts, explained := (r.ty = 1 && r.payload.getLsbD 8) || r.ty = 9 || !x.active }

/-- The state in which a delivered record enters its basin. -/
def State.arrived (s : State) (r : Rec) : State :=
  ((s.setStream r.src.toNat r.owner ((s.stream r.src.toNat r.owner).delivered r s.ts)).streamIn r).ledgerTake r

theorem arrived_carried (s : State) (r : Rec) :
    Carried (s.setStream r.src.toNat r.owner ((s.stream r.src.toNat r.owner).delivered r s.ts)) (s.arrived r) :=
  (streamIn_carried ..).trans (ledgerTake_carried ..)

theorem arrived_delivery (s : State) (r : Rec) : Delivery s (s.arrived r) := (setStream_delivery ..).trans (arrived_carried s r).delivery

theorem deliver_active {s : State} {r : Rec} (h : s.active r.owner = true) : s.deliver r = (s.arrived r).letIn r := if_pos h

theorem deliver_delivery (s : State) (r : Rec) : Delivery s (s.deliver r) :=
  .ite ((arrived_delivery s r).trans (letIn_delivery ..)) (setStream_delivery ..)

theorem takeToken_delivery (s : State) (src : Nat) : Delivery s (s.takeToken src) :=
  (Delivery.foldl (fun t l => (lose_delivery t 1 src l).trans (setStream_delivery ..)) _ s).trans ⟨rfl, fun _ => rfl⟩

section
variable {s : State} {r : Rec}

theorem setStream_stream_same (t : State) (src o : Nat) (x : Stream) : (t.setStream src o x).stream src o = x := tget_tset_same ..

theorem arrived_stream (s : State) (r : Rec) : (s.arrived r).stream r.src.toNat r.owner = (s.stream r.src.toNat r.owner).delivered r s.ts :=
  ((arrived_carried s r).proj (State.stream · r.src.toNat r.owner) fun _ _ _ _ _ _ => rfl).trans (setStream_stream_same ..)

theorem arrived_basins (s : State) (r : Rec) : (s.arrived r).basins = s.basins := (arrived_carried s r).proj State.basins fun _ _ _ _ _ _ => rfl

theorem arrived_canal (s : State) (r : Rec) : (s.arrived r).canal.acc = s.canal.acc :=
  (arrived_carried s r).proj (fun t => t.canal.acc) fun _ _ _ _ _ _ => rfl

theorem arrived_admitTo (s : State) (r q : Rec) : (s.arrived r).admitTo q = s.admitTo q :=
  admitTo_congr (arrived_basins s r) (arrived_delivery s r).2 q

/-- What the canal has seen of a stream whose record it delivers. -/
theorem letIn_seen (s : State) {r : Rec} (hsrc : r.ordinary) : ∃ held ov, (s.letIn r).stream r.src.toNat r.owner =
    { s.stream r.src.toNat r.owner with held := held, heldOv := ov } := by
  by_cases hheld : (s.stream r.src.toNat r.owner).held = true ∧ r.cls ≠ 0
  · obtain ⟨acc, closed, h⟩ := loseHeld_marks s r.src.toNat (s.stream r.src.toNat r.owner).heldOv r.loss
    rw [letIn_held hsrc hheld.1 hheld.2, h]
    exact ⟨_, _, rfl⟩
  · have hopen : (s.stream r.src.toNat r.owner).held = false ∨ r.cls = 0 :=
      (not_and_or.mp hheld).imp Bool.eq_false_of_not_eq_true Decidable.of_not_not
    cases ha : s.admitTo r with
    | some e =>
      rw [letIn_admitted hsrc hopen ha]
      exact ⟨_, _, (basinIn_carried ..).proj (State.stream · r.src.toNat r.owner) (fun _ _ _ _ _ _ => rfl) |>.trans
        ((writeCell_carried ..).proj (State.stream · r.src.toNat r.owner) fun _ _ _ _ _ _ => rfl)⟩
    | none =>
      rw [letIn_lost hsrc hopen ha]
      obtain ⟨acc, closed, h⟩ := lose_marks s 0 r.src.toNat r.loss
      split
      · exact ⟨_, _, setStream_stream_same ..⟩
      · rw [h]
        exact ⟨_, _, rfl⟩

end

/-! ## Heads of the sources (R205) -/

/-- The records that a source presents to the spine: a probe's at its pound, a block source's in its queue. -/
def State.presents (s : State) (src : Nat) : List Rec := if src < 128 then s.poundQ src else s.queue src

theorem srcHead_nothing {s : State} {src : Nat} (h : s.presents src = []) : s.srcHead src = none := by
  unfold State.presents at h
  unfold State.srcHead
  split at h
  · next hsrc => rw [if_pos hsrc, h]; rfl
  · next hsrc => rw [if_neg hsrc, h]; rfl

section
variable {s t : State} (hb : t.basins = s.basins) (hup : ∀ b, t.bankUp b = s.bankUp b) (hc : t.chart = s.chart)
include hb hup hc

theorem roomFor_congr : t.roomFor = s.roomFor := by
  have hact : ∀ o, t.active o = s.active o := fun o => by
    unfold State.active State.chState
    rw [hc]
  funext r
  unfold State.roomFor
  rw [hact, prioRoom_congr hb hup, admitTo_congr hb hup]

theorem srcHead_congr {src : Nat} (hp : t.poundQ src = s.poundQ src) (hq : t.queue src = s.queue src) : t.srcHead src = s.srcHead src := by
  unfold State.srcHead
  rw [roomFor_congr hb hup hc, hp, hq]

end

/-- The lone record of a source leaves it. -/
theorem takeHead_lone {s : State} {src : Nat} {r : Rec} (h : s.presents src = [r]) : (s.takeHead src 0).presents src = [] := by
  unfold State.presents at h ⊢
  unfold State.takeHead
  split at h
  · next hsrc =>
    rw [if_pos hsrc, if_pos hsrc, State.setPoundQ_poundQ_same, h]
    rfl
  · next hsrc =>
    rw [if_neg hsrc, if_neg hsrc, State.setQueue_queue_same, h]
    rfl

theorem presents_of_delivery {s t : State} (h : Delivery s t) (src : Nat) : t.presents src = s.presents src :=
  h.proj (State.presents · src) fun _ _ _ _ _ _ _ _ _ _ _ => rfl

/-- What a take of a head leaves alone: all but the source's own queues. -/
theorem takeHead_proj {α : Type} (π : State → α) (h : ∀ (s : State) q pound, π { s with canal := { s.canal with q := q, pound := pound } } = π s)
    (s : State) (src i : Nat) : π (s.takeHead src i) = π s := proj_of_ite π (h s _ _) (h s _ _)

/-! ## A beat (R205) -/

theorem sendBeat_nothing {s : State} {src : Nat} (n words : Nat) (h : s.srcHead src = none) : s.sendBeat src n words = s := by
  cases n with
  | zero => rfl
  | succ n =>
    unfold State.sendBeat
    rw [h]

/-- A lone record of up to eight words is the whole beat. -/
theorem sendBeat_lone {s : State} {src : Nat} {r : Rec} (hq : s.presents src = [r]) (hh : s.srcHead src = some (0, r)) (hlen : r.len ≤ 8) :
    s.sendBeat src 8 0 = (s.takeHead src 0).deliver r := by
  have hnone : ((s.takeHead src 0).deliver r).srcHead src = none :=
    srcHead_nothing ((presents_of_delivery (deliver_delivery ..) src).trans (takeHead_lone hq))
  unfold State.sendBeat
  rw [hh]
  dsimp only
  rw [if_neg (by omega), sendBeat_nothing _ _ hnone]

/-- What deliveries and takes leave alone, a beat leaves alone. -/
theorem sendBeat_proj {α : Type} (π : State → α) (hd : ∀ s t, Delivery s t → π t = π s)
    (h : ∀ (s : State) q pound, π { s with canal := { s.canal with q := q, pound := pound } } = π s) (src n words : Nat) (s : State) :
    π (s.sendBeat src n words) = π s := by
  induction n generalizing s words with
  | zero => rfl
  | succ n ih =>
    unfold State.sendBeat
    split
    · rfl
    · exact proj_of_ite π rfl ((ih ..).trans ((hd _ _ (deliver_delivery ..)).trans (takeHead_proj π h ..)))

/-! ## Choices in turn (R206) -/

theorem nextAfter_mem {l : List Nat} {last k : Nat} (h : nextAfter l last = some k) : k ∈ l := by
  unfold nextAfter at h
  split at h
  · next hf =>
    cases h
    exact List.mem_of_find?_eq_some hf
  · exact List.mem_of_head? h

theorem nextAfter_isSome {l : List Nat} {k : Nat} (last : Nat) (h : k ∈ l) : (nextAfter l last).isSome = true := by
  unfold nextAfter
  split
  · rfl
  · exact List.isSome_head?.mpr (List.ne_nil_of_mem h)

theorem wrrPick_mem {l : List Nat} {n last credit : Nat} {w : Nat → Nat} {e : Nat × Nat} (h : wrrPick l n last credit w = some e) : e.1 ∈ l := by
  unfold wrrPick at h
  split at h
  · next hc =>
    cases h
    simp only [Bool.and_eq_true, List.contains_iff_mem] at hc
    exact hc.1.2
  · obtain ⟨k, hk, rfl⟩ := Option.map_eq_some_iff.mp h
    exact List.contains_iff_mem.mp (List.find?_some hk)

theorem wrrPick_isSome {l : List Nat} {n k : Nat} (last credit : Nat) (w : Nat → Nat) (h : k ∈ l) (hk : k < n) :
    (wrrPick l n last credit w).isSome = true := by
  unfold wrrPick
  split
  · rfl
  · rw [Option.isSome_map, List.find?_isSome]
    have hn : 0 < n := Nat.zero_lt_of_lt hk
    refine ⟨k, List.mem_map.mpr ⟨(k + (n - last % n)) % n, List.mem_range.mpr (Nat.mod_lt _ hn), ?_⟩, List.contains_iff_mem.mpr h⟩
    have hlast : last % n < n := Nat.mod_lt _ hn
    calc (last + (k + (n - last % n)) % n) % n = (last % n + (k + (n - last % n))) % n := by rw [Nat.add_mod_mod, Nat.mod_add_mod]
      _ = (k + n) % n := congrArg (· % n) (by omega)
      _ = k := by rw [Nat.add_mod_right, Nat.mod_eq_of_lt hk]

/-! ## The class of a requester, and the grant (R206) -/

/-- One source's part in the class of its requester. -/
def State.headClass (s : State) (a : Option Nat) (src : Nat) : Option Nat :=
  match s.srcHead src, a with
  | some h, some c => some (min c h.2.cls)
  | some h, none => some h.2.cls
  | none, a => a

theorem reqClass_eq (s : State) (k : Nat) : s.reqClass k = (sourcesOf k).foldl s.headClass none := by
  unfold State.reqClass
  congr

theorem headClass_none {s : State} {src : Nat} (a : Option Nat) (h : s.srcHead src = none) : s.headClass a src = a := by
  unfold State.headClass
  rw [h]

theorem headClass_head {s : State} {src : Nat} {e : Nat × Rec} (a : Option Nat) (h : s.srcHead src = some e) :
    s.headClass a src = some (a.elim e.2.cls fun c => min c e.2.cls) := by
  unfold State.headClass
  rw [h]
  cases a <;> rfl

/-- The class found is at most the one before and that of every head, and is one of them. -/
theorem headClass_least (s : State) (l : List Nat) (a : Option Nat) :
    (∀ c, a = some c → ∃ m, l.foldl s.headClass a = some m ∧ m ≤ c) ∧
    (∀ src ∈ l, ∀ e, s.srcHead src = some e → ∃ m, l.foldl s.headClass a = some m ∧ m ≤ e.2.cls) ∧
    ∀ m, l.foldl s.headClass a = some m → a = some m ∨ ∃ src ∈ l, ∃ e, s.srcHead src = some e ∧ e.2.cls = m := by
  induction l generalizing a with
  | nil => exact ⟨fun c h => ⟨c, h, Nat.le_refl c⟩, fun src h => absurd h List.not_mem_nil, fun m h => .inl h⟩
  | cons src l ih =>
    obtain ⟨hbefore, hheads, hone⟩ := ih (s.headClass a src)
    rw [List.foldl_cons]
    cases hsrc : s.srcHead src with
    | none =>
      rw [headClass_none a hsrc] at hbefore hheads hone ⊢
      refine ⟨hbefore, fun q hq e he => ?_, fun m hm => (hone m hm).imp_right fun ⟨q, hq, h⟩ => ⟨q, List.mem_cons_of_mem _ hq, h⟩⟩
      rcases List.mem_cons.mp hq with rfl | hq
      · rw [hsrc] at he
        cases he
      · exact hheads q hq e he
    | some e =>
      rw [headClass_head a hsrc] at hbefore hheads hone ⊢
      obtain ⟨m, hm, hle⟩ := hbefore _ rfl
      refine ⟨fun c hc => ⟨m, hm, hle.trans ?_⟩, fun q hq f hf => ?_, fun n hn => ?_⟩
      · rw [hc]
        exact Nat.min_le_left ..
      · rcases List.mem_cons.mp hq with rfl | hq
        · rw [hsrc] at hf
          cases hf
          refine ⟨m, hm, hle.trans ?_⟩
          cases a with
          | none => exact Nat.le_refl _
          | some c => exact Nat.min_le_right ..
        · exact hheads q hq f hf
      · rcases hone n hn with h | ⟨q, hq, h⟩
        · cases a with
          | none => exact .inr ⟨src, List.mem_cons_self, e, hsrc, Option.some.inj h⟩
          | some c =>
            rcases Nat.le_total c e.2.cls with hce | hce
            · exact .inl (by rw [← h]; exact congrArg some (Nat.min_eq_left hce).symm)
            · exact .inr ⟨src, List.mem_cons_self, e, hsrc, by rw [← Option.some.inj h]; exact (Nat.min_eq_right hce).symm⟩
        · exact .inr ⟨q, List.mem_cons_of_mem _ hq, h⟩

theorem reqClass_le {s : State} {k src : Nat} {e : Nat × Rec} (hsrc : src ∈ sourcesOf k) (h : s.srcHead src = some e) :
    ∃ m, s.reqClass k = some m ∧ m ≤ e.2.cls := by
  rw [reqClass_eq]
  exact (headClass_least s (sourcesOf k) none).2.1 src hsrc e h

theorem reqClass_attained {s : State} {k m : Nat} (h : s.reqClass k = some m) : ∃ src ∈ sourcesOf k, ∃ e, s.srcHead src = some e ∧ e.2.cls = m := by
  rw [reqClass_eq] at h
  exact ((headClass_least s (sourcesOf k) none).2.2 m h).resolve_left fun h => nomatch h

theorem pickSource_mem {s : State} {k m src : Nat} (h : s.pickSource k m = some src) :
    src ∈ sourcesOf k ∧ ∃ e, s.srcHead src = some e ∧ e.2.cls = m := by
  obtain ⟨hmem, hcls⟩ := List.mem_filter.mp (nextAfter_mem h)
  refine ⟨hmem, ?_⟩
  split at hcls
  · next e he => exact ⟨e, he, of_decide_eq_true hcls⟩
  · cases hcls

theorem pickSource_isSome {s : State} {k m : Nat} (h : s.reqClass k = some m) : (s.pickSource k m).isSome = true := by
  obtain ⟨src, hsrc, e, he, hcls⟩ := reqClass_attained h
  refine nextAfter_isSome (k := src) _ (List.mem_filter.mpr ⟨hsrc, ?_⟩)
  rw [he]
  exact decide_eq_true hcls

/-- The requesters of a channel that have a head record, with its class. -/
def State.asking (s : State) (ch : Nat) : List (Nat × Nat) := (requesters ch).filterMap (fun k => (s.reqClass k).map (fun c => (k, c)))

theorem mem_asking {s : State} {ch : Nat} {e : Nat × Nat} : e ∈ s.asking ch ↔ e.1 ∈ requesters ch ∧ s.reqClass e.1 = some e.2 := by
  unfold State.asking
  rw [List.mem_filterMap]
  constructor
  · rintro ⟨k, hk, he⟩
    obtain ⟨c, hc, rfl⟩ := Option.map_eq_some_iff.mp he
    exact ⟨hk, hc⟩
  · rintro ⟨hk, hc⟩
    exact ⟨e.1, hk, by rw [hc]; rfl⟩

/-- The lowest class that asks, 4 with none. -/
theorem foldl_min_least (l : List (Nat × Nat)) (n : Nat) : let m := l.foldl (fun a e => min a e.2) n
    m ≤ n ∧ (∀ e ∈ l, m ≤ e.2) ∧ (m = n ∨ ∃ e ∈ l, e.2 = m) := by
  induction l generalizing n with
  | nil => exact ⟨Nat.le_refl n, fun e h => absurd h List.not_mem_nil, .inl rfl⟩
  | cons a l ih =>
    obtain ⟨hle, hall, hone⟩ := ih (min n a.2)
    refine ⟨hle.trans (Nat.min_le_left ..), fun e he => ?_, ?_⟩
    · rcases List.mem_cons.mp he with rfl | he
      · exact hle.trans (Nat.min_le_right ..)
      · exact hall e he
    · rcases hone with h | ⟨e, he, h⟩
      · rcases Nat.le_total n a.2 with hna | hna
        · exact .inl (h.trans (Nat.min_eq_left hna))
        · exact .inr ⟨a, List.mem_cons_self, (h.trans (Nat.min_eq_right hna)).symm⟩
      · exact .inr ⟨e, List.mem_cons_of_mem _ he, h⟩

theorem pickReq_eq (s : State) (ch : Nat) : s.pickReq ch =
    let m := (s.asking ch).foldl (fun a e => min a e.2) 4
    let cands := ((s.asking ch).filter (fun e => decide (e.2 = m))).map Prod.fst
    if m < 2 then (nextAfter cands (s.rr (10 + ch))).map (fun k => (k, m, 0))
    else (wrrPick cands 10 (s.rr (10 + ch)) (s.credit (10 + ch)) (fun k => tget s.canal.weights k 1)).map (fun e => (e.1, m, e.2)) := rfl

/-- A channel grants a requester of the lowest class of the channel. -/
theorem pickReq_lowest {s : State} {ch k m cr : Nat} (h : s.pickReq ch = some (k, m, cr)) :
    k ∈ requesters ch ∧ s.reqClass k = some m ∧ ∀ k' ∈ requesters ch, ∀ c, s.reqClass k' = some c → m ≤ c := by
  rw [pickReq_eq] at h
  dsimp only at h
  obtain ⟨-, hall, -⟩ := foldl_min_least (s.asking ch) 4
  have cand : ∀ {q}, q ∈ ((s.asking ch).filter (fun e => decide (e.2 = (s.asking ch).foldl (fun a e => min a e.2) 4))).map Prod.fst →
      q ∈ requesters ch ∧ s.reqClass q = some ((s.asking ch).foldl (fun a e => min a e.2) 4) := by
    intro q hq
    obtain ⟨e, he, rfl⟩ := List.mem_map.mp hq
    obtain ⟨he, hm⟩ := List.mem_filter.mp he
    rw [← of_decide_eq_true hm]
    exact mem_asking.mp he
  have least : ∀ k' ∈ requesters ch, ∀ c, s.reqClass k' = some c → (s.asking ch).foldl (fun a e => min a e.2) 4 ≤ c :=
    fun k' hk c hc => hall (k', c) (mem_asking.mpr ⟨hk, hc⟩)
  split at h
  · obtain ⟨q, hq, he⟩ := Option.map_eq_some_iff.mp h
    cases he
    exact ⟨(cand (nextAfter_mem hq)).1, (cand (nextAfter_mem hq)).2, least⟩
  · obtain ⟨q, hq, he⟩ := Option.map_eq_some_iff.mp h
    cases he
    exact ⟨(cand (wrrPick_mem hq)).1, (cand (wrrPick_mem hq)).2, least⟩

theorem pickReq_none {s : State} {ch : Nat} (h : ∀ k ∈ requesters ch, s.reqClass k = none) : s.pickReq ch = none := by
  cases hp : s.pickReq ch with
  | none => rfl
  | some e =>
    obtain ⟨hk, hc, -⟩ := pickReq_lowest hp
    rw [h _ hk] at hc
    cases hc

theorem requesters_lt {ch k : Nat} (hch : ch ≤ 1) (h : k ∈ requesters ch) : k < 10 := by
  unfold requesters at h
  rcases List.mem_append.mp h with h | h
  · have := List.mem_range.mp (List.mem_filter.mp h).1
    omega
  · have := List.mem_singleton.mp h
    omega

/-- A head record of a class of 0 to 3 gets its channel a grant. -/
theorem pickReq_isSome {s : State} {ch k c : Nat} (hch : ch ≤ 1) (hk : k ∈ requesters ch) (hc : s.reqClass k = some c) (hle : c ≤ 3) :
    (s.pickReq ch).isSome = true := by
  obtain ⟨-, hall, hone⟩ := foldl_min_least (s.asking ch) 4
  have hm := (hall (k, c) (mem_asking.mpr ⟨hk, hc⟩)).trans hle
  obtain ⟨e, he, hme⟩ := hone.resolve_left (by omega)
  have hcand : e.1 ∈ ((s.asking ch).filter (fun e => decide (e.2 = (s.asking ch).foldl (fun a e => min a e.2) 4))).map Prod.fst :=
    List.mem_map_of_mem (List.mem_filter.mpr ⟨he, decide_eq_true hme⟩)
  rw [pickReq_eq]
  dsimp only
  split
  · rw [Option.isSome_map]
    exact nextAfter_isSome _ hcand
  · rw [Option.isSome_map]
    exact wrrPick_isSome _ _ _ hcand (requesters_lt hch (mem_asking.mp he).1)

/-! ## BASIN_ADMIT (R205 to R207, R214) -/

theorem sendFault_data (s : State) (r : Rec) : DataOnly s (s.sendFault r) := (emit_data ..).trans .parts

theorem payFaults_data (s : State) : DataOnly s s.payFaults := by
  unfold State.payFaults
  split
  · exact .rfl
  · exact .ite (.trans .parts (sendFault_data ..)) .rfl

theorem payTrigger_data (s : State) : DataOnly s s.payTrigger := by
  unfold State.payTrigger
  split
  · exact .rfl
  · exact .ite (emitTrigger_data ..) .rfl

theorem lose_canal (s : State) (cause src : Nat) (l : Loss) : CanalOnly s (s.lose cause src l) := by
  obtain ⟨acc, closed, h⟩ := lose_marks s cause src l
  rw [h]
  exact Eq.refl _

theorem setPoundQ_canal (s : State) (p : Nat) (q : List Rec) : CanalOnly s (s.setPoundQ p q) := Eq.refl _
theorem setLosses_canal (s : State) (losses : Tab (List Loss)) : CanalOnly s { s with canal := { s.canal with losses := losses } } := Eq.refl _

theorem takeToken_canal (s : State) (src : Nat) : CanalOnly s (s.takeToken src) :=
  (CanalOnly.foldl _ (fun t l => (lose_canal t 1 src l).trans (setStream_canal ..)) _ s).trans (setLosses_canal ..)

theorem linkFill_canal (s : State) (p n : Nat) : CanalOnly s (s.linkFill p n) := by
  induction n generalizing s with
  | zero => exact .rfl
  | succ n ih =>
    unfold State.linkFill
    split
    · exact .rfl
    · exact .ite _ .rfl (((takeToken_canal s p).trans ((setQueue_canal ..).trans (setPoundQ_canal ..))).trans (ih _))

theorem linkAll_canal (s : State) (ch : Nat) : CanalOnly s (s.linkAll ch) := .foldl _ (fun s p => linkFill_canal s p 64) _ s

/-- The state in which a channel grants: the records that generators hold and the beats of the links come first. -/
def State.beforeGrant (s : State) (c : Nat) : State := (s.payFaults.payTrigger).linkAll c

theorem beforeGrant_data (s : State) (c : Nat) : DataOnly s (s.beforeGrant c) :=
  ((payFaults_data s).trans (payTrigger_data _)).trans (linkAll_canal ..).data

theorem linkFill_empty {s : State} {p : Nat} (n : Nat) (h : s.queue p = []) : s.linkFill p n = s := by
  cases n with
  | zero => rfl
  | succ n =>
    unfold State.linkFill
    rw [h]
    rfl

theorem linkAll_empty {s : State} (ch : Nat) (h : ∀ p < 128, s.queue p = []) : s.linkAll ch = s := by
  refine foldl_still fun p hp => linkFill_empty 64 (h p ?_)
  obtain ⟨-, hp⟩ := List.mem_filter.mp hp
  rw [Bool.and_eq_true, decide_eq_true_eq] at hp
  exact hp.1

/-- Nothing leaves a generator or a link that holds nothing. -/
theorem beforeGrant_nothing {s : State} (c : Nat) (hf : s.fc.owed = []) (ht : s.ledger.owed = none) (hq : ∀ p < 128, s.queue p = []) :
    s.beforeGrant c = s := by
  have hfaults : s.payFaults = s := by
    unfold State.payFaults
    rw [hf]
  have htrigger : s.payTrigger = s := by
    unfold State.payTrigger
    rw [ht]
  unfold State.beforeGrant
  rw [hfaults, htrigger, linkAll_empty c hq]

/-- A channel's turn, credit and requester's turn after a grant. -/
def State.granted (u : State) (c k cr src : Nat) : State := ((u.setRr (10 + c) (k + 1)).setCredit (10 + c) cr).setRr k (src + 1)

/-- The state in which the granted source sends: a block source's loss token comes ahead of its records (R219). -/
def State.sending (u : State) (c k cr src : Nat) : State :=
  if src < 128 then u.granted c k cr src else (u.granted c k cr src).takeToken src

section
variable {s : State} {ch : Bool} (hclk : s.lk.st = .underway)
include hclk

theorem fastClocks_underway : s.fastClocks = true := decide_eq_true hclk

theorem basinAdmit_no_request (h : (s.beforeGrant (b2n ch)).pickReq (b2n ch) = none) :
    exec (.basinAdmit ch) s = .next (s.beforeGrant (b2n ch)) := by
  unfold State.beforeGrant at h ⊢
  unfold exec execBasinAdmit
  dsimp only
  rw [fastClocks_underway hclk, h]
  exact if_neg Bool.false_ne_true

theorem basinAdmit_grants {k m cr src : Nat} (hreq : (s.beforeGrant (b2n ch)).pickReq (b2n ch) = some (k, m, cr))
    (hsrc : (s.beforeGrant (b2n ch)).pickSource k m = some src) :
    exec (.basinAdmit ch) s = .next (((s.beforeGrant (b2n ch)).sending (b2n ch) k cr src).sendBeat src 8 0) := by
  unfold State.sending State.granted
  unfold State.beforeGrant at hreq hsrc ⊢
  unfold exec execBasinAdmit
  dsimp only
  rw [fastClocks_underway hclk, hreq]
  dsimp only
  rw [hsrc]
  exact if_neg Bool.false_ne_true

end

/-- A turn that deliveries leave alone. -/
theorem rr_of_delivery {s t : State} (h : Delivery s t) (k : Nat) : t.rr k = s.rr k :=
  h.proj (State.rr · k) fun _ _ _ _ _ _ _ _ _ _ _ => rfl

theorem sending_rr (u : State) (c k cr src j : Nat) : (u.sending c k cr src).rr j = (u.granted c k cr src).rr j :=
  proj_of_ite (State.rr · j) rfl (rr_of_delivery (takeToken_delivery ..) j)

theorem granted_rr {c k : Nat} (u : State) (cr src : Nat) (h : k ≠ 10 + c) :
    (u.granted c k cr src).rr (10 + c) = k + 1 ∧ (u.granted c k cr src).rr k = src + 1 := by
  unfold State.granted
  exact ⟨(State.setRr_rr ..).trans ((if_neg (Ne.symm h)).trans (State.setRr_rr_same ..)), State.setRr_rr_same ..⟩

/-- A loss token of no losses only empties the list. -/
theorem takeToken_nothing {s : State} {src : Nat} (h : tget s.canal.losses src [] = []) :
    s.takeToken src = { s with canal := { s.canal with losses := tset s.canal.losses src [] [] } } := by
  unfold State.takeToken
  rw [h]
  rfl

/-- A source without losses sends from a state that differs in the turns and the list of losses. -/
theorem sending_eq {u : State} {c k cr src : Nat} (h : tget u.canal.losses src [] = []) : ∃ rr credit losses,
    u.sending c k cr src = { u with canal := { u.canal with rr := rr, credit := credit, losses := losses } } := by
  unfold State.sending
  split
  · exact ⟨_, _, _, rfl⟩
  · rw [takeToken_nothing (s := u.granted c k cr src) h]
    exact ⟨_, _, _, rfl⟩

/-! ## A record delivered -/

section
variable {s : State} {r : Rec} (hact : s.active r.owner = true) (hsrc : r.ordinary)
include hact hsrc

theorem deliver_stream : ∃ held ov, (s.deliver r).stream r.src.toNat r.owner =
    { (s.stream r.src.toNat r.owner).delivered r s.ts with held := held, heldOv := ov } := by
  obtain ⟨held, ov, h⟩ := letIn_seen (s.arrived r) hsrc
  rw [deliver_active hact, h, arrived_stream]
  exact ⟨held, ov, rfl⟩

theorem deliver_admitted (hopen : (s.stream r.src.toNat r.owner).held = false ∨ r.cls = 0) (ha : (s.admitTo r).isSome = true) :
    ((s.deliver r).charterQ r.owner).getLast?.bind (fun c => c.recs.getLast?) = some r ∧ (s.deliver r).canal.acc = s.canal.acc := by
  obtain ⟨e, he⟩ := Option.isSome_iff_exists.mp ha
  have hopen' : ((s.arrived r).stream r.src.toNat r.owner).held = false ∨ r.cls = 0 := by rw [arrived_stream]; exact hopen
  have he' : (s.arrived r).admitTo r = some e := (arrived_admitTo s r r).trans he
  rw [deliver_active hact, letIn_admitted hsrc hopen' he']
  constructor
  · have hq := (State.setCharterQ_charterQ_same (s := (s.arrived r).writeCell e.1 r) (o := r.owner) (q := e.2))
    exact (congrArg (fun q : List Cell => q.getLast?.bind fun c => c.recs.getLast?) hq).trans (admitTo_last he)
  · exact ((writeCell_carried ..).proj (fun t => t.canal.acc) fun _ _ _ _ _ _ => rfl).trans (arrived_canal s r)

theorem deliver_refused (hopen : (s.stream r.src.toNat r.owner).held = false ∨ r.cls = 0) (ha : s.admitTo r = none) :
    (s.deliver r).basins = s.basins ∧
      ((s.deliver r).stream r.src.toNat r.owner).held = ((s.stream r.src.toNat r.owner).held || decide (r.cls = 1)) := by
  have hopen' : ((s.arrived r).stream r.src.toNat r.owner).held = false ∨ r.cls = 0 := by rw [arrived_stream]; exact hopen
  obtain ⟨acc, closed, hlose⟩ := lose_marks (s.arrived r) 0 r.src.toNat r.loss
  rw [deliver_active hact, letIn_lost hsrc hopen' ((arrived_admitTo s r r).trans ha), hlose]
  split
  · next hc =>
    refine ⟨arrived_basins s r, ?_⟩
    rw [setStream_stream_same, decide_eq_true hc, Bool.or_true]
  · next hc =>
    refine ⟨arrived_basins s r, ?_⟩
    rw [decide_eq_false hc, Bool.or_false]
    exact (congrArg Stream.held (arrived_stream s r) :)

theorem deliver_to_held (hheld : (s.stream r.src.toNat r.owner).held = true) (hc : r.cls ≠ 0) :
    (s.deliver r).basins = s.basins ∧ ((s.deliver r).stream r.src.toNat r.owner).held = true := by
  have hheld' : ((s.arrived r).stream r.src.toNat r.owner).held = true := by rw [arrived_stream]; exact hheld
  obtain ⟨acc, closed, hlose⟩ := loseHeld_marks (s.arrived r) r.src.toNat ((s.arrived r).stream r.src.toNat r.owner).heldOv r.loss
  rw [deliver_active hact, letIn_held hsrc hheld' hc, hlose]
  exact ⟨arrived_basins s r, hheld'⟩

end

/-- The source of the only head record of a channel is the one that sends. -/
theorem pick_only_head {u : State} {c k src : Nat} {e : Nat × Rec} (hch : c ≤ 1) (hk : k ∈ requesters c) (hsrc : src ∈ sourcesOf k)
    (hh : u.srcHead src = some e) (hcls : e.2.cls ≤ 3)
    (halone : ∀ k' ∈ requesters c, ∀ src' ∈ sourcesOf k', src' ≠ src → u.srcHead src' = none) :
    ∃ k' m cr, u.pickReq c = some (k', m, cr) ∧ u.pickSource k' m = some src := by
  obtain ⟨n, hn, hle⟩ := reqClass_le hsrc hh
  obtain ⟨⟨k', m, cr⟩, hreq⟩ := Option.isSome_iff_exists.mp (pickReq_isSome hch hk hn (hle.trans hcls))
  obtain ⟨hk', hm, -⟩ := pickReq_lowest hreq
  obtain ⟨src', hpick⟩ := Option.isSome_iff_exists.mp (pickSource_isSome hm)
  obtain ⟨hsrc', e', he', -⟩ := pickSource_mem hpick
  refine ⟨k', m, cr, hreq, ?_⟩
  by_cases heq : src' = src
  · rw [hpick, heq]
  · rw [halone k' hk' src' hsrc' heq] at he'
    cases he'

theorem b2n_le_one (b : Bool) : b2n b ≤ 1 := by cases b <;> decide

/-- What the spine's deliveries leave alone of the chip's state, the charters and the clocks. -/
def State.steady (s : State) : Dev × Chart × TimeU := (s.dev, s.chart, s.time)

theorem active_of_steady {s t : State} (h : t.steady = s.steady) (o : Nat) : t.active o = s.active o := by
  have hc : t.chart = s.chart := congrArg (fun x : Dev × Chart × TimeU => x.2.1) h
  unfold State.active State.chState
  rw [hc]

theorem beforeGrant_steady (s : State) (c : Nat) : (s.beforeGrant c).steady = s.steady := by
  have h := beforeGrant_data s c
  unfold DataOnly at h
  rw [h]
  rfl

theorem sending_steady (u : State) (c k cr src : Nat) : (u.sending c k cr src).steady = u.steady :=
  proj_of_ite State.steady (a := u.granted c k cr src) rfl ((takeToken_canal ..).proj State.steady fun _ _ => rfl)

/-- The second state differs from the first in the sources' queues, the turns and the noted losses. -/
def Queued (u v : State) : Prop := v = { u with canal := { u.canal with
  q := v.canal.q, pound := v.canal.pound, rr := v.canal.rr, credit := v.canal.credit, losses := v.canal.losses } }

theorem Queued.proj {α : Type} {u v : State} (h : Queued u v) (π : State → α) (hπ : ∀ (s : State) q pound rr credit losses,
    π { s with canal := { s.canal with q := q, pound := pound, rr := rr, credit := credit, losses := losses } } = π s) : π v = π u := by
  unfold Queued at h
  rw [h, hπ]

theorem Queued.trans {u v w : State} (h : Queued u v) (k : Queued v w) : Queued u w := by
  unfold Queued at *
  rw [k, h]

theorem takeHead_queued (s : State) (src i : Nat) : Queued s (s.takeHead src i) := by
  unfold State.takeHead
  split
  · exact Eq.refl _
  · exact Eq.refl _

theorem sending_queued {u : State} {c k cr src : Nat} (h : tget u.canal.losses src [] = []) : Queued u (u.sending c k cr src) := by
  obtain ⟨rr, credit, losses, hv⟩ := sending_eq (c := c) (k := k) (cr := cr) h
  rw [hv]
  exact Eq.refl _

theorem sending_queues {u : State} {c k cr src : Nat} (h : tget u.canal.losses src [] = []) :
    (∀ p, (u.sending c k cr src).poundQ p = u.poundQ p) ∧ ∀ j, (u.sending c k cr src).queue j = u.queue j := by
  obtain ⟨rr, credit, losses, hv⟩ := sending_eq (c := c) (k := k) (cr := cr) h
  rw [hv]
  exact ⟨fun _ => rfl, fun _ => rfl⟩

theorem presents_congr {s t : State} (hp : ∀ p, t.poundQ p = s.poundQ p) (hq : ∀ j, t.queue j = s.queue j) {src : Nat} :
    t.presents src = s.presents src := by
  unfold State.presents
  rw [hp, hq]

section
variable {s : State} {ch : Bool} (hclk : s.lk.st = .underway)
include hclk

/-- With no head record at a channel, nothing leaves. -/
theorem basinAdmit_idle (h : ∀ k ∈ requesters (b2n ch), ∀ src ∈ sourcesOf k, (s.beforeGrant (b2n ch)).srcHead src = none) :
    exec (.basinAdmit ch) s = .next (s.beforeGrant (b2n ch)) := by
  refine basinAdmit_no_request hclk (pickReq_none fun k hk => ?_)
  cases hc : (s.beforeGrant (b2n ch)).reqClass k with
  | none => rfl
  | some c =>
    obtain ⟨src, hsrc, e, he, -⟩ := reqClass_attained hc
    rw [h k hk src hsrc] at he
    cases he

/-- A grant goes to a head record of the lowest class of the channel, and moves the turns (R206). -/
theorem basinAdmit_grant {k m cr src : Nat} (hreq : (s.beforeGrant (b2n ch)).pickReq (b2n ch) = some (k, m, cr))
    (hsrc : (s.beforeGrant (b2n ch)).pickSource k m = some src) :
    (∃ h, (s.beforeGrant (b2n ch)).srcHead src = some h ∧ h.2.cls = m) ∧
      (∀ k' ∈ requesters (b2n ch), ∀ src' ∈ sourcesOf k', ∀ h, (s.beforeGrant (b2n ch)).srcHead src' = some h → m ≤ h.2.cls) ∧
      ∃ t : State, exec (.basinAdmit ch) s = .next t ∧ t.rr (10 + b2n ch) = k + 1 ∧ t.rr k = src + 1 ∧ t.dev = s.dev ∧ t.chart = s.chart ∧
        t.time = s.time := by
  obtain ⟨hk, -, hlow⟩ := pickReq_lowest hreq
  have hne : k ≠ 10 + b2n ch := by
    have := requesters_lt (b2n_le_one ch) hk
    omega
  refine ⟨(pickSource_mem hsrc).2, fun k' hk' src' hsrc' h hh => ?_, _, basinAdmit_grants hclk hreq hsrc, ?_⟩
  · obtain ⟨c, hc, hle⟩ := reqClass_le hsrc' hh
    exact (hlow k' hk' c hc).trans hle
  · have hrr : ∀ j, (((s.beforeGrant (b2n ch)).sending (b2n ch) k cr src).sendBeat src 8 0).rr j = ((s.beforeGrant (b2n ch)).granted (b2n ch) k cr src).rr j :=
      fun j => (sendBeat_proj (State.rr · j) (fun _ _ h => rr_of_delivery h j) (fun _ _ _ => rfl) src 8 0 _).trans (sending_rr ..)
    have hbeat := sendBeat_proj State.steady (fun _ _ h => h.proj State.steady fun _ _ _ _ _ _ _ _ _ _ _ => rfl) (fun _ _ _ => rfl) src 8 0
      ((s.beforeGrant (b2n ch)).sending (b2n ch) k cr src)
    have hsteady := Prod.mk.inj (hbeat.trans (sending_steady ..) |>.trans (beforeGrant_steady s (b2n ch)))
    exact ⟨(hrr _).trans (granted_rr _ cr src hne).1, (hrr _).trans (granted_rr _ cr src hne).2, hsteady.1, Prod.mk.inj hsteady.2⟩

/-- A lone record is delivered, from a state that differs from the one before the grant in the queues of the sources. -/
theorem basinAdmit_lone {k src : Nat} {r : Rec} (hk : k ∈ requesters (b2n ch)) (hsrc : src ∈ sourcesOf k)
    (hq : (s.beforeGrant (b2n ch)).presents src = [r]) (hh : (s.beforeGrant (b2n ch)).srcHead src = some (0, r))
    (halone : ∀ k' ∈ requesters (b2n ch), ∀ src' ∈ sourcesOf k', src' ≠ src → (s.beforeGrant (b2n ch)).srcHead src' = none)
    (hlen : r.len ≤ 8) (hcls : r.cls ≤ 3) (hnone : tget (s.beforeGrant (b2n ch)).canal.losses src [] = []) :
    ∃ v, Queued (s.beforeGrant (b2n ch)) v ∧ v.presents src = [] ∧ exec (.basinAdmit ch) s = .next (v.deliver r) := by
  obtain ⟨k', m, cr, hreq, hpick⟩ := pick_only_head (b2n_le_one ch) hk hsrc hh hcls halone
  have hv : Queued (s.beforeGrant (b2n ch)) ((s.beforeGrant (b2n ch)).sending (b2n ch) k' cr src) := sending_queued hnone
  obtain ⟨hpound, hqueue⟩ := sending_queues (c := b2n ch) (k := k') (cr := cr) hnone
  have hq' := (presents_congr hpound hqueue).trans hq
  have hh' := (srcHead_congr (hv.proj State.basins fun _ _ _ _ _ _ => rfl) (fun b => hv.proj (State.bankUp · b) fun _ _ _ _ _ _ => rfl)
    (hv.proj State.chart fun _ _ _ _ _ _ => rfl) (hpound src) (hqueue src)).trans hh
  exact ⟨_, hv.trans (takeHead_queued ..), takeHead_lone hq', (basinAdmit_grants hclk hreq hpick).trans
    (congrArg Host.Outcome.next (sendBeat_lone hq' hh' hlen))⟩

/-- What the delivery of a lone record does to its stream, its queue and the basins (R207, R216). -/
theorem basinAdmit_delivers {k src : Nat} {r : Rec} (hk : k ∈ requesters (b2n ch)) (hsrc : src ∈ sourcesOf k)
    (hq : (s.beforeGrant (b2n ch)).presents src = [r]) (hh : (s.beforeGrant (b2n ch)).srcHead src = some (0, r))
    (halone : ∀ k' ∈ requesters (b2n ch), ∀ src' ∈ sourcesOf k', src' ≠ src → (s.beforeGrant (b2n ch)).srcHead src' = none)
    (hr : r.src.toNat = src) (hlen : r.len ≤ 8) (hcls : r.cls ≤ 3) (hnone : tget (s.beforeGrant (b2n ch)).canal.losses src [] = [])
    (hact : s.active r.owner = true) (hord : r.ordinary) :
    let u := s.beforeGrant (b2n ch)
    let held := (u.stream src r.owner).held
    ∃ t : State, exec (.basinAdmit ch) s = .next t ∧ t.presents src = [] ∧ (t.stream src r.owner).seen = true ∧
      (t.stream src r.owner).lastDeliv = s.ts ∧ (t.stream src r.owner).lastTs = r.ts ∧
      (held = false ∨ r.cls = 0 → (u.admitTo r).isSome = true →
        (t.charterQ r.owner).getLast?.bind (fun c => c.recs.getLast?) = some r ∧ t.canal.acc = u.canal.acc) ∧
      (held = false ∨ r.cls = 0 → u.admitTo r = none → t.basins = u.basins ∧ (t.stream src r.owner).held = (held || decide (r.cls = 1))) ∧
      (held = true → r.cls ≠ 0 → t.basins = u.basins ∧ (t.stream src r.owner).held = true) := by
  intro u held
  obtain ⟨v, hv, hempty, hexec⟩ := basinAdmit_lone hclk hk hsrc hq hh halone hlen hcls hnone
  have hsteady := (hv.proj State.steady fun _ _ _ _ _ _ => rfl).trans (beforeGrant_steady s (b2n ch))
  have hvts : v.ts = s.ts := congrArg (fun x : Dev × Chart × TimeU => x.2.2.cvt / qtUnit) hsteady
  have hvact : v.active r.owner = true := (active_of_steady hsteady r.owner).trans hact
  have hstream : v.stream src r.owner = u.stream src r.owner := hv.proj (State.stream · src r.owner) fun _ _ _ _ _ _ => rfl
  have hbasins : v.basins = u.basins := hv.proj State.basins fun _ _ _ _ _ _ => rfl
  have hacc : v.canal.acc = u.canal.acc := hv.proj (fun t => t.canal.acc) fun _ _ _ _ _ _ => rfl
  have hroom : v.admitTo r = u.admitTo r := admitTo_congr hbasins (fun b => hv.proj (State.bankUp · b) fun _ _ _ _ _ _ => rfl) r
  rw [hexec]
  subst hr
  obtain ⟨held', ov, hnow⟩ := deliver_stream hvact hord
  refine ⟨_, rfl, (presents_of_delivery (deliver_delivery ..) _).trans hempty, ?_, ?_, ?_, fun hopen ha => ?_, fun hopen ha => ?_, fun hheld hc => ?_⟩
  · rw [hnow]
    rfl
  · rw [hnow]
    exact hvts
  · rw [hnow]
    rfl
  · rw [← hacc]
    exact deliver_admitted hvact hord (by rw [hstream]; exact hopen) (by rw [hroom]; exact ha)
  · have h := deliver_refused hvact hord (by rw [hstream]; exact hopen) (by rw [hroom]; exact ha)
    rwa [hbasins, hstream] at h
  · have h := deliver_to_held hvact hord (by rw [hstream]; exact hheld) hc
    rwa [hbasins] at h

end

/-! ## Drops at a source (R184) -/

/-- The loss that a source notes for a dropped record (R219). -/
def Rec.drop (r : Rec) (now : Nat) : Loss := ⟨r.owner, r.cls, r.len, r.ts, r.epoch, r.part, now⟩

theorem noteLoss_losses (s : State) (src : Nat) (r : Rec) (j : Nat) : tget (s.noteLoss src r).canal.losses j [] =
    if j = src then tget s.canal.losses src [] ++ [r.drop s.now] else tget s.canal.losses j [] := by
  unfold State.noteLoss
  exact proj_of_ite (fun t : State => tget t.canal.losses j []) (tget_tset ..) (tget_tset ..)

theorem noteLoss_resync (s : State) (q : Nat) (r : Rec) (src o : Nat) :
    ((s.noteLoss q r).stream src o).resync = ((s.stream src o).resync || (decide (r.cls = 1) && decide (src * 32 + o = q * 32 + r.owner))) := by
  unfold State.noteLoss
  extract_lets l u
  split
  · next hc =>
    rw [setStream_stream, decide_eq_true hc, Bool.true_and]
    split
    · next hkey => rw [decide_eq_true hkey, Bool.or_true]
    · next hkey =>
      rw [decide_eq_false hkey, Bool.or_false]
      rfl
  · next hc =>
    rw [decide_eq_false hc, Bool.false_and, Bool.or_false]
    rfl

/-- What a list of drops at a source notes, and that their class 1 streams owe a resync (R208, R219). -/
theorem noteLosses (src : Nat) (rs : List Rec) (s : State) :
    tget (rs.foldl (fun s r => s.noteLoss src r) s).canal.losses src [] = tget s.canal.losses src [] ++ rs.map (Rec.drop · s.now) ∧
      (∀ j, j ≠ src → tget (rs.foldl (fun s r => s.noteLoss src r) s).canal.losses j [] = tget s.canal.losses j []) ∧
      (∀ k o, (s.stream k o).resync = true → ((rs.foldl (fun s r => s.noteLoss src r) s).stream k o).resync = true) ∧
      ∀ r ∈ rs, r.cls = 1 → ((rs.foldl (fun s r => s.noteLoss src r) s).stream src r.owner).resync = true := by
  induction rs generalizing s with
  | nil => exact ⟨(List.append_nil _).symm, fun _ _ => rfl, fun _ _ h => h, fun r h => absurd h List.not_mem_nil⟩
  | cons d rs ih =>
    obtain ⟨hown, hother, hkeep, howed⟩ := ih (s.noteLoss src d)
    have hnow : (s.noteLoss src d).now = s.now := (noteLoss_canal s src d).proj State.now fun _ _ => rfl
    rw [List.foldl_cons]
    refine ⟨?_, fun j hj => ?_, fun k o h => hkeep k o ?_, fun r hr hc => ?_⟩
    · rw [hown, noteLoss_losses, if_pos rfl, hnow, List.append_assoc]
      rfl
    · rw [hother j hj, noteLoss_losses, if_neg hj]
    · rw [noteLoss_resync, h, Bool.true_or]
    · rcases List.mem_cons.mp hr with rfl | hr
      · refine hkeep _ _ ?_
        rw [noteLoss_resync, decide_eq_true hc, decide_eq_true rfl, Bool.and_self, Bool.or_true]
      · exact howed r hr hc

/-- What noting losses leaves alone. -/
theorem noteLosses_proj {α : Type} (π : State → α)
    (h : ∀ (s : State) losses streams, π { s with canal := { s.canal with losses := losses, streams := streams } } = π s)
    (src : Nat) (rs : List Rec) (s : State) : π (rs.foldl (fun s r => s.noteLoss src r) s) = π s :=
  foldl_proj π _ (fun s _ => proj_of_ite π (h s _ _) (h s _ _)) rs s

/-- The record of class 1 to 3 that has waited 2^19 qt at its source (R184). -/
def State.stale (s : State) (r : Rec) : Bool := decide (r.cls ≠ 0 ∧ r.inAt + 131072 ≤ s.now)

theorem sourceRecordTimeout_drops (s : State) (src : BitVec 8) :
    ∃ (t : State) (ls : List Loss), exec (.sourceRecordTimeout src) s = .next t ∧
      t.queue src.toNat = (s.queue src.toNat).filter (fun r => !s.stale r) ∧
      (∀ j, j ≠ src.toNat → t.queue j = s.queue j ∧ tget t.canal.losses j [] = tget s.canal.losses j []) ∧
      tget t.canal.losses src.toNat [] = tget s.canal.losses src.toNat [] ++ ls ∧
      ls.map (fun l => (l.owner, l.cls, l.words, l.ts)) = ((s.queue src.toNat).filter s.stale).map (fun r => (r.owner, r.cls, r.len, r.ts)) ∧
      (∀ r ∈ s.queue src.toNat, s.stale r = true → r.cls = 1 → (t.stream src.toNat r.owner).resync = true) ∧ t.basins = s.basins ∧
      t.canal.acc = s.canal.acc := by
  have hstale : s.stale = fun r => decide (r.cls ≠ 0) && decide (r.inAt + 131072 ≤ s.now) := funext fun r => Bool.decide_and ..
  obtain ⟨hown, hother, -, howed⟩ := noteLosses src.toNat ((s.queue src.toNat).filter s.stale)
    (s.setQueue src.toNat ((s.queue src.toNat).filter (fun r => !s.stale r)))
  have hqueue : ∀ j, _ := fun j => noteLosses_proj (State.queue · j) (fun _ _ _ => rfl) src.toNat ((s.queue src.toNat).filter s.stale)
    (s.setQueue src.toNat ((s.queue src.toNat).filter (fun r => !s.stale r)))
  refine ⟨_, ((s.queue src.toNat).filter s.stale).map (Rec.drop · s.now), congrArg Host.Outcome.next (by rw [hstale]), ?_, fun j hj => ⟨?_, hother j hj⟩,
    hown, List.map_map, fun r hr hold hc => howed r (List.mem_filter.mpr ⟨hr, hold⟩) hc, ?_, ?_⟩
  · exact (hqueue _).trans (State.setQueue_queue_same ..)
  · exact (hqueue j).trans ((State.setQueue_queue ..).trans (if_neg hj))
  · exact noteLosses_proj State.basins (fun _ _ _ => rfl) ..
  · exact noteLosses_proj (fun t => t.canal.acc) (fun _ _ _ => rfl) ..

/-! ## Loss tokens (R217 to R219) -/

/-- A token of one loss of an ACTIVE owner counts it with cause SOURCE_BUFFER. -/
theorem takeToken_counts {s : State} {src : Nat} {l : Loss} (h : tget s.canal.losses src [] = [l]) (hact : s.active l.owner = true) :
    (s.takeToken src).canal.acc = (s.canal.addLoss 1 src s.now l).acc ∧ (s.takeToken src).canal.closed = (s.canal.addLoss 1 src s.now l).closed := by
  have hlose : s.lose 1 src l = { s with canal := s.canal.addLoss 1 src s.now l } := if_neg (by rw [hact]; exact Bool.false_ne_true)
  unfold State.takeToken
  rw [h]
  dsimp only [List.foldl_cons, List.foldl_nil]
  rw [hlose]
  exact ⟨rfl, rfl⟩

/-- Losses of an owner that is not ACTIVE are not reported (R431). -/
theorem takeToken_unreported {s : State} {src : Nat} {l : Loss} (h : tget s.canal.losses src [] = [l]) (hact : s.active l.owner = false) :
    (s.takeToken src).canal.acc = s.canal.acc ∧ (s.takeToken src).canal.closed = s.canal.closed := by
  have hlose : s.lose 1 src l = s := if_pos (by rw [hact]; rfl)
  unfold State.takeToken
  rw [h]
  dsimp only [List.foldl_cons, List.foldl_nil]
  rw [hlose]
  exact ⟨rfl, rfl⟩

theorem lossToken_exec {s : State} (hclk : s.lk.st = .underway) (src : BitVec 8) : exec (.lossToken src) s = .next (s.takeToken src.toNat) :=
  congrArg Host.Outcome.next (if_pos (fastClocks_underway hclk))

theorem takeToken_losses (s : State) (src : Nat) : tget (s.takeToken src).canal.losses src [] = [] := tget_tset_same ..

theorem takeToken_basins (s : State) (src : Nat) : (s.takeToken src).basins = s.basins := (takeToken_canal s src).proj State.basins fun _ _ => rfl

theorem takeToken_queue (s : State) (src j : Nat) : (s.takeToken src).queue j = s.queue j :=
  (takeToken_delivery s src).proj (State.queue · j) fun _ _ _ _ _ _ _ _ _ _ _ => rfl

section
variable {s : State} {v : Nat} {l : Loss} (hl : tget s.canal.losses v [] = [l]) (hact : s.active l.owner = true)
include hl hact

theorem takeToken_opens (hkey : ∀ w ∈ s.canal.acc, w.key l.owner v 1 = false) (hroom : s.canal.tableUsed < 512) :
    (s.takeToken v).canal.acc = s.canal.acc ++ [Weir.of 1 v s.now l] ∧ (s.takeToken v).canal.closed = s.canal.closed := by
  have h := takeToken_counts hl hact
  rwa [addLoss_opens hkey hroom] at h

/-- With the table full the loss opens the overflow accumulator, or is counted in its closed mark (log 70). -/
theorem takeToken_overflows (hkey : ∀ w ∈ s.canal.acc, w.key l.owner v 1 = false ∧ w.key l.owner 255 1 = false) (hfull : 512 ≤ s.canal.tableUsed) :
    ((∀ w ∈ s.canal.closed, w.key l.owner 255 1 = false) →
      (s.takeToken v).canal.acc = s.canal.acc ++ [Weir.of 1 255 s.now l] ∧ (s.takeToken v).canal.closed = s.canal.closed) ∧
    ((∃ w ∈ s.canal.closed, w.key l.owner 255 1 = true) →
      (s.takeToken v).canal.acc = s.canal.acc ∧ (s.takeToken v).canal.closed.length = s.canal.closed.length) := by
  have h := takeToken_counts hl hact
  rw [addLoss_full (fun w hw => (hkey w hw).1) hfull] at h
  refine ⟨fun hclosed => ?_, fun hclosed => ?_⟩
  · rwa [addOverflow_opens (fun w hw => (hkey w hw).2) hclosed] at h
  · obtain ⟨hacc, hlen⟩ := addOverflow_counts (fun w hw => (hkey w hw).2) hclosed (now := s.now)
    exact ⟨h.1.trans hacc, (congrArg List.length h.2).trans hlen⟩

theorem takeToken_counts_on {w : Weir} (hacc : s.canal.acc = [w]) (hkey : w.key l.owner v 1 = true) (hfits : w.covers (2 ^ 18) l = true) :
    (s.takeToken v).canal.closed = s.canal.closed ∧ (s.takeToken v).canal.acc = [w.count s.now l] := by
  have h := takeToken_counts hl hact
  rw [addLoss_counts hacc hkey hfits] at h
  exact h.symm

theorem takeToken_reopens {w : Weir} (hacc : s.canal.acc = [w]) (hkey : w.key l.owner v 1 = true) (hfits : ¬ w.covers (2 ^ 18) l = true)
    (hroom : s.canal.tableUsed < 512) :
    (s.takeToken v).canal.closed = s.canal.closed ++ [w] ∧ (s.takeToken v).canal.acc = [Weir.of 1 v s.now l] := by
  have h := takeToken_counts hl hact
  rw [addLoss_reopens hacc hkey hfits hroom] at h
  exact h.symm

end

/-! ## Accumulators that close (R218) -/

section
variable {s : State} {idx : Nat} {w : Weir} (hw : s.canal.acc[idx]? = some w) (hclk : s.lk.st = .underway)
include hw hclk

theorem weirAccumTimeout_closes (hold : w.lastAt + 16384 ≤ s.now) : exec (.weirAccumTimeout idx) s = .next { s with canal := { s.canal with
    acc := s.canal.acc.take idx ++ s.canal.acc.drop (idx + 1), closed := s.canal.closed ++ [w] } } := by
  unfold exec execWeirAccumTimeout
  dsimp only
  rw [hw]
  dsimp only
  rw [fastClocks_underway hclk]
  exact (if_neg Bool.false_ne_true).trans (if_pos hold)

theorem weirAccumTimeout_held (hyoung : s.now < w.lastAt + 16384) : exec (.weirAccumTimeout idx) s = .next (s.closeHeld w.owner) := by
  unfold exec execWeirAccumTimeout
  dsimp only
  rw [hw]
  dsimp only
  rw [fastClocks_underway hclk]
  exact (if_neg Bool.false_ne_true).trans (if_neg (by omega))

end

theorem closeHeld_above {s : State} {o : Nat} (h : s.baseCells o * 7 < s.used o * 8) : s.closeHeld o = s :=
  if_neg fun hlow => by
    have := of_decide_eq_true hlow
    omega

/-- Only accumulators of cause BASIN_FULL of the owner close, and those of its held streams do (R216, R218). -/
theorem closeHeld_low {s : State} {o : Nat} (h : s.used o * 8 ≤ s.baseCells o * 7) {x : Weir} (hx : x ∈ s.canal.acc) :
    (x.owner = o ∧ x.cause = 0 ∧ x.lost ≠ 255 ∧ (s.stream x.lost o).held = true → x ∈ (s.closeHeld o).canal.closed ∧ x ∉ (s.closeHeld o).canal.acc) ∧
      (x.owner ≠ o ∨ x.cause ≠ 0 → x ∈ (s.closeHeld o).canal.acc) := by
  unfold State.closeHeld
  rw [if_pos (show s.low o = true from decide_eq_true h)]
  dsimp only
  constructor
  · rintro ⟨ho, hc, hlost, hheld⟩
    rw [List.mem_append, List.mem_filter, List.mem_filter, ho, hc, if_neg hlost, hheld]
    exact ⟨.inr ⟨hx, by simp⟩, fun hkept => absurd hkept.2 (by simp)⟩
  · intro hother
    refine List.mem_filter.mpr ⟨hx, ?_⟩
    rcases hother with ho | hc
    · rw [decide_eq_false ho]
      rfl
    · rw [decide_eq_false hc, Bool.and_false]
      rfl

/-! ## Marks of unknown counts (R189, R190) -/

/-- The marks span from one instant to another without a gap, each at most 2^19 qt, their counts unknown. -/
def Spanning (ms : List Weir) (a b : Nat) : Prop :=
  (ms.head?.map Weir.first = some a) ∧ (ms.getLast?.map Weir.last = some b) ∧
    (∀ i x y, ms[i]? = some x → ms[i + 1]? = some y → y.first = x.last) ∧
    ∀ w ∈ ms, w.last ≤ w.first + 2 ^ 19 ∧ w.words = 2 ^ 32 - 1 ∧ w.n1 = 2 ^ 32 - 1 ∧ w.n2 = 2 ^ 32 - 1 ∧ w.n3 = 2 ^ 32 - 1

theorem Spanning.single {m : Weir} (h : m.last ≤ m.first + 2 ^ 19 ∧ m.words = 2 ^ 32 - 1 ∧ m.n1 = 2 ^ 32 - 1 ∧ m.n2 = 2 ^ 32 - 1 ∧ m.n3 = 2 ^ 32 - 1) :
    Spanning [m] m.first m.last := by
  refine ⟨rfl, rfl, fun i x y _ hy => ?_, fun w hw => ?_⟩
  · cases hy
  · rw [List.mem_singleton.mp hw]
    exact h

theorem Spanning.cons {m : Weir} {ms : List Weir} {b : Nat} (hrest : Spanning ms m.last b)
    (h : m.last ≤ m.first + 2 ^ 19 ∧ m.words = 2 ^ 32 - 1 ∧ m.n1 = 2 ^ 32 - 1 ∧ m.n2 = 2 ^ 32 - 1 ∧ m.n3 = 2 ^ 32 - 1) :
    Spanning (m :: ms) m.first b := by
  obtain ⟨hfirst, hlast, hnext, hall⟩ := hrest
  refine ⟨rfl, ?_, fun i x y hx hy => ?_, fun w hw => ?_⟩
  · cases ms with
    | nil => cases hlast
    | cons n ms => exact hlast
  · cases i with
    | zero =>
      cases hx
      rw [List.getElem?_cons_succ, ← List.head?_eq_getElem?] at hy
      rw [hy] at hfirst
      exact Option.some.inj hfirst
    | succ i => exact hnext i x y hx hy
  · rcases List.mem_cons.mp hw with rfl | hw
    · exact h
    · exact hall w hw

/-- Enough pieces of at most 2^19 qt span from a to b. -/
theorem unknownMarks_spanning (o lost cause flags now : Nat) (epoch : BitVec 16) (part : BitVec 2) (n : Nat) {a b : Nat}
    (h : b ≤ a + (n + 1) * 2 ^ 19) : Spanning (unknownMarks o lost cause flags now epoch part (n + 1) a b) a b := by
  induction n generalizing a with
  | zero =>
    have hmin : min b (a + 2 ^ 19) = b := Nat.min_eq_left (by omega)
    unfold unknownMarks
    rw [hmin]
    dsimp only
    rw [if_pos (Nat.le_refl b)]
    exact .single ⟨by omega, rfl, rfl, rfl, rfl⟩
  | succ n ih =>
    rw [unknownMarks]
    split
    · next hle =>
      have hmin : min b (a + 2 ^ 19) = b := by omega
      rw [hmin]
      exact .single ⟨by dsimp only; omega, rfl, rfl, rfl, rfl⟩
    · next hgt => exact .cons (ih (by omega)) ⟨by dsimp only; omega, rfl, rfl, rfl, rfl⟩

theorem unknownMarks_labels {o lost cause flags now : Nat} {epoch : BitVec 16} {part : BitVec 2} {n a b : Nat} {w : Weir}
    (hw : w ∈ unknownMarks o lost cause flags now epoch part n a b) :
    w.owner = o ∧ w.lost = lost ∧ w.cause = cause ∧ w.flags = BitVec.ofNat 8 flags := by
  induction n generalizing a with
  | zero => cases hw
  | succ n ih =>
    unfold unknownMarks at hw
    dsimp only at hw
    split at hw
    · rw [List.mem_singleton.mp hw]
      exact ⟨rfl, rfl, rfl, rfl⟩
    · rcases List.mem_cons.mp hw with rfl | hw
      · exact ⟨rfl, rfl, rfl, rfl⟩
      · exact ih hw

theorem unknown_spanning (s : State) (o lost cause flags : Nat) (a b : Nat) : Spanning (s.unknown o lost cause flags a b) a b := by
  refine unknownMarks_spanning _ _ _ _ _ _ _ _ ?_
  have := Nat.div_add_mod (b - a) (2 ^ 19)
  have := Nat.mod_lt (b - a) (show 0 < 2 ^ 19 by decide)
  omega

/-! ## Silent streams and disabled probes (R190, R220) -/

theorem sourceSilent_marks {s : State} {src : BitVec 8} {o : Fin 17} (hseen : (s.stream src.toNat o.val).seen = true)
    (hquiet : (s.stream src.toNat o.val).explained = false) (hold : (s.stream src.toNat o.val).lastDeliv + 2 ^ 20 ≤ s.ts) (hact : s.active o.val = true) :
    exec (.sourceSilent src o) s = .next ((s.addMarks (s.unknown o.val src.toNat 5 2 (s.stream src.toNat o.val).lastTs s.ts)).setStream src.toNat o.val
      { s.stream src.toNat o.val with seen := false }) := by
  refine if_neg ?_
  rw [hseen, hquiet, hact, decide_eq_false (by omega)]
  exact Bool.false_ne_true

/-- The standing marks of a disabled probe, owner by owner. -/
def State.standing (s : State) (p a : Nat) (os : List Nat) : List Weir := os.flatMap (fun o => s.unknown o p 3 3 a s.ts)

theorem standing_marks (p a : Nat) (os : List Nat) (s : State) :
    os.foldl (fun s o => s.addMarks (s.unknown o p 3 3 a s.ts)) s = s.addMarks (s.standing p a os) := by
  induction os generalizing s with
  | nil => exact congrArg (fun closed => { s with canal := { s.canal with closed := closed } }) (List.append_nil _).symm
  | cons o os ih =>
    rw [List.foldl_cons, ih]
    exact congrArg (fun closed => { s with canal := { s.canal with closed := closed } }) (List.append_assoc ..)

theorem standing_labels {s : State} {p a : Nat} {os : List Nat} {w : Weir} (hw : w ∈ s.standing p a os) :
    w.owner ∈ os ∧ w.lost = p ∧ w.cause = 3 ∧ w.flags = 3 := by
  obtain ⟨o, ho, hw⟩ := List.mem_flatMap.mp hw
  obtain ⟨howner, hlabels⟩ := unknownMarks_labels hw
  exact ⟨howner ▸ ho, hlabels⟩

/-- An owner's own standing marks are those of its one span. -/
theorem standing_of_owner {s : State} {p a o : Nat} {os : List Nat} (hnodup : os.Nodup) (ho : o ∈ os) :
    (s.standing p a os).filter (fun w => decide (w.owner = o)) = s.unknown o p 3 3 a s.ts := by
  induction os with
  | nil => cases ho
  | cons k os ih =>
    obtain ⟨hk, hnodup⟩ := List.nodup_cons.mp hnodup
    unfold State.standing
    rw [List.flatMap_cons, List.filter_append]
    by_cases hko : k = o
    · subst hko
      have hmine : (s.unknown k p 3 3 a s.ts).filter (fun w => decide (w.owner = k)) = s.unknown k p 3 3 a s.ts :=
        List.filter_eq_self.mpr fun w hw => decide_eq_true (unknownMarks_labels hw).1
      have hrest : (s.standing p a os).filter (fun w => decide (w.owner = k)) = [] :=
        List.filter_eq_nil_iff.mpr fun w hw heq => hk (of_decide_eq_true heq ▸ (standing_labels hw).1)
      exact (congrArg₂ (· ++ ·) hmine hrest).trans (List.append_nil _)
    · have hother : (s.unknown k p 3 3 a s.ts).filter (fun w => decide (w.owner = o)) = [] :=
        List.filter_eq_nil_iff.mpr fun w hw heq => hko ((unknownMarks_labels hw).1.symm.trans (of_decide_eq_true heq))
      rw [hother, List.nil_append]
      exact ih hnodup ((List.mem_cons.mp ho).resolve_left (Ne.symm hko))

theorem standingWeirMark_marks {s : State} {p : Fin 128} (hdis : (s.probe p.val).disabled = true) (hts : (s.probe p.val).markTs < s.ts)
    (hdue : (s.probe p.val).markTs = (s.probe p.val).disabledTs ∨ (s.probe p.val).markTs + 2 ^ 19 ≤ s.ts) :
    exec (.standingWeirMark p) s = .next ((s.addMarks (s.standing p.val (s.probe p.val).markTs ((s.probe p.val).disabledFor.filter s.active))).setProbe p.val
      { s.probe p.val with markTs := s.ts }) := by
  have hgo : ¬ (!(s.probe p.val).disabled || decide (s.ts ≤ (s.probe p.val).markTs) ||
      (decide ((s.probe p.val).markTs ≠ (s.probe p.val).disabledTs) && decide (s.ts < (s.probe p.val).markTs + 2 ^ 19))) = true := by
    rw [hdis, decide_eq_false (by omega), Bool.not_true, Bool.false_or, Bool.false_or, Bool.and_eq_true, decide_eq_true_eq,
      decide_eq_true_eq]
    omega
  have hmarked := standing_marks p.val (s.probe p.val).markTs ((s.probe p.val).disabledFor.filter s.active) s
  refine (if_neg hgo : execStandingWeirMark p s = _).trans ?_
  dsimp only
  rw [hmarked]
  rfl

/-! ## Class 0 records are never dropped at their source (R208) -/

/-- The index that a scan settles on is that of a record it tested. -/
theorem foldl_last_index {α : Type} (p : α → Bool) (l : List (Nat × α)) (a : Option Nat) {i : Nat}
    (h : l.foldl (fun a e => if p e.2 then some e.1 else a) a = some i) : a = some i ∨ ∃ e ∈ l, e.1 = i ∧ p e.2 = true := by
  induction l generalizing a with
  | nil => exact .inl h
  | cons e l ih =>
    rw [List.foldl_cons] at h
    rcases ih _ h with h | ⟨f, hf, h⟩
    · split at h
      · next hp => exact .inr ⟨e, List.mem_cons_self, Option.some.inj h, hp⟩
      · exact .inl h
    · exact .inr ⟨f, List.mem_cons_of_mem _ hf, h⟩

theorem dropIdx_cls {src i : Nat} {q : List Rec} (h : dropIdx src q = some i) : ∃ d, q[i]? = some d ∧ d.cls ≠ 0 := by
  unfold dropIdx at h
  dsimp only at h
  split at h
  · cases h
  · next hm =>
    obtain ⟨e, he, rfl, hp⟩ := (foldl_last_index (fun r : Rec => r.cls = _ && !r.inBuffer src) _ none h).resolve_left fun h => nomatch h
    obtain ⟨i, hi, rfl⟩ := List.mem_mapIdx.mp he
    rw [Bool.and_eq_true, decide_eq_true_eq] at hp
    exact ⟨q[i], List.getElem?_eq_getElem hi, fun h0 => hm (hp.1.symm.trans h0)⟩

theorem mem_removeAt {α : Type} {l : List α} {i : Nat} {a : α} (h : a ∈ l) (hi : l[i]? ≠ some a) : a ∈ removeAt l i := by
  obtain ⟨j, hj⟩ := List.mem_iff_getElem?.mp h
  unfold removeAt
  rw [List.mem_append]
  rcases Nat.lt_trichotomy j i with hlt | heq | hgt
  · exact .inl (List.mem_iff_getElem?.mpr ⟨j, (List.getElem?_take_of_lt hlt).trans hj⟩)
  · exact absurd (heq ▸ hj) hi
  · refine .inr (List.mem_iff_getElem?.mpr ⟨j - (i + 1), ?_⟩)
    rw [List.getElem?_drop, Nat.add_sub_cancel' hgt]
    exact hj

theorem fitQueue_keeps {r : Rec} (hc : r.cls = 0) (src n : Nat) (q : List Rec) (h : r ∈ q) : r ∈ (fitQueue src n q).1 := by
  induction n generalizing q with
  | zero => exact h
  | succ n ih =>
    unfold fitQueue
    split
    · split
      · exact h
      · next i hi =>
        obtain ⟨d, hd, hne⟩ := dropIdx_cls hi
        exact ih _ (mem_removeAt h fun heq => hne (Option.some.inj (hd.symm.trans heq) ▸ hc))
    · exact h

theorem pushRec_queue (s : State) (src : Nat) (r : Rec) : (s.pushRec src r).queue src = (fitQueue src 8 (s.queue src ++ [{ r with inAt := s.now }])).1 :=
  (noteLosses_proj (State.queue · src) (fun _ _ _ => rfl) ..).trans (State.setQueue_queue_same ..)

/-- A class 0 record that a source emits waits in its queue. -/
theorem emit_queued {s : State} {src o : Nat} (h : s.canEmit src o = true) (ty ts payload : Nat) (extra : List Nat) :
    ∃ r ∈ (s.emit src o ty 0 ts payload extra).queue src, r.owner = o := by
  unfold State.emit
  rw [if_pos h]
  dsimp only
  rw [pushRec_queue]
  exact ⟨_, fitQueue_keeps rfl src 8 _ (List.mem_append_right _ List.mem_cons_self), rfl⟩

/-! ## WEIR_MARK_WRITE (R213, R218, R222) -/

/-- The state in which the oldest closed mark leaves the weir engine. -/
def State.marking (s : State) (ws : List Weir) : State := { s with canal := { s.canal with closed := ws, lastMarkAt := s.now } }

/-- One record of source 137 to its priority queue, and whether it and those before it had room. -/
def drainStep (a : Bool × State) (r : Rec) : Bool × State := (a.1 && a.2.prioRoom r, a.2.deliver r)

theorem drain137_eq (s : State) (o : Nat) : s.drain137 o = ((s.queue 137).filter (fun r => decide (r.owner = o))).foldl drainStep
    (true, s.setQueue 137 ((s.queue 137).filter (fun r => decide (r.owner ≠ o)))) := rfl

theorem drain_stays_short (l : List Rec) (s : State) : (l.foldl drainStep (false, s)).1 = false := by
  induction l generalizing s with
  | nil => rfl
  | cons r l ih =>
    have hstep : drainStep (false, s) r = (false, s.deliver r) := rfl
    rw [List.foldl_cons, hstep]
    exact ih _

theorem setQueue_prioRoom (s : State) (src : Nat) (q : List Rec) (r : Rec) : (s.setQueue src q).prioRoom r = s.prioRoom r :=
  prioRoom_congr rfl (fun _ => rfl) r

/-- An owner's waiting records do not all reach a priority queue without room. -/
theorem drain137_short {s : State} {o : Nat} (hq : ∃ r ∈ s.queue 137, r.owner = o) (hroom : ∀ r : Rec, r.owner = o → s.prioRoom r = false) :
    (s.drain137 o).1 = false := by
  obtain ⟨r, hr, ho⟩ := hq
  have hmem : r ∈ (s.queue 137).filter (fun r => decide (r.owner = o)) := List.mem_filter.mpr ⟨hr, decide_eq_true ho⟩
  rw [drain137_eq]
  cases hl : (s.queue 137).filter (fun r => decide (r.owner = o)) with
  | nil =>
    rw [hl] at hmem
    cases hmem
  | cons d l =>
    have hd : d.owner = o := of_decide_eq_true (List.mem_filter.mp (hl ▸ List.mem_cons_self : d ∈ _)).2
    have hstep : ∀ t : State, t.prioRoom d = false → drainStep (true, t) d = (false, t.deliver d) := fun t ht => by
      unfold drainStep
      rw [ht]
      rfl
    rw [List.foldl_cons, hstep _ ((setQueue_prioRoom ..).trans (hroom d hd))]
    exact drain_stays_short ..

section
variable {s : State} {w : Weir} {ws : List Weir} (hclosed : s.canal.closed = w :: ws) (hclk : s.lk.st = .underway)
  (hturn : s.canal.lastMarkAt = 0 ∨ s.canal.lastMarkAt + 128 ≤ s.now)
include hclosed hclk hturn

theorem weirMarkWrite_exec : exec .weirMarkWrite s = if (s.marking ws).canEmit 137 w.owner then
    .next (if (((s.marking ws).emitMark w).drain137 w.owner).1 && s.reserveRoom 137 4 then (((s.marking ws).emitMark w).drain137 w.owner).2.unhold w else s)
    else .next (s.marking ws) := by
  have hgo : ¬ (decide (0 < s.canal.lastMarkAt) && decide (s.now < s.canal.lastMarkAt + 128)) = true := by
    rw [Bool.and_eq_true, decide_eq_true_eq, decide_eq_true_eq]
    omega
  unfold exec execWeirMarkWrite
  dsimp only
  rw [hclosed]
  dsimp only
  rw [fastClocks_underway hclk]
  exact (if_neg Bool.false_ne_true).trans (if_neg hgo)

theorem weirMarkWrite_discards (h : s.canEmit 137 w.owner = false) : exec .weirMarkWrite s = .next (s.marking ws) :=
  (weirMarkWrite_exec hclosed hclk hturn).trans (if_neg (by rw [show (s.marking ws).canEmit 137 w.owner = false from h]; exact Bool.false_ne_true))

theorem weirMarkWrite_waits (h : s.canEmit 137 w.owner = true) (hroom : ∀ r : Rec, r.owner = w.owner → s.prioRoom r = false) :
    exec .weirMarkWrite s = .next s := by
  have hcan : (s.marking ws).canEmit 137 w.owner = true := h
  have hcanal : CanalOnly s ((s.marking ws).emitMark w) := CanalOnly.trans (t := s.marking ws) (Eq.refl _) (emit_canal ..)
  have hshort : (((s.marking ws).emitMark w).drain137 w.owner).1 = false := drain137_short (emit_queued hcan ..)
    fun r hr => (hcanal.proj (State.prioRoom · r) fun _ _ => rfl).trans (hroom r hr)
  rw [weirMarkWrite_exec hclosed hclk hturn, if_pos hcan, hshort]
  rfl

end

/-! ### The WEIR record of a mark -/

/-- The WEIR record of a mark (R187). -/
def State.weirRec (s : State) (w : Weir) : Rec :=
  let wide := decide (2 ^ 32 - 1 < w.words) || decide (2 ^ 32 - 1 < w.n1) || decide (2 ^ 32 - 1 < w.n2) || decide (2 ^ 32 - 1 < w.n3)
  s.mkRec 137 w.owner 3 0 w.first (w.flags.toNat + b2n wide * 4 + w.lost * 2 ^ 8 + w.cause * 2 ^ 16)
    [w.last % 2 ^ 21 + sat32 w.words * 2 ^ 32, sat32 w.n1 + sat32 w.n2 * 2 ^ 32, sat32 w.n3 + w.lseq % 2 ^ 32 * 2 ^ 32]

theorem weirRec_payload (s : State) {w : Weir} (hlost : w.lost < 256) (hflags : w.flags.toNat ≤ 3) :
    (s.weirRec w).payload.toNat / 2 ^ 8 % 2 ^ 8 = w.lost ∧ (s.weirRec w).payload.toNat / 2 ^ 16 = w.cause % 16 := by
  have hwide := b2n_le_one (decide (2 ^ 32 - 1 < w.words) || decide (2 ^ 32 - 1 < w.n1) || decide (2 ^ 32 - 1 < w.n2) || decide (2 ^ 32 - 1 < w.n3))
  unfold State.weirRec State.mkRec
  dsimp only
  rw [BitVec.toNat_ofNat]
  generalize b2n _ = n at hwide ⊢
  omega

/-- A record that fits enters an empty queue alone. -/
theorem pushRec_lone {s : State} {src : Nat} {r : Rec} (hq : s.queue src = []) (hat : r.inAt = s.now) (hfit : overfull src [r] = false) :
    s.pushRec src r = s.setQueue src [r] := by
  have hr : { r with inAt := s.now } = r := by rw [← hat]
  have hkept : fitQueue src 8 [r] = ([r], []) := by
    unfold fitQueue
    rw [hfit]
    exact if_neg Bool.false_ne_true
  unfold State.pushRec
  dsimp only
  rw [hq, hr, List.nil_append, hkept]
  rfl

/-- An active stream that owes nothing emits a mark's record alone. -/
theorem emitMark_alone {s : State} {w : Weir} (hcan : s.canEmit 137 w.owner = true) (hq : s.queue 137 = []) (hact : (s.stream 137 w.owner).active = true)
    (hresync : (s.stream 137 w.owner).resync = false) (howe : (s.stream 137 w.owner).owe = false) :
    s.emitMark w = (s.setStream 137 w.owner { s.stream 137 w.owner with since := (s.stream 137 w.owner).since + 1 }).setQueue 137 [s.weirRec w] := by
  have hquiet : (((s.stream 137 w.owner).active && !(s.stream 137 w.owner).resync && !s.showsChange 137 w.owner w.first) || s.halted 137) = true := by
    unfold State.showsChange
    rw [hact, hresync, howe]
    rfl
  have hemit : s.emitMark w = (s.setStream 137 w.owner { s.stream 137 w.owner with since := (s.stream 137 w.owner).since + 1 }).pushRec 137 (s.weirRec w) := by
    refine (if_pos hcan).trans ?_
    dsimp only
    rw [if_pos hquiet]
    rfl
  rw [hemit]
  exact pushRec_lone hq rfl rfl

/-! ### A record in a priority queue (R213) -/

/-- A record is in some cell of an owner's priority queue. -/
def State.carries (s : State) (o : Nat) (r : Rec) : Prop := ∃ c ∈ s.prioQ o, r ∈ c.recs

theorem carries_congr {s t : State} {o : Nat} {r : Rec} (hb : t.basins = s.basins) : t.carries o r ↔ s.carries o r := by
  unfold State.carries
  rw [prioQ_congr hb]

theorem intoTail_mem {q : List Cell} (hq : q ≠ []) (r : Rec) : ∃ c ∈ intoTail q r, r ∈ c.recs := by
  unfold intoTail
  rw [List.getLast?_eq_some_getLast hq]
  exact ⟨_, List.mem_append_right _ List.mem_cons_self, List.mem_append_right _ List.mem_cons_self⟩

theorem intoTail_keeps {q : List Cell} {c : Cell} {r : Rec} (d : Rec) (hc : c ∈ q) (hr : r ∈ c.recs) : ∃ c ∈ intoTail q d, r ∈ c.recs := by
  have hq : q ≠ [] := List.ne_nil_of_mem hc
  unfold intoTail
  rw [List.getLast?_eq_some_getLast hq]
  rw [← List.dropLast_append_getLast hq] at hc
  rcases List.mem_append.mp hc with hc | hc
  · exact ⟨c, List.mem_append_left _ hc, hr⟩
  · rw [List.mem_singleton.mp hc] at hr
    exact ⟨_, List.mem_append_right _ List.mem_cons_self, List.mem_append_left _ hr⟩

theorem newCell_keeps {q : List Cell} {c : Cell} {r : Rec} (a : Nat × Nat) (order : Bool) (d : Rec) (hc : c ∈ q) (hr : r ∈ c.recs) :
    ∃ c ∈ newCell q a order d, r ∈ c.recs := ⟨c, List.mem_append_left _ hc, hr⟩

theorem newCell_mem (q : List Cell) (a : Nat × Nat) (order : Bool) (r : Rec) : ∃ c ∈ newCell q a order r, r ∈ c.recs :=
  ⟨_, List.mem_append_right _ List.mem_cons_self, List.mem_cons_self⟩

/-- A record with room goes to its owner's priority queue: the queue after it. -/
def State.prioAfter (s : State) (r : Rec) : List Cell :=
  if s.fitsTail (s.prioQ r.owner) r then intoTail (s.prioQ r.owner) r
  else match s.freeCell s.prioUnits with
    | some a => newCell (s.prioQ r.owner) a false r
    | none => s.prioQ r.owner

theorem putPrio_prioQ (s : State) (r : Rec) (o : Nat) : (s.putPrio r).prioQ o = if o = r.owner then s.prioAfter r else s.prioQ o := by
  have hset : ∀ (c : Cell) (q : List Cell), ((s.writeCell c r).setPrioQ r.owner q).prioQ o = if o = r.owner then q else s.prioQ o := fun c q => by
    rw [State.setPrioQ_prioQ, prioQ_congr ((writeCell_carried s c r).proj State.basins fun _ _ _ _ _ _ => rfl)]
  have hsame : s.prioQ o = if o = r.owner then s.prioQ r.owner else s.prioQ o := by
    split
    · next h => rw [h]
    · rfl
  unfold State.putPrio State.prioAfter
  dsimp only
  split
  · split
    · exact hset ..
    · next h =>
      unfold intoTail
      rw [h]
      exact hsame
  · cases s.freeCell s.prioUnits with
    | some a => exact hset ..
    | none => exact hsame

theorem putPrio_carries {s : State} {r : Rec} (h : s.prioRoom r = true) : (s.putPrio r).carries r.owner r := by
  unfold State.carries
  rw [putPrio_prioQ, if_pos rfl]
  unfold State.prioAfter
  split
  · next hfit =>
    refine intoTail_mem (fun hnil => ?_) r
    unfold State.fitsTail at hfit
    rw [hnil] at hfit
    cases hfit
  · next hfit =>
    unfold State.prioRoom at h
    rw [Bool.eq_false_of_not_eq_true hfit, Bool.false_or] at h
    obtain ⟨a, ha⟩ := Option.isSome_iff_exists.mp h
    rw [ha]
    exact newCell_mem ..

theorem putPrio_keeps {s : State} {o : Nat} {r : Rec} (d : Rec) (h : s.carries o r) : (s.putPrio d).carries o r := by
  unfold State.carries at h ⊢
  rw [putPrio_prioQ]
  split
  · next ho =>
    rw [ho] at h
    obtain ⟨c, hc, hr⟩ := h
    unfold State.prioAfter
    split
    · exact intoTail_keeps d hc hr
    · split
      · exact newCell_keeps _ _ _ hc hr
      · exact ⟨c, hc, hr⟩
  · exact h

theorem putPrio_canal (s : State) (r : Rec) : (s.putPrio r).canal = s.canal := by
  have hput : ∀ (c : Cell) (q : List Cell), ((s.writeCell c r).setPrioQ r.owner q).canal = s.canal := fun c q =>
    (writeCell_carried s c r).proj State.canal fun _ _ _ _ _ _ => rfl
  unfold State.putPrio
  dsimp only
  split
  · split
    · exact hput ..
    · rfl
  · split
    · exact hput ..
    · rfl

/-- Whatever enters a basin, the priority queues keep their records. -/
theorem letIn_keeps {s : State} {o : Nat} {r : Rec} (d : Rec) (h : s.carries o r) : (s.letIn d).carries o r := by
  by_cases hsrc : d.ordinary
  · have hprio : (s.letIn d).prioQ o = s.prioQ o := by
      by_cases hheld : (s.stream d.src.toNat d.owner).held = true ∧ d.cls ≠ 0
      · obtain ⟨acc, closed, hlose⟩ := loseHeld_marks s d.src.toNat (s.stream d.src.toNat d.owner).heldOv d.loss
        rw [letIn_held hsrc hheld.1 hheld.2, hlose]
        rfl
      · have hopen : (s.stream d.src.toNat d.owner).held = false ∨ d.cls = 0 :=
          (not_and_or.mp hheld).imp Bool.eq_false_of_not_eq_true Decidable.of_not_not
        cases ha : s.admitTo d with
        | some e =>
          rw [letIn_admitted hsrc hopen ha]
          exact (writeCell_carried s e.1 d).proj (State.prioQ · o) fun _ _ _ _ _ _ => rfl
        | none =>
          obtain ⟨acc, closed, hlose⟩ := lose_marks s 0 d.src.toNat d.loss
          rw [letIn_lost hsrc hopen ha, hlose]
          exact proj_of_ite (State.prioQ · o) rfl rfl
    unfold State.carries
    rw [hprio]
    exact h
  · exact (carries_congr ((letIn_prio hsrc).proj State.basins fun _ _ _ _ _ _ => rfl)).mpr (putPrio_keeps d h)

/-! ### Streams that leave their hold (R216) -/

theorem resyncBy_delivery (s : State) (src o : Nat) : Delivery s (s.resyncBy src o) := (setStream_delivery ..).trans (letIn_delivery ..)

theorem resyncBy_keeps {s : State} {o : Nat} {r : Rec} (src k : Nat) (h : s.carries o r) : (s.resyncBy src k).carries o r :=
  letIn_keeps _ ((carries_congr (s := s) rfl).mpr h)

theorem unhold_delivery (s : State) (w : Weir) : Delivery s (s.unhold w) := .foldl (fun _ _ => .ite (resyncBy_delivery ..) .rfl) _ s

theorem unhold_keeps {s : State} {o : Nat} {r : Rec} (w : Weir) (h : s.carries o r) : (s.unhold w).carries o r := by
  unfold State.unhold
  generalize (if w.lost = 255 then List.range 139 else [w.lost]) = srcs
  induction srcs generalizing s with
  | nil => exact h
  | cons src srcs ih =>
    rw [List.foldl_cons]
    refine ih ?_
    dsimp only
    split
    · exact resyncBy_keeps _ _ h
    · exact h

theorem unhold_none {s : State} {w : Weir} (h : ∀ src, (s.stream src w.owner).held = false) : s.unhold w = s := by
  refine foldl_still fun src _ => ?_
  dsimp only
  rw [h src]
  exact if_neg Bool.false_ne_true

/-! ### The mark reaches its owner -/

section
variable {s : State} {r : Rec} (hact : s.active r.owner = true) (hsrc : ¬ r.ordinary)
include hact hsrc

theorem deliver_prio : Carried ((s.arrived r).putPrio r) (s.deliver r) := by
  rw [deliver_active hact]
  exact letIn_prio hsrc

theorem deliver_prio_canal : (s.deliver r).canal = (s.setStream r.src.toNat r.owner ((s.stream r.src.toNat r.owner).delivered r s.ts)).canal :=
  ((deliver_prio hact hsrc).proj State.canal fun _ _ _ _ _ _ => rfl).trans ((putPrio_canal ..).trans
    ((arrived_carried s r).proj State.canal fun _ _ _ _ _ _ => rfl))

theorem deliver_prio_carries (hroom : s.prioRoom r = true) : (s.deliver r).carries r.owner r :=
  (carries_congr ((deliver_prio hact hsrc).proj State.basins fun _ _ _ _ _ _ => rfl)).mpr
    (putPrio_carries ((prioRoom_congr (arrived_basins s r) (arrived_delivery s r).2 r).trans hroom))

theorem deliver_prio_held (src o : Nat) : ((s.deliver r).stream src o).held = (s.stream src o).held := by
  have hcanal := congrArg (fun c : Canal => (tget c.streams (src * 32 + o) Stream.zero).held) (deliver_prio_canal hact hsrc)
  refine hcanal.trans ?_
  change ((s.setStream r.src.toNat r.owner ((s.stream r.src.toNat r.owner).delivered r s.ts)).stream src o).held = _
  rw [setStream_stream]
  split
  · next hkey =>
    have hsame : s.stream src o = s.stream r.src.toNat r.owner := congrArg (tget s.canal.streams · Stream.zero) hkey
    rw [hsame]
    rfl
  · rfl

end

/-- The state in which the owner's priority queue takes a mark's record. -/
def State.marked (s : State) (w : Weir) (ws : List Weir) : State :=
  (((s.marking ws).setStream 137 w.owner { s.stream 137 w.owner with since := (s.stream 137 w.owner).since + 1 }).setQueue 137 [s.weirRec w]).setQueue 137 []

section
variable {s : State} {w : Weir} {ws : List Weir} (hclosed : s.canal.closed = w :: ws) (hclk : s.lk.st = .underway)
  (hturn : s.canal.lastMarkAt = 0 ∨ s.canal.lastMarkAt + 128 ≤ s.now) (hroom : s.freeCell (s.basins.head.take 2) ≠ none)
  (hcan : s.canEmit 137 w.owner = true) (hq : s.queue 137 = []) (hact : (s.stream 137 w.owner).active = true)
  (hresync : (s.stream 137 w.owner).resync = false) (howe : (s.stream 137 w.owner).owe = false)

include hroom in
theorem marked_prioRoom (r : Rec) : (s.marked w ws).prioRoom r = true := by
  have hfree : (s.freeCell s.prioUnits).isSome = true := Option.isSome_iff_ne_none.mpr hroom
  have hprio : s.prioRoom r = true := by
    unfold State.prioRoom
    rw [hfree, Bool.or_true]
  exact (prioRoom_congr (s := s) rfl (fun _ => rfl) r).trans hprio

include hcan in
theorem marked_active : (s.marked w ws).active (s.weirRec w).owner = true := by
  have hcan : s.hasDest w.owner = true := (Bool.and_eq_true .. ▸ hcan).1
  unfold State.hasDest at hcan
  rw [Bool.and_eq_true, Bool.and_eq_true] at hcan
  exact hcan.1.2

theorem weirRec_prio : ¬ (s.weirRec w).ordinary := fun h => h.2 rfl

/-- A lone record of source 137 with room reaches its owner's priority queue. -/
theorem drain137_lone {s : State} {r : Rec} (hq : s.queue 137 = [r]) (hroom : (s.setQueue 137 []).prioRoom r = true) :
    s.drain137 r.owner = (true, (s.setQueue 137 []).deliver r) := by
  have hmine : [r].filter (fun q => decide (q.owner = r.owner)) = [r] := List.filter_cons_of_pos (decide_eq_true rfl)
  have hrest : [r].filter (fun q => decide (q.owner ≠ r.owner)) = [] := List.filter_cons_of_neg fun h => of_decide_eq_true h rfl
  rw [drain137_eq, hq, hmine, hrest, List.foldl_cons, List.foldl_nil]
  unfold drainStep
  rw [hroom]
  rfl

include hclosed hclk hturn hroom hcan hq hact hresync howe in
/-- The mark's record reaches its owner's priority queue, and streams it held may leave their hold. -/
theorem weirMarkWrite_sends : exec .weirMarkWrite s = .next (((s.marked w ws).deliver (s.weirRec w)).unhold w) := by
  have hemit : (s.marking ws).emitMark w = _ := emitMark_alone (s := s.marking ws) hcan hq hact hresync howe
  have hdrain : ((s.marking ws).emitMark w).drain137 w.owner = (true, (s.marked w ws).deliver (s.weirRec w)) := by
    rw [hemit]
    exact drain137_lone (State.setQueue_queue_same ..) (marked_prioRoom hroom _)
  have hreserve : s.reserveRoom 137 4 = true := by
    unfold State.reserveRoom
    rw [hq]
    rfl
  rw [weirMarkWrite_exec hclosed hclk hturn, if_pos (show (s.marking ws).canEmit 137 w.owner = true from hcan), hdrain, hreserve]
  rfl

end

theorem marked_lastMarkAt (s : State) {w : Weir} {ws : List Weir} : (((s.marked w ws).deliver (s.weirRec w)).unhold w).canal.lastMarkAt = s.now :=
  (unhold_delivery ..).proj (fun t => t.canal.lastMarkAt) (fun _ _ _ _ _ _ _ _ _ _ _ => rfl) |>.trans
    ((deliver_delivery ..).proj (fun t => t.canal.lastMarkAt) fun _ _ _ _ _ _ _ _ _ _ _ => rfl)

section
variable {s : State} {w : Weir} {ws : List Weir} (hcan : s.canEmit 137 w.owner = true)
include hcan

theorem marked_closed (hheld : ∀ src, (s.stream src w.owner).held = false) :
    (((s.marked w ws).deliver (s.weirRec w)).unhold w).canal.closed = ws := by
  have hstream : ∀ src, ((s.marked w ws).stream src w.owner).held = (s.stream src w.owner).held := fun src => by
    refine (congrArg Stream.held (setStream_stream (s.marking ws) 137 w.owner _ src w.owner)).trans ?_
    split
    · next hkey =>
      have hsame : s.stream src w.owner = s.stream 137 w.owner := congrArg (tget s.canal.streams · Stream.zero) hkey
      rw [hsame]
    · rfl
  have hnone : ∀ src, (((s.marked w ws).deliver (s.weirRec w)).stream src w.owner).held = false := fun src =>
    (deliver_prio_held (marked_active hcan) weirRec_prio src w.owner).trans ((hstream src).trans (hheld src))
  rw [unhold_none hnone, deliver_prio_canal (marked_active hcan) weirRec_prio]
  rfl

theorem marked_carries (hroom : s.freeCell (s.basins.head.take 2) ≠ none) :
    (((s.marked w ws).deliver (s.weirRec w)).unhold w).carries w.owner (s.weirRec w) :=
  unhold_keeps w (deliver_prio_carries (marked_active hcan) weirRec_prio (marked_prioRoom hroom _))

end

/-! ## O60 -/

/-- Settles O60: each of the spine's instructions by the lemmas of its part. -/
theorem canalFlow : Obligations.CanalFlow := by
  intro s chain
  refine ⟨fun ch hclk => ?basinAdmit, sourceRecordTimeout_drops s, fun hclk src => ?lossToken, fun idx w hw hclk => ?weirAccumTimeout,
    fun w ws hclosed hclk hturn => ?weirMarkWrite, fun src o hseen hquiet hold hact => ?sourceSilent, fun p hdis hts hdue hnodup => ?standingWeirMark⟩
  case basinAdmit =>
    exact ⟨beforeGrant_nothing (b2n ch), basinAdmit_idle hclk, fun _ _ _ _ hreq hsrc => basinAdmit_grant hclk hreq hsrc,
      fun _ _ _ hk hsrc hq hh halone hr hlen hcls hnone hact h136 h137 => basinAdmit_delivers hclk hk hsrc hq hh halone hr hlen hcls hnone hact
        ⟨hr.symm ▸ h136, hr.symm ▸ h137⟩⟩
  case lossToken =>
    refine ⟨_, lossToken_exec hclk src, takeToken_losses .., takeToken_queue .., takeToken_basins .., fun hnone => ?_, fun l hl =>
      ⟨takeToken_unreported hl, fun hact hkey => takeToken_opens hl hact fun w hw => (weirKey_eq ..).trans (hkey w hw),
        fun hact hkey hfull => ?_, fun w hact hacc hkey hroom => ?_⟩⟩
    · rw [takeToken_nothing hnone]
      exact ⟨rfl, rfl⟩
    · obtain ⟨hopens, hcounts⟩ := takeToken_overflows hl hact (fun w hw => ⟨(weirKey_eq ..).trans (hkey w hw).1, (weirKey_eq ..).trans (hkey w hw).2⟩) hfull
      exact ⟨fun hclosed => hopens fun w hw => (weirKey_eq ..).trans (hclosed w hw),
        fun ⟨w, hw, hk⟩ _ => hcounts ⟨w, hw, (weirKey_eq ..).trans hk⟩⟩
    · have hmine := (weirKey_eq w l.owner src.toNat 1).trans hkey
      exact ⟨fun hfits => takeToken_counts_on hl hact hacc hmine ((covers_iff ..).mpr hfits),
        fun hfits => takeToken_reopens hl hact hacc hmine (fun h => hfits ((covers_iff ..).mp h)) hroom⟩
  case weirAccumTimeout =>
    exact ⟨weirAccumTimeout_closes hw hclk, fun hyoung hlow => ⟨_, weirAccumTimeout_held hw hclk hyoung, fun x hx => closeHeld_low hlow hx⟩,
      fun hyoung hfull => (weirAccumTimeout_held hw hclk hyoung).trans (congrArg Host.Outcome.next (closeHeld_above hfull))⟩
  case weirMarkWrite =>
    refine ⟨weirMarkWrite_discards hclosed hclk hturn, weirMarkWrite_waits hclosed hclk hturn, fun hroom hcan hq hact hresync howe =>
      ⟨_, weirMarkWrite_sends hclosed hclk hturn hroom hcan hq hact hresync howe, marked_lastMarkAt s, marked_closed hcan, fun hlost hflags => ?_⟩⟩
    obtain ⟨c, hc, hr⟩ := marked_carries hcan hroom
    obtain ⟨hl, hcause⟩ := weirRec_payload s hlost hflags
    exact ⟨c, hc, _, hr, rfl, rfl, rfl, rfl, rfl, rfl, hl, hcause⟩
  case sourceSilent =>
    exact ⟨_, sourceSilent_marks hseen hquiet hold hact, unknown_spanning .., fun w hw => unknownMarks_labels hw⟩
  case standingWeirMark =>
    refine ⟨_, standingWeirMark_marks hdis hts hdue, fun w hw => (standing_labels hw).2, fun o ho hact => ?_, fun w hw => ?_⟩
    · rw [standing_of_owner (hnodup.filter _) (List.mem_filter.mpr ⟨ho, hact⟩)]
      exact unknown_spanning ..
    · exact List.mem_filter.mp (standing_labels hw).1

end Sys2Proof.Machine
end

section
/-! SUPPORT. The primitives on lanes (R303 to R305): a vector written lane by lane, a step of a core that changes registers
alone, and the values of the lanes. -/

namespace Sys2Proof.Machine

/-! ## A number and its lanes -/

theorem ofLanes_lt (w : Nat) (l : List Nat) : ofLanes w l < 2 ^ (w * l.length) := by
  induction l with
  | nil => simp [ofLanes]
  | cons x xs ih =>
    have hx : x % 2 ^ w < 2 ^ w := Nat.mod_lt _ (Nat.two_pow_pos w)
    calc ofLanes w (x :: xs) < 2 ^ w * (ofLanes w xs + 1) := by simp only [ofLanes, Nat.mul_add]; omega
      _ ≤ 2 ^ w * 2 ^ (w * xs.length) := Nat.mul_le_mul_left _ ih
      _ = 2 ^ (w * (x :: xs).length) := by rw [← pow_add, List.length_cons]; ring_nf

/-- Lane i of a number made of lanes, whatever stands above them. -/
theorem bits_ofLanes (w : Nat) (l : List Nat) (q : Nat) {i : Nat} (hi : i < l.length) :
    bits (ofLanes w l + 2 ^ (w * l.length) * q) (w * i) w = l[i] % 2 ^ w := by
  induction l generalizing i with
  | nil => simp at hi
  | cons x xs ih =>
    have hsplit : ofLanes w (x :: xs) + 2 ^ (w * (x :: xs).length) * q = x % 2 ^ w + 2 ^ w * (ofLanes w xs + 2 ^ (w * xs.length) * q) := by
      rw [ofLanes, List.length_cons, Nat.mul_succ, pow_add]; ring
    rw [hsplit]
    cases i with
    | zero => simp [bits]
    | succ i =>
      rw [List.getElem_cons_succ, ← ih (by simpa using hi), bits, Nat.mul_succ, Nat.add_comm (w * i), pow_add, ← Nat.div_div_eq_div_mul,
        Nat.add_mul_div_left _ _ (Nat.two_pow_pos w), Nat.div_eq_of_lt (Nat.mod_lt _ (Nat.two_pow_pos w)), Nat.zero_add, bits]

/-- A number whose low k bits are replaced keeps its length. -/
theorem add_high_lt {k n low old : Nat} (hk : k ≤ n) (hlow : low < 2 ^ k) (hold : old < 2 ^ n) : low + 2 ^ k * (old / 2 ^ k) < 2 ^ n := by
  have hfull : 2 ^ n = 2 ^ k * 2 ^ (n - k) := by rw [← pow_add, Nat.add_sub_cancel' hk]
  have hhigh : old / 2 ^ k < 2 ^ (n - k) := Nat.div_lt_of_lt_mul (hfull ▸ hold)
  calc low + 2 ^ k * (old / 2 ^ k) < 2 ^ k * (old / 2 ^ k + 1) := by rw [Nat.mul_succ]; omega
    _ ≤ 2 ^ k * 2 ^ (n - k) := Nat.mul_le_mul_left _ hhigh
    _ = 2 ^ n := hfull.symm

/-- The lanes of a format fit into a vector (R303). -/
theorem laneWidth_mul_laneCount (code : Nat) : laneWidth code * laneCount code ≤ 2048 := by
  unfold laneCount
  split
  case isTrue h => rw [h]; decide
  case isFalse => exact Nat.mul_div_le ..

@[simp] theorem lane_mod (code v i : Nat) : lane code v i % 2 ^ laneWidth code = lane code v i := Nat.mod_mod _ _

theorem lanes_getElem? (code v : Nat) {i : Nat} (hi : i < laneCount code) : (lanes code v)[i]? = some (lane code v i) := by
  simp [lanes, hi]

/-! ## A vector written under the mask -/

/-- What a write leaves in lane i. -/
def putLane (code : Nat) (old : BitVec 2048) (mask : Option (BitVec 256)) (xs : List (Option Nat)) (i : Nat) : Nat :=
  match xs[i]?.getD none with
  | some x => if (match mask with | some m => decide (i < 256) && m.getLsbD i | none => true) then x else lane code old.toNat i
  | none => lane code old.toNat i

section
variable (code : Nat) (old : BitVec 2048) (mask : Option (BitVec 256)) (xs : List (Option Nat))

theorem ofLanes_putLane_lt :
    ofLanes (laneWidth code) ((List.range (laneCount code)).map (putLane code old mask xs)) < 2 ^ (laneWidth code * laneCount code) := by
  simpa using ofLanes_lt (laneWidth code) ((List.range (laneCount code)).map (putLane code old mask xs))

/-- The written lanes below, the old bits above them. -/
theorem toNat_putLanes : (putLanes code old mask xs).toNat =
    ofLanes (laneWidth code) ((List.range (laneCount code)).map (putLane code old mask xs)) +
      2 ^ (laneWidth code * laneCount code) * (old.toNat / 2 ^ (laneWidth code * laneCount code)) := by
  have hput : putLanes code old mask xs = BitVec.ofNat 2048 (ofLanes (laneWidth code) ((List.range (laneCount code)).map (putLane code old mask xs)) +
    old.toNat / 2 ^ (laneWidth code * laneCount code) * 2 ^ (laneWidth code * laneCount code)) := rfl
  rw [hput, BitVec.toNat_ofNat, Nat.mul_comm (old.toNat / _)]
  exact Nat.mod_eq_of_lt (add_high_lt (laneWidth_mul_laneCount code) (ofLanes_putLane_lt ..) old.isLt)

theorem putLanes_above : (putLanes code old mask xs).toNat / 2 ^ (laneWidth code * laneCount code) =
    old.toNat / 2 ^ (laneWidth code * laneCount code) := by
  rw [toNat_putLanes, Nat.add_mul_div_left _ _ (Nat.two_pow_pos _), Nat.div_eq_of_lt (ofLanes_putLane_lt ..), Nat.zero_add]

theorem lane_putLanes {i : Nat} (hi : i < laneCount code) :
    lane code (putLanes code old mask xs).toNat i = putLane code old mask xs i % 2 ^ laneWidth code := by
  have h := bits_ofLanes (laneWidth code) ((List.range (laneCount code)).map (putLane code old mask xs))
    (old.toNat / 2 ^ (laneWidth code * laneCount code)) (i := i) (by simpa using hi)
  rw [lane, toNat_putLanes]
  simpa using h

end

theorem putLane_masked {e : StepEnv} {x : Core} {i : Nat} (code : Nat) (old : BitVec 2048) (xs : List (Option Nat))
    (h : e.masked x i = true) : putLane code old (e.mask x) xs i = lane code old.toNat i := by
  simp only [StepEnv.masked, Bool.and_eq_true, Bool.not_eq_true'] at h
  obtain ⟨hmsk, hbit⟩ := h
  cases hx : xs[i]?.getD none <;> simp [putLane, StepEnv.mask, hmsk, hbit, hx]

theorem putLane_open {e : StepEnv} {x : Core} {i n : Nat} (code : Nat) (old : BitVec 2048) {xs : List (Option Nat)}
    (h : e.masked x i = false) (hx : xs[i]?.getD none = some n) : putLane code old (e.mask x) xs i = n := by
  cases hmsk : e.st.msk with
  | false => simp [putLane, StepEnv.mask, hmsk, hx]
  | true =>
    have hbit : (decide (i < 256) && (x.M 0).getLsbD i) = true := by simpa [StepEnv.masked, hmsk] using h
    simp [putLane, StepEnv.mask, hmsk, hx, hbit]

/-! ## The values of lanes -/

/-- A comparison that holds of two unequal values alone, none of them a NaN. -/
def StrictLess (less : FVal → FVal → Bool) : Prop :=
  ∀ p q, less p q = true → p.isNan = false ∧ q.isNan = false ∧ eqV p q = false ∧ eqV q p = false

theorem ltV_strict : StrictLess ltV := by
  intro p q h
  cases p <;> cases q <;> simp_all [ltV, eqV, FVal.isNan]
  grind

theorem gtV_strict : StrictLess fun p q => ltV q p := fun p q h =>
  have ⟨hq, hp, hqp, hpq⟩ := ltV_strict q p h
  ⟨hp, hq, hpq, hqp⟩

/-- What the manual states of MIN and MAX: the lane that `less` puts first, and either of two equal ones; nothing of a NaN. -/
def firstLane (less : FVal → FVal → Bool) (p q : FVal) (a b : Nat) : Option Nat :=
  if less p q = true then some a else if less q p = true then some b else if a = b ∧ p.isNan = false then some a else none

/-- The lane that MIN and MAX write (log 32). -/
def pickLane (e : StepEnv) (less : FVal → FVal → Bool) (i a b : Nat) : Nat :=
  let p := laneVal e.fmt a
  let q := laneVal e.fmt b
  if p.isNan || q.isNan then e.freeLane e.fmt i
  else if eqV p q then (if bits e.free (64 * i) 1 = 0 then a else b)
  else if less p q then a else b

theorem pick_eq (e : StepEnv) (x : Core) (less : FVal → FVal → Bool) : e.pick x less = e.map2 x (pickLane e less) := rfl

theorem pickLane_of_firstLane {e : StepEnv} {less : FVal → FVal → Bool} {i a b n : Nat} (hless : StrictLess less)
    (h : firstLane less (laneVal e.fmt a) (laneVal e.fmt b) a b = some n) : pickLane e less i a b = n := by
  unfold firstLane at h
  split at h
  case isTrue hab =>
    obtain ⟨hp, hq, hne, -⟩ := hless _ _ hab
    simp_all [pickLane]
  case isFalse hab =>
    split at h
    case isTrue hba =>
      obtain ⟨hq, hp, -, hne⟩ := hless _ _ hba
      simp_all [pickLane]
    case isFalse =>
      split at h
      case isTrue heq =>
        obtain ⟨rfl, hnan⟩ := heq
        simp_all [pickLane]
      case isFalse => cases h

/-- What the manual states of BITOP: nothing of a shift by the width or more, and of no other operation. -/
def statedBitop (k w a b : Nat) : Option Nat :=
  if k = 0 then some (a &&& b) else if k = 1 then some (a ||| b) else if k = 2 then some (a ^^^ b)
  else if k = 3 ∧ b < w then some (a * 2 ^ b) else if k = 4 ∧ b < w then some (a / 2 ^ b) else none

theorem bitopLane_of_stated {k w a b free n : Nat} (h : statedBitop k w a b = some n) : bitopLane k w a b free % 2 ^ w = n % 2 ^ w := by
  unfold statedBitop at h
  match k with
  | 0 | 1 | 2 => simp_all [bitopLane]
  | 3 | 4 => by_cases hb : b < w <;> simp_all [bitopLane]
  | _ + 5 => simp at h

/-! ## A step that changes the core's registers alone -/

section
variable {s : State} {c : Nat} {r : Running} {st : IStep}

/-- The step that core c stands at, with what the descriptor fills in and its free values. -/
abbrev State.envAt (s : State) (c : Nat) (r : Running) (st : IStep) : StepEnv :=
  envOf r.op.desc st (Config.freeValue (r.at_ c (s.core c)))

variable {code : Nat} {ok : Nat → Bool} {g : StepEnv → Core → Core × Bool} (hn : s.nextStep c = some (r, st)) (hp : st.prim = code)
include hn hp

theorem regStep_retires {y : Core} (hok : ok (s.envAt c r st).fmt = true) (hg : g (s.envAt c r st) (s.core c) = (y, false)) :
    s.regStep code c ok g = s.retire c y := by
  simp [State.regStep, State.runStep, hn, hp, hok, hg]

/-- A format that the primitive does not allow stops the op (R307, log 32). -/
theorem regStep_stops (hok : ok (s.envAt c r st).fmt = false) : s.regStep code c ok g = s.opFails .badParam (s.core c).pc := by
  simp [State.regStep, State.runStep, State.faultAt, hn, hp, hok]

variable {i : Instr} (hx : exec i s = .next (s.regStep code c ok g))
include hx

theorem exec_stops (hok : ok (s.envAt c r st).fmt = false) : exec i s = .next (s.opFails .badParam (s.core c).pc) :=
  hx.trans (congrArg _ (regStep_stops hn hp hok))

variable (hok : ok (s.envAt c r st).fmt = true)
include hok

/-- A step that writes lanes does what `WritesLanes` says when every stated lane is among those it writes. -/
theorem exec_writes {out : Nat} {xs : List (Option Nat)} {p : Bool} {f : Nat → Option Nat}
    (hg : g (s.envAt c r st) (s.core c) = ((s.envAt c r st).write (s.core c) out xs p, false))
    (hf : ∀ i < laneCount out, ∀ n, f i = some n → ∃ m, xs[i]?.getD none = some m ∧ m % 2 ^ laneWidth out = n % 2 ^ laneWidth out) :
    WritesLanes (exec i s) s c (s.envAt c r st) out f p := by
  refine ⟨_, hx.trans (congrArg _ (regStep_retires hn hp hok hg)), putLanes_above .., fun i hi => ⟨fun hmask => ?_, fun hmask n hfi => ?_⟩⟩
  · rw [lane_putLanes _ _ _ _ hi, putLane_masked _ _ _ hmask, lane_mod]
    rfl
  · obtain ⟨m, hm, hmn⟩ := hf i hi n hfi
    rw [lane_putLanes _ _ _ _ hi, putLane_open _ _ hmask hm, hmn]

/-- Lane by lane from Va. -/
theorem exec_map1 {k : Nat → Nat → Nat} {f : Nat → Option Nat}
    (hg : g (s.envAt c r st) (s.core c) = ((s.envAt c r st).map1 (s.core c) k, false))
    (hf : ∀ i n, f i = some n → k i (lane (s.envAt c r st).fmt ((s.core c).V st.a) i) = n) :
    WritesLanes (exec i s) s c (s.envAt c r st) (s.envAt c r st).fmt f ((s.core c).psnV st.a) := by
  refine exec_writes hn hp hx hok hg fun i hi n hfi => ⟨n, ?_, rfl⟩
  rw [List.getElem?_mapIdx, lanes_getElem? _ _ hi, ← hf i n hfi]
  rfl

/-- Lane by lane from Va and Vb. -/
theorem exec_map2 {k : Nat → Nat → Nat → Nat} {f : Nat → Option Nat}
    (hg : g (s.envAt c r st) (s.core c) = ((s.envAt c r st).map2 (s.core c) k, false))
    (hf : ∀ i n, f i = some n → k i (lane (s.envAt c r st).fmt ((s.core c).V st.a) i) (lane (s.envAt c r st).fmt ((s.core c).V st.b) i) %
      2 ^ laneWidth (s.envAt c r st).fmt = n % 2 ^ laneWidth (s.envAt c r st).fmt) :
    WritesLanes (exec i s) s c (s.envAt c r st) (s.envAt c r st).fmt f ((s.core c).psnV st.a || (s.core c).psnV st.b) := by
  refine exec_writes hn hp hx hok hg fun i hi n hfi => ⟨_, ?_, hf i n hfi⟩
  rw [List.getElem?_mapIdx, lanes_getElem? _ _ hi]
  rfl

/-- One operation on values in every lane of Va and Vb, rounded once (R299). -/
theorem exec_arith {k : FVal → FVal → FVal} (hg : g (s.envAt c r st) (s.core c) = ((s.envAt c r st).arith (s.core c) k, false)) :
    WritesLanes (exec i s) s c (s.envAt c r st) (s.envAt c r st).fmt
      (fun i => some (roundTo (s.envAt c r st).fmt (k ((s.envAt c r st).va (s.core c) i) ((s.envAt c r st).vb (s.core c) i))))
      ((s.core c).psnV st.a || (s.core c).psnV st.b) :=
  exec_map2 hn hp hx hok hg fun _ _ hfi => congrArg (· % _) (Option.some.inj hfi)

/-- In every lane the one of Va and Vb that comes first. -/
theorem exec_pick {less : FVal → FVal → Bool} (hless : StrictLess less)
    (hg : g (s.envAt c r st) (s.core c) = ((s.envAt c r st).pick (s.core c) less, false)) :
    WritesLanes (exec i s) s c (s.envAt c r st) (s.envAt c r st).fmt
      (fun i => firstLane less ((s.envAt c r st).va (s.core c) i) ((s.envAt c r st).vb (s.core c) i)
        (lane (s.envAt c r st).fmt ((s.core c).V st.a) i) (lane (s.envAt c r st).fmt ((s.core c).V st.b) i))
      ((s.core c).psnV st.a || (s.core c).psnV st.b) :=
  exec_map2 hn hp hx hok (hg.trans (congrArg (·, false) (pick_eq ..))) fun _ _ hfi => congrArg (· % _) (pickLane_of_firstLane hless hfi)

/-- Lanes of fmt2 from a source of n lanes; those beyond it have no stated value (log 32). -/
theorem exec_widen {n : Nat} {k : Nat → Nat} {p : Bool}
    (hg : g (s.envAt c r st) (s.core c) = ((s.envAt c r st).write (s.core c) st.fmt2 ((s.envAt c r st).widen n k) p, false)) :
    WritesLanes (exec i s) s c (s.envAt c r st) st.fmt2 (fun i => if i < n then some (k i) else none) p := by
  refine exec_writes hn hp hx hok hg fun i hi v hfi => ⟨v, ?_, rfl⟩
  have hin : i < laneCount (s.envAt c r st).st.fmt2 := hi
  by_cases hlt : i < n <;> simp_all [StepEnv.widen]

/-- A value for every lane by its number. -/
theorem exec_range {out : Nat} {k : Nat → Nat} {p : Bool} {f : Nat → Option Nat}
    (hg : g (s.envAt c r st) (s.core c) =
      ((s.envAt c r st).write (s.core c) out ((List.range (laneCount out)).map fun i => some (k i)) p, false))
    (hf : ∀ i n, f i = some n → k i = n) : WritesLanes (exec i s) s c (s.envAt c r st) out f p := by
  refine exec_writes hn hp hx hok hg fun i hi n hfi => ⟨n, ?_, rfl⟩
  rw [List.getElem?_map, List.getElem?_range hi, ← hf i n hfi]
  rfl

/-- A value for every lane of Va, taken in a format of the primitive's own. -/
theorem exec_map {out : Nat} {k : Nat → Nat} {p : Bool} {f : Nat → Option Nat}
    (hg : g (s.envAt c r st) (s.core c) =
      ((s.envAt c r st).write (s.core c) out ((lanes out ((s.core c).V st.a)).map fun a => some (k a)) p, false))
    (hf : ∀ i n, f i = some n → k (lane out ((s.core c).V st.a) i) = n) : WritesLanes (exec i s) s c (s.envAt c r st) out f p := by
  refine exec_writes hn hp hx hok hg fun i hi n hfi => ⟨n, ?_, rfl⟩
  rw [List.getElem?_map, lanes_getElem? _ _ hi, ← hf i n hfi]
  rfl

end

/-! ## O46 -/

theorem anyFmt_true {f : Nat} (h : f < 15) : anyFmt f = true := decide_eq_true h
theorem anyFmt_false {f : Nat} (h : 15 ≤ f) : anyFmt f = false := decide_eq_false (Nat.not_lt.mpr h)
theorem logFmt_true {f : Nat} (h : f < 3 ∨ f = 14) : logFmt f = true := by simpa [logFmt] using h
theorem logFmt_false {f : Nat} (h : 3 ≤ f) (h14 : f ≠ 14) : logFmt f = false := by simp [logFmt, h14]; omega

/-- Settles O46: each primitive's step by the lemma of its shape, and the values of MIN, MAX and BITOP by theirs. -/
theorem laneSteps : Obligations.LaneSteps := by
  intro s c r st hn x e n w la lb pa pab
  refine ⟨?add, ?sub, ?mul, ?fma, ?div, ?sqrt, ?min, ?max, ?abs, ?exp2, ?log2, ?cvt, ?quant, ?deq, ?mxapply, ?sel, ?bcast, ?bitop, ?field,
    ?qtref, ?anyFmt, ?floatFmt, ?logFmt⟩
  case add => exact fun hp hf => exec_arith hn hp rfl (anyFmt_true hf) rfl
  case sub => exact fun hp hf => exec_arith (k := fun p q => addV p (negV q)) hn hp rfl (anyFmt_true hf) rfl
  case mul => exact fun hp hf => exec_arith hn hp rfl (anyFmt_true hf) rfl
  case fma =>
    refine fun hp hf => exec_writes hn hp rfl (anyFmt_true hf) rfl fun i hi v hv => ⟨v, ?_, rfl⟩
    simp only [Option.ite_none_left_eq_some] at hv
    obtain ⟨hin, hv⟩ := hv
    rw [List.getElem?_mapIdx, lanes_getElem? _ _ hi, ← hv]
    exact congrArg some (if_neg hin)
  case div => exact fun hp hf => exec_arith hn hp rfl hf rfl
  case sqrt => exact fun hp hf => exec_map1 hn hp rfl hf rfl fun _ _ h => Option.some.inj h
  case min => exact fun hp hf => exec_pick hn hp rfl (anyFmt_true hf) ltV_strict rfl
  case max => exact fun hp hf => exec_pick hn hp rfl (anyFmt_true hf) gtV_strict rfl
  case abs =>
    refine fun hp hf => exec_map1 hn hp rfl (anyFmt_true hf) rfl fun i v hv => ?_
    simp only [Option.ite_none_left_eq_some] at hv
    obtain ⟨hin, hv⟩ := hv
    exact (if_neg hin).trans (Option.some.inj hv)
  case exp2 => exact fun hp hf => exec_map1 hn hp rfl (logFmt_true hf) rfl fun _ _ h => Option.some.inj h
  case log2 => exact fun hp hf => exec_map1 hn hp rfl (logFmt_true hf) rfl fun _ _ h => Option.some.inj h
  case cvt => exact fun hp hf => exec_widen hn hp rfl (anyFmt_true hf) rfl
  case quant => exact fun hp hf => exec_widen hn hp rfl hf rfl
  case deq => exact fun hp hf => exec_widen hn hp rfl hf rfl
  case mxapply => exact fun hp hf => exec_widen hn hp rfl hf rfl
  case sel =>
    refine fun hp hf => exec_range hn hp rfl (anyFmt_true hf) rfl fun i v hv => ?_
    simp only [Bool.and_eq_true, decide_eq_true_eq]
    exact Option.some.inj hv
  case bcast => exact fun hp hf => exec_range hn hp rfl (anyFmt_true hf) rfl fun _ _ h => Option.some.inj h
  case bitop =>
    exact fun hp hf => exec_map2 (k := fun i a b => bitopLane e.st.imm (laneWidth e.fmt) a b (e.freeLane e.fmt i)) hn hp rfl hf rfl
      fun _ _ h => bitopLane_of_stated h
  case field => exact fun hp => exec_map hn hp rfl rfl rfl fun _ _ h => Option.some.inj h
  case qtref => exact fun hp => exec_map hn hp rfl rfl rfl fun _ _ h => Option.some.inj h
  case anyFmt =>
    intro q hq hp hf
    simp only [List.mem_cons, List.not_mem_nil, or_false] at hq
    rcases hq with rfl | rfl | rfl | rfl | rfl | rfl | rfl | rfl | rfl | rfl <;> exact exec_stops hn hp rfl (anyFmt_false hf)
  case floatFmt =>
    intro q hq hp hf
    simp only [List.mem_cons, List.not_mem_nil, or_false] at hq
    rcases hq with rfl | rfl | rfl <;> exact exec_stops hn hp rfl hf
  case logFmt =>
    intro q hq hp hf h14
    simp only [List.mem_cons, List.not_mem_nil, or_false] at hq
    rcases hq with rfl | rfl <;> exact exec_stops hn hp rfl (logFmt_false hf h14)

end Sys2Proof.Machine
end

section
/-! SUPPORT. The sluice and the ledger: what a reading of stored words leaves alone, the packets 0x30 to 0x38, and the ledger's
freeze, seal, summary and read-out (R211, R224, R227, R231 to R241). -/

namespace Sys2Proof.Machine

/-! ## What a reading of stored words leaves alone -/

/-- The second state differs from the first in stored words and their banks, overflow bits and raises alone. -/
def Reads (s t : State) : Prop := t = { s with ecc := t.ecc, win := t.win, fc := t.fc }

theorem Reads.rfl {s : State} : Reads s s := Eq.refl s

/-- A state written out with what a reading changes. -/
theorem Reads.parts {s : State} {ecc : Ecc} {win : Win} {fc : Fc} : Reads s { s with ecc := ecc, win := win, fc := fc } := Eq.refl _

theorem Reads.trans {s t u : State} (h : Reads s t) (k : Reads t u) : Reads s u := by
  unfold Reads at *
  rw [k, h]

theorem Reads.ite {s a b : State} {c : Prop} [Decidable c] (ha : Reads s a) (hb : Reads s b) : Reads s (if c then a else b) := by
  split <;> assumption

theorem Reads.foldl {α : Type} {f : State → α → State} (h : ∀ s a, Reads s (f s a)) (l : List α) (s : State) : Reads s (l.foldl f s) := by
  induction l generalizing s with
  | nil => exact .rfl
  | cons a l ih => exact (h s a).trans (ih _)

theorem Reads.foldl_snd {α β : Type} {f : β × State → α → β × State} (h : ∀ x a, Reads x.2 (f x a).2) (l : List α) (b : β) (s : State) :
    Reads s (l.foldl f (b, s)).2 := by
  induction l generalizing b s with
  | nil => exact .rfl
  | cons a l ih => exact (h (b, s) a).trans (ih _ _)

theorem Reads.ledger {s t : State} (h : Reads s t) : t.ledger = s.ledger := by rw [Reads] at h; rw [h]
theorem Reads.lb {s t : State} (h : Reads s t) : t.lb = s.lb := by rw [Reads] at h; rw [h]

theorem raise_reads (s : State) (code unit detail : Nat) : Reads s (s.raise code unit detail) := Eq.refl _
theorem setBank_reads (s : State) (k : Nat) (x : Bank) : Reads s (s.setBank k x) := Eq.refl _
theorem poisonWord_reads (s : State) (b : Nat) (copy : Bool) (w : Nat) : Reads s (s.poisonWord b copy w) := Eq.refl _
theorem dropWord_reads (s : State) (b : Nat) (copy : Bool) (w : Nat) : Reads s (s.dropWord b copy w) := Eq.refl _

theorem countCe_reads (s : State) (b : Nat) (copy : Bool) : Reads s (s.countCe b copy) := by
  unfold State.countCe
  extract_lets _ _ t
  have ht : Reads s t := setBank_reads ..
  exact .ite ht (.ite ht (ht.trans .parts))

/-- An uncorrectable word is counted and poisoned, and raises. -/
theorem poisoned_reads (s : State) (b : Nat) (copy : Bool) (w code : Nat) :
    Reads s (((s.countUe b copy w).poisonWord b copy w).raise code b w) :=
  (setBank_reads ..).trans ((poisonWord_reads ..).trans (raise_reads ..))

theorem rmw_reads (s : State) (b : Nat) (e : Merge) : Reads s (s.rmw b e).2 := by
  unfold State.rmw
  extract_lets t
  have ht : Reads s t := setBank_reads ..
  split
  · exact ht
  · split
    · exact ht.trans (dropWord_reads ..)
    · exact ht.trans ((countCe_reads ..).trans (dropWord_reads ..))
    · have hue := ht.trans (poisoned_reads t b false e.word 0xB01)
      exact .ite (hue.trans (raise_reads ..)) hue
    · exact ht

theorem readWord_reads (s : State) (b : Nat) (copy : Bool) (w : Nat) : Reads s (s.readWord b copy w).2 := by
  unfold State.readWord
  split
  · exact .rfl
  · split
    · exact .rfl
    · split
      · exact .rfl
      · exact countCe_reads ..
      · exact poisoned_reads ..
      · exact .rfl

theorem readRange_reads (s : State) (b w n : Nat) : Reads s (s.readRange b w n).2 := by
  unfold State.readRange
  split
  · exact .rfl
  · refine .foldl_snd (fun x e => ?_) _ _ _
    exact readWord_reads x.2 b false (e.1 - eccKey b false 0)

/-- A range is read after its open entries are completed (R444). -/
theorem fetch_reads (s : State) (b w n : Nat) : Reads s (s.fetch b w n).2 :=
  (Reads.foldl (fun _ _ => rmw_reads ..) _ _).trans (readRange_reads ..)

/-- A piece read uncorrectable raises LEDGER_INTEGRITY besides (R239). -/
theorem readPiece_reads (s : State) (e : Nat × Nat × Nat) : Reads s (s.readPiece e).2 :=
  .ite (fetch_reads ..) ((fetch_reads ..).trans (raise_reads ..))

theorem readLedger_reads (s : State) (r : LRec) : Reads s (s.readLedger r).2 := by
  refine .foldl_snd (fun x e => ?_) r.at_ false s
  exact readPiece_reads x.2 e

theorem ownRecs_reads (s : State) (o : Nat) : Reads s (s.ownRecs o).2 := by
  refine .foldl_snd (fun x e => ?_) _ [] s
  exact readLedger_reads x.2 e

/-- A summary is read from the ledger and takes one free value (R240, log 24). -/
theorem summary_lb (s : State) : s.summary.2.lb = s.lb :=
  (Reads.foldl_snd (f := State.summaryPart _) (fun x o => ownRecs_reads x.2 o) _ _ s.fresh.2).lb

/-! ## The packets of the sluice (R211, R220, R224, R227) -/

theorem chk_passes {bad : Bool} (h : bad = false) (st : Status) (i : Nat) (k : Verdict) : chk bad st i k = k := by
  unfold chk
  rw [h]
  rfl

/-- The weights of the pounds and of the two block ports that an EXPORT_SET gives (R206). -/
def exportWeights (pk : Pkt) : Tab Nat :=
  tset (tset ((List.range 8).foldl (fun t k => tset t k (fld (pk.p 3) (4 * k) 4 + 1) 1) []) 8 (fld (pk.p 4) 0 4 + 1) 1) 9 (fld (pk.p 4) 4 4 + 1) 1

theorem exportWeights_pound (pk : Pkt) {k : Nat} (hk : k < 8) : tget (exportWeights pk) k 1 = fld (pk.p 3) (4 * k) 4 + 1 := by
  unfold exportWeights
  rw [tget_tset_other _ _ _ _ _ (by omega), tget_tset_other _ _ _ _ _ (by omega)]
  exact tget_foldl_tset_range (fun k => fld (pk.p 3) (4 * k) 4 + 1) 1 8 k hk

theorem exportWeights_port0 (pk : Pkt) : tget (exportWeights pk) 8 1 = fld (pk.p 4) 0 4 + 1 :=
  (tget_tset_other _ _ _ _ _ (by decide)).trans (tget_tset_same ..)

theorem exportWeights_port1 (pk : Pkt) : tget (exportWeights pk) 9 1 = fld (pk.p 4) 4 4 + 1 := tget_tset_same ..

/-- Settles O22: each body by the checks that its operands pass. -/
theorem exportPackets : Obligations.ExportPackets := by
  intro pk s
  refine ⟨?partition, ?owner, ?port, ?flush⟩
  case partition =>
    rintro h o n rfl rfl hnamed hmax hfits
    refine h.answers (by decide) ((concern_named hnamed).trans ?_)
    rw [chk_passes (by simpa using hmax)]
    exact chk_passes (decide_eq_false (not_lt.mpr hfits)) ..
  case owner =>
    rintro h o rfl hnamed hlo hhi hbase
    refine h.answers (by decide) ((concern_named hnamed).trans ?_)
    rw [chk_passes (by simp [hlo, hhi]), chk_passes (by simpa using hbase)]
  case port =>
    rintro h share rfl hcap hshare hlo hhi
    refine ⟨exportWeights pk, h.answers (by decide) ?_, fun k hk => exportWeights_pound pk hk, exportWeights_port0 pk, exportWeights_port1 pk⟩
    unfold bodyExportSet
    dsimp only
    rw [chk_passes (by split_ifs <;> simp; omega), chk_passes (by simpa using hshare), chk_passes (by simp; omega)]
    rfl
  case flush =>
    rintro h o rfl hnamed hown
    refine h.answers (by decide) ((concern_named hnamed).trans ?_)
    exact chk_passes (by rcases hown with h | h <;> simp [h]) ..

/-! ## The packets of the ledger (R231 to R234, R237, R238) -/

/-- A trigger is ignored once the ledger has left ARMED, but for one of the same instant with a higher code (R234). -/
theorem ignoresTrigger_eq (s : State) (trig : Nat) : b2n (s.ignoresTrigger trig) =
    if s.ledger.st = .armed ∨ (s.ledger.st = .post ∧ s.ledger.t0At = s.now ∧ trig < s.ledger.trig) then 0 else 1 := by
  have hign : s.ignoresTrigger trig = true ↔ ¬ (s.ledger.st = .armed ∨ (s.ledger.st = .post ∧ s.ledger.t0At = s.now ∧ trig < s.ledger.trig)) := by
    simp only [State.ignoresTrigger, Bool.and_eq_true, Bool.not_eq_true', ← Bool.not_eq_true, decide_eq_true_eq, not_or, and_assoc]
  simp only [b2n, hign, ite_not]

/-- A read-out of a frozen ledger takes the next number of its owner and waits with the pages that it writes (R238). -/
theorem bodyLedgerRead_accepts {pk : Pkt} {s : State} (slot : Nat) (hst : s.ledger.st = .frozen ∨ s.ledger.st = .seald)
    (hkey : pk.o = hm ∨ (s.memKey pk.o).isSome = true) (hbase : pk.addr 1 % 4096 = 0) (hno : tget s.ledger.readNext pk.o 0 ≤ 65535) :
    ∃ t pages, bodyLedgerRead pk slot s = .accept [] t ∧ t.ledger = { s.ledger with
      readNext := tset s.ledger.readNext pk.o (tget s.ledger.readNext pk.o 0 + 1) 0
      jobs := s.ledger.jobs ++ [(pk.o, pk.seq, slot, pages, min pages (fld (pk.p 3) 0 16), s.ledger.freezeNo.toNat)] } := by
  unfold bodyLedgerRead
  extract_lets o l no r ps ws t src
  have hsrc : src = s.ledger := by
    refine (foldl_proj State.ledger _ (fun t e => ?_) ws r.2).trans (ownRecs_reads s o).ledger
    rfl
  have hlen : ws.length = min ps.length (fld (pk.p 3) 0 16) := by
    simp only [ws, List.length_take, List.length_mapIdx, min_comm]
  rw [chk_passes (by rcases hst with h | h <;> simp [l, h]), chk_passes (by rcases hkey with h | h <;> simp_all [o, hm]),
    chk_passes (by simpa using hbase), chk_passes (by simpa using hno)]
  refine ⟨_, ps.length, rfl, ?_⟩
  rw [hsrc, hlen]

/-- Settles O23: each body by the checks that its operands pass; a read-out leaves the records as they are. -/
theorem ledgerPackets : Obligations.LedgerPackets := by
  intro pk s
  refine ⟨?set, ?trigger, ?release, ?read, ?status⟩
  case set =>
    intro h hpost hlo hhi
    refine ⟨_, fun o ho => tget_foldl_tset_range (fun o => BitVec.ofNat 4 (fld (pk.p (1 + o / 8)) (4 * (o % 8)) 4)) 0 17 o ho,
      h.answers (by decide) ?_⟩
    unfold bodyLedgerSet
    rw [chk_passes (by simpa using hpost), chk_passes (by simp; omega)]
  case trigger =>
    intro h
    refine h.answers (by decide) ?_
    unfold bodyLedgerTrigger
    rw [ignoresTrigger_eq]
    rfl
  case release =>
    intro h hjobs
    exact ⟨State.ledgerRelease, h.answers (by decide) (chk_passes (by simp [hjobs]) ..), rfl, rfl, rfl, rfl, rfl, rfl, rfl, rfl⟩
  case read =>
    intro h hst hkey hbase hno
    obtain ⟨t, pages, hbody, hl⟩ := bodyLedgerRead_accepts (s := s.rung specLedgerRead pk) (slotFor specLedgerRead pk s) hst hkey hbase hno
    refine ⟨t, h.accepts (f := fun _ _ => t) hbody, ?_, ?_, ?_, pages, _, ?_, rfl⟩
    all_goals rw [hl]
    · exact tget_tset_same ..
    all_goals rfl
  case status =>
    intro h
    exact h.answers (by decide) rfl

/-! ## The ledger's events (R232, R235, R236, R238, R240) -/

theorem foldl_add_filter_le {α : Type} (p : α → Bool) (f : α → Nat) (l : List α) :
    (l.filter p).foldl (fun a x => a + f x) 0 ≤ l.foldl (fun a x => a + f x) 0 := by
  have hsum (m : List α) : m.foldl (fun a x => a + f x) 0 = (m.map f).sum := by
    rw [List.sum_eq_foldl, List.foldl_map]
  rw [hsum, hsum]
  exact (List.filter_sublist.map f).sum_le_sum fun _ _ => Nat.zero_le _

theorem exec_ledgerFreeze {s : State} (hst : s.ledger.st = .post) (hin : s.ledger.trigIn = true) (hpost : s.ledger.post ≤ s.ledger.postBytes) :
    exec .ledgerFreeze s = .next s.freeze :=
  congrArg Host.Outcome.next (if_pos (by simp [hst, hin, hpost]))

theorem exec_ledgerPostTimeout {s : State} (hup : s.lk.st = .underway) (hst : s.ledger.st = .post)
    (hlate : s.ledger.t0At + s.ledger.cfg.limit * 1000 ≤ s.now) : exec .ledgerPostTimeout s = .next s.freeze :=
  congrArg Host.Outcome.next (if_pos (by simp [State.fastClocks, hup, hst, hlate]))

/-- The key store is asked, and answers. -/
theorem askKey_answered {s : State} (label : Nat) (h : s.io.ksErr = false) :
    s.askKey label = { s with io := { s.io with ksLabel := BitVec.ofNat 8 label } } := by
  unfold State.askKey
  exact if_neg (by simp [h])

theorem exec_ledgerSeal_unkeyed {s : State} (hup : s.lk.st = .underway) (hst : s.ledger.st = .frozen) (hks : s.io.ksErr = true) :
    exec .ledgerSeal s = .next (s.askKey 2) := by
  change execLedgerSeal s = _
  unfold execLedgerSeal
  rw [if_neg (by simp [State.fastClocks, hup, hst]), if_pos hks]

/-- The digest of an owner's records (R236). -/
def Ledger.digest (l : Ledger) (o : Nat) : W256 :=
  Config.sha256 ((l.recs.filter (fun r => r.owner = o)).flatMap (fun r => bytes64 r.words))

/-- The digests of all owners (R236). -/
def Ledger.digests (l : Ledger) : Tab W256 := (List.range 17).foldl (fun t o => tset t o (l.digest o) 0) []

/-- The seal block that a frozen ledger gets (R236). -/
def Ledger.sealBlock (l : Ledger) : Seal :=
  let total := l.recs.foldl (fun a r => a + r.bytes) 0
  let after := (l.recs.filter (fun r => r.post)).foldl (fun a r => a + r.bytes) 0
  let er := match l.sealBlk with | some b => if b.freeze = l.freezeNo then b.erased else 0 | none => 0
  Seal.signed ⟨l.freezeNo, l.trig, l.t0, l.epoch0, total - after, after, l.digests, er, 0⟩

/-- A seal block's HMAC is over its other fields alone (R236). -/
theorem signed_mac (b : Seal) : b.signed.mac = Config.hmac (Config.keyStore 2) b.signed.bytes := rfl

theorem sealBlock_sizes (l : Ledger) : l.sealBlock.before + l.sealBlock.after = l.recs.foldl (fun a r => a + r.bytes) 0 :=
  Nat.sub_add_cancel (foldl_add_filter_le ..)

theorem sealBlock_digest (l : Ledger) {o : Nat} (ho : o < 17) : tget l.sealBlock.digests o 0 = l.digest o := by
  simp only [Ledger.sealBlock, Seal.signed]
  exact tget_foldl_tset_range l.digest 0 17 o ho

theorem exec_ledgerSeal {s : State} (hup : s.lk.st = .underway) (hst : s.ledger.st = .frozen) (hks : s.io.ksErr = false) :
    exec .ledgerSeal s = .next ({ (s.askKey 2).writeRange 33 0 64 with
      ledger := { s.ledger with st := .seald, sealBlk := some s.ledger.sealBlock, summaryPending := true } }.setIrq hm 8) := by
  change execLedgerSeal s = _
  unfold execLedgerSeal
  rw [if_neg (by simp [State.fastClocks, hup, hst]), if_neg (by simp [hks])]
  rfl

theorem lbAccess_present {s : State} (h : s.lb.present = true) :
    s.lbAccess = (true, ({ s with lb := { s.lb with fails := [], down := false } }).setPersist 0x203 0 false) := if_pos h

/-- The Logbook answers, and the summary that it is to hold leaves it as it was. -/
theorem summary_lb_present {s : State} (hlb : s.lb.present = true) : s.lbAccess.2.summary.2.lb = { s.lb with fails := [], down := false } := by
  rw [summary_lb, lbAccess_present hlb]
  rfl

theorem exec_ledgerSummaryWrite {s : State} (hpend : s.ledger.summaryPending = true) (hlb : s.lb.present = true) :
    ∃ l, l.summaryPending = false ∧ exec .ledgerSummaryWrite s = .next { s.lbAccess.2.summary.2 with
      lb := { s.lb with
        fails := [], down := false, summaryNext := s.lb.summaryNext + 1
        summaries := tset s.lb.summaries (s.lb.summaryNext % 8) (s.lbAccess.2.summary.1.take 259072) [] }
      ledger := l } := by
  change ∃ l, _ ∧ execLedgerSummaryWrite s = _
  unfold execLedgerSummaryWrite
  rw [if_neg (by simp [hpend]), if_neg (by simp [lbAccess_present hlb])]
  dsimp only
  rw [summary_lb_present hlb]
  exact ⟨_, rfl, rfl⟩

theorem exec_ledgerReadDone {s : State} {o : Fin 17} {j : Nat × BitVec 8 × Nat × Nat × Nat × Nat}
    (hj : s.ledger.jobs.find? (fun j => j.1 = o.val) = some j) (hout : ∀ r ∈ s.mgr.wait ++ s.mgr.out, r.why ≠ .ledger o.val) :
    exec (.ledgerReadDone o) s = .next (({ s with ledger := { s.ledger with jobs := s.ledger.jobs.filter (fun x => x.1 ≠ o.val) } }).complete
      0x37 o.val j.2.1 j.2.2.1 .ok [j.2.2.2.2.1 + j.2.2.2.1 * 2 ^ 16, j.2.2.2.2.2]) := by
  change execLedgerReadDone o s = _
  unfold execLedgerReadDone
  rw [hj]
  exact if_neg (by simpa [or_imp, forall_and] using hout)

/-- Settles O24: each event by its own lemma; the sizes of the seal block add up, since its records after T0 are among all. -/
theorem ledgerEvents : Obligations.LedgerEvents := by
  refine ⟨fun s => exec_ledgerFreeze, fun s => exec_ledgerPostTimeout, fun s => exec_ledgerSeal_unkeyed, fun s hup hst hks => ?sealed,
    fun s hpend hlb => ?summary, fun s o j => exec_ledgerReadDone⟩
  case sealed =>
    refine ⟨_, s.ledger.sealBlock, exec_ledgerSeal hup hst hks, rfl, rfl, rfl, rfl, rfl, rfl, rfl, rfl, sealBlock_sizes _,
      fun o ho => sealBlock_digest s.ledger ho, signed_mac _, ?_⟩
    rw [askKey_answered 2 hks]
    exact tget_tset_same ..
  case summary =>
    obtain ⟨l, hl, hexec⟩ := exec_ledgerSummaryWrite hpend hlb
    exact ⟨_, s.lbAccess.2.summary.1.take 259072, hexec, hl, List.length_take_le _ _, tget_tset_same ..,
      fun k hk => tget_tset_other _ _ _ _ _ hk, rfl⟩

end Sys2Proof.Machine
end

section
/-! SUPPORT. The assay: its packets 0x40 to 0x48, what its operations leave of the taps, and the beats, replies and dump writes
that reach it (R245 to R249, R252, R258 to R263, R268 to R272). -/

namespace Sys2Proof.Machine

/-! ## The packets of a tap and of a scale table (R248, R249, R258, R260, R261) -/

/-- An owner's target and its asymmetry pass the checks of R252. -/
theorem bodyTapSafety_fits {pk : Pkt} (slot : Nat) {s : State} (hnamed : s.named (fld (pk.p 1) 2 5))
    (htarget : fld (pk.p 1) 8 4 = 15 ∨ (targetRange (fld (pk.p 1) 8 4)).isSome = true)
    (hasym : flag (pk.p 1) 12 = true → fld (pk.p 1) 8 4 = 15 ∨ targetAsym (fld (pk.p 1) 8 4) ≠ 0)
    (hsym : flag (pk.p 1) 12 = false → targetAsym (fld (pk.p 1) 8 4) ≠ 2) :
    bodyTapSafety pk slot s = .done .ok [] { s with assay := { s.assay with
      safety := tset s.assay.safety (fld (pk.p 1) 0 2 * 32 + fld (pk.p 1) 2 5) ⟨flag (pk.p 1) 7, BitVec.ofNat 4 (fld (pk.p 1) 8 4),
        flag (pk.p 1) 12, flag (pk.p 1) 13, fld (pk.p 1) 14 8, fld (pk.p 1) 22 3, fld (pk.p 1) 25 2, fld (pk.p 1) 27 2,
        flag (pk.p 1) 29⟩ Safety.zero } } := by
  have hknown : (decide (fld (pk.p 1) 8 4 ≠ 15) && (targetRange (fld (pk.p 1) 8 4)).isNone) = false := by
    rcases htarget with h | h <;> simp [h]
  have hmay : (flag (pk.p 1) 12 && decide (fld (pk.p 1) 8 4 ≠ 15) && decide (targetAsym (fld (pk.p 1) 8 4) = 0)) = false := by
    cases h : flag (pk.p 1) 12
    · rfl
    · rcases hasym h with h | h <;> simp [h]
  have hmust : (!flag (pk.p 1) 12 && decide (targetAsym (fld (pk.p 1) 8 4) = 2)) = false := by
    cases h : flag (pk.p 1) 12
    · simp [hsym h]
    · rfl
  refine (concern_named hnamed).trans ?_
  rw [chk_passes hknown, chk_passes hmay, chk_passes hmust]

/-- A commanded entry, its history given, its forecast taken and its write-back count begun again (R261, log 27). -/
def commandedEntry (pk : Pkt) (forecast : BitVec 32 × BitVec 32) : Entry :=
  { tid := BitVec.ofNat 16 (fld (pk.p 1) 10 16), valid := flag (pk.p 1) 26, delayed := flag (pk.p 1) 27, hlen := fld (pk.p 1) 28 3
    margin := fld (pk.p 2) 0 2, count := fld (pk.p 2) 2 4, upd := 0, fcScale := forecast.2, prevScale := forecast.2
    fcAbsmax := forecast.1, lastAbsmax := 0, hist := (List.range 8).map (fun i => pk.p (3 + i)) }

theorem commandedEntry_tid (pk : Pkt) (fc : BitVec 32 × BitVec 32) : (commandedEntry pk fc).tid.toNat = fld (pk.p 1) 10 16 :=
  Nat.mod_eq_of_lt (Nat.mod_lt _ (by decide))

theorem engineAdd_fits {s : State} (op : TabOp) (hroom : s.assay.engine.length < 32) :
    (s.engineAdd op).2 = ({ s with assay := { s.assay with engine := s.assay.engine ++ [op] } }).engineStart := by
  unfold State.engineAdd
  rw [if_neg (not_le.mpr hroom)]

/-- A commanded entry that the engine has room for is queued; a free value is taken where no forecast is given. -/
theorem bodyTableEntry_queues {pk : Pkt} (slot : Nat) {s : State} (hplace : fld (pk.p 1) 10 16 % 1024 = fld (pk.p 1) 0 10)
    (hcount : fld (pk.p 2) 2 4 ≤ 8) (hroom : s.assay.engine.length < 32) :
    ∃ fc n, bodyTableEntry pk slot s = .done .ok [0] ({ s with
      free := n, assay := { s.assay with engine := s.assay.engine ++ [TabOp.entry pk.o (commandedEntry pk fc)] } }).engineStart := by
  unfold bodyTableEntry
  extract_lets w tid count margin hist fc fr t v e
  rw [chk_passes (by simpa [tid, w] using hplace), chk_passes (by simpa [count] using hcount), chk_passes (by simpa using hroom)]
  refine ⟨v, t.free, ?_⟩
  have ht : t = { s with free := t.free } := by
    simp only [t]
    split <;> rfl
  rw [engineAdd_fits _ (by rw [ht]; exact hroom), ht]
  rfl

/-- Settles O27: each body by the checks that its operands pass. -/
theorem assayPackets : Obligations.AssayPackets := by
  intro pk s
  refine ⟨?safety, ?measure, ?base, ?entry, ?reenable⟩
  case safety =>
    intro h w hnamed htarget hasym hsym
    exact h.answers (by decide) (bodyTapSafety_fits _ hnamed htarget hasym hsym)
  case measure =>
    dsimp only
    intro h hon hk1 hk8 hclass hmin hlo hhi
    have hsaf : (s.rung specTapMeasure pk).safety (fld (pk.p 1) 0 2) pk.o = s.safety (fld (pk.p 1) 0 2) pk.o := rfl
    refine h.answers (by decide) ?_
    unfold bodyTapMeasure
    dsimp only
    rw [hsaf, chk_passes (by simp [hon]), chk_passes (by simp; omega), chk_passes (by simpa using hmin),
      chk_passes (by simp; omega)]
  case base =>
    intro h hbase
    exact h.answers (by decide) (chk_passes (by simpa using hbase) ..)
  case entry =>
    intro h hplace hcount hroom
    obtain ⟨fc, n, hbody⟩ := bodyTableEntry_queues (s := s.rung specTableEntry pk) (slotFor specTableEntry pk s) hplace hcount hroom
    exact ⟨commandedEntry pk fc, n, h.answers (by decide) hbody, commandedEntry_tid pk fc, rfl, rfl, rfl, rfl, rfl, rfl, rfl, rfl⟩
  case reenable =>
    intro h
    exact h.answers (by decide) rfl

/-! ## The packets of a watch slot and of the counters (R259, R268, R272) -/

/-- The entries of a block of eight keys go, and all others stay. -/
theorem tget_filter_outside (t : Tab Nat) (b k : Nat) :
    tget (t.filter (fun e => decide (e.1 < b * 8) || decide (b * 8 + 8 ≤ e.1))) k 0 = if k / 8 = b then 0 else tget t k 0 := by
  rw [tget_filter_key (fun i => decide (i < b * 8) || decide (b * 8 + 8 ≤ i))]
  have hout : (decide (k < b * 8) || decide (b * 8 + 8 ≤ k)) = true ↔ ¬ k / 8 = b := by
    simp only [Bool.or_eq_true, decide_eq_true_eq]
    omega
  simp only [hout, ite_not]

/-- The counters of a tap and owner after a reading that clears them or not. -/
def readCounters (cnt : Tab Nat) (b : Nat) (clear : Bool) : Tab Nat :=
  if clear then cnt.filter (fun e => decide (e.1 < b * 8) || decide (b * 8 + 8 ≤ e.1)) else cnt

theorem tget_readCounters (cnt : Tab Nat) (b : Nat) (clear : Bool) (k : Nat) :
    tget (readCounters cnt b clear) k 0 = if clear = true ∧ k / 8 = b then 0 else tget cnt k 0 := by
  cases clear
  · simp [readCounters]
  · simpa [readCounters] using tget_filter_outside cnt b k

/-- An owner's eight counters of a tap are read, then cleared when asked (R259). -/
theorem bodyAssayCounters_own {pk : Pkt} (slot : Nat) (s : State) (hown : flag (pk.p 1) 3 = false) :
    bodyAssayCounters pk slot s = .done .ok ((List.range 8).map (fun k => tget s.assay.cnt ((fld (pk.p 1) 0 2 * 32 + pk.o) * 8 + k) 0))
      { s with assay := { s.assay with cnt := readCounters s.assay.cnt (fld (pk.p 1) 0 2 * 32 + pk.o) (flag (pk.p 1) 2) } } := by
  unfold bodyAssayCounters
  rw [chk_passes (by simp [hown]), if_neg (by simp [hown])]
  cases flag (pk.p 1) 2 <;> rfl

/-- Only a charter without a memory key is refused (R420). -/
theorem keyed_fits {s : State} {o : Nat} (h : o = hm ∨ (s.memKey o).isSome = true) : (decide (o < 16) && (s.memKey o).isNone) = false := by
  rcases h with h | h
  · simp [h, hm]
  · simp [Option.isNone_eq_false_iff.mpr h]

/-- Settles O28: each body by the checks that its operands pass, the counters by what a reading leaves of them. -/
theorem watchPackets : Obligations.WatchPackets := by
  intro pk s
  refine ⟨?assign, ?config, ?arm, ?counters⟩
  case assign =>
    intro h hnamed
    exact h.answers (by decide) (concern_named hnamed)
  case config =>
    dsimp only
    intro h hown htrig hlog hn hbase
    have hown' : decide (((s.rung specWatchConfig pk).slot (fld (pk.p 1) 0 4)).owner ≠ pk.o) = false := decide_eq_false (not_not_intro hown)
    have hneeds : (decide (fld (pk.p 3) 0 16 = 0) && (decide (fld (pk.p 1) 8 3 = 1) || decide (fld (pk.p 1) 8 3 = 2))) = false := by
      simp only [Bool.and_eq_false_iff, Bool.or_eq_false_iff, decide_eq_false_iff_not]
      tauto
    refine h.answers (by decide) ?_
    unfold bodyWatchConfig
    dsimp only
    rw [chk_passes hown', chk_passes (by simp; omega), chk_passes hneeds, chk_passes (by simpa using hbase)]
  case arm =>
    intro h j hown
    have hown' : decide (((s.rung specWatchArm pk).slot j).owner ≠ pk.o) = false := decide_eq_false (not_not_intro hown)
    refine ⟨fun harm hkey => h.answers (by decide) ?_, fun hoff => h.answers (by decide) ?_⟩
    · have hkeyed : (decide (pk.o < 16) && ((s.rung specWatchArm pk).memKey pk.o).isNone) = false := keyed_fits (s := s) hkey
      unfold bodyWatchArm
      dsimp only
      rw [chk_passes hown', Bool.and_assoc, hkeyed, Bool.and_false, chk_passes rfl, if_pos harm]
    · unfold bodyWatchArm
      dsimp only
      rw [chk_passes hown', chk_passes (by simp [hoff]), if_neg (by simp [hoff])]
  case counters =>
    intro h t
    refine ⟨fun hglob howner => h.answers (by decide) ?_, fun hown => ?_⟩
    · unfold bodyAssayCounters
      rw [chk_passes (by simp [howner]), if_pos hglob]
      rfl
    · exact ⟨_, h.answers (by decide) (bodyAssayCounters_own _ (s.rung specAssayCounters pk) hown), tget_readCounters s.assay.cnt _ _⟩

/-! ## What leaves the taps alone -/

theorem CanalOnly.assay {s t : State} (h : CanalOnly s t) : t.assay = s.assay := h.proj State.assay fun _ _ => Eq.refl _
theorem CanalOnly.mgr {s t : State} (h : CanalOnly s t) : t.mgr = s.mgr := h.proj State.mgr fun _ _ => Eq.refl _

/-- A tap's state is read in the assay's taps. -/
theorem tap_of_taps {s t : State} (h : t.assay.taps = s.assay.taps) (k : Nat) : t.tap k = s.tap k :=
  congrArg (fun x => tget x k Tap.zero) h

theorem taps_of_ite {x : Tab Tap} {c : Prop} [Decidable c] {a b : State} (ha : a.assay.taps = x) (hb : b.assay.taps = x) :
    (if c then a else b).assay.taps = x := proj_of_ite (fun t : State => t.assay.taps) ha hb

theorem taps_of_foldl {β : Type} {f : State → β → State} (h : ∀ s b, (f s b).assay.taps = s.assay.taps) (l : List β) (s : State) :
    (l.foldl f s).assay.taps = s.assay.taps := foldl_proj (fun t : State => t.assay.taps) f h l s

/-- The records of ended dumps change the canal, and the list of dumps that end (R272). -/
theorem settleDumps_canal (s : State) : ∃ e, CanalOnly { s with assay := { s.assay with ending := e } } s.settleDumps :=
  ⟨_, .foldl State.emitDump (fun _ _ => emit_canal ..) _ _⟩

theorem settleDumps_taps (s : State) : s.settleDumps.assay.taps = s.assay.taps := by
  obtain ⟨e, h⟩ := settleDumps_canal s
  rw [h.assay]

theorem settleDumps_staging (s : State) : s.settleDumps.assay.staging = s.assay.staging := by
  obtain ⟨e, h⟩ := settleDumps_canal s
  rw [h.assay]

theorem settleDumps_mgr (s : State) : s.settleDumps.mgr = s.mgr := by
  obtain ⟨e, h⟩ := settleDumps_canal s
  rw [h.mgr]

theorem foldl_fst_taps {β γ : Type} (f : State × γ → β → State × γ) (h : ∀ a b, (f a b).1.assay.taps = a.1.assay.taps) (l : List β)
    (a : State × γ) : (l.foldl f a).1.assay.taps = a.1.assay.taps := foldl_proj (fun x : State × γ => x.1.assay.taps) f h l a

theorem writeStage_taps (s : State) (pos n : Nat) : (s.writeStage pos n).assay.taps = s.assay.taps := by
  refine taps_of_foldl (fun s i => ?_) _ s
  rfl

theorem putBlock_taps (s : State) (j : Nat) (d : Dump) (blk : Staged) : (s.putBlock j d blk).1.assay.taps = s.assay.taps := rfl

theorem stageBlock_taps (s : State) (j : Nat) (d : Dump) (k : Nat) (body : List Byte) (incomplete last : Bool) :
    (s.stageBlock j d k body incomplete last).1.assay.taps = s.assay.taps := (putBlock_taps ..).trans (writeStage_taps ..)

theorem endDump_taps (s : State) (j : Nat) (incomplete : Bool) : (s.endDump j incomplete).assay.taps = s.assay.taps := by
  unfold State.endDump
  split
  · rfl
  · extract_lets w ks r s1 mark _ s2 _ s3 s4 e
    have h1 : s1.assay.taps = s.assay.taps := foldl_fst_taps _ (fun _ _ => stageBlock_taps ..) _ (s, _)
    have h2 : s2.assay.taps = s1.assay.taps := taps_of_ite rfl rfl
    have h4 : s4.assay.taps = s2.assay.taps := taps_of_ite rfl rfl
    exact (settleDumps_taps _).trans (h4.trans (h2.trans h1))

theorem dumpBytes_taps (s : State) (j k n : Nat) (bs : List Byte) : (s.dumpBytes j k n bs).assay.taps = s.assay.taps := by
  induction n generalizing s bs with
  | zero => rfl
  | succ n ih =>
    unfold State.dumpBytes
    refine taps_of_ite rfl ?_
    split
    · rfl
    · refine taps_of_ite (endDump_taps ..) ((ih _ _).trans ?_)
      exact taps_of_ite (stageBlock_taps ..) rfl

theorem dumpBeat_taps (s : State) (t : Nat) (row : BitVec 24) (mx : Bool) (n elems : Nat) (b : TapBeat) :
    (s.dumpBeat t row mx n elems b).assay.taps = s.assay.taps := by
  refine taps_of_foldl (fun s j => ?_) _ s
  refine taps_of_ite rfl (taps_of_ite ?_ (dumpBytes_taps ..))
  exact (dumpBytes_taps ..).trans (dumpBytes_taps ..)

theorem takesDump_taps (s : State) (j t : Nat) (tid : BitVec 16) : (s.takesDump j t tid).2.assay.taps = s.assay.taps := by
  unfold State.takesDump
  dsimp only
  split <;> rfl

theorem openDump_taps (t : Nat) (i : Inst) (s : State) (j : Nat) : (State.openDump t i s j).assay.taps = s.assay.taps := by
  unfold State.openDump
  refine taps_of_ite rfl (taps_of_ite ?_ ?_)
  · exact taps_of_ite rfl rfl
  · refine taps_of_ite ?_ (takesDump_taps ..)
    refine Eq.trans ?_ (takesDump_taps s j t i.tid)
    exact taps_of_ite rfl rfl

theorem openDumps_taps (s : State) (t : Nat) (i : Inst) : (s.openDumps t i).assay.taps = s.assay.taps :=
  taps_of_foldl (openDump_taps t i) _ s

theorem engineStart_taps (s : State) : s.engineStart.assay.taps = s.assay.taps := by
  unfold State.engineStart
  refine taps_of_ite rfl ?_
  split <;> rfl

theorem engineAdd_taps (s : State) (op : TabOp) : (s.engineAdd op).2.assay.taps = s.assay.taps := by
  unfold State.engineAdd
  split
  · rfl
  · exact engineStart_taps _

theorem protocol_taps (s : State) (t : Nat) (i : Inst) : (s.protocol t i).1.assay.taps = s.assay.taps :=
  proj_of_ite (fun x : State × Inst => x.1.assay.taps) rfl rfl

/-! ## A beat that opens its tensor (R245) -/

/-- What a beat opens for its tensor, with its sideband's values and nothing closed yet. -/
def Inst.OpenedBy (i : Inst) (b : TapBeat) (ts : Nat) : Prop :=
  i.tid = b.tid ∧ i.fmt = b.fmt ∧ i.owner = (if b.priv then hm else b.charter.toNat) ∧ i.headless = !b.sot ∧ i.anchor = ts ∧
    i.rows = 0 ∧ i.closed = none

/-- A breach that is noted leaves what its beat opened. -/
theorem protocol_opened {s : State} {t : Nat} {i : Inst} {b : TapBeat} {ts : Nat} (h : i.OpenedBy b ts) :
    (s.protocol t i).2.OpenedBy b ts := by
  unfold State.protocol
  split <;> exact h

theorem openInst_taps (s : State) (t : Nat) (headless : Bool) (b : TapBeat) : (s.openInst t headless b).1.assay.taps = s.assay.taps := by
  unfold State.openInst
  extract_lets o saf mea bad on i ask q s1 i1 s2
  have hq : q.2.assay.taps = s.assay.taps := proj_of_ite (fun x : Bool × State => x.2.assay.taps) (engineAdd_taps ..) rfl
  have h1 : s1.assay.taps = s.assay.taps := taps_of_ite hq hq
  have h2 : s2.assay.taps = s.assay.taps := (openDumps_taps ..).trans h1
  exact proj_of_ite (fun x : State × Inst => x.1.assay.taps) ((protocol_taps ..).trans h2) h2

theorem openInst_opened (s : State) (t : Nat) (b : TapBeat) : (s.openInst t (!b.sot) b).2.OpenedBy b s.ts := by
  unfold State.openInst
  extract_lets o saf mea bad on i ask q s1 i1 s2
  have h1 : i1.OpenedBy b s.ts := ⟨rfl, rfl, rfl, rfl, rfl, rfl, rfl⟩
  split
  · exact protocol_opened h1
  · exact h1

theorem protocol_row (s : State) (t : Nat) (i : Inst) : (s.protocol t i).2.row = i.row :=
  proj_of_ite (fun x : State × Inst => x.2.row) rfl rfl

theorem openInst_row (s : State) (t : Nat) (headless : Bool) (b : TapBeat) : (s.openInst t headless b).2.row = none := by
  unfold State.openInst
  extract_lets o saf mea bad on i ask q s1 i1 s2
  exact proj_of_ite (fun x : State × Inst => x.2.row) (protocol_row ..) rfl

theorem cutRow_none {s : State} {t : Nat} {i : Inst} (ts : Nat) (h : i.row = none) : s.cutRow t i ts = (s, i) := by
  unfold State.cutRow
  rw [h]

/-- A beat that ends neither its row nor its tensor leaves its tensor open at the tap. -/
theorem beat_goes_on {s : State} {t : Nat} {i : Inst} {b : TapBeat} {ts : Nat} (h : i.OpenedBy b ts) (hrow : i.row = none)
    (heor : b.eor = false) (heot : b.eot = false) :
    ∃ j : Inst, j.OpenedBy b ts ∧ (s.beat t i b).tap t = { s.tap t with inst := some j } := by
  unfold State.beat
  extract_lets now row again breach r r2 i2 row2 s1 r3
  have hr : r = (s, i) := proj_of_ite id (cutRow_none now hrow) rfl
  have hr2 : r2.1.assay.taps = s.assay.taps ∧ r2.2.OpenedBy b ts := by
    simp only [r2, hr]
    split
    · exact ⟨protocol_taps .., protocol_opened h⟩
    · exact ⟨rfl, h⟩
  have hr3 : r3 = (s1, { i2 with row := some row2 }) := if_neg (by simp [heor])
  have h1 : s1.tap t = s.tap t := tap_of_taps ((dumpBeat_taps ..).trans hr2.1) t
  refine ⟨{ i2 with row := some row2 }, hr2.2, ?_⟩
  rw [if_neg (by simp [heot]), hr3, State.modTap, State.setTap_tap_same, h1]

/-- A wake event writes the way out of sleep alone, so a tap's beat finds it as it stood. -/
theorem wake_tapEnabled (s : State) (k : WakeKind) (t : Nat) : (s.wake k).tapEnabled t = s.tapEnabled t :=
  wake_proj (State.tapEnabled · t) (fun _ _ _ _ => rfl) s k

theorem wake_taps (s : State) (k : WakeKind) : (s.wake k).assay.taps = s.assay.taps :=
  wake_proj (fun t => t.assay.taps) (fun _ _ _ _ => rfl) s k

theorem wake_ts (s : State) (k : WakeKind) : (s.wake k).ts = s.ts := wake_proj State.ts (fun _ _ _ _ => rfl) s k

theorem tapEnabled_not_off {s : State} {t : Nat} (h : s.tapEnabled t = true) : (s.tap t).off = false := by
  simp only [State.tapEnabled, Bool.and_eq_true, Bool.not_eq_true'] at h
  exact h.1.1.2

theorem exec_tapBeat_ignored {s : State} {t : Fin 4} (b : TapBeat) (hoff : s.tapEnabled t.val = false) (hinst : (s.tap t.val).inst = none) :
    exec (.tapBeat t b) s = .next s :=
  if_pos (by simp [hoff, hinst])

/-- A beat at an enabled tap without an open tensor opens its own, which stays open while the beat ends nothing. -/
theorem exec_tapBeat_opens {s : State} {t : Fin 4} {b : TapBeat} (hclk : s.lk.st.code < 2) (hon : s.tapEnabled t.val = true)
    (hinst : (s.tap t.val).inst = none) (heor : b.eor = false) (heot : b.eot = false) :
    ∃ u i, exec (.tapBeat t b) s = .next u ∧ (u.tap t.val).inst = some i ∧ i.OpenedBy b s.ts := by
  change ∃ u i, execTapBeat t b s = .next u ∧ _
  unfold execTapBeat
  dsimp only
  rw [if_neg (by simp [hon, not_le.mpr hclk]), hinst]
  dsimp only
  rw [if_neg (by simp [wake_tapEnabled, hon])]
  have hopened : ((s.wake .tapBeat).openInst t.val (!b.sot) b).2.OpenedBy b s.ts := wake_ts s .tapBeat ▸ openInst_opened ..
  split
  · rw [if_neg (by simp [heot])]
    exact ⟨_, _, rfl, congrArg Tap.inst (State.setTap_tap_same ..), hopened⟩
  · obtain ⟨j, hj, htap⟩ := beat_goes_on (s := ((s.wake .tapBeat).openInst t.val (!b.sot) b).1) (t := t.val) hopened (openInst_row ..) heor heot
    have hoff : (((s.wake .tapBeat).openInst t.val (!b.sot) b).1.tap t.val).off = false := by
      rw [tap_of_taps ((openInst_taps ..).trans (wake_taps ..))]
      exact tapEnabled_not_off hon
    refine ⟨_, j, rfl, ?_, hj⟩
    rw [htap]
    dsimp only
    rw [hoff]
    exact congrArg Tap.inst htap

/-! ## The table engine's replies (R262, R263) and the rescale acknowledge (R64) -/

/-- A line that verifies gives the entry of its tensor, or that there is none. -/
theorem exec_tableFetchDone {s u : State} {t o : Nat} {tid : BitVec 16} {rest : List TabOp} {bs : List Byte}
    (hop : s.assay.engine = .fetch t o tid :: rest) (hread : s.tableRead o t = some (bs, false, u)) (hcrc : (parseEntry bs).1 = true) :
    exec .tableFetchDone s = .next (if (parseEntry bs).2.valid = true ∧ (parseEntry bs).2.tid = tid
      then (u.giveEntry t o tid (.found (parseEntry bs).2)).engineNext
      else ((u.assayCount t o 5).giveEntry t o tid .missing).engineNext) := by
  change execTableFetchDone s = _
  unfold execTableFetchDone
  rw [hop]
  dsimp only
  rw [hread]
  dsimp only
  simp only [hcrc, Bool.not_false, Bool.not_true, Bool.or_self, Bool.true_and, Bool.false_eq_true, if_false, Bool.and_eq_true, decide_eq_true_eq]
  split <;> rfl

/-- The entry read again is written with the new history. -/
theorem exec_tableWritebackDone {s u : State} {t o : Nat} {tid : BitVec 16} {absmax : BitVec 32} {q : BitVec 4} {rtz : Bool} {rest : List TabOp}
    {bs : List Byte} (hop : s.assay.engine = .back t o tid absmax q rtz :: rest) (hread : s.tableRead o t = some (bs, false, u))
    (hcrc : (parseEntry bs).1 = true) (hvalid : (parseEntry bs).2.valid = true) (htid : (parseEntry bs).2.tid = tid) :
    exec .tableWritebackDone s = .next (({ u with free := u.free + 1, assay := { u.assay with busy := false } }).writeEntry o t
      ((parseEntry bs).2.after absmax q.toNat rtz u.fresh.1)) := by
  change execTableWritebackDone s = _
  unfold execTableWritebackDone
  rw [hop]
  dsimp only
  rw [hread]
  dsimp only
  rw [if_neg (by simp [hcrc]), if_neg (by simp [hvalid, htid])]
  rfl

theorem exec_rescaleAck_clocked {s : State} (t : Fin 4) (h : s.lk.st.code < 2) :
    exec (.rescaleAck t) s = .next (s.modTap t.val (fun x => { x with req := false })) :=
  congrArg Host.Outcome.next (if_neg (not_le.mpr h))

theorem exec_rescaleAck_off {s : State} (t : Fin 4) (h : 2 ≤ s.lk.st.code) : exec (.rescaleAck t) s = .next s :=
  congrArg Host.Outcome.next (if_pos h)

/-! ## The write of a staged block (R270, R272) -/

theorem fillWords_length (n : Nat) (ws : List W64) : (fillWords n ws).length = n := by
  simp [fillWords]

/-- A page is 512 words, sealed or not (R191, R194). -/
theorem sealPage_length (s : State) (o : Nat) (nonce : List Byte) (h : List Nat) (body : List W64) :
    (s.sealPage o nonce h body).length = 512 := by
  unfold State.sealPage
  split <;> simp only [List.length_append, fillWords_length, List.length_cons, List.length_nil]

/-- Words that are written plain and wait for no merge are read as they stand. -/
theorem fetchBad_clean {s : State} {b : Nat} (w n : Nat) (hword : s.ecc.word = []) (hmerge : (s.bank (bankKey b false)).merge = []) :
    s.fetchBad b w n = ([], s) := by
  have hsettle : s.settle b w n = s := by
    unfold State.settle
    rw [hmerge]
    rfl
  unfold State.fetchBad
  dsimp only
  rw [hsettle, hword]
  rfl

theorem pageReq_unpoisoned (o addr : Nat) (why : Purpose) (ws : List W64) {psn : List Nat} (h : psn = []) :
    { pageReq o addr why ws with psn := psn } = pageReq o addr why ws := by
  rw [h]
  rfl

/-- The oldest staged block, read clean, leaves the buffer, and its page waits at the manager port. -/
theorem exec_dumpBlockWrite {s : State} {b : Staged} {rest : List Staged} (hup : s.lk.st = .underway) (hstage : s.assay.staging = b :: rest)
    (hword : s.ecc.word = []) (hmerge : (s.bank (bankKey 31 false)).merge = []) (hkey : b.owner = hm ∨ (s.memKey b.owner).isSome = true) :
    ∃ ws, ws.length = 512 ∧ exec .dumpBlockWrite s =
      .next (({ s with assay := { s.assay with staging := rest } }).mgrPush (pageReq b.owner b.addr (.dump b.slot) ws)).settleDumps := by
  change ∃ ws, _ ∧ execDumpBlockWrite s = _
  unfold execDumpBlockWrite
  rw [hstage]
  dsimp only
  rw [if_neg (not_not_intro hup), fetchBad_clean _ _ hword hmerge]
  dsimp only
  refine ⟨_, ?length, congrArg (fun t => Host.Outcome.next (State.settleDumps t))
    ((if_neg (ne_true_of_eq_false (keyed_fits hkey))).trans (congrArg (State.mgrPush _) (pageReq_unpoisoned _ _ _ _ ?clean)))⟩
  case length => exact sealPage_length ..
  case clean => exact ite_self _

/-- Settles O29: a beat by `exec_tapBeat_opens`, and each reply and write by the rule of its own above. -/
theorem tapEvents : Obligations.TapEvents := by
  refine ⟨fun s t b => exec_tapBeat_ignored b, fun s t b => exec_tapBeat_opens, fun s u t o tid rest bs hop hread hcrc hvalid htid => ?found,
    fun s u t o tid rest bs hop hread hcrc hvalid => ?missing, fun s u t o tid absmax q rtz rest bs hop hread hcrc hvalid htid => ?back,
    fun s t => ⟨exec_rescaleAck_clocked t, exec_rescaleAck_off t⟩, fun s b rest hup hstage hword hmerge hkey => ?dump⟩
  case found => rw [exec_tableFetchDone hop hread hcrc, if_pos ⟨hvalid, htid⟩]
  case missing => rw [exec_tableFetchDone hop hread hcrc, if_neg (by simp [hvalid])]
  case back =>
    exact ⟨_, exec_tableWritebackDone hop hread hcrc hvalid htid, htid, rfl, rfl, rfl, rfl, rfl⟩
  case dump =>
    obtain ⟨ws, hlen, hexec⟩ := exec_dumpBlockWrite hup hstage hword hmerge hkey
    refine ⟨_, ws, hexec, ?_, hlen, ?_⟩
    · rw [settleDumps_staging]
      rfl
    · rw [settleDumps_mgr]
      rfl

end Sys2Proof.Machine
end

section
/-! SUPPORT. The primitives that answer scalars, masks and accumulators (R299, R303 to R305): a step that writes one register,
the best of a list of values, and the lanes of an accumulator. -/

namespace Sys2Proof.Machine

/-! ## A step that may saturate -/

/-- The state after a step of the running op, a saturation of R299 noted for its result. -/
def State.noteSat (s : State) (r : Running) (b : Bool) : State := if b = true then s.setRun { r with sat := true } else s

section
variable {s : State} {c : Nat} {r : Running} {st : IStep} {code : Nat} {ok : Nat → Bool} {g : StepEnv → Core → Core × Bool} {i : Instr}
  (hn : s.nextStep c = some (r, st)) (hp : st.prim = code) (hx : exec i s = .next (s.regStep code c ok g))
include hn hp hx

theorem exec_saturates {y : Core} {b : Bool} (hok : ok (s.envAt c r st).fmt = true) (hg : g (s.envAt c r st) (s.core c) = (y, b)) :
    exec i s = .next ((s.noteSat r b).retire c y) := by
  rw [hx]
  simp [State.regStep, State.runStep, State.noteSat, hn, hp, hok, hg]

theorem exec_retires {y : Core} (hok : ok (s.envAt c r st).fmt = true) (hg : g (s.envAt c r st) (s.core c) = (y, false)) :
    exec i s = .next (s.retire c y) := hx.trans (congrArg _ (regStep_retires hn hp hok hg))

end

/-- A step of the primitive in hand runs. -/
theorem exec_runs {s : State} {c : Nat} {r : Running} {st : IStep} {code : Nat} {f : Running → StepEnv → Core → State} {i : Instr}
    (hn : s.nextStep c = some (r, st)) (hp : st.prim = code) (hx : exec i s = .next (s.runStep code c f)) :
    exec i s = .next (f r (s.envAt c r st) (s.core c)) := by
  rw [hx]
  simp [State.runStep, hn, hp]

/-! ## The order of values -/

theorem ltV_irrefl (a : FVal) : ltV a a = false := by
  cases a with
  | nan => rfl
  | inf m => cases m <;> rfl
  | fin q z => simp [ltV]

theorem ltV_trans {a b c : FVal} (hab : ltV a b = true) (hbc : ltV b c = true) : ltV a c = true := by
  cases a <;> cases b <;> cases c <;> simp_all [ltV]
  exact hab.trans hbc

/-- Below a value are the numbers that are not above a lower one. -/
theorem ltV_of_not_lt {a b c : FVal} (ha : a.isNan = false) (hba : ltV b a = false) (hbc : ltV b c = true) : ltV a c = true := by
  cases a <;> cases b <;> cases c <;> simp_all [ltV, FVal.isNan]
  exact hba.trans_lt hbc

theorem ltV_nan {a b : FVal} (hb : b.isNan = true) : ltV a b = false := by
  cases b <;> cases a <;> simp_all [ltV, FVal.isNan]

/-! ## The best of a list -/

section
variable {α : Type} (less : α → α → Bool)

/-- The element that no other of the list comes after. -/
def bestFrom (y : α) (ys : List α) : α := ys.foldl (fun a b => if less a b then b else a) y

theorem bestFrom_mem (y : α) (ys : List α) : bestFrom less y ys ∈ y :: ys := by
  induction ys generalizing y with
  | nil => exact List.mem_singleton.mpr rfl
  | cons z ys ih =>
    have h : bestFrom less y (z :: ys) = bestFrom less (if less y z then z else y) ys := rfl
    rw [h]
    rcases List.mem_cons.mp (ih (if less y z then z else y)) with h | h
    · rw [h]; split <;> simp
    · simp [h]

variable {less} (htrans : ∀ a b c, less a b = true → less b c = true → less a c = true)
include htrans

theorem bestFrom_keeps {y z : α} (ys : List α) (h : less y z = false) : less (bestFrom less y ys) z = false := by
  induction ys generalizing y with
  | nil => exact h
  | cons x ys ih =>
    refine ih (y := if less y x then x else y) ?_
    split
    · next hyx => exact Bool.eq_false_iff.mpr fun hxz => Bool.eq_false_iff.mp h (htrans _ _ _ hyx hxz)
    · exact h

theorem bestFrom_best (hirr : ∀ a, less a a = false) (y : α) (ys : List α) : ∀ z ∈ y :: ys, less (bestFrom less y ys) z = false := by
  induction ys generalizing y with
  | nil => simpa [bestFrom] using hirr y
  | cons x ys ih =>
    intro z hz
    rcases List.mem_cons.mp hz with rfl | hz
    · exact bestFrom_keeps htrans _ (hirr z)
    rcases List.mem_cons.mp hz with rfl | hz
    · refine bestFrom_keeps (y := if less y z then z else y) htrans ys ?_
      split
      · exact hirr z
      · next h => simpa using h
    · exact ih (if less y x then x else y) z (List.mem_cons_of_mem _ hz)

end

/-! ## Reductions (R299, R305) -/

/-- A value as a scalar: an integer of an integer format, else FP64 (R305). -/
def scalarOf (code : Nat) (v : FVal) : Nat :=
  match v with
  | .fin q z => if isInt code = true then unsgn 64 (roundInt .rtz q) else encode 14 .rne false (.fin q z)
  | v => encode 14 .rne false v

/-- The lanes that a reduction compares: their absolute values for absmax. -/
def redLane (k : Nat) (v : FVal) : FVal := if k = 3 then absV v else v

/-- The order in which a reduction looks for its lane. -/
def redLess (k : Nat) (a b : FVal) : Bool := if k = 1 then ltV b a else ltV a b

theorem redLess_irrefl (k : Nat) (a : FVal) : redLess k a a = false := by
  unfold redLess
  split <;> exact ltV_irrefl a

theorem redLess_trans (k : Nat) (a b c : FVal) (hab : redLess k a b = true) (hbc : redLess k b c = true) : redLess k a c = true := by
  unfold redLess at *
  split at hab <;> simp_all only [if_true, if_false]
  · exact ltV_trans hbc hab
  · exact ltV_trans hab hbc

theorem laneCount_pos {code : Nat} (h : code < 15) : 0 < laneCount code := by
  interval_cases code <;> decide

/-- min, max and absmax of lanes of which none is a NaN. -/
theorem reduce_best {code k : Nat} {v : FVal} {l : List FVal} (free : Nat) (hk : k ≤ 3) (h0 : k ≠ 0) (hl : ∀ w ∈ v :: l, w.isNan = false) :
    reduce code k (v :: l) free = (scalarOf code (bestFrom (redLess k) (redLane k v) (l.map (redLane k))), false) := by
  have hany : (v :: l).any FVal.isNan = false := by simpa using hl
  unfold reduce
  rw [if_neg h0, if_neg (by rw [hany]; simpa using hk)]
  have hscalar : ∀ w : FVal, (match w with
      | .fin q z => if isInt code = true then unsgn 64 (roundInt .rtz q) else encode 14 .rne false (.fin q z)
      | w => encode 14 .rne false w) = scalarOf code w := fun w => by cases w <;> rfl
  have hid : ∀ k, k ≠ 3 → redLane k = id := fun k hk => funext fun w => if_neg hk
  match k with
  | 1 => exact congrArg (·, false) (by rw [hid 1 (by decide), List.map_id]; exact hscalar _)
  | 2 => exact congrArg (·, false) (by rw [hid 2 (by decide), List.map_id]; exact hscalar _)
  | 3 => exact congrArg (·, false) (hscalar _)

/-- The lane that a reduction answers: none of the lanes comes before it in the order of the reduction. -/
theorem reduce_stated {code k : Nat} {l : List FVal} (free : Nat) (hne : 0 < l.length) (hk : k ≤ 3) (h0 : k ≠ 0) (hl : ∀ w ∈ l, w.isNan = false) :
    ∃ b ∈ l.map (redLane k), reduce code k l free = (scalarOf code b, false) ∧
      ∀ y ∈ l.map (redLane k), if k = 1 then ltV y b = false else ltV b y = false := by
  obtain ⟨v, l, rfl⟩ := List.exists_cons_of_length_pos hne
  refine ⟨_, bestFrom_mem (redLess k) (redLane k v) (l.map (redLane k)), reduce_best free hk h0 hl, fun y hy => ?_⟩
  have hbest := bestFrom_best (redLess_trans k) (redLess_irrefl k) (redLane k v) (l.map (redLane k)) y hy
  by_cases h1 : k = 1
  · rwa [if_pos h1, ← show redLess k _ y = ltV y _ from if_pos h1]
  · rwa [if_neg h1, ← show redLess k _ y = ltV _ y from if_neg h1]

theorem reduce_not_sum (code : Nat) {k : Nat} (l : List FVal) (free : Nat) (h0 : k ≠ 0) : (reduce code k l free).2 = false := by
  unfold reduce
  rw [if_neg h0]
  split_ifs <;> rfl

/-! ## The lowest of the largest lanes (R305, ARGMAX) -/

/-- Lane i is the lowest of the largest of n lanes, NaN lanes left out. -/
def IsFirstMax (f : Nat → FVal) (n i : Nat) : Prop :=
  i < n ∧ (f i).isNan = false ∧ (∀ j < n, ltV (f i) (f j) = false) ∧ ∀ j < i, (f j).isNan = true ∨ ltV (f j) (f i) = true

theorem IsFirstMax.unique {f : Nat → FVal} {n i j : Nat} (hi : IsFirstMax f n i) (hj : IsFirstMax f n j) : i = j := by
  have hle : ∀ {a b}, IsFirstMax f n a → IsFirstMax f n b → a ≤ b := by
    rintro a b ⟨ha, -, -, hbelow⟩ ⟨-, hnan, hmax, -⟩
    by_contra hba
    rcases hbelow b (by omega) with h | h
    · simp [hnan] at h
    · simp [hmax a ha] at h
  exact Nat.le_antisymm (hle hi hj) (hle hj hi)

/-- One lane against the best so far. -/
def stepMax (a : Option (Nat × FVal)) (e : Nat × FVal) : Option (Nat × FVal) :=
  if e.2.isNan then a else match a with | none => some e | some b => if ltV b.2 e.2 then some e else some b

/-- What a search of n lanes has found. -/
def FoundMax (f : Nat → FVal) (n : Nat) : Option (Nat × FVal) → Prop
  | none => ∀ j < n, (f j).isNan = true
  | some b => b.2 = f b.1 ∧ IsFirstMax f n b.1

theorem FoundMax.step {f : Nat → FVal} {n : Nat} {a : Option (Nat × FVal)} (h : FoundMax f n a) : FoundMax f (n + 1) (stepMax a (n, f n)) := by
  unfold stepMax
  by_cases hnan : (f n).isNan = true
  · rw [if_pos hnan]
    cases a with
    | none => exact Nat.forall_lt_succ_right.mpr ⟨h, hnan⟩
    | some b =>
      obtain ⟨hb, hin, hb', hmax, hbelow⟩ := h
      exact ⟨hb, hin.trans (Nat.lt_succ_self n), hb', Nat.forall_lt_succ_right.mpr ⟨hmax, ltV_nan hnan⟩, hbelow⟩
  · rw [if_neg hnan]
    rw [Bool.not_eq_true] at hnan
    cases a with
    | none =>
      refine ⟨rfl, Nat.lt_succ_self n, hnan, Nat.forall_lt_succ_right.mpr ⟨fun j hj => ltV_nan (h j hj), ltV_irrefl _⟩, fun j hj => .inl (h j hj)⟩
    | some b =>
      obtain ⟨hb, hin, hb', hmax, hbelow⟩ := h
      dsimp only
      rw [hb]
      by_cases hlt : ltV (f b.1) (f n) = true
      · rw [if_pos hlt]
        refine ⟨rfl, Nat.lt_succ_self n, hnan, Nat.forall_lt_succ_right.mpr ⟨fun j hj => ?_, ltV_irrefl _⟩, fun j hj => ?_⟩
        · exact Bool.eq_false_iff.mpr fun h => Bool.eq_false_iff.mp (hmax j hj) (ltV_trans hlt h)
        · by_cases hj' : (f j).isNan = true
          · exact .inl hj'
          · exact .inr (ltV_of_not_lt (by simpa using hj') (hmax j hj) hlt)
      · rw [if_neg hlt]
        exact ⟨hb, hin.trans (Nat.lt_succ_self n), hb', Nat.forall_lt_succ_right.mpr ⟨hmax, by simpa using hlt⟩, hbelow⟩

theorem foundMax_foldl (f : Nat → FVal) (n : Nat) : FoundMax f n ((((List.range n).map f).mapIdx fun i v => (i, v)).foldl stepMax none) := by
  induction n with
  | zero => exact fun j hj => absurd hj (Nat.not_lt_zero j)
  | succ n ih =>
    rw [List.range_succ, List.map_append, List.mapIdx_append, List.foldl_append]
    simpa using ih.step

/-- The search of ARGMAX over the lanes of Va. -/
def StepEnv.argBest (e : StepEnv) (x : Core) : Option (Nat × FVal) := ((vals e.fmt (e.a x)).mapIdx fun i v => (i, v)).foldl stepMax none

/-- The lane that ARGMAX names; a free value where every lane is a NaN. -/
def StepEnv.argIndex (e : StepEnv) (x : Core) : Nat := match e.argBest x with | some b => b.1 | none => e.free

theorem argBest_found (e : StepEnv) (x : Core) : FoundMax (e.va x) (laneCount e.fmt) (e.argBest x) := by
  have hvals : vals e.fmt (e.a x) = (List.range (laneCount e.fmt)).map (e.va x) := List.map_map
  rw [StepEnv.argBest, hvals]
  exact foundMax_foldl ..

theorem argIndex_nan {e : StepEnv} {x : Core} (h : ∀ i < laneCount e.fmt, (e.va x i).isNan = true) : e.argIndex x = e.free := by
  have hfound := argBest_found e x
  unfold StepEnv.argIndex
  split
  · next b hb =>
    rw [hb] at hfound
    obtain ⟨-, hlt, hnum, -⟩ := hfound
    exact absurd (h b.1 hlt) (by simp [hnum])
  · rfl

theorem argIndex_eq {e : StepEnv} {x : Core} {i : Nat} (h : IsFirstMax (e.va x) (laneCount e.fmt) i) : e.argIndex x = i := by
  have hfound := argBest_found e x
  unfold StepEnv.argIndex
  split
  · next b hb =>
    rw [hb] at hfound
    exact hfound.2.unique h
  · next hb =>
    rw [hb] at hfound
    obtain ⟨hlt, hnum, -⟩ := h
    exact absurd (hfound i hlt) (by simp [hnum])

/-! ## A mask written bit by bit (R305, CMP) -/

theorem getLsbD_foldl_setBit_where {w : Nat} (skip : Nat → Bool) (f : Nat → Bool) (v : BitVec w) {n : Nat} (hn : n ≤ w) (i : Nat) :
    ((List.range n).foldl (fun m j => if skip j then m else setBit m j (f j)) v).getLsbD i =
      if n ≤ i ∨ skip i = true then v.getLsbD i else f i := by
  induction n with
  | zero => simp
  | succ n ih =>
    rw [List.range_succ, List.foldl_append, List.foldl_cons, List.foldl_nil]
    by_cases hi : i = n
    · subst hi
      by_cases hs : skip i = true
      · rw [if_pos hs, ih (by omega), if_pos (Or.inr hs), if_pos (Or.inr hs)]
      · rw [if_neg hs, getLsbD_setBit _ _ _ _ (by omega), if_pos rfl, if_neg (by simp [hs])]
    · have hcond : (n + 1 ≤ i ∨ skip i = true) ↔ (n ≤ i ∨ skip i = true) := or_congr_left (by omega)
      rw [if_congr hcond rfl rfl, ← ih (by omega)]
      split
      · rfl
      · rw [getLsbD_setBit _ _ _ _ (by omega), if_neg hi]

theorem cmpLane_eq (k : Nat) (a b : FVal) (free : Bool) : cmpLane k a b free =
    if k = 0 then ltV a b else if k = 1 then ltV a b || eqV a b else if k = 2 then eqV a b else if k = 3 then !eqV a b else free := by
  unfold cmpLane
  split <;> simp_all

/-! ## Lanes of an accumulator (R299, R303) -/

/-- The bits of a lane. -/
def AccKind.width (k : AccKind) : Nat := if k = .f64 then 64 else 32

theorem AccKind.lanes_le (k : AccKind) : k.lanes ≤ 256 := by cases k <;> decide

theorem accGet_accSet (acc : Tab (BitVec 32)) (d : Nat) (k : AccKind) (i j x : Nat) :
    accGet (accSet acc d k i x) d k j = if j = i then x % 2 ^ k.width else accGet acc d k j := by
  cases k with
  | f64 =>
    have hlow : 2 ^ 64 = 2 ^ 32 * 2 ^ 32 := rfl
    simp only [accGet, accSet, tget_tset, AccKind.width, if_true]
    by_cases h : j = i
    · subst h
      rw [if_neg (by omega), if_pos rfl, if_pos rfl, if_pos rfl, BitVec.toNat_ofNat, BitVec.toNat_ofNat, hlow, Nat.mod_mul, Nat.mul_comm]
    · rw [if_neg (by omega), if_neg (by omega), if_neg (by omega), if_neg (by omega), if_neg h]
  | f32 => simp [accGet, accSet, tget_tset, AccKind.width, apply_ite BitVec.toNat]
  | i32 => simp [accGet, accSet, tget_tset, AccKind.width, apply_ite BitVec.toNat]

theorem tget_accSet_other (acc : Tab (BitVec 32)) {d : Nat} {k : AccKind} {i : Nat} (x : Nat) (hi : i < k.lanes) {j : Nat} (hj : j / 256 ≠ d) :
    tget (accSet acc d k i x) j 0 = tget acc j 0 := by
  have hin : ∀ m < 256, j ≠ d * 256 + m := fun m hm h => hj (by omega)
  cases k with
  | f64 =>
    have hi' : i < 128 := hi
    simp only [accSet]
    have hhigh := hin (2 * i + 1) (by omega)
    rw [← Nat.add_assoc] at hhigh
    rw [tget_tset_other _ _ _ _ _ hhigh, tget_tset_other _ _ _ _ _ (hin (2 * i) (by omega))]
  | f32 => exact tget_tset_other _ _ _ _ _ (hin i hi)
  | i32 => exact tget_tset_other _ _ _ _ _ (hin i hi)

/-- Each of n lanes that is not skipped takes its product; the flag notes a saturation. -/
def accStep (d : Nat) (k : AccKind) (skip : Nat → Bool) (p : Nat → FVal) (a : Tab (BitVec 32) × Bool) (i : Nat) : Tab (BitVec 32) × Bool :=
  if skip i then a else (accSet a.1 d k i (accAdd k (accGet a.1 d k i) (p i)).1, a.2 || (accAdd k (accGet a.1 d k i) (p i)).2)

theorem foldl_accStep (acc : Tab (BitVec 32)) (d : Nat) (k : AccKind) (skip : Nat → Bool) (p : Nat → FVal) {n : Nat} (hn : n ≤ k.lanes) :
    let a := (List.range n).foldl (accStep d k skip p) (acc, false)
    (∀ i, accGet a.1 d k i = if n ≤ i ∨ skip i = true then accGet acc d k i else (accAdd k (accGet acc d k i) (p i)).1 % 2 ^ k.width) ∧
    (∀ j, j / 256 ≠ d → tget a.1 j 0 = tget acc j 0) ∧
    (a.2 = true ↔ ∃ i < n, skip i = false ∧ (accAdd k (accGet acc d k i) (p i)).2 = true) := by
  induction n with
  | zero => simp
  | succ n ih =>
    obtain ⟨hlanes, hother, hflag⟩ := ih (by omega)
    rw [List.range_succ, List.foldl_append, List.foldl_cons, List.foldl_nil]
    generalize (List.range n).foldl (accStep d k skip p) (acc, false) = a at hlanes hother hflag
    unfold accStep
    by_cases hs : skip n = true
    · rw [if_pos hs]
      refine ⟨fun i => ?_, hother, ?_⟩
      · rw [hlanes]
        refine if_congr ?_ rfl rfl
        by_cases hi : i = n
        · simp [hi, hs]
        · exact or_congr_left (by omega)
      · rw [hflag, Nat.exists_lt_succ_right]
        simp [hs]
    · have hn' : accGet a.1 d k n = accGet acc d k n := by rw [hlanes, if_pos (Or.inl le_rfl)]
      rw [if_neg hs, hn']
      refine ⟨fun i => ?_, fun j hj => (tget_accSet_other _ _ hn hj).trans (hother j hj), ?_⟩
      · rw [accGet_accSet]
        by_cases hi : i = n
        · subst hi
          rw [if_pos rfl, if_neg (by simp [hs])]
        · rw [if_neg hi, hlanes]
          exact if_congr (or_congr_left (by omega)) rfl rfl
      · rw [Bool.or_eq_true, hflag, Nat.exists_lt_succ_right]
        simp [hs]

/-! ## Scalars (R305) -/

/-- The special values of GETS. -/
def getsVal (r : Running) (c imm free : Nat) : Nat :=
  match imm with
  | 0 => r.index c | 1 => r.cores.length | 2 => r.op.seq.toNat | 3 => r.attempt | 4 => r.op.readyTs | 5 => r.op.lost
  | 6 => r.op.i0.recs.length | 7 => r.op.i1.recs.length | _ => free

theorem getsVal_beyond (r : Running) (c free : Nat) {imm : Nat} (h : 7 < imm) : getsVal r c imm free = free := by
  unfold getsVal
  split
  case h_9 => rfl
  all_goals omega

/-- What the manual states of SOP. -/
def StatesSop (k a b free v : Nat) : Prop :=
  (k = 0 ∧ v = (a + b) % 2 ^ 64) ∨ (k = 1 ∧ v = (a + 2 ^ 64 - b) % 2 ^ 64) ∨ (k = 2 ∧ v = a * b % 2 ^ 64) ∨ (k = 3 ∧ v = a &&& b) ∨
    (k = 4 ∧ v = a ||| b) ∨ (k = 5 ∧ v = a ^^^ b) ∨ (k = 6 ∧ b < 64 ∧ v = a * 2 ^ b % 2 ^ 64) ∨ (k = 7 ∧ b < 64 ∧ v = a / 2 ^ b) ∨
    (k = 8 ∧ sgn 64 v = min (sgn 64 a) (sgn 64 b) ∧ v < 2 ^ 64) ∨ (k = 9 ∧ sgn 64 v = max (sgn 64 a) (sgn 64 b) ∧ v < 2 ^ 64) ∨
    (k = 10 ∧ v = b) ∨ ((k = 6 ∨ k = 7) ∧ 64 ≤ b ∧ v = free % 2 ^ 64) ∨ (10 < k ∧ v = free % 2 ^ 64)

/-- A number below 2^64 is given by its value as two's complement. -/
theorem sgn64_inj {a b : Nat} (ha : a < 2 ^ 64) (hb : b < 2 ^ 64) (h : sgn 64 a = sgn 64 b) : a = b := by
  unfold sgn at h
  rw [Nat.mod_eq_of_lt ha, Nat.mod_eq_of_lt hb] at h
  split_ifs at h <;> omega

theorem sgn64_ite_lt (a b : Nat) : sgn 64 (if sgn 64 b < sgn 64 a then b else a) = min (sgn 64 a) (sgn 64 b) := by
  rw [apply_ite (sgn 64), min_comm, min_def_lt]

theorem sgn64_ite_gt (a b : Nat) : sgn 64 (if sgn 64 a < sgn 64 b then b else a) = max (sgn 64 a) (sgn 64 b) := by
  rw [apply_ite (sgn 64), max_def_lt]

theorem sopVal_beyond {k : Nat} (a b free : Nat) (h : 10 < k) : sopVal k a b free = free % 2 ^ 64 := by
  unfold sopVal
  split
  case h_12 => rfl
  all_goals omega

theorem sopVal_sub {k : Nat} (a b free : Nat) (hk : k = 1) : sopVal k a b free = (a + 2 ^ 64 - b) % 2 ^ 64 := by
  unfold sopVal
  split
  case h_2 => rfl
  case h_12 h _ _ _ _ _ _ _ _ _ => exact absurd hk h
  all_goals omega

theorem sopVal_stated {k a b free v : Nat} (ha : a < 2 ^ 64) (hb : b < 2 ^ 64) (h : StatesSop k a b free v) : sopVal k a b free = v := by
  rcases h with ⟨rfl, h⟩ | ⟨hk, h⟩ | ⟨rfl, h⟩ | ⟨rfl, h⟩ | ⟨rfl, h⟩ | ⟨rfl, h⟩ | ⟨rfl, hlt, h⟩ | ⟨rfl, hlt, h⟩ | ⟨rfl, h, hv⟩ | ⟨rfl, h, hv⟩ |
    ⟨rfl, h⟩ | ⟨hk, hge, h⟩ | ⟨hk, h⟩
  case inr.inl => exact (sopVal_sub a b free hk).trans h.symm
  case inr.inr.inr.inr.inr.inr.inl | inr.inr.inr.inr.inr.inr.inr.inl => exact (if_pos hlt).trans h.symm
  case inr.inr.inr.inr.inr.inr.inr.inr.inl =>
    have hlt : (if sgn 64 b < sgn 64 a then b else a) < 2 ^ 64 := by split <;> assumption
    exact sgn64_inj hlt hv ((sgn64_ite_lt a b).trans h.symm)
  case inr.inr.inr.inr.inr.inr.inr.inr.inr.inl =>
    have hlt : (if sgn 64 a < sgn 64 b then b else a) < 2 ^ 64 := by split <;> assumption
    exact sgn64_inj hlt hv ((sgn64_ite_gt a b).trans h.symm)
  case inr.inr.inr.inr.inr.inr.inr.inr.inr.inr.inr.inl =>
    rcases hk with rfl | rfl <;> exact (if_neg (not_lt.mpr hge)).trans h.symm
  case inr.inr.inr.inr.inr.inr.inr.inr.inr.inr.inr.inr => exact (sopVal_beyond a b free hk).trans h.symm
  all_goals exact h.symm

/-! ## O47 -/

/-- A lane that a step under the mask leaves out. -/
theorem masked_eq (e : StepEnv) (x : Core) {i : Nat} (hi : i < 256) : e.masked x i = (e.st.msk && !(x.M 0).getLsbD i) := by
  simp [StepEnv.masked, hi]

theorem not_masked_iff (e : StepEnv) (x : Core) {i : Nat} (hi : i < 256) : (!e.st.msk || (x.M 0).getLsbD i) = true ↔ e.masked x i = false := by
  rw [masked_eq e x hi]
  cases e.st.msk <;> simp

/-- The lanes into which a DOT adds. -/
theorem dot_takes (e : StepEnv) (x : Core) {k : AccKind} {i : Nat} :
    (decide (i < k.lanes) && (!e.st.msk || (x.M 0).getLsbD i)) = true ↔ i < k.lanes ∧ e.masked x i = false := by
  rw [Bool.and_eq_true, decide_eq_true_eq]
  exact and_congr_right fun hi => not_masked_iff e x (hi.trans_le k.lanes_le)

/-- The words of the accumulators that an ACCCLR leaves. -/
theorem accclr_leaves (e : StepEnv) (x : Core) {j : Nat} :
    (!(decide (j / 256 = e.st.d) && (!e.st.msk || (x.M 0).getLsbD (j % 256)))) = true ↔ ¬ (j / 256 = e.st.d ∧ e.masked x (j % 256) = false) := by
  rw [Bool.not_eq_true', ← Bool.not_eq_true, Bool.and_eq_true, decide_eq_true_eq, not_masked_iff e x (Nat.mod_lt _ (by decide))]

/-- Settles O47: each primitive's step by the lemma of its shape, its value by the lemma of its arithmetic. -/
theorem scalarSteps : Obligations.ScalarSteps := by
  intro s c r st hn x e n k sated
  have hargmax : st.prim = 0x31 → e.fmt < 15 →
      exec (.argmax c) s = .next (s.retire c.val (x.setS st.d (e.argIndex x) (x.psnV st.a))) :=
    fun hp hf => exec_retires hn hp rfl (anyFmt_true hf) rfl
  refine ⟨?gets, ?sop, ?xlane, ?mcount, ?red, ?argmaxNan, ?argmax, ?cmp, ?dotOut, ?dot, ?macc, ?accrd, ?accclr⟩
  case gets =>
    intro hp v hv
    have hrun : exec (.gets c) s = .next (s.retire c.val (x.setS st.d (getsVal r c.val st.imm e.free) false)) := (exec_runs hn hp rfl).trans rfl
    rw [hrun]
    rcases hv with ⟨h, rfl⟩ | ⟨h, rfl⟩ | ⟨h, rfl⟩ | ⟨h, rfl⟩ | ⟨h, rfl⟩ | ⟨h, rfl⟩ | ⟨h, rfl⟩ | ⟨h, rfl⟩ | ⟨h, rfl⟩
    case inr.inr.inr.inr.inr.inr.inr.inr => rw [getsVal_beyond _ _ _ h]
    all_goals rw [h]; rfl
  case sop =>
    rintro hp a b v rfl rfl hb hv
    refine exec_retires hn hp rfl rfl (Prod.ext ?_ rfl)
    exact congrArg (fun w => x.setS st.d w _) (sopVal_stated (tget x.sr st.a 0).isLt hb hv)
  case xlane =>
    refine fun hp hf => ⟨_, exec_retires hn hp rfl (anyFmt_true hf) rfl, fun hlt => if_pos hlt⟩
  case mcount => exact fun hp => exec_retires hn hp rfl rfl rfl
  case red =>
    intro hp hf
    have hred : ∀ q, reduce e.fmt st.imm (vals e.fmt (x.V st.a)) e.free = q →
        exec (.red c) s = .next ((s.noteSat r q.2).retire c.val (x.setS st.d q.1 (x.psnV st.a))) :=
      fun q hq => exec_saturates hn hp rfl (anyFmt_true hf) (by rw [← hq]; rfl)
    refine ⟨fun h0 => hred (k.scalar (accAdd k 0 _).1, (accAdd k 0 _).2) (by rw [h0]; rfl), fun hle h0 hnan => ?_, fun hother => ?_⟩
    · obtain ⟨b, hb, heq, hbest⟩ := reduce_stated e.free (by simpa [vals, lanes] using laneCount_pos hf) hle h0 hnan
      exact ⟨_, b, hred _ heq, hb, by cases b <;> rfl, hbest⟩
    · have h0 : st.imm ≠ 0 := by rcases hother with h | h <;> [omega; exact h.1]
      have hsat := reduce_not_sum e.fmt (vals e.fmt (x.V st.a)) e.free h0
      have hrun := hred _ rfl
      rw [hsat] at hrun
      exact ⟨_, hrun⟩
  case argmaxNan =>
    refine fun hp hf hnan => (hargmax hp hf).trans ?_
    rw [argIndex_nan hnan]
  case argmax =>
    refine fun hp hf i hi hnan hmax hbelow => (hargmax hp hf).trans ?_
    rw [argIndex_eq ⟨hi, hnan, hmax, hbelow⟩]
  case cmp =>
    intro hp hf
    refine ⟨_, exec_retires hn hp rfl (anyFmt_true hf) rfl, fun i hi => ?_⟩
    have hbit := getLsbD_foldl_setBit_where (fun i => st.msk && !(x.M 0).getLsbD i) (fun i => cmpLane st.imm (e.va x i) (e.vb x i) (e.free.testBit i))
      (x.M st.d) (Nat.min_le_left 256 n) i
    refine hbit.trans ?_
    have hcond : (min 256 n ≤ i ∨ (st.msk && !(x.M 0).getLsbD i) = true) ↔ (n ≤ i ∨ e.masked x i = true) :=
      or_congr (by omega) (by rw [masked_eq e x hi]; rfl)
    rw [if_congr hcond rfl rfl, cmpLane_eq]
  case dotOut =>
    refine fun hp hf hout => exec_retires hn hp rfl (anyFmt_true hf) (if_neg (mt (dot_takes e x).mp ?_))
    rintro ⟨hlt, hopen⟩
    rcases hout with h | h
    · exact Nat.not_lt.mpr h hlt
    · exact Bool.false_ne_true (hopen.symm.trans h)
  case dot =>
    intro hp hf hlt hopen q
    refine exec_saturates (b := q.2) hn hp rfl (anyFmt_true hf) (if_pos ?_)
    exact (dot_takes e x).mpr ⟨hlt, hopen⟩
  case macc =>
    intro hp hf
    obtain ⟨hlanes, hother, hflag⟩ := foldl_accStep x.acc st.d k (fun i => st.msk && !(decide (i < 256) && (x.M 0).getLsbD i))
      (fun i => mulV (e.va x i) (e.vb x i)) (Nat.min_le_left k.lanes n)
    refine ⟨_, _, exec_saturates hn hp rfl (anyFmt_true hf) rfl, fun i hi => (hlanes i).trans ?_, hother, hflag.trans ?_⟩
    · exact if_congr (or_congr_left (by omega)) rfl rfl
    · exact exists_congr fun i => ⟨fun ⟨h, h'⟩ => ⟨by omega, by omega, h'⟩, fun ⟨h, h', h''⟩ => ⟨by omega, h''⟩⟩
  case accrd =>
    refine fun hp hf => exec_writes hn hp rfl (anyFmt_true hf) rfl fun i hi v hv => ⟨v, ?_, rfl⟩
    have hlt : i < k.lanes - st.imm := by
      by_contra h
      rw [if_neg (by omega)] at hv
      cases hv
    rw [if_pos (by omega)] at hv
    obtain rfl := Option.some.inj hv
    have hi' : i < laneCount (s.envAt c.val r st).st.fmt2 := hi
    simp only [StepEnv.widen, List.getElem?_map, List.getElem?_range hi', Option.map_some, Option.getD_some]
    exact congrArg some (if_pos hlt)
  case accclr =>
    refine fun hp => ⟨_, exec_retires hn hp rfl rfl rfl, fun j => ?_⟩
    refine (tget_filter_key (fun j => !(decide (j / 256 = st.d) && (!st.msk || (x.M 0).getLsbD (j % 256)))) x.acc j 0).trans ?_
    exact (if_congr (accclr_leaves e x) rfl rfl).trans (ite_not ..)

end Sys2Proof.Machine
end

section
/-! SUPPORT. Where the cores of an op meet, and the control steps (R299, R303, R305, R307). -/

namespace Sys2Proof.Machine

/-! ## The step in hand -/

/-- What a core that stands at a step is: online in the running op, neither halted nor waiting. -/
theorem nextStep_stands {s : State} {c : Nat} {r : Running} {st : IStep} (h : s.nextStep c = some (r, st)) :
    s.ch.run = some r ∧ c ∈ r.cores ∧ (s.core c).halted = false ∧ (s.core c).waiting = false := by
  unfold State.nextStep at h
  split at h
  · cases h
  · next r' hr =>
    extract_lets x at h
    split at h
    · next hcond =>
      split at h
      · next l hl =>
        obtain ⟨st', -, heq⟩ := Option.map_eq_some_iff.mp h
        cases heq
        simp only [Bool.and_eq_true, Bool.not_eq_true', List.contains_iff_mem] at hcond
        obtain ⟨⟨⟨-, hmem⟩, hhalted⟩, hwaiting⟩ := hcond
        exact ⟨hr, hmem, hhalted, hwaiting⟩
      · cases h
    · cases h

/-! ## A retired step -/

/-- The registers with which a core goes on to its next step. -/
def Core.onward (y : Core) (now : Nat) : Core := { y with pc := y.pc + 1, stepAt := now, waiting := false }

theorem retire_core (s : State) (c : Nat) (y : Core) (k : Nat) : (s.retire c y).core k = if k = c then y.onward s.now else s.core k :=
  State.setCore_core ..

theorem retire_run (s : State) (c : Nat) (y : Core) : (s.retire c y).ch.run = s.ch.run := rfl

/-- The steps of several cores are done. -/
def State.retireAll (s : State) (es : List (Nat × Core)) : State := es.foldl (fun t e => t.retire e.1 e.2) s

theorem retireAll_now (s : State) (es : List (Nat × Core)) : (s.retireAll es).now = s.now := foldl_proj State.now (fun t (e : Nat × Core) => t.retire e.1 e.2) (fun _ _ => rfl) es s
theorem retireAll_run (s : State) (es : List (Nat × Core)) : (s.retireAll es).ch.run = s.ch.run :=
  foldl_proj (fun t => t.ch.run) (fun t (e : Nat × Core) => t.retire e.1 e.2) (fun _ _ => rfl) es s

theorem retireAll_core_other (s : State) {es : List (Nat × Core)} {k : Nat} (h : ∀ e ∈ es, e.1 ≠ k) : (s.retireAll es).core k = s.core k := by
  induction es generalizing s with
  | nil => rfl
  | cons e es ih =>
    refine (ih _ fun e' he' => h e' (List.mem_cons_of_mem _ he')).trans ?_
    rw [retire_core, if_neg (h e List.mem_cons_self).symm]

/-- The core named at one place alone goes on with the registers given there. -/
theorem retireAll_core (s : State) {es : List (Nat × Core)} {l : Nat} (hl : l < es.length) (honce : ∀ m (hm : m < es.length), m ≠ l → es[m].1 ≠ es[l].1) :
    (s.retireAll es).core es[l].1 = es[l].2.onward s.now := by
  have hsplit : es = es.take l ++ es[l] :: es.drop (l + 1) := by simp
  have hrest : ∀ e ∈ es.drop (l + 1), e.1 ≠ es[l].1 := by
    intro e he
    obtain ⟨m, hm, rfl⟩ := List.mem_iff_getElem.mp he
    rw [List.getElem_drop]
    exact honce _ _ (by omega)
  have hfold : s.retireAll es = (((s.retireAll (es.take l)).retire es[l].1 es[l].2).retireAll (es.drop (l + 1))) := by
    conv_lhs => rw [hsplit]
    exact List.foldl_append.trans rfl
  rw [hfold, retireAll_core_other _ hrest, retire_core, if_pos rfl, retireAll_now]

/-! ## Where the cores meet (R305) -/

/-- A core waits at the step. -/
def Core.waitsAt (y : Core) (pc : Nat) : Prop := y.waiting = true ∧ y.pc = pc ∧ y.halted = false

section
variable {s : State} {c : Nat} {r : Running} (all : State → Nat → Core → Core)

/-- The state in which core c waits. -/
abbrev State.waitAt (s : State) (c : Nat) : State := s.setCore c { s.core c with waiting := true }

/-- A core that comes before another waits for it. -/
theorem meet_waits (h : ∃ k ∈ r.cores, k ≠ c ∧ ¬ (s.core k).waitsAt (s.core c).pc) : s.meet c r all = s.waitAt c := by
  obtain ⟨k, hk, hkc, hnot⟩ := h
  unfold State.meet
  extract_lets y u pc
  refine if_neg fun hall => hnot ?_
  have hpc : pc = (s.core c).pc := by simp [pc, u, y]
  have := List.all_eq_true.mp hall k hk
  simpa [u, y, State.setCore_core, hkc, hpc, Core.waitsAt, and_assoc] using this

variable (hc : (s.core c).halted = false) (hothers : ∀ k ∈ r.cores, k ≠ c → (s.core k).waitsAt (s.core c).pc)
include hothers

/-- When the last one comes, every core of the op waits at the same step. -/
theorem waitAt_core {k : Nat} (hk : k ∈ r.cores) : (s.waitAt c).core k = { s.core k with waiting := true } := by
  rw [State.setCore_core]
  split
  · next h => rw [h]
  · next h =>
    have hw := (hothers k hk h).1
    generalize s.core k = y at hw ⊢
    cases y
    cases hw
    rfl

theorem pc_meets {k : Nat} (hk : k ∈ r.cores) : (s.core k).pc = (s.core c).pc := by
  by_cases h : k = c
  · rw [h]
  · exact (hothers k hk h).2.1

include hc

theorem meet_goes : s.meet c r all =
    (s.waitAt c).retireAll (r.cores.mapIdx fun l k => (k, all (s.waitAt c) l ((s.waitAt c).core k))) := by
  unfold State.meet
  extract_lets y u pc
  refine if_pos (List.all_eq_true.mpr fun k hk => ?_)
  have hpc : pc = (s.core c).pc := by simp [pc, u, y]
  have hhalted : (s.core k).halted = false := by
    by_cases h : k = c
    · rw [h, hc]
    · exact (hothers k hk h).2.2
  rw [show u.core k = _ from waitAt_core hothers hk, hpc]
  simp [pc_meets hothers hk, hhalted]

theorem meet_run : (s.meet c r all).ch.run = s.ch.run := by
  rw [meet_goes all hc hothers]
  exact retireAll_run ..

/-- The core at a place of its own goes on with the registers that `all` gives it. -/
theorem meet_core (hall : ∀ t l y, (all t l y).pc = y.pc) {l : Nat} (hl : l < r.cores.length)
    (honce : ∀ m < r.cores.length, m ≠ l → r.cores.getD m 0 ≠ r.cores.getD l 0) :
    (s.meet c r all).core (r.cores.getD l 0) =
      { all (s.waitAt c) l { s.core (r.cores.getD l 0) with waiting := true } with pc := (s.core c).pc + 1, stepAt := s.now, waiting := false } := by
  have hget : ∀ {m} (hm : m < r.cores.length), r.cores.getD m 0 = r.cores[m] := fun hm => by simp [hm]
  have hmem : r.cores[l] ∈ r.cores := List.getElem_mem hl
  rw [meet_goes all hc hothers, hget hl]
  have hcore := retireAll_core (s.waitAt c) (es := r.cores.mapIdx fun l k => (k, all (s.waitAt c) l ((s.waitAt c).core k))) (l := l) (by simpa using hl)
    (fun m hm hml => by
      have hm' : m < r.cores.length := by simpa using hm
      have hne := honce m hm' hml
      rw [hget hm', hget hl] at hne
      simpa using hne)
  rw [List.getElem_mapIdx, waitAt_core hothers hmem] at hcore
  rw [hcore, Core.onward, hall, pc_meets hothers hmem]
  rfl

end

/-! ## The end of a loop's body (R305) -/

/-- Step i is one of a primitive. -/
def Loaded.isPrim (l : Loaded) (k i : Nat) : Bool := match l.step i with | some z => decide (z.prim = k) | none => false

/-- The steps of a primitive among the n from i on. -/
def Loaded.count (l : Loaded) (k i n : Nat) : Nat := (List.range n).countP fun j => l.isPrim k (i + j)

theorem Loaded.count_succ (l : Loaded) (k i n : Nat) : l.count k i (n + 1) = b2n (l.isPrim k i) + l.count k (i + 1) n := by
  unfold Loaded.count
  rw [List.range_succ_eq_map, List.countP_cons, List.countP_map, Nat.add_comm]
  simp only [Nat.add_zero, b2n, Function.comp_def, Nat.succ_eq_add_one, Nat.add_right_comm i 1, Nat.add_assoc i]

theorem isPrim_some {l : Loaded} {i : Nat} {st : IStep} (h : l.step i = some st) (k : Nat) : l.isPrim k i = decide (st.prim = k) := by
  unfold Loaded.isPrim
  rw [h]

/-- With `depth` loops open before step i, the search ends after the first step at which as many ENDLs as loops are passed. -/
theorem loopEnd_eq (l : Loaded) {d n i depth : Nat} (hn : d < n) (hdepth : 0 < depth) (hsteps : ∀ j ≤ d, (l.step (i + j)).isSome = true)
    (hopen : ∀ m < d, l.count 0x51 i (m + 1) < l.count 0x50 i (m + 1) + depth)
    (hend : l.count 0x51 i (d + 1) = l.count 0x50 i (d + 1) + depth) : loopEnd l n i depth = i + d + 1 := by
  induction d generalizing n i depth with
  | zero =>
    obtain ⟨n, rfl⟩ := Nat.exists_eq_add_one.mpr hn
    obtain ⟨st, hst⟩ := Option.isSome_iff_exists.mp (hsteps 0 le_rfl)
    rw [Nat.add_zero] at hst
    rw [l.count_succ, l.count_succ, isPrim_some hst, isPrim_some hst] at hend
    have hprim : st.prim = 0x51 := by
      by_contra h
      simp [b2n, h, Loaded.count] at hend
      omega
    simp only [hprim, b2n, Loaded.count] at hend
    have hone : depth ≤ 1 := by simp at hend; omega
    simp [loopEnd, hst, hprim, hone]
  | succ d ih =>
    obtain ⟨n, rfl⟩ := Nat.exists_eq_add_one.mpr (Nat.zero_lt_of_lt hn)
    obtain ⟨st, hst⟩ := Option.isSome_iff_exists.mp (hsteps 0 (Nat.zero_le _))
    rw [Nat.add_zero] at hst
    have hcount : ∀ k m, l.count k i (m + 1) = b2n (decide (st.prim = k)) + l.count k (i + 1) m := fun k m => by
      rw [l.count_succ, isPrim_some hst]
    have hsteps' : ∀ j ≤ d, (l.step (i + 1 + j)).isSome = true := fun j hj => by
      rw [Nat.add_right_comm, Nat.add_assoc]
      exact hsteps (j + 1) (by omega)
    simp only [hcount] at hopen hend
    have hgoal : i + (d + 1) + 1 = i + 1 + d + 1 := by omega
    rw [hgoal]
    by_cases h50 : st.prim = 0x50
    · simp only [loopEnd, hst, h50, if_true]
      simp only [h50, b2n] at hopen hend
      exact ih (by omega) (by omega) hsteps' (fun m hm => by have := hopen (m + 1) (by omega); simp at this; omega) (by simp at hend; omega)
    · by_cases h51 : st.prim = 0x51
      · simp only [h51, b2n] at hopen hend
        have hdeep : ¬ depth ≤ 1 := by have := hopen 0 (by omega); simp [Loaded.count] at this; omega
        simp only [loopEnd, hst, h51, hdeep, if_true, if_false]
        exact ih (by omega) (by omega) hsteps' (fun m hm => by have := hopen (m + 1) (by omega); simp at this; omega) (by simp at hend; omega)
      · simp only [h50, h51, b2n] at hopen hend
        simp only [loopEnd, hst, h50, h51, if_false]
        exact ih (by omega) (by omega) hsteps' (fun m hm => by have := hopen (m + 1) (by omega); simp at this; omega) (by simp at hend; omega)

/-- A LOOP of no rounds goes on after the ENDL at which its body ends. -/
theorem loopEnd_of_counts (l : Loaded) {pc q : Nat} (hlo : pc < q) (hhi : q ≤ pc + 4096) (hsteps : ∀ i, pc < i → i ≤ q → (l.step i).isSome = true)
    (hopen : ∀ i, pc < i → i < q → l.count 0x51 (pc + 1) (i - pc) ≤ l.count 0x50 (pc + 1) (i - pc))
    (hend : l.count 0x51 (pc + 1) (q - pc) = l.count 0x50 (pc + 1) (q - pc) + 1) : loopEnd l 4096 (pc + 1) 1 = q + 1 := by
  obtain ⟨d, rfl⟩ := Nat.exists_eq_add_of_lt hlo
  have hsub : ∀ m, pc + m + 1 - pc = m + 1 := fun m => by omega
  rw [hsub] at hend
  refine (loopEnd_eq l (d := d) (by omega) Nat.one_pos (fun j hj => hsteps _ (by omega) (by omega)) (fun m hm => ?_) hend).trans (by omega)
  have := hopen (pc + m + 1) (by omega) (by omega)
  rw [hsub] at this
  omega

/-- A LOOP of m rounds. -/
def State.enterLoop (s : State) (c : Nat) (r : Running) (x : Core) (m : Nat) : State :=
  if m = 0 then
    match s.itin r with
    | some l => s.setCore c { x with pc := loopEnd l 4096 (x.pc + 1) 1, stepAt := s.now }
    | none => s
  else s.retire c { x with loops := (x.pc + 1, m - 1) :: x.loops }

/-- An ENDL. -/
def State.leaveLoop (s : State) (c : Nat) (x : Core) : State :=
  match x.loops with
  | (pc, n) :: rest => if n = 0 then s.retire c { x with loops := rest }
                       else s.setCore c { x with pc := pc, loops := (pc, n - 1) :: rest, stepAt := s.now }
  | [] => s.retire c x

/-- Core k waits at an XCHG or ALLRED. -/
def State.meetsAt (s : State) (r : Running) (k : Nat) : Bool :=
  (s.core k).waiting && (match (s.itin r).bind (fun l => l.step (s.core k).pc) with
    | some st => decide (st.prim = 0x48) || decide (st.prim = 0x49) | none => false)

/-- A HALT, in the state in which its core has halted. -/
def State.haltAmong (s : State) (r : Running) : State :=
  match r.cores.find? (s.meetsAt r) with
  | some k => s.writeBlocks.faultAt k
  | none => s.writeBlocks

theorem meetsAt_of_step {s : State} {r : Running} {l : Loaded} {k : Nat} {z : IStep} (hl : s.itin r = some l) (hw : (s.core k).waiting = true)
    (hz : l.step (s.core k).pc = some z) (hp : z.prim = 0x48 ∨ z.prim = 0x49) : s.meetsAt r k = true := by
  simp [State.meetsAt, hw, hl, hz, hp]

/-! ## What the cores hand one another (R299, R305) -/

theorem anyHalted_false {s : State} {r : Running} (h : ∀ k ∈ r.cores, (s.core k).halted = false) : s.anyHalted r = false := by
  simpa [State.anyHalted] using h

theorem anyHalted_true {s : State} {r : Running} (h : ∃ k ∈ r.cores, (s.core k).halted = true) : s.anyHalted r = true := by
  simpa [State.anyHalted] using h

/-- The registers with which a core leaves an XCHG. -/
def StepEnv.exchange (e : StepEnv) (r : Running) (t : State) (l : Nat) (y : Core) : Core :=
  let z := t.core (r.cores.getD ((l + e.st.imm) % r.cores.length) 0)
  if e.st.msk then e.write y e.fmt ((lanes e.fmt (z.V e.st.a)).map some) (z.psnV e.st.a)
  else y.setV e.st.d (tget z.v e.st.a 0) (z.psnV e.st.a)

theorem exchange_pc (e : StepEnv) (r : Running) (t : State) (l : Nat) (y : Core) : (e.exchange r t l y).pc = y.pc := by
  unfold StepEnv.exchange
  split <;> rfl

/-- Lane i of a vector that takes another's lanes under the mask. -/
theorem lane_write_lanes (e : StepEnv) (y : Core) (v : Nat) (p : Bool) {i : Nat} (hi : i < laneCount e.fmt) :
    lane e.fmt ((e.write y e.fmt ((lanes e.fmt v).map some) p).V e.st.d) i = if e.masked y i = true then lane e.fmt (y.V e.st.d) i else lane e.fmt v i := by
  have hreg : (e.write y e.fmt ((lanes e.fmt v).map some) p).V e.st.d = (putLanes e.fmt (tget y.v e.st.d 0) (e.mask y) ((lanes e.fmt v).map some)).toNat :=
    congrArg BitVec.toNat (tget_tset_same ..)
  rw [hreg, lane_putLanes _ _ _ _ hi]
  split
  · next h => rw [putLane_masked _ _ _ h, lane_mod]; rfl
  · next h => rw [putLane_open (n := lane e.fmt v i) _ _ (by simpa using h) (by rw [List.getElem?_map, lanes_getElem? _ _ hi]; rfl), lane_mod]

/-- The sum over the cores in logical order, each addition rounded (R299). -/
theorem allLane_sum (e : StepEnv) (i : Nat) (l : List Nat) (h0 : e.st.imm = 0) : (allLane e i l).1 =
    encode e.fmt .rne false (laneVal (accKind e.fmt).code (l.foldl (fun a v => (accAdd (accKind e.fmt) a (laneVal e.fmt v)).1) 0)) := by
  have hfst : ∀ (q : List Nat) (a : Nat × Bool), ((q.map (laneVal e.fmt)).foldl (fun (a : Nat × Bool) v =>
      let t := accAdd (accKind e.fmt) a.1 v; (t.1, a.2 || t.2)) a).1 = q.foldl (fun a v => (accAdd (accKind e.fmt) a (laneVal e.fmt v)).1) a.1 := by
    intro q
    induction q with
    | nil => exact fun _ => rfl
    | cons v q ih => exact fun a => ih _
  unfold allLane
  rw [if_pos h0]
  exact congrArg (fun a => encode e.fmt .rne false (laneVal (accKind e.fmt).code a)) (hfst l (0, false))

/-- The minimum or maximum over the cores is a lane of one, and no other comes before it. -/
theorem allLane_best (e : StepEnv) (i : Nat) {l : List Nat} (hne : l ≠ []) (hk : e.st.imm = 1 ∨ e.st.imm = 2)
    (hnum : ∀ v ∈ l, (laneVal e.fmt v).isNan = false) : (allLane e i l).1 ∈ l ∧
      ∀ v ∈ l, redLess e.st.imm (laneVal e.fmt (allLane e i l).1) (laneVal e.fmt v) = false := by
  obtain ⟨w, m, rfl⟩ := List.exists_cons_of_ne_nil hne
  have hany : ((w :: m).map (laneVal e.fmt)).any FVal.isNan = false := by simpa using hnum
  have hbest : (allLane e i (w :: m)).1 = bestFrom (fun a b => redLess e.st.imm (laneVal e.fmt a) (laneVal e.fmt b)) w (w :: m) := by
    unfold allLane
    rw [if_neg (by omega), if_neg (by rw [hany]; simp; omega)]
    rfl
  rw [hbest]
  refine ⟨by simpa using bestFrom_mem _ w (w :: m), fun v hv => ?_⟩
  exact bestFrom_best (less := fun a b => redLess e.st.imm (laneVal e.fmt a) (laneVal e.fmt b)) (fun _ _ _ => redLess_trans _ _ _ _)
    (fun _ => redLess_irrefl _ _) w (w :: m) v (List.mem_cons_of_mem _ hv)

theorem redLess_eq_false {k : Nat} {a b : FVal} : redLess k a b = false ↔ if k = 1 then ltV b a = false else ltV a b = false := by
  unfold redLess
  split <;> rfl

/-- The lanes over the cores that an ALLRED reduces. -/
def State.coreLanes (s : State) (r : Running) (e : StepEnv) (i : Nat) : List Nat := r.cores.map fun k => lane e.fmt ((s.core k).V e.st.a) i

/-- The results of an ALLRED. -/
def State.allLanes (s : State) (r : Running) (e : StepEnv) : List (Nat × Bool) :=
  (List.range (laneCount e.fmt)).map fun i => allLane e i (s.coreLanes r e i)

/-- The registers with which a core leaves an ALLRED. -/
def State.reduced (s : State) (r : Running) (e : StepEnv) (y : Core) : Core :=
  e.write y e.fmt ((s.allLanes r e).map fun q => some q.1) (r.cores.any fun k => (s.core k).psnV e.st.a)

theorem reduced_v_other (s : State) (r : Running) (e : StepEnv) (y : Core) {j : Nat} (hj : j ≠ e.st.d) :
    tget (s.reduced r e y).v j 0 = tget y.v j 0 := tget_tset_other _ _ _ _ _ hj

theorem lane_reduced (s : State) (r : Running) (e : StepEnv) (y : Core) {i : Nat} (hi : i < laneCount e.fmt) :
    lane e.fmt ((s.reduced r e y).V e.st.d) i =
      if e.masked y i = true then lane e.fmt (y.V e.st.d) i else (allLane e i (s.coreLanes r e i)).1 % 2 ^ laneWidth e.fmt := by
  have hreg : (s.reduced r e y).V e.st.d = (putLanes e.fmt (tget y.v e.st.d 0) (e.mask y) ((s.allLanes r e).map fun q => some q.1)).toNat :=
    congrArg BitVec.toNat (tget_tset_same ..)
  rw [hreg, lane_putLanes _ _ _ _ hi]
  split
  · next h => rw [putLane_masked _ _ _ h, lane_mod]; rfl
  · next h =>
    rw [putLane_open (n := (allLane e i (s.coreLanes r e i)).1) _ _ (by simpa using h)]
    simp [State.allLanes, hi]

/-- An ALLRED of cores none of which has halted; a saturation is noted when they go on. -/
def State.reduceAll (s : State) (c : Nat) (r : Running) (e : StepEnv) : State :=
  let t := s.meet c r fun _ _ y => s.reduced r e y
  if (t.core c).waiting then t
  else match t.ch.run with
    | some q => t.setRun { q with sat := q.sat || (s.allLanes r e).any Prod.snd }
    | none => t

theorem reduceAll_core (s : State) (c : Nat) (r : Running) (e : StepEnv) (k : Nat) :
    (s.reduceAll c r e).core k = (s.meet c r fun _ _ y => s.reduced r e y).core k := by
  unfold State.reduceAll
  extract_lets t
  split
  · rfl
  · split <;> rfl

section
variable {s : State} {c : Nat} {r : Running} (e : StepEnv) (hc : (s.core c).halted = false)
  (hothers : ∀ k ∈ r.cores, k ≠ c → (s.core k).waitsAt (s.core c).pc) {l : Nat} (hl : l < r.cores.length)
  (honce : ∀ m < r.cores.length, m ≠ l → r.cores.getD m 0 ≠ r.cores.getD l 0)
include hc hothers hl honce

/-- The last core to come at an ALLRED lets the core of logical index l go on with the result. -/
theorem reduceAll_goes : (s.reduceAll c r e).core (r.cores.getD l 0) =
    { s.reduced r e { s.core (r.cores.getD l 0) with waiting := true } with pc := (s.core c).pc + 1, stepAt := s.now, waiting := false } :=
  (reduceAll_core ..).trans (meet_core (fun _ _ y => s.reduced r e y) hc hothers (fun _ _ _ => rfl) hl honce)

theorem reduceAll_v_other {j : Nat} (hj : j ≠ e.st.d) :
    tget ((s.reduceAll c r e).core (r.cores.getD l 0)).v j 0 = tget (s.core (r.cores.getD l 0)).v j 0 := by
  rw [reduceAll_goes e hc hothers hl honce]
  exact reduced_v_other s r e _ hj

theorem lane_reduceAll {i : Nat} (hi : i < laneCount e.fmt) : lane e.fmt (((s.reduceAll c r e).core (r.cores.getD l 0)).V e.st.d) i =
    if e.masked (s.core (r.cores.getD l 0)) i = true then lane e.fmt ((s.core (r.cores.getD l 0)).V e.st.d) i
    else (allLane e i (s.coreLanes r e i)).1 % 2 ^ laneWidth e.fmt := by
  rw [reduceAll_goes e hc hothers hl honce]
  exact lane_reduced s r e _ hi

end

/-! ## O49 -/

/-- Settles O49: ALLRED, XCHG and BAR by what a core finds when it comes last, LOOP by the count of the loops that its body opens. -/
theorem flowSteps : Obligations.FlowSteps := by
  intro s c r st hn x e n others there once goesOn waits
  obtain ⟨hrun, hmem, hhalted, hwaiting⟩ := nextStep_stands hn
  refine ⟨?bar, ?xchg, ?allred, ?stops, ?loop, ?endl, ?brz, ?halt⟩
  case bar =>
    intro hp
    have hbar : exec (.bar c) s = .next (s.meet c.val r fun _ _ y => y) := (exec_runs hn hp rfl).trans rfl
    refine ⟨fun h => hbar.trans (congrArg _ (meet_waits _ h)), fun h => ⟨_, hbar, meet_run _ hhalted h, fun l hl honce => ?_⟩⟩
    exact meet_core _ hhalted h (fun _ _ _ => rfl) hl honce
  case xchg =>
    intro hp hnone
    have hxchg : exec (.xchg c) s = .next (s.meet c.val r (e.exchange r)) :=
      (exec_runs hn hp rfl).trans (congrArg _ (if_neg (by rw [anyHalted_false hnone]; decide)))
    refine ⟨fun h => hxchg.trans (congrArg _ (meet_waits _ h)), fun h => ⟨_, hxchg, meet_run _ hhalted h, fun l hl => ?_⟩⟩
    intro y z
    have hfrom : r.cores.getD ((l + st.imm) % r.cores.length) 0 ∈ r.cores := by
      have hlt : (l + st.imm) % r.cores.length < r.cores.length := Nat.mod_lt _ (by omega)
      simp [hlt]
    have hz := waitAt_core (s := s) (c := c.val) h hfrom
    have hex : ∀ y, e.exchange r (s.waitAt c.val) l y =
        if st.msk then e.write y e.fmt ((lanes e.fmt (z.V st.a)).map some) (z.psnV st.a) else y.setV st.d (tget z.v st.a 0) (z.psnV st.a) := by
      intro y
      unfold StepEnv.exchange
      rw [show (s.waitAt c.val).core (r.cores.getD ((l + e.st.imm) % r.cores.length) 0) = { z with waiting := true } from hz]
      rfl
    refine ⟨fun hmsk honce => ?_, fun hmsk honce i hi => ?_⟩
    · rw [meet_core _ hhalted h (exchange_pc e r) hl honce, hex, if_neg (by simp [hmsk])]
      rfl
    · rw [meet_core _ hhalted h (exchange_pc e r) hl honce, hex, if_pos hmsk]
      exact lane_write_lanes e { y with waiting := true } (z.V st.a) (z.psnV st.a) hi
  case allred =>
    intro hp hf hnone
    obtain ⟨e', hfmt, hst, hallred⟩ : ∃ e' : StepEnv, e'.fmt = e.fmt ∧ e'.st = st ∧ exec (.allred c) s = .next (s.reduceAll c.val r e') :=
      ⟨{ e with free := Config.freeValue (r.at_ (r.cores.headD 0) (s.core (r.cores.headD 0))) }, rfl, rfl,
        (exec_runs hn hp rfl).trans (congrArg _ (if_neg (by rw [anyHalted_false hnone, anyFmt_true hf]; decide)))⟩
    refine ⟨fun h => hallred.trans (congrArg _ ?_), fun h => ⟨_, hallred, fun l hl honce => ?_⟩⟩
    · unfold State.reduceAll
      rw [meet_waits _ h, if_pos (by rw [State.setCore_core_same])]
    · intro y z
      have hz : z = _ := reduceAll_goes e' hhalted h hl honce
      have hother : ∀ j, j ≠ st.d → tget z.v j 0 = tget y.v j 0 := fun j hj => reduceAll_v_other e' hhalted h hl honce (hst ▸ hj)
      have hlane : ∀ i < n, lane e.fmt (z.V st.d) i =
          if e.masked y i = true then lane e.fmt (y.V st.d) i else (allLane e' i (s.coreLanes r e' i)).1 % 2 ^ laneWidth e.fmt := by
        intro i hi
        have hi' := lane_reduceAll e' hhalted h hl honce (i := i) (by rwa [hfmt])
        rwa [hfmt, hst, StepEnv.masked, hst] at hi'
      refine ⟨by rw [hz], by rw [hz], by rw [hz]; rfl, by rw [hz]; rfl, by rw [hz]; rfl, hother, fun i hi => ⟨fun hmask => ?_, ?_⟩⟩
      · rw [hlane i hi, if_pos hmask]
      intro all hopen
      have hall : s.coreLanes r e' i = all := by rw [State.coreLanes, hfmt, hst]
      have hvalue := hlane i hi
      rw [if_neg (by rw [hopen]; decide), hall] at hvalue
      rw [hvalue]
      refine ⟨fun h0 => ?_, fun hk hnum => ?_⟩
      · rw [allLane_sum e' i _ (hst ▸ h0), hfmt]
      · obtain ⟨hin, hbest⟩ := allLane_best e' i (l := all) (by simpa [all] using List.ne_nil_of_mem hmem) (hst ▸ hk) (hfmt ▸ hnum)
        have hmod : (allLane e' i all).1 % 2 ^ laneWidth e.fmt = (allLane e' i all).1 := by
          obtain ⟨k, -, hlane⟩ := List.mem_map.mp hin
          rw [← hlane, lane_mod]
        rw [hmod]
        refine ⟨hin, fun v hv => ?_⟩
        rw [← redLess_eq_false, ← hst, ← hfmt]
        exact hbest v hv
  case stops =>
    rintro (hp | hp) hsome
    · rw [if_pos hp]
      exact (exec_runs hn hp rfl).trans (congrArg _ (if_pos (by rw [anyHalted_true hsome, Bool.or_true])))
    · rw [if_neg (by omega)]
      exact (exec_runs hn hp rfl).trans (congrArg _ (if_pos (anyHalted_true hsome)))
  case loop =>
    intro hp m hm
    have hloop : exec (.loop c) s = .next (s.enterLoop c.val r x m) := by
      rw [hm]
      exact (exec_runs hn hp rfl).trans rfl
    refine ⟨fun h => hloop.trans (congrArg _ (if_neg h)), fun h l q hl hlo hhi => ?_⟩
    intro count hsteps hopen hend
    rw [hloop, State.enterLoop, if_pos h, show s.itin r = some l from hl]
    dsimp only
    rw [loopEnd_of_counts l hlo hhi hsteps hopen hend]
  case endl =>
    intro hp
    have hendl : exec (.endl c) s = .next (s.leaveLoop c.val x) := (exec_runs hn hp rfl).trans rfl
    refine ⟨fun p m rest hl => ?_, fun p rest hl => ?_⟩ <;> rw [hendl, State.leaveLoop, hl] <;> rfl
  case brz =>
    intro hp
    exact ⟨fun h => (exec_runs hn hp rfl).trans (congrArg _ (if_pos h)), fun h => (exec_runs hn hp rfl).trans (congrArg _ (if_neg h))⟩
  case halt =>
    intro hp
    have hhalt : exec (.halt c) s = .next ((s.setCore c.val { x with halted := true, stepAt := s.now }).haltAmong r) := (exec_runs hn hp rfl).trans rfl
    have hcore : ∀ k, (s.setCore c.val { x with halted := true, stepAt := s.now }).core k =
        if k = c.val then { x with halted := true, stepAt := s.now } else s.core k := State.setCore_core _ _ _
    refine ⟨fun hnone => hhalt.trans ?_, fun l hl hsome => ?_⟩
    · have hfind : r.cores.find? (State.meetsAt (s.setCore c.val { x with halted := true, stepAt := s.now }) r) = none := by
        refine List.find?_eq_none.mpr fun k hk => ?_
        have hw : ((s.setCore c.val { x with halted := true, stepAt := s.now }).core k).waiting = false := by
          rw [hcore]
          split
          · exact hwaiting
          · next hkc => exact hnone k hk hkc
        simp [State.meetsAt, hw]
      rw [State.haltAmong, hfind]
    · obtain ⟨k, hk, hkc, hw, z, hz, hprim⟩ := hsome
      have hk' : (s.setCore c.val { x with halted := true, stepAt := s.now }).core k = s.core k := (hcore k).trans (if_neg hkc)
      have hfind : (r.cores.find? (State.meetsAt (s.setCore c.val { x with halted := true, stepAt := s.now }) r)).isSome = true :=
        List.find?_isSome.mpr ⟨k, hk, meetsAt_of_step hl (by rw [hk', hw]) (by rw [hk', hz]) hprim⟩
      obtain ⟨k', hk''⟩ := Option.isSome_iff_exists.mp hfind
      rw [hhalt, State.haltAmong, hk'']
      exact ⟨_, rfl⟩

end Sys2Proof.Machine
end

section
/-! SUPPORT. The primitives that move data (R280, R292, R305, R307, R315, R320): bytes of the local memory, counts in it, whole
records of an input, and the bytes of a model. -/

namespace Sys2Proof.Machine

/-! ## Bytes of a number -/

/-- Byte i of a number. -/
def byteAt (v i : Nat) : Byte := BitVec.ofNat 8 (v / 256 ^ i)

theorem getElem_leBytes {n x i : Nat} (h : i < (leBytes n x).length) : (leBytes n x)[i] = byteAt x i := by
  induction n generalizing x i with
  | zero => simp [leBytes] at h
  | succ n ih =>
    cases i with
    | zero => simp [leBytes, byteAt]
    | succ i =>
      have hi : i < (leBytes n (x / 256)).length := by simpa using h
      rw [show (leBytes (n + 1) x)[i + 1] = (leBytes n (x / 256))[i] from rfl, ih hi, byteAt, byteAt, Nat.div_div_eq_div_mul, pow_succ']

theorem ofLe_lt (l : List Byte) : ofLe l < 256 ^ l.length := by
  induction l with
  | nil => simp [ofLe]
  | cons b l ih =>
    have hb : b.toNat < 256 := b.isLt
    simp only [ofLe, List.length_cons, pow_succ']
    omega

theorem byteAt_ofLe {l : List Byte} {i : Nat} (h : i < l.length) : byteAt (ofLe l) i = l[i] := by
  induction l generalizing i with
  | nil => simp at h
  | cons b l ih =>
    have hb : b.toNat < 256 := b.isLt
    cases i with
    | zero =>
      apply BitVec.eq_of_toNat_eq
      simp [byteAt, ofLe, Nat.mod_eq_of_lt hb]
    | succ i =>
      have hdiv : ofLe (b :: l) / 256 ^ (i + 1) = ofLe l / 256 ^ i := by
        rw [pow_succ', ← Nat.div_div_eq_div_mul, ofLe, Nat.add_mul_div_left _ _ (by decide), Nat.div_eq_of_lt hb, Nat.zero_add]
      rw [byteAt, hdiv]
      exact ih (by simpa using h)

/-- 256 bytes fill a vector. -/
theorem toNat_ofLe_vector {l : List Byte} (h : l.length = 256) : (BitVec.ofNat 2048 (ofLe l)).toNat = ofLe l := by
  have hlt := ofLe_lt l
  have h256 : (256 : Nat) ^ 256 = 2 ^ 2048 := (pow_mul 2 8 256).symm
  rw [h, h256] at hlt
  rw [BitVec.toNat_ofNat, Nat.mod_eq_of_lt hlt]

/-! ## The local memory of a core (R278) -/

theorem tget_writeBytes (t : Tab Byte) (a : Nat) (bs : List Byte) (b : Nat) :
    tget (writeBytes t a bs) b 0 = if a ≤ b ∧ b < a + bs.length then bs.getD (b - a) 0 else tget t b 0 := by
  induction bs using List.reverseRecOn with
  | nil =>
    rw [if_neg (by simp)]
    rfl
  | append_singleton bs c ih =>
    have hsnoc : writeBytes t a (bs ++ [c]) = tset (writeBytes t a bs) (a + bs.length) c 0 := by
      simp [writeBytes, List.mapIdx_append]
    rw [hsnoc, tget_tset, ih, List.length_append, List.length_singleton]
    by_cases hb : b = a + bs.length
    · subst hb
      simp
    · rw [if_neg hb]
      by_cases hin : a ≤ b ∧ b < a + bs.length
      · rw [if_pos hin, if_pos (by omega), List.getD_append _ _ _ _ (by omega)]
      · rw [if_neg hin, if_neg (by omega)]

/-- What a store of bytes changes of a core. -/
theorem put_frame (x : Core) (at_ : Nat) (bs : List Byte) (p : Bool) :
    x.put at_ bs p = { x with work := (x.put at_ bs p).work, store := (x.put at_ bs p).store, psn := (x.put at_ bs p).psn } := by
  unfold Core.put
  dsimp only
  split <;> rfl

theorem put_work (x : Core) (at_ : Nat) (bs : List Byte) (p : Bool) :
    (x.put at_ bs p).work = if at_ < 393216 then writeBytes x.work at_ bs else x.work := by
  unfold Core.put
  dsimp only
  split <;> rfl

theorem put_store (x : Core) (at_ : Nat) (bs : List Byte) (p : Bool) :
    (x.put at_ bs p).store = if at_ < 393216 then x.store else writeBytes x.store (at_ - 393216) bs := by
  unfold Core.put
  dsimp only
  split <;> rfl

theorem length_load (x : Core) (at_ n : Nat) : (x.load at_ n).length = n := by
  unfold Core.load
  split <;> simp [readBytes]

/-! ## Whole records (R305, RECV) -/

theorem takeWhole_eq {l : List RingRec} {room k : Nat} (hk : k ≤ l.length) (hfits : ((l.take k).flatMap RingRec.words).length ≤ room)
    (hnext : ∀ g, l[k]? = some g → room < ((l.take k).flatMap RingRec.words).length + g.words.length) :
    takeWhole l room = ((l.take k).flatMap RingRec.words, k, (l.take k).any RingRec.bad) := by
  induction l generalizing room k with
  | nil =>
    obtain rfl : k = 0 := Nat.le_zero.mp hk
    rfl
  | cons g l ih =>
    cases k with
    | zero =>
      have hg : room < g.words.length := by simpa using hnext g rfl
      exact if_neg (by omega)
    | succ k =>
      simp only [List.take_succ_cons, List.flatMap_cons, List.length_append] at hfits
      have hrest := ih (room := room - g.words.length) (k := k) (by simpa using hk) (by omega) (fun g' hg' => by
        have := hnext g' hg'
        simp only [List.take_succ_cons, List.flatMap_cons, List.length_append] at this
        omega)
      rw [takeWhole, if_pos (by omega), hrest]
      simp

/-! ## Counts in the work area (R305, HIST) -/

/-- One more in the count of 32 bits at a place. -/
def Core.countAt (p : Bool) (y : Core) (a : Nat) : Core := y.put a (leBytes 4 (satAdd (2 ^ 32 - 1) (ofLe (y.load a 4)) 1)) p

theorem load_work {y z : Core} {a n : Nat} (ha : a < 393216) (h : ∀ i < n, tget z.work (a + i) 0 = tget y.work (a + i) 0) : z.load a n = y.load a n := by
  unfold Core.load
  rw [if_pos ha, if_pos ha, readBytes, readBytes]
  exact List.map_congr_left fun i hi => h i (List.mem_range.mp hi)

theorem countAt_work (p : Bool) (y : Core) {a : Nat} (ha : a < 393216) (b : Nat) : tget (y.countAt p a).work b 0 =
    if a ≤ b ∧ b < a + 4 then (leBytes 4 (satAdd (2 ^ 32 - 1) (ofLe (y.load a 4)) 1)).getD (b - a) 0 else tget y.work b 0 := by
  rw [Core.countAt, put_work, if_pos ha, tget_writeBytes, length_leBytes]

/-- What counting leaves of a core. -/
theorem countAt_frame (p : Bool) (y : Core) {a : Nat} (ha : a < 393216) :
    y.countAt p a = { y with work := (y.countAt p a).work, psn := (y.countAt p a).psn } := by
  have hstore : (y.countAt p a).store = y.store := by rw [Core.countAt, put_store, if_pos ha]
  have hframe : y.countAt p a = { y with work := (y.countAt p a).work, store := (y.countAt p a).store, psn := (y.countAt p a).psn } := put_frame ..
  rw [hstore] at hframe
  exact hframe

theorem load_countAt_same (p : Bool) (y : Core) {a : Nat} (ha : a < 393216) : (y.countAt p a).load a 4 =
    leBytes 4 (satAdd (2 ^ 32 - 1) (ofLe (y.load a 4)) 1) := by
  refine List.ext_getElem (by rw [length_load, length_leBytes]) fun i h _ => ?_
  rw [length_load] at h
  have hget : ((y.countAt p a).load a 4)[i]'(by rwa [length_load]) = tget (y.countAt p a).work (a + i) 0 := by
    simp only [Core.load, if_pos ha, readBytes, List.getElem_map, List.getElem_range]
  rw [hget, countAt_work p y ha, if_pos (by omega), Nat.add_sub_cancel_left, List.getD_eq_getElem _ _ (by rwa [length_leBytes])]

/-- Counts at places that are multiples of four apart from one another do not touch. -/
theorem load_countAt_other (p : Bool) (y : Core) {a b : Nat} (ha : a < 393216) (hb : b < 393216) (hab : a + 4 ≤ b ∨ b + 4 ≤ a) :
    (y.countAt p a).load b 4 = y.load b 4 :=
  load_work hb fun i hi => by rw [countAt_work p y ha, if_neg (by omega)]

/-- The state of a core after counts at a list of places. -/
def Core.countAll (p : Bool) (y : Core) (ps : List Nat) : Core := ps.foldl (Core.countAt p) y

theorem countAll_frame (p : Bool) (y : Core) {ps : List Nat} (h : ∀ a ∈ ps, a < 393216) :
    y.countAll p ps = { y with work := (y.countAll p ps).work, psn := (y.countAll p ps).psn } := by
  induction ps generalizing y with
  | nil => rfl
  | cons a ps ih =>
    have hstep := ih (y.countAt p a) fun b hb => h b (List.mem_cons_of_mem _ hb)
    rw [countAt_frame p y (h a List.mem_cons_self)] at hstep
    have hcons : y.countAll p (a :: ps) = (y.countAt p a).countAll p ps := rfl
    rw [hcons, countAt_frame p y (h a List.mem_cons_self)]
    exact hstep

theorem countAll_outside (p : Bool) (y : Core) {ps : List Nat} (h : ∀ a ∈ ps, a < 393216) {b : Nat} (hb : ∀ a ∈ ps, b < a ∨ a + 4 ≤ b) :
    tget (y.countAll p ps).work b 0 = tget y.work b 0 := by
  induction ps generalizing y with
  | nil => rfl
  | cons a ps ih =>
    refine (ih (y.countAt p a) (fun c hc => h c (List.mem_cons_of_mem _ hc)) fun c hc => hb c (List.mem_cons_of_mem _ hc)).trans ?_
    have := hb a List.mem_cons_self
    rw [countAt_work p y (h a List.mem_cons_self), if_neg (by omega)]

/-- A count after counts at a list of places: as many more as it is listed, at most 2^32 - 1. -/
theorem countAll_load (p : Bool) (y : Core) {ps : List Nat} {q : Nat} (h : ∀ a ∈ ps, a < 393216) (hq : q < 393216)
    (hps : ∀ a ∈ ps, a = q ∨ a + 4 ≤ q ∨ q + 4 ≤ a) : ofLe ((y.countAll p ps).load q 4) = min (2 ^ 32 - 1) (ofLe (y.load q 4) + ps.count q) := by
  induction ps generalizing y with
  | nil =>
    have hlt := ofLe_lt (y.load q 4)
    rw [length_load] at hlt
    simp [Core.countAll]
    omega
  | cons a ps ih =>
    have hrest := ih (y.countAt p a) (fun c hc => h c (List.mem_cons_of_mem _ hc)) fun c hc => hps c (List.mem_cons_of_mem _ hc)
    refine hrest.trans ?_
    by_cases ha : a = q
    · subst ha
      rw [load_countAt_same p y hq, ofLe_leBytes, List.count_cons_self, satAdd]
      omega
    · rw [load_countAt_other p y (h a List.mem_cons_self) hq ((hps a List.mem_cons_self).resolve_left ha), List.count_cons_of_ne ha]

/-! ## Vectors taken from memory (R304, R305) -/

/-- Vector d takes a number under the mask. -/
def StepEnv.take (e : StepEnv) (x : Core) (v : Nat) (p : Bool) : Core :=
  if e.st.msk then e.write x e.fmt ((lanes e.fmt v).map some) p else x.setV e.st.d (BitVec.ofNat 2048 v) p

theorem take_sets (e : StepEnv) (x : Core) (v : Nat) (p : Bool) : ∃ w : BitVec 2048,
    e.take x v p = x.setV e.st.d w (p || (e.st.msk && (x.psnV e.st.d || x.psnM 0))) ∧ (e.st.msk = false → w = BitVec.ofNat 2048 v) ∧
    (e.st.msk = true → ∀ i < laneCount e.fmt, lane e.fmt w.toNat i = lane e.fmt (if e.masked x i = true then x.V e.st.d else v) i) := by
  unfold StepEnv.take
  cases hmsk : e.st.msk with
  | false => exact ⟨_, by simp, fun _ => rfl, fun h => absurd h (by decide)⟩
  | true =>
    refine ⟨putLanes e.fmt (tget x.v e.st.d 0) (e.mask x) ((lanes e.fmt v).map some), ?_, fun h => absurd h (by decide), fun _ i hi => ?_⟩
    · rw [if_pos rfl, StepEnv.write, hmsk]
    · rw [apply_ite (fun w => lane e.fmt w i), ← lane_write_lanes e x v p hi]
      exact congrArg (fun w => lane e.fmt (BitVec.toNat w) i) (tget_tset_same ..).symm

/-- The bytes that a masked store leaves of those in memory. -/
theorem lane_merged (e : StepEnv) (x : Core) (old : BitVec 2048) (v : Nat) {i : Nat} (hi : i < laneCount e.fmt) :
    lane e.fmt (putLanes e.fmt old (e.mask x) ((lanes e.fmt v).map some)).toNat i = lane e.fmt (if e.masked x i = true then old.toNat else v) i := by
  rw [lane_putLanes _ _ _ _ hi]
  split
  · next h => rw [putLane_masked _ _ _ h, lane_mod]
  · next h => rw [putLane_open (n := lane e.fmt v i) _ _ (by simpa using h) (by rw [List.getElem?_map, lanes_getElem? _ _ hi]; rfl), lane_mod]

/-! ## LD and ST (R305, R307, R315) -/

/-- Byte a of the work area, or of an owner's partition, is byte q of the local memory, with room for a vector. -/
def State.Inside (s : State) (o : Nat) (state : Bool) (a q : Nat) : Prop :=
  a % 256 = 0 ∧ ((state = false ∧ a + 256 ≤ s.workBytes ∧ q = a) ∨
    (state = true ∧ a + 256 ≤ (s.stUnits o).length * 4096 ∧ q = 393216 + s.statePlace o a))

theorem place_iff (s : State) (o : Nat) (state : Bool) (a q : Nat) : s.place o state a 256 = some q ↔ s.Inside o state a q := by
  unfold State.place State.Inside
  cases state <;> split_ifs <;> simp_all [eq_comm]

theorem place_none {s : State} {o : Nat} {state : Bool} {a : Nat} (h : ∀ q, ¬ s.Inside o state a q) : s.place o state a 256 = none :=
  Option.eq_none_iff_forall_ne_some.mpr fun q hq => h q ((place_iff ..).mp hq)

/-- LD from a place. -/
def State.loadVector (s : State) (c : Nat) (e : StepEnv) (x : Core) (place : Option Nat) : State :=
  match place with
  | none => s.faultAt c
  | some q =>
    if (s.localRead c q 256).1 then (s.localRead c q 256).2.reExec
    else (s.localRead c q 256).2.retire c (e.take x (ofLe (x.load q 256)) (x.marked q 256 || x.psnS e.st.a))

/-- What ST writes: a masked store keeps lanes of what stands there. -/
def StepEnv.stored (e : StepEnv) (x : Core) (q : Nat) : BitVec 2048 :=
  if e.st.msk then putLanes e.fmt (BitVec.ofNat 2048 (ofLe (x.load q 256))) (e.mask x) ((lanes e.fmt (e.a x)).map some) else tget x.v e.st.a 0

theorem toNat_stored (e : StepEnv) (x : Core) (q : Nat) : (e.stored x q).toNat =
    if e.st.msk then (putLanes e.fmt (BitVec.ofNat 2048 (ofLe (x.load q 256))) (e.mask x) ((lanes e.fmt (e.a x)).map some)).toNat else e.a x :=
  apply_ite BitVec.toNat ..

/-- ST to a place. -/
def State.storeVector (s : State) (c : Nat) (e : StepEnv) (x : Core) (place : Option Nat) : State :=
  match place with
  | none => s.faultAt c
  | some q =>
    let m := if e.st.msk then s.localRead c q 256 else (false, s)
    if m.1 then m.2.reExec
    else ((List.range 16).foldl (fun s i => s.writeWord (12 + c) (q / 16 + i)) m.2).retire c
      (x.put q (leBytes 256 (if e.st.msk then (putLanes e.fmt (BitVec.ofNat 2048 (ofLe (x.load q 256))) (e.mask x) ((lanes e.fmt (e.a x)).map some)).toNat
        else e.a x)) (x.psnV e.st.a || x.psnS e.st.a || (e.st.msk && (x.psnM 0 || x.marked q 256))))

/-- A store of a vector to a place in the core's memory. -/
theorem storeVector_some {s : State} {c : Nat} {e : StepEnv} {x : Core} {q : Nat} (hread : e.st.msk = true → (s.localRead c q 256).1 = false) :
    ∃ p : Bool, s.storeVector c e x (some q) = ((List.range 16).foldl (fun t i => t.writeWord (12 + c) (q / 16 + i))
      (if e.st.msk = true then (s.localRead c q 256).2 else s)).retire c (x.put q (leBytes 256 (e.stored x q).toNat) p) := by
  refine ⟨x.psnV e.st.a || x.psnS e.st.a || (e.st.msk && (x.psnM 0 || x.marked q 256)), ?_⟩
  rw [toNat_stored]
  unfold State.storeVector
  cases hmsk : e.st.msk with
  | false => rfl
  | true => exact if_neg (by rw [if_pos rfl, hread hmsk]; decide)

theorem getD_leBytes {n v i : Nat} (h : i < n) : (leBytes n v).getD i 0 = byteAt v i := by
  rw [List.getD_eq_getElem _ _ (by rwa [length_leBytes]), getElem_leBytes]

/-- The work area after a store of 256 bytes. -/
theorem put_vector_work (x : Core) (q v : Nat) (p : Bool) (b : Nat) : tget (x.put q (leBytes 256 v) p).work b 0 =
    if q < 393216 ∧ q ≤ b ∧ b < q + 256 then byteAt v (b - q) else tget x.work b 0 := by
  rw [put_work]
  by_cases hq : q < 393216
  · rw [if_pos hq, tget_writeBytes, length_leBytes]
    split
    · rw [if_pos (by omega), getD_leBytes (by omega)]
    · rw [if_neg (by omega)]
  · rw [if_neg hq, if_neg (by omega)]

/-- The state after a store of 256 bytes. -/
theorem put_vector_store (x : Core) (q v : Nat) (p : Bool) (b : Nat) : tget (x.put q (leBytes 256 v) p).store b 0 =
    if 393216 ≤ q ∧ q ≤ b + 393216 ∧ b + 393216 < q + 256 then byteAt v (b + 393216 - q) else tget x.store b 0 := by
  rw [put_store]
  by_cases hq : q < 393216
  · rw [if_pos hq, if_neg (by omega)]
  · rw [if_neg hq, tget_writeBytes, length_leBytes]
    split
    · rw [if_pos (by omega), getD_leBytes (by omega), show b - (q - 393216) = b + 393216 - q by omega]
    · rw [if_neg (by omega)]

section
variable {s : State} {c : Fin 16} {r : Running} {st : IStep} (hn : s.nextStep c.val = some (r, st))
include hn

/-- The byte address that LD and ST name. -/
theorem exec_ld (hp : st.prim = 0x01) : exec (.ld c) s = .next (s.loadVector c.val (s.envAt c r st) (s.core c.val)
    (s.place r.op.owner (st.imm.testBit 63) ((s.envAt c r st).addr (s.core c.val) (st.imm % 2 ^ 32)) 256)) := by
  exact (exec_runs hn hp rfl).trans rfl

theorem exec_st (hp : st.prim = 0x02) : exec (.st c) s = .next (s.storeVector c.val (s.envAt c r st) (s.core c.val)
    (s.place r.op.owner (st.imm.testBit 63) ((s.envAt c r st).addr (s.core c.val) (st.imm % 2 ^ 32)) 256)) := by
  exact (exec_runs hn hp rfl).trans rfl

end

/-! ## LDM (R305, R320) -/

/-- LDM with its blocks, at hand or not. -/
def State.ldmGot (s : State) (c : Nat) (r : Running) (e : StepEnv) (x : Core) (l : Loaded) (as : List Nat) (got : List GotBlock) : State :=
  let missing := got.filter (fun g => g.2.isNone)
  if !missing.isEmpty then missing.foldl (State.askBlock r.op.owner (dfld r.op.desc 1 0 5) l) (s.setRun { r with streamed := true })
  else if got.any (fun g => match g.2 with | some (none, _) => true | _ => false) then
    (s.opFails .integrity x.pc).raise 0x704 (dfld r.op.desc 1 0 5) r.op.owner
  else s.ldm c r e x l as got

theorem ldmGot_here (s : State) (c : Nat) (r : Running) (e : StepEnv) (x : Core) (l : Loaded) (as : List Nat) {got : List GotBlock}
    (h : ∀ g ∈ got, ∃ bs p, g.2 = some (some bs, p)) : s.ldmGot c r e x l as got = s.ldm c r e x l as got := by
  have hmissing : (got.filter fun g => g.2.isNone) = [] := by
    refine List.filter_eq_nil_iff.mpr fun g hg => ?_
    obtain ⟨bs, p, hg⟩ := h g hg
    simp [hg]
  have hbad : got.any (fun g => match g.2 with | some (none, _) => true | _ => false) = false := by
    refine List.any_eq_false.mpr fun g hg => ?_
    obtain ⟨bs, p, hg⟩ := h g hg
    simp [hg]
  unfold State.ldmGot
  dsimp only
  rw [hmissing, if_neg (by decide), if_neg (by rw [hbad]; decide)]

/-- LDM from a model slot. -/
def State.ldmFrom (s : State) (c : Nat) (r : Running) (e : StepEnv) (x : Core) (slot : Option Loaded) : State :=
  match slot with
  | none => s.faultAt c
  | some l =>
    if e.addr x e.st.imm % 256 ≠ 0 || l.itin || decide (l.size < e.addr x e.st.imm + 256) then s.faultAt c
    else
      let as := (List.range 256).map (fun i => e.addr x e.st.imm + i)
      s.ldmGot c r e x l as (s.ldmBlocks r.op.owner (dfld r.op.desc 1 0 5) l as)

theorem ldmFrom_some {s : State} {c : Nat} {r : Running} {e : StepEnv} {x : Core} {l : Loaded} (hitin : l.itin = false)
    (halign : e.addr x e.st.imm % 256 = 0) (hsize : e.addr x e.st.imm + 256 ≤ l.size) : s.ldmFrom c r e x (some l) =
      s.ldmGot c r e x l ((List.range 256).map fun i => e.addr x e.st.imm + i)
        (s.ldmBlocks r.op.owner (dfld r.op.desc 1 0 5) l ((List.range 256).map fun i => e.addr x e.st.imm + i)) := by
  refine if_neg ?_
  simp [hitin, halign, hsize]

theorem exec_ldm {s : State} {c : Fin 16} {r : Running} {st : IStep} (hn : s.nextStep c.val = some (r, st)) (hp : st.prim = 0x03) :
    exec (.ldm c) s = .next (s.ldmFrom c.val r (s.envAt c r st) (s.core c.val)
      (if flag (r.op.desc.getD 1 0) 5 then s.loaded? r.op.owner (dfld r.op.desc 1 0 5) else none)) :=
  (exec_runs hn hp rfl).trans rfl

/-- The vector that LDM takes. -/
theorem ldm_sets (s : State) (c : Nat) (r : Running) (e : StepEnv) (x : Core) (l : Loaded) (as : List Nat) (got : List GotBlock) :
    ∃ (v : BitVec 2048) (p : Bool) (u : State), s.ldm c r e x l as got = u.retire c (x.setV e.st.d v p) ∧
      (got = [] → u = (s.readModel l as).2) ∧ (e.st.msk = false → v = BitVec.ofNat 2048 (ofLe (as.map (modelByte l got)))) := by
  refine ⟨_, _, _, rfl, ?_, fun h => ?_⟩
  · rintro rfl
    rfl
  · rw [h]
    rfl

/-! ## RECV (R305) -/

/-- What RECV leaves: vector d, the bytes delivered in S15, and the place in the input. -/
theorem recvGive_eq (s : State) (c : Nat) (e : StepEnv) (x : Core) (bs : List Byte) (k : Nat) (bad : Bool) : s.recvGive c e x bs k bad =
    (s.retire c { (e.take x (ofLe bs) bad).setS 15 bs.length false with
      pos := tset x.pos (e.st.imm % 2) (tget x.pos (e.st.imm % 2) 0 + k) 0 }).releaseKept := rfl

/-! ## HIST and LUT (R305) -/

/-- The index that lane i of Va holds. -/
def StepEnv.laneIndex (e : StepEnv) (x : Core) (i : Nat) : Int := match e.va x i with | .fin q _ => roundInt .rtz q | _ => -1

/-- The lanes of n that the mask lets through. -/
def StepEnv.used (e : StepEnv) (x : Core) (n : Nat) : List Nat :=
  (List.range n).filter fun i => !(e.st.msk && !(decide (i < 256) && (x.M 0).getLsbD i))

/-- The places that HIST counts at. -/
def StepEnv.histPlaces (e : StepEnv) (x : Core) : List Nat :=
  ((e.used x (laneCount e.fmt)).filter fun i => decide (0 ≤ e.laneIndex x i) && decide ((e.laneIndex x i).toNat ≤ x.S e.st.b)).map
    fun i => x.S e.st.a + 4 * (e.laneIndex x i).toNat

/-- The lanes let through, each with its value. -/
theorem filter_mapIdx_range {β : Type} (f : Nat → β) (p : Nat → Bool) (n : Nat) :
    (((List.range n).map f).mapIdx fun i v => (i, v)).filter (fun q => p q.1) = ((List.range n).filter p).map fun i => (i, f i) := by
  have hmap : ((List.range n).map f).mapIdx (fun i v => (i, v)) = (List.range n).map fun i => (i, f i) :=
    List.ext_getElem (by simp) fun i _ _ => by simp
  rw [hmap, List.filter_map]
  rfl

theorem filter_used (e : StepEnv) (x : Core) (n : Nat) (f : Nat → Int) :
    (((List.range n).map f).mapIdx fun i v => (i, v)).filter (fun q => !e.st.msk || (decide (q.1 < 256) && (x.M 0).getLsbD q.1)) =
      (e.used x n).map fun i => (i, f i) := by
  have hp : (fun q : Nat × Int => !e.st.msk || (decide (q.1 < 256) && (x.M 0).getLsbD q.1)) =
      fun q => !(e.st.msk && !(decide (q.1 < 256) && (x.M 0).getLsbD q.1)) := by
    funext q
    simp
  rw [hp]
  exact filter_mapIdx_range f (fun i => !(e.st.msk && !(decide (i < 256) && (x.M 0).getLsbD i))) n

/-- HIST with its indices: they are counted in the work area, or the step stops or starts again. -/
def State.histWith (s : State) (c : Nat) (e : StepEnv) (x : Core) (ix : List (Nat × Int)) : State :=
  let good := (ix.filter (fun p => decide (0 ≤ p.2) && decide (p.2.toNat ≤ x.S e.st.b))).map (fun p => x.S e.st.a + 4 * p.2.toNat)
  if !isInt e.fmt || decide (x.S e.st.a % 4 ≠ 0) || good.any (fun a => decide (s.workBytes < a + 4)) then s.faultAt c
  else if (s.readStore c good).1 then (s.readStore c good).2.reExec
  else
    let p := x.psnV e.st.a || x.psnS e.st.a || x.psnS e.st.b
    (good.foldl (fun s a => s.mergeBytes (12 + c) a 4) (s.readStore c good).2).retire c
      ((x.countAll p good).setS e.st.d (x.S e.st.d + (ix.length - good.length)) (p || x.psnS e.st.d))

theorem exec_hist {s : State} {c : Fin 16} {r : Running} {st : IStep} (hn : s.nextStep c.val = some (r, st)) (hp : st.prim = 0x3C) :
    exec (.hist c) s = .next (s.histWith c.val (s.envAt c r st) (s.core c.val)
      (((s.envAt c r st).used (s.core c.val) (laneCount (s.envAt c r st).fmt)).map fun i => (i, (s.envAt c r st).laneIndex (s.core c.val) i))) := by
  rw [← filter_used]
  refine (exec_runs hn hp rfl).trans (congrArg _ (congrArg (State.histWith s c.val (s.envAt c r st) (s.core c.val)) (congrArg _ (congrArg _ ?_))))
  exact List.map_map ..

/-- The first bit of the element that LUT takes for an index. -/
def StepEnv.lutBit (e : StepEnv) (x : Core) (v : Int) : Nat := x.S e.st.a * 8 + laneWidth e.st.fmt2 * v.toNat

/-- The words that LUT reads for the indices of the lanes let through. -/
def StepEnv.lutWords (e : StepEnv) (x : Core) (ends : List (Nat × Int)) : List Nat :=
  (ends.flatMap fun p => [e.lutBit x p.2 / 128, (e.lutBit x p.2 + laneWidth e.st.fmt2 - 1) / 128]).eraseDups

/-- Words of a core are read, open entries of the merge buffer first. -/
def State.readWords (s : State) (c : Nat) (ws : List Nat) : Bool × State :=
  ws.foldl (fun (q : Bool × State) w => let f := q.2.fetch (12 + c) w 1; (q.1 || f.1, f.2)) (false, s)

/-- LUT with its words read. -/
def State.lutGive (c : Nat) (e : StepEnv) (x : Core) (ix : List Int) (ws : List Nat) (m : Bool × State) : State :=
  if m.1 then m.2.reExec
  else
    ({ m.2 with free := m.2.free + 1 }).retire c (e.write x e.st.fmt2 (e.widen (min (laneCount e.fmt) (laneCount e.st.fmt2)) fun i =>
        bits (ofLe (x.load (e.lutBit x (ix.getD i 0) / 8) 9)) (e.lutBit x (ix.getD i 0) % 8) (laneWidth e.st.fmt2))
      (x.psnV e.st.a || x.psnS e.st.a || ws.any (fun k => x.psn.contains k)))

/-- LUT with its indices. -/
def State.lutWith (s : State) (c : Nat) (e : StepEnv) (x : Core) (ix : List Int) (ends : List (Nat × Int)) : State :=
  if !isInt e.fmt || decide (x.S e.st.a % (max 1 (laneWidth e.st.fmt2 / 8)) ≠ 0) ||
      ends.any (fun p => decide (p.2 < 0) || decide (s.workBytes * 8 < x.S e.st.a * 8 + laneWidth e.st.fmt2 * (p.2.toNat + 1))) then s.faultAt c
  else State.lutGive c e x ix (e.lutWords x ends) (s.readWords c (e.lutWords x ends))

theorem exec_lut {s : State} {c : Fin 16} {r : Running} {st : IStep} (hn : s.nextStep c.val = some (r, st)) (hp : st.prim = 0x3D) :
    exec (.lut c) s = .next (s.lutWith c.val (s.envAt c r st) (s.core c.val)
      ((List.range (min (laneCount (s.envAt c r st).fmt) (laneCount (s.envAt c r st).st.fmt2))).map ((s.envAt c r st).laneIndex (s.core c.val)))
      (((s.envAt c r st).used (s.core c.val) (min (laneCount (s.envAt c r st).fmt) (laneCount (s.envAt c r st).st.fmt2))).map fun i =>
        (i, (s.envAt c r st).laneIndex (s.core c.val) i))) := by
  refine (exec_runs hn hp rfl).trans (congrArg _ ?_)
  generalize s.envAt c r st = e
  rw [← filter_used]
  refine if_congr Iff.rfl rfl ?_
  refine Eq.trans (b := State.lutGive c.val e (s.core c.val) _ _ _) rfl ?_
  rfl

/-! ## What readings and merges of words leave -/

theorem mergeWord_reads (s : State) (b w : Nat) (mask : BitVec 16) : Reads s (s.mergeWord b w mask) := by
  have hwrite : ∀ t : State, Reads s t → Reads s (t.writeWord b w) := fun t ht => ht.trans ((setBank_reads ..).trans (dropWord_reads ..))
  unfold State.mergeWord
  dsimp only
  refine .ite (hwrite s .rfl) ?_
  split
  · exact .ite (hwrite s .rfl) (setBank_reads ..)
  · refine Reads.trans (.ite .rfl ?_) (setBank_reads ..)
    split
    · exact rmw_reads ..
    · exact .rfl

theorem mergeBytes_reads (s : State) (b a n : Nat) : Reads s (s.mergeBytes b a n) := .foldl (fun _ _ => mergeWord_reads ..) _ _

theorem readWords_reads (s : State) (c : Nat) (ws : List Nat) : Reads s (s.readWords c ws).2 := by
  refine .foldl_snd (fun q w => ?_) ws false s
  exact fetch_reads q.2 (12 + c) w 1

/-- The words that counts stand in are read, and written again. -/
theorem countWords_reads (s : State) (c : Nat) (ps : List Nat) : Reads s (ps.foldl (fun s a => s.mergeBytes (12 + c) a 4) (s.readStore c ps).2) :=
  (readWords_reads s c _).trans (.foldl (fun _ _ => mergeBytes_reads ..) _ _)

/-- The words that places of the store stand in are read (R280). -/
theorem readStore_words (s : State) (c : Nat) (ps : List Nat) : s.readStore c ps = s.readWords c (ps.map (· / 16)).eraseDups := rfl

theorem Reads.ch {s t : State} (h : Reads s t) : t.ch = s.ch := by
  rw [Reads] at h
  rw [h]

/-! ## What RECV gives -/

/-- RECV from an input of a space. -/
def State.recvFrom (s : State) (c : Nat) (r : Running) (e : StepEnv) (x : Core) (j space : Nat) : State :=
  if space = 0 then s.recvGive c e x [] 0 false
  else if space = 5 then s.recvDram c r e x j
  else if space = 6 then s.recvState c r e x j
  else s.recvRecs c r e x j

section
variable {s : State} {c : Fin 16} {r : Running} {st : IStep} (hn : s.nextStep c.val = some (r, st)) (hp : st.prim = 0x04)
include hn hp

theorem exec_recv : exec (.recv c) s =
    .next (s.recvFrom c.val r (s.envAt c r st) (s.core c.val) (st.imm % 2) (inSpace r.op.desc (st.imm % 2))) := by
  refine (exec_runs hn hp rfl).trans (congrArg _ ?_)
  show (match inSpace r.op.desc (st.imm % 2) with | 0 => _ | 5 => _ | 6 => _ | _ => _) = _
  unfold State.recvFrom
  split
  · next h => rw [if_pos h]
  · next h =>
    rw [if_neg (by omega), if_pos h]
    rfl
  · next h =>
    rw [if_neg (by omega), if_neg (by omega), if_pos h]
    rfl
  · next h0 h5 h6 =>
    rw [if_neg h0, if_neg h5, if_neg h6]
    rfl

end

/-- A step of RECV gives bytes and moves on by k in its input. -/
def State.Gives (s : State) (c : Nat) (e : StepEnv) (x : Core) (t : State) (bs : List Byte) (k : Nat) (bad : Bool) : Prop :=
  ∃ v : BitVec 2048,
    t = (s.retire c { (x.setV e.st.d v (bad || (e.st.msk && (x.psnV e.st.d || x.psnM 0)))).setS 15 bs.length false with
      pos := tset x.pos (e.st.imm % 2) (tget x.pos (e.st.imm % 2) 0 + k) 0 }).releaseKept ∧
    (e.st.msk = false → v = BitVec.ofNat 2048 (ofLe bs)) ∧
    (e.st.msk = true → ∀ i < laneCount e.fmt, lane e.fmt v.toNat i = lane e.fmt (if e.masked x i = true then x.V e.st.d else ofLe bs) i)

theorem recvGive_gives (s : State) (c : Nat) (e : StepEnv) (x : Core) (bs : List Byte) (k : Nat) (bad : Bool) :
    s.Gives c e x (s.recvGive c e x bs k bad) bs k bad := by
  obtain ⟨v, hv, hopen, hmask⟩ := take_sets e x (ofLe bs) bad
  refine ⟨v, ?_, hopen, hmask⟩
  rw [recvGive_eq, hv]

section
variable (s : State) (c : Nat) (r : Running) (e : StepEnv) (x : Core) (j : Nat)

theorem recvRecs_gives {k : Nat} {mine : List RingRec}
    (hmine : (((r.op.input j).recs.filter fun q => decide (q.1 = r.index c)).map Prod.snd).drop (tget x.pos j 0) = mine) (hk : k ≤ mine.length)
    (hfits : ((mine.take k).flatMap RingRec.words).length ≤ 32)
    (hnext : ∀ g, mine[k]? = some g → 32 < ((mine.take k).flatMap RingRec.words).length + g.words.length)
    (hopen : k ≠ 0 ∨ inSpace r.op.desc j ≠ 1 ∨ r.captures s.now j = false) :
    s.recvRecs c r e x j = s.recvGive c e x (bytes64 ((mine.take k).flatMap RingRec.words)) k ((mine.take k).any RingRec.bad) := by
  unfold State.recvRecs
  dsimp only
  rw [hmine, takeWhole_eq hk hfits hnext, if_neg]
  rcases hopen with h | h | h <;> simp [h]

theorem recvDram_gives {q k : Nat} (hq : q = 256 * (r.index c + tget x.pos j 0 * r.cores.length)) (hk : k = min 256 (inLen r.op.desc j - q)) :
    (k = 0 → s.recvDram c r e x j = s.recvGive c e x [] 0 false) ∧
    (k ≠ 0 → ∀ bs bad u, s.inputBytes r j q k = some (bs, bad, u) → s.recvDram c r e x j = u.recvGive c e x bs 1 bad) := by
  subst hq hk
  refine ⟨fun h => if_pos h, fun h bs bad u hu => (if_neg h).trans ?_⟩
  rw [hu]

theorem recvState_gives {q k : Nat} (hq : q = 256 * tget x.pos j 0) (hk : k = min 256 (inLen r.op.desc j - q)) :
    (k = 0 → s.recvState c r e x j = s.recvGive c e x [] 0 false) ∧
    (k ≠ 0 → inAddr r.op.desc j % 2 ^ 32 + q + k ≤ (s.stUnits r.op.owner).length * 4096 →
      ∀ ps, ps = (List.range k).map (fun i => 393216 + s.statePlace r.op.owner (inAddr r.op.desc j % 2 ^ 32 + q + i)) → (s.readStore c ps).1 = false →
      s.recvState c r e x j =
        (s.readStore c ps).2.recvGive c e x (ps.map fun p => tget x.store (p - 393216) 0) 1 (ps.any fun p => x.psn.contains (p / 16))) := by
  subst hq hk
  refine ⟨fun h => if_pos h, fun h hfits ps hps hread => (if_neg h).trans ((if_neg (by omega)).trans ?_)⟩
  subst hps
  exact if_neg (by rw [hread]; decide)

end

/-! ## EMIT -/

/-- The stream of a running op with the 256 bytes that EMIT of Va appends. -/
def Running.emitted (r : Running) (c : Nat) (e : StepEnv) (x : Core) : Running :=
  { r with
    outs := tset r.outs (r.index c) (tget r.outs (r.index c) [] ++ (if x.psnV e.st.a then List.replicate 256 0 else leBytes 256 (e.a x))) []
    outBad := if x.psnV e.st.a then r.outBad ++ [(r.index c, (tget r.outs (r.index c) []).length / 256)] else r.outBad }

/-- EMIT with an odd immediate. -/
def State.emitStream (s : State) (c : Nat) (x : Core) (r : Running) : State :=
  let t := ((s.setRun r).retire c x).writeBlocks
  if descDram r.op.desc && decide (4032 * blockLimit r.op.desc < r.stream.1.length) then t.opFails .exhausted 0 else t

theorem emitStream_within {s : State} {c : Nat} {x : Core} {r : Running} (h : descDram r.op.desc = false ∨ r.stream.1.length ≤ 4032 * blockLimit r.op.desc) :
    s.emitStream c x r = ((s.setRun r).retire c x).writeBlocks := by
  refine if_neg ?_
  rw [Bool.and_eq_true, decide_eq_true_eq]
  rintro ⟨hdram, hover⟩
  rcases h with h | h
  · rw [h] at hdram
    cases hdram
  · exact absurd hover (Nat.not_lt.mpr h)

theorem emitStream_beyond {s : State} {c : Nat} {x : Core} {r : Running} (hdram : descDram r.op.desc = true)
    (hover : 4032 * blockLimit r.op.desc < r.stream.1.length) :
    s.emitStream c x r = ((s.setRun r).retire c x).writeBlocks.opFails .exhausted 0 := by
  refine if_pos ?_
  rw [Bool.and_eq_true, decide_eq_true_eq]
  exact ⟨hdram, hover⟩

section
variable {s : State} {c : Fin 16} {r : Running} {st : IStep} (hn : s.nextStep c.val = some (r, st)) (hp : st.prim = 0x05)
include hn hp

theorem exec_emit_words (h : st.imm % 2 = 0) : exec (.emit c) s = .next ((s.setRun { r with
    w2 := tget (s.core c.val).sr st.a 0, w3 := tget (s.core c.val).sr st.b 0,
    poison := (s.core c.val).psnS st.a || (s.core c.val).psnS st.b }).retire c.val (s.core c.val)) :=
  (exec_runs hn hp rfl).trans (congrArg _ (if_pos h))

theorem exec_emit_stream (h : st.imm % 2 = 1) :
    exec (.emit c) s = .next (s.emitStream c.val (s.core c.val) (r.emitted c.val (s.envAt c r st) (s.core c.val))) :=
  (exec_runs hn hp rfl).trans (congrArg _ (if_neg (by rw [show (s.envAt c r st).st.imm % 2 = 1 from h]; decide)))

end

/-! ## HIST counts -/

/-- The places of the counts that stand in the work area. -/
theorem histPlaces_count (e : StepEnv) (x : Core) (k : Nat) :
    (e.histPlaces x).count (x.S e.st.a + 4 * k) = ((e.used x (laneCount e.fmt)).filter fun i =>
      decide (0 ≤ e.laneIndex x i) && decide ((e.laneIndex x i).toNat ≤ x.S e.st.b)).countP fun i => decide (e.laneIndex x i = (k : Int)) := by
  rw [StepEnv.histPlaces, List.count, List.countP_map]
  refine List.countP_congr fun i hi => ?_
  have hpos : 0 ≤ e.laneIndex x i := by
    have := (List.mem_filter.mp hi).2
    simp_all
  simp only [Function.comp_apply, beq_iff_eq, decide_eq_true_eq]
  omega

/-- The state and the core that a HIST leaves. -/
theorem histWith_counts {s : State} {c : Nat} {e : StepEnv} {x : Core} {ps : List Nat} (hps : ps = e.histPlaces x) (hint : isInt e.fmt = true)
    (halign : x.S e.st.a % 4 = 0) (hin : ∀ p ∈ ps, p + 4 ≤ s.workBytes) (hread : (s.readStore c ps).1 = false) : ∃ p q : Bool,
    s.histWith c e x ((e.used x (laneCount e.fmt)).map fun i => (i, e.laneIndex x i)) =
      (ps.foldl (fun s a => s.mergeBytes (12 + c) a 4) (s.readStore c ps).2).retire c
        ((x.countAll p ps).setS e.st.d (x.S e.st.d + ((e.used x (laneCount e.fmt)).length - ps.length)) q) := by
  have hgood : (((e.used x (laneCount e.fmt)).map fun i => (i, e.laneIndex x i)).filter
      (fun p => decide (0 ≤ p.2) && decide (p.2.toNat ≤ x.S e.st.b))).map (fun p => x.S e.st.a + 4 * p.2.toNat) = ps := by
    rw [List.filter_map, List.map_map, hps]
    rfl
  refine ⟨x.psnV e.st.a || x.psnS e.st.a || x.psnS e.st.b, x.psnV e.st.a || x.psnS e.st.a || x.psnS e.st.b || x.psnS e.st.d, ?_⟩
  unfold State.histWith
  dsimp only
  rw [hgood, if_neg, if_neg (by rw [hread]; decide), List.length_map]
  simpa [hint, halign] using hin

/-- The places of the counts are multiples of four apart. -/
theorem histPlaces_apart {e : StepEnv} {x : Core} (k : Nat) {a : Nat} (ha : a ∈ e.histPlaces x) :
    a = x.S e.st.a + 4 * k ∨ a + 4 ≤ x.S e.st.a + 4 * k ∨ x.S e.st.a + 4 * k + 4 ≤ a := by
  obtain ⟨i, -, rfl⟩ := List.mem_map.mp ha
  omega

/-! ## LUT takes elements -/

/-- A step that writes looked-up lanes of fmt2. -/
theorem writesLanes_widen {res : Res} {u : State} {c : Nat} {e : StepEnv} {n : Nat} {g : Nat → Nat} {p : Bool} {f : Nat → Option Nat}
    (hres : res = .next (u.retire c (e.write (u.core c) e.st.fmt2 (e.widen n g) p))) (hf : ∀ i v, f i = some v → i < n ∧ g i = v) :
    WritesLanes res u c e e.st.fmt2 f p := by
  refine ⟨_, hres, putLanes_above .., fun i hi => ⟨fun hmask => ?_, fun hmask v hfi => ?_⟩⟩
  · rw [lane_putLanes _ _ _ _ hi, putLane_masked _ _ _ hmask, lane_mod]
    rfl
  · obtain ⟨hin, hv⟩ := hf i v hfi
    have hlane : (e.widen n g)[i]?.getD none = some v := by simp [StepEnv.widen, hi, hin, hv]
    rw [lane_putLanes _ _ _ _ hi, putLane_open _ _ hmask hlane]

/-- The bytes of the words that LUT reads for the lanes let through. -/
def StepEnv.lutPlaces (e : StepEnv) (x : Core) (m : Nat) : List Nat :=
  (e.used x m).flatMap fun i =>
    [e.lutBit x (e.laneIndex x i) / 128 * 16, (e.lutBit x (e.laneIndex x i) + laneWidth e.st.fmt2 - 1) / 128 * 16]

theorem lutPlaces_words (e : StepEnv) (x : Core) (m : Nat) :
    ((e.lutPlaces x m).map (· / 16)).eraseDups = e.lutWords x ((e.used x m).map fun i => (i, e.laneIndex x i)) := by
  unfold StepEnv.lutPlaces StepEnv.lutWords
  rw [List.map_flatMap, List.flatMap_map]
  simp

/-- LUT reads its words and writes its lanes. -/
theorem lutWith_writes {s : State} {c : Nat} {e : StepEnv} {x : Core} {m : Nat} {ps : List Nat} (hx : s.core c = x)
    (hm : m = min (laneCount e.fmt) (laneCount e.st.fmt2)) (hps : ps = e.lutPlaces x m) (hint : isInt e.fmt = true)
    (halign : x.S e.st.a % (max 1 (laneWidth e.st.fmt2 / 8)) = 0)
    (hin : ∀ i ∈ e.used x m, 0 ≤ e.laneIndex x i ∧ e.lutBit x (e.laneIndex x i) + laneWidth e.st.fmt2 ≤ s.workBytes * 8)
    (hread : (s.readStore c ps).1 = false) :
    ∃ (u : State) (bad : Bool), u = { (s.readStore c ps).2 with free := (s.readStore c ps).2.free + 1 } ∧
      WritesLanes (.next (s.lutWith c e x ((List.range m).map (e.laneIndex x)) ((e.used x m).map fun i => (i, e.laneIndex x i)))) u c e e.st.fmt2
        (fun i => if i < m then
          some (bits (ofLe (x.load (e.lutBit x (e.laneIndex x i) / 8) 9)) (e.lutBit x (e.laneIndex x i) % 8) (laneWidth e.st.fmt2)) else none) bad := by
  generalize hws : e.lutWords x ((e.used x m).map fun i => (i, e.laneIndex x i)) = ws
  have hwords : s.readStore c ps = s.readWords c ws := by rw [hps, readStore_words, lutPlaces_words, hws]
  rw [hwords] at hread ⊢
  refine ⟨_, x.psnV e.st.a || x.psnS e.st.a || ws.any (fun k => x.psn.contains k), rfl, ?_⟩
  have hcore : ({ (s.readWords c ws).2 with free := (s.readWords c ws).2.free + 1 } : State).core c = x := by
    rw [← hx]
    exact congrArg (fun h : Ch => tget h.cores c Core.zero) (readWords_reads s c ws).ch
  refine writesLanes_widen (n := m) (g := fun i => bits (ofLe (x.load (e.lutBit x (((List.range m).map (e.laneIndex x)).getD i 0) / 8) 9))
    (e.lutBit x (((List.range m).map (e.laneIndex x)).getD i 0) % 8) (laneWidth e.st.fmt2)) ?_ fun i v hfi => ?_
  · rw [hcore]
    unfold State.lutWith State.lutGive
    rw [hws, hread, ← hm, if_neg, if_neg (by decide)]
    simpa [hint, halign, StepEnv.lutBit, mul_add, add_assoc] using hin
  · by_cases hi : i < m
    · rw [if_pos hi] at hfi
      refine ⟨hi, ?_⟩
      simpa [hi] using hfi
    · rw [if_neg hi] at hfi
      cases hfi

/-- Settles O48: each primitive is brought to the form of its clause (loadVector, storeVector, ldmFrom, recvFrom, emitStream,
histWith, lutWith); what a store, a count or a record changes is said by the lemmas above. -/
theorem memorySteps : Obligations.MemorySteps := by
  intro s c r st hn x e n o a inside byteOf
  refine ⟨fun q hq => ⟨fun hp => ?ld, fun hp hread => ?st⟩, fun hout => ⟨fun hp => ?ldOut, fun hp => ?stOut⟩, ?ldm, ?recv, ?emit, ?hist, ?lut⟩
  case ld =>
    have hld : exec (.ld c) s = .next (s.loadVector c.val e x (some q)) :=
      (exec_ld hn hp).trans (congrArg (fun place => (.next (s.loadVector c.val e x place) : Res)) ((place_iff ..).mpr hq))
    refine ⟨fun hbad => hld.trans (congrArg _ (if_pos hbad)), fun hok => ?_⟩
    obtain ⟨v, hv, hopen, hmask⟩ := take_sets e x (ofLe (x.load q 256)) (x.marked q 256 || x.psnS st.a)
    refine ⟨v, hld.trans (congrArg _ ((if_neg (by rw [hok]; decide)).trans ?_)), hopen, hmask⟩
    exact congrArg _ hv
  case st =>
    have hst : exec (.st c) s = .next (s.storeVector c.val e x (some q)) :=
      (exec_st hn hp).trans (congrArg (fun place => (.next (s.storeVector c.val e x place) : Res)) ((place_iff ..).mpr hq))
    obtain ⟨p, hput⟩ := storeVector_some (e := e) (x := x) hread
    refine ⟨e.stored x q, _, hst.trans (congrArg _ hput), put_frame .., fun hmsk => ?_, fun hmsk i hi => ?_, put_vector_work _ _ _ _,
      put_vector_store _ _ _ _⟩
    · exact if_neg (by rw [show e.st.msk = false from hmsk]; decide)
    · rw [toNat_stored, if_pos (show e.st.msk = true from hmsk), lane_merged e x _ _ hi,
        toNat_ofLe_vector (length_load ..)]
      rfl
  case ldOut =>
    exact (exec_ld hn hp).trans (congrArg (fun place => (.next (s.loadVector c.val e x place) : Res)) (place_none hout))
  case stOut =>
    exact (exec_st hn hp).trans (congrArg (fun place => (.next (s.storeVector c.val e x place) : Res)) (place_none hout))
  case ldm =>
    intro hp hmodel l hl hitin halign hsize as got hgot
    have hldm : exec (.ldm c) s = .next (s.ldm c.val r e x l as got) := by
      refine (exec_ldm hn hp).trans (congrArg _ ?_)
      rw [if_pos hmodel, hl, ldmFrom_some hitin halign hsize]
      exact ldmGot_here s c.val r e x l as hgot
    obtain ⟨v, p, u, hsets, hread, hopen⟩ := ldm_sets s c.val r e x l as got
    refine ⟨v, p, u, hldm.trans (congrArg _ hsets), hread, fun hmsk i hi => ?_⟩
    have hlen : (as.map (modelByte l got)).length = 256 := by simp [as]
    rw [hopen hmsk, toNat_ofLe_vector hlen]
    refine (byteAt_ofLe (by rwa [hlen])).trans ?_
    simp [as]
  case recv =>
    intro hp j gives
    have hrecv := exec_recv hn hp
    have hgives : ∀ u bs k bad, exec (.recv c) s = .next (u.recvGive c.val e x bs k bad) → ∃ t, exec (.recv c) s = .next t ∧ gives t u bs k bad :=
      fun u bs k bad h => ⟨_, h, recvGive_gives ..⟩
    refine ⟨fun h0 => ?_, fun h0 h5 h6 => ?_, fun h5 q k hq hk => ?_, fun h6 q k hq hk => ?_⟩
    · exact hgives _ _ _ _ (hrecv.trans (congrArg _ (if_pos h0)))
    · intro mine k hk hfits hnext hopen
      have hfrom : s.recvFrom c.val r e x j (inSpace r.op.desc j) = s.recvRecs c.val r e x j := (if_neg h0).trans ((if_neg h5).trans (if_neg h6))
      exact hgives _ _ _ _ (hrecv.trans (congrArg _ (hfrom.trans (recvRecs_gives s c.val r e x j rfl hk hfits hnext hopen))))
    · have hfrom : s.recvFrom c.val r e x j (inSpace r.op.desc j) = s.recvDram c.val r e x j := (if_neg (by omega)).trans (if_pos h5)
      obtain ⟨hnone, hsome⟩ := recvDram_gives s c.val r e x j hq hk
      exact ⟨fun h => hgives _ _ _ _ (hrecv.trans (congrArg _ (hfrom.trans (hnone h)))),
        fun h bs bad u hu => hgives _ _ _ _ (hrecv.trans (congrArg _ (hfrom.trans (hsome h bs bad u hu))))⟩
    · have hfrom : s.recvFrom c.val r e x j (inSpace r.op.desc j) = s.recvState c.val r e x j :=
        (if_neg (by omega)).trans ((if_neg (by omega)).trans (if_pos h6))
      obtain ⟨hnone, hsome⟩ := recvState_gives s c.val r e x j hq hk
      refine ⟨fun h => hgives _ _ _ _ (hrecv.trans (congrArg _ (hfrom.trans (hnone h)))), fun h hfits hread => ?_⟩
      obtain ⟨t, ht, hgiven⟩ := hgives _ _ _ _ (hrecv.trans (congrArg _ (hfrom.trans (hsome h hfits _ rfl hread))))
      exact ⟨t, _, ht, hgiven⟩
  case emit =>
    intro hp
    refine ⟨exec_emit_words hn hp, fun himm => ⟨r.emitted c.val e x, rfl, tget_tset_same .., fun l hl => tget_tset_other _ _ _ _ _ hl, ?_, ?_⟩⟩
    · exact fun hfits => (exec_emit_stream hn hp himm).trans (congrArg _ (emitStream_within hfits))
    · exact fun hdram hover => (exec_emit_stream hn hp himm).trans (congrArg _ (emitStream_beyond hdram hover))
  case hist =>
    intro hp hint halign idx used good ps hin hread
    have hps : ps = e.histPlaces x := rfl
    have hwork : ∀ a ∈ ps, a < 393216 := fun a ha => by
      have := hin a ha
      unfold State.workBytes at this
      omega
    have hlength : ps.length = good.length := List.length_map ..
    obtain ⟨p, q, hcounts⟩ := histWith_counts (s := s) (c := c.val) (e := e) (x := x) hps hint halign hin hread
    have hframe := countAll_frame p x hwork
    refine ⟨_, (exec_hist hn hp).trans (congrArg _ hcounts), ?_⟩
    rw [retire_core, if_pos rfl]
    refine ⟨?_, ?_, fun k hk => ?_, fun b hb => countAll_outside p x hwork hb, ?_, ?_, ?_⟩
    · refine (congrArg BitVec.toNat (tget_tset_same ..)).trans ((BitVec.toNat_ofNat ..).trans ?_)
      rw [hlength]
      rfl
    · rw [hframe]
      rfl
    · have hplace : x.S st.a + 4 * k < 393216 := by
        unfold State.workBytes at hk
        omega
      refine (countAll_load p x hwork hplace fun a ha => histPlaces_apart k (hps ▸ ha)).trans ?_
      exact congrArg (fun m => min (2 ^ 32 - 1) (ofLe (x.load (x.S st.a + 4 * k) 4) + m)) (histPlaces_count e x k)
    · rw [hframe]
      rfl
    · rw [hframe]
      rfl
    · rw [retire_run, (countWords_reads s c.val ps).ch]
  case lut =>
    intro hp hint w2 m idx bit used ps halign hin hread
    have hps : ps = e.lutPlaces x m := rfl
    have hcover := lutWith_writes (e := e) (x := x) rfl rfl hps hint halign hin hread
    rw [exec_lut hn hp]
    exact hcover

end Sys2Proof.Machine
end

section
/-! SUPPORT. The packets of the Counting House (R279, R287, R399, R400): the checks that a descriptor and an image pass, and what each
packet leaves. -/

namespace Sys2Proof.Machine

/-! ## OP_SUBMIT (R287, R400) -/

/-- A descriptor that passes the checks takes its place: in the queue, or among the standing ops, where it is ready next at a time. -/
def State.enterOp (s : State) (pk : Pkt) (slot next : Nat) : Verdict :=
  let d := pk.ps
  let q := s.takeSeq pk.o
  let s := q.2
  if opRepeat d = 0 then
    .accept [q.1.toNat] { s with ch := { s.ch with queue := s.ch.queue ++ [⟨pk.o, q.1, d, s.ts, s.now, slot, pk.seq, Input.zero, Input.zero, 0⟩] } }
  else
    .accept [q.1.toNat] { s with ch := { s.ch with standing := s.ch.standing ++
      [⟨pk.o, q.1, d, true, slot, pk.seq, next, none, Input.begin_ s.ts, Input.begin_ s.ts⟩] } }

/-- An input's space and ring are as R286 wants them. -/
def State.inputOk (s : State) (d : List W32) (j : Nat) : Prop :=
  inSpace d j ≠ 7 ∧ (inSpace d j = 3 → s.ledger.st ≠ .armed ∧ s.ledger.st ≠ .post) ∧
    (1 ≤ inSpace d j → inSpace d j ≤ 3 → 4 ≤ inRing d j ∧ inRing d j ≤ 256)

theorem inputOk_passes {s : State} {d : List W32} {j : Nat} (h : s.inputOk d j) :
    (decide (inSpace d j = 7) || (decide (inSpace d j = 3) && (decide (s.ledger.st = .armed) || decide (s.ledger.st = .post))) || badRing d j) = false := by
  obtain ⟨hspace, hledger, hring⟩ := h
  have hbad : badRing d j = false := by
    unfold badRing isRecSpace
    by_cases hrec : 1 ≤ inSpace d j ∧ inSpace d j ≤ 3
    · simp [hring hrec.1 hrec.2]
    · rw [Bool.and_eq_false_iff]
      exact .inl (by simpa using hrec)
  by_cases h3 : inSpace d j = 3
  · simp [hbad, h3, hledger h3]
  · simp [hbad, h3, hspace]

theorem bodyOpSubmit_passes {pk : Pkt} {slot : Nat} {s : State} (hown : dfld pk.ps 0 8 5 = pk.o) (hop : opCode pk.ps ≤ 23 ∨ opCode pk.ps = 255)
    (hwear : 15 ≤ opCode pk.ps → opCode pk.ps ≤ 19 → pk.o = hm) (hrep : opRepeat pk.ps ≠ 3) (hfmt : dfld pk.ps 0 21 4 ≠ 15)
    (henc : flag (pk.ps.getD 0 0) 18 = true → (pk.o = hm ∨ (s.memKey pk.o).isSome = true) ∧ resultAddr pk.ps % 4096 = 0 ∧ s.seqSpent pk.o = false)
    (hslots : s.slotsOk pk.o pk.ps = true) (hperiod : opRepeat pk.ps = 2 → 10 ≤ (pk.ps.getD 2 0).toNat ∧ (pk.ps.getD 2 0).toNat ≤ 1000000000)
    (hin : ∀ j < 2, s.inputOk pk.ps j) (h8 : opCode pk.ps = 8 → dfld pk.ps 16 0 4 ≠ 0) (h23 : opCode pk.ps = 23 → dfld pk.ps 16 0 4 ≠ 15)
    (h21 : opCode pk.ps = 21 → dfld pk.ps 18 0 4 ≠ 15)
    (hdup : s.isDup pk.o pk.ps = true → flag (pk.ps.getD 0 0) 18 = true → blockLimit pk.ps * 4032 ≤ 65536 * popcount s.ch.online)
    (hrings : (s.ch.standing.foldl (fun a x => a + ringsOf x.desc) (ringsOf pk.ps)) * 1024 ≤ 393216)
    (hroom : if opRepeat pk.ps = 0 then s.ch.queue.length < 32 ∧ s.ownInstances pk.o < (s.allot pk.o).limit else s.ch.standing.length < 4) :
    bodyOpSubmit pk slot s = s.enterOp pk slot (if opRepeat pk.ps = 2 then nextReady pk.ps s.ts else 0) := by
  unfold bodyOpSubmit
  dsimp only
  rw [chk_passes (by simpa using hown), chk_passes (by simp; omega), chk_passes (by simp; omega), chk_passes (by simp [hrep, hfmt]),
    chk_passes, chk_passes (by simp [hslots]),
    chk_passes (by simp [-List.getD_eq_getElem?_getD]; omega), chk_passes (inputOk_passes (hin 0 (by decide))),
    chk_passes (inputOk_passes (hin 1 (by decide))), chk_passes, chk_passes (by simpa using h8), chk_passes (by simpa using h23),
    chk_passes (by simpa using h21), chk_passes, chk_passes, chk_passes (by simpa using hrings), chk_passes]
  · rfl
  · by_cases h : opRepeat pk.ps = 0
    · simpa [h] using hroom
    · simpa [h] using hroom
  · cases henc' : flag (pk.ps.getD 0 0) 18 with
    | false => simp
    | true => simpa using fun h => hdup h henc'
  · cases henc' : flag (pk.ps.getD 0 0) 18 with
    | false => rfl
    | true => exact (henc henc').2.2
  · cases henc' : flag (pk.ps.getD 0 0) 18 with
    | false => rfl
    | true => simp [(henc henc').2.1]
  · cases henc' : flag (pk.ps.getD 0 0) 18 with
    | false => rfl
    | true => rcases (henc henc').1 with h | h <;> simp [h]

@[simp] theorem rung_allot (s : State) (sp : OpSpec) (pk : Pkt) (o : Nat) : (s.rung sp pk).allot o = s.allot o := rfl
@[simp] theorem rung_memKey (s : State) (sp : OpSpec) (pk : Pkt) (o : Nat) : (s.rung sp pk).memKey o = s.memKey o := rfl

/-! ## ITIN_LOAD and MODEL_LOAD (R317, R399, R420) -/

theorem foldl_mgrPush (qs : List MReq) (s : State) : qs.foldl State.mgrPush s = { s with mgr := { s.mgr with wait := s.mgr.wait ++ qs } } := by
  induction qs generalizing s with
  | nil => simp
  | cons q qs ih => simp [ih, State.mgrPush]

section
variable {pk : Pkt} {kind : Nat} {s : State} (hlen : 80 ≤ (pk.p 4).toNat) (hpad : (pk.p 4).toNat % 16 = 0)
include hlen hpad

theorem checkLoad_memory (hsrc : flag (pk.p 1) 0 = false) (hkey : (s.modelKey pk.o).isSome = true) (k : Verdict) : checkLoad pk kind s k = k := by
  unfold checkLoad
  rw [chk_passes (by simp [hsrc]), chk_passes (by simp [hsrc, hkey]), chk_passes (by simp [hsrc]), chk_passes (by simp [hsrc, hpad]; omega)]

theorem checkLoad_logbook (hsrc : flag (pk.p 1) 0 = true) (howner : pk.o = hm) (hitem : tget s.lb.images (fld (pk.p 2) 0 8) [] ≠ [])
    (hkind : itemKind (tget s.lb.images (fld (pk.p 2) 0 8) []) = kind) (hsize : itemLen (tget s.lb.images (fld (pk.p 2) 0 8) []) = (pk.p 4).toNat)
    (k : Verdict) : checkLoad pk kind s k = k := by
  unfold checkLoad
  rw [chk_passes (by simp [howner]), chk_passes (by simp [hsrc]), chk_passes (by simp [hitem, hkind]), chk_passes (by simp [hsize, hpad]; omega)]

end

/-- A load from memory waits with its image read. -/
theorem addLoad_memory {pk : Pkt} (s : State) (slot : Nat) (itin : Bool) (hsrc : flag (pk.p 1) 0 = false) : s.addLoad pk slot itin =
    { s with
      ch := { s.ch with
        loads := s.ch.loads ++ [⟨s.ch.nextLoad, itin, pk.o, pk.seq, slot, false, pk.addr 2, (pk.p 4).toNat, pk.streamed,
          if itin then 0 else pk.addr 5, if itin then 0 else (pk.p 7).toNat⟩]
        nextLoad := s.ch.nextLoad + 1 }
      mgr := { s.mgr with wait := s.mgr.wait ++ readReqs pk.o (pk.addr 2) (pk.p 4).toNat (.image s.ch.nextLoad) } } := by
  simp [State.addLoad, hsrc, foldl_mgrPush]

/-- A load from the Logbook waits. -/
theorem addLoad_logbook {pk : Pkt} (s : State) (slot : Nat) (itin : Bool) (hsrc : flag (pk.p 1) 0 = true) : s.addLoad pk slot itin =
    { s with ch := { s.ch with
        loads := s.ch.loads ++ [⟨s.ch.nextLoad, itin, pk.o, pk.seq, slot, true, fld (pk.p 2) 0 8, (pk.p 4).toNat, pk.streamed,
          if itin then 0 else pk.addr 5, if itin then 0 else (pk.p 7).toNat⟩]
        nextLoad := s.ch.nextLoad + 1 } } := by
  simp [State.addLoad, hsrc]

/-- No itinerary is streamed. -/
theorem Heard.notStreamed {sp : OpSpec} {pk : Pkt} {s : State} (h : Heard sp pk s) (hsp : sp.streamed = false) : pk.streamed = false := by
  obtain ⟨-, -, -, -, -, -, -, -, -, -, -, hstreamed, -⟩ := h
  exact Bool.eq_false_iff.mpr fun hs => by simp [hsp] at hstreamed; simp [hstreamed] at hs

/-! ## SLOT_UNLOAD (R317) -/

theorem unload_ch (s : State) (o i : Nat) : (s.unload o i).ch = { s.ch with slots := s.ch.slots.filter fun e => e.1 ≠ o * 32 + i } := by
  have hclear : ∀ (us : List Nat) (t : State), (t.clearUnits us).ch = t.ch := fun us t =>
    foldl_proj State.ch (fun s u => s.writeRange (28 + u / 16) (u % 16 * 4096) 4096) (fun _ _ => rfl) us t
  unfold State.unload
  dsimp only
  split
  · rw [hclear]
  · rfl

theorem unload_loaded (s : State) (o i : Nat) : (s.unload o i).loaded? o i = none := by
  unfold State.loaded?
  rw [unload_ch]
  simp

/-- Settling the units moves no more than the units. -/
theorem settleUnits_units (s : State) : ∃ st md : Tab Nat, s.settleUnits = { s with ch := { s.ch with stUnit := st, mdUnit := md } } := by
  unfold State.settleUnits
  exact ⟨_, _, rfl⟩

theorem settleUnits_loaded (s : State) (o i : Nat) : s.settleUnits.loaded? o i = s.loaded? o i := by
  obtain ⟨st, md, h⟩ := settleUnits_units s
  rw [h]
  rfl

theorem DataOnly.basins {s t : State} (h : DataOnly s t) : t.basins = s.basins := by rw [DataOnly] at h; rw [h]

/-! ## CH_ALLOT (R279) -/

/-- A total over the owners but one. -/
theorem foldl_others (f : Nat → Nat) (o : Nat) (l : List Nat) (a : Nat) :
    l.foldl (fun a x => if x = o then a else a + f x) a = a + ((l.filter fun x => decide (x ≠ o)).map f).sum := by
  induction l generalizing a with
  | nil => rfl
  | cons x l ih =>
    by_cases hx : x = o
    · simp [ih, hx]
    · simp [ih, hx, Nat.add_assoc]

theorem foldl_total {α : Type} (f : α → Nat) (l : List α) (a : Nat) : l.foldl (fun a x => a + f x) a = a + (l.map f).sum := by
  induction l generalizing a with
  | nil => rfl
  | cons x l ih => simp [ih, Nat.add_assoc]

/-! ## The packets -/

/-- Settles O43: each body by the checks that its operands pass. -/
theorem housePackets : Obligations.HousePackets := by
  intro pk s
  refine ⟨?submit, ?cancelQueued, ?cancelStanding, ?itin, ?itinLogbook, ?model, ?modelLogbook, ?unload, ?allot, ?status⟩
  case submit =>
    intro h d q enc out rings hown hop hwear hrep hfmt henc hslots hperiod hin h8 h23 h21 hdup hrings
    have hbody := fun hroom => bodyOpSubmit_passes (pk := pk) (slot := slotFor specOpSubmit pk s) (s := s.rung specOpSubmit pk)
      hown hop hwear hrep hfmt henc hslots hperiod hin h8 h23 h21 hdup hrings hroom
    refine ⟨fun h0 hqueue hlimit => h.accepts ((hbody ?_).trans ?_), fun h0 hstanding => h.accepts ((hbody ?_).trans ?_)⟩
    · rw [if_pos h0]
      exact ⟨hqueue, hlimit⟩
    · exact if_pos h0
    · rw [if_neg h0]
      exact hstanding
    · have hnext : (if opRepeat d = 2 then nextReady d s.ts else 0) =
          if opRepeat d = 2 then (s.ts / ((d.getD 2 0).toNat * 4000) + 1) * ((d.getD 2 0).toNat * 4000) else 0 := by
        refine if_ctx_congr Iff.rfl (fun h2 => if_neg ?_) fun _ => rfl
        have := hperiod h2
        omega
      exact (congrArg ((s.rung specOpSubmit pk).enterOp pk (slotFor specOpSubmit pk s)) hnext).trans (if_neg h0)
  case cancelQueued =>
    intro h x hqueued hstanding
    refine h.answers (by decide) ?_
    obtain ⟨ho, hq⟩ : x.owner = pk.o ∧ x.seq = pk.p 1 := by simpa using List.find?_some hqueued
    have hdrop : ∀ t : State, t.dropInstance x = ({ t with ch := { t.ch with
        queue := t.ch.queue.filter (fun y => !(decide (y.owner = pk.o) && decide (y.seq = pk.p 1))) } }).postResult x 0x30 0 0 0 := fun t => by
      rw [State.dropInstance, ho, hq]
    unfold bodyOpCancel
    dsimp only
    rw [rung_ch, hqueued, hstanding]
    exact congrArg _ (hdrop _)
  case cancelStanding =>
    intro h x hqueued hstanding
    refine h.answers (by decide) ?_
    unfold bodyOpCancel
    dsimp only
    rw [rung_ch, hqueued, hstanding]
    refine congrArg (Verdict.done .ok []) ?_
    have hinst : ∀ ts now : Nat, x.first = true → ({ x.inst x.seq ts now with i0 := Input.zero, i1 := Input.zero } : OpInst) =
        ⟨x.owner, x.seq, x.desc, ts, now, x.slot, x.pseq, Input.zero, Input.zero, 0⟩ := fun ts now hfirst => by
      simp [Standing.inst, hfirst]
    by_cases hfirst : x.first = true
    · refine (if_pos hfirst).trans (Eq.trans ?_ (if_pos hfirst).symm)
      exact congrArg (fun y => State.postResult _ y 0x30 0 0 0) (hinst _ _ hfirst)
    · exact (if_neg hfirst).trans (if_neg hfirst).symm
  case itin =>
    intro h hsrc hkey hlen hpad
    refine h.accepts ((checkLoad_memory hlen hpad hsrc hkey _).trans ?_)
    rw [addLoad_memory _ _ _ hsrc, h.notStreamed rfl]
    rfl
  case itinLogbook =>
    rintro h hsrc howner item rfl hitem hkind hsize hlen hpad
    refine h.accepts ((checkLoad_logbook hlen hpad hsrc howner hitem hkind hsize _).trans ?_)
    rw [addLoad_logbook _ _ _ hsrc, h.notStreamed rfl]
    rfl
  case model =>
    intro h hsrc hkey hlen hpad hstream
    refine h.accepts ((chk_passes ?_ ..).trans ((chk_passes ?_ ..).trans ((checkLoad_memory hlen hpad hsrc hkey _).trans ?_)))
    · cases hs : pk.streamed with
      | false => rfl
      | true => simpa using (hstream hs).1
    · cases hs : pk.streamed with
      | false => rfl
      | true => rcases (hstream hs).2 with howner | hkey <;> simp [*]
    · rw [addLoad_memory _ _ _ hsrc]
      rfl
  case modelLogbook =>
    rintro h hsrc howner hstage item rfl hitem hkind hsize hlen hpad
    refine h.accepts ((chk_passes ?_ ..).trans ((chk_passes ?_ ..).trans ((checkLoad_logbook hlen hpad hsrc howner hitem hkind hsize _).trans ?_)))
    · cases hs : pk.streamed with
      | false => rfl
      | true => simpa [howner] using hstage hs
    · simp [howner]
    · rw [addLoad_logbook _ _ _ hsrc]
      rfl
  case unload =>
    intro h hloaded
    have hbody : ∀ f : State → State, (s.rung specSlotUnload pk).unloadSoon pk.o (fld (pk.p 1) 0 5) = f (s.rung specSlotUnload pk) →
        Answers (exec (.slotUnload pk) s) specSlotUnload pk s [] f := fun f hf => by
      refine h.answers (by decide) ((chk_passes ?_ ..).trans (congrArg _ hf))
      exact Option.isNone_eq_false_iff.mpr hloaded
    refine ⟨fun hidle => ⟨fun t => (t.unload pk.o (fld (pk.p 1) 0 5)).settleUnits, hbody _ (if_neg (Bool.eq_false_iff.mp hidle)), ?_⟩, fun hruns => hbody _ (if_pos hruns)⟩
    have hch := unload_ch (s.rung specSlotUnload pk) pk.o (fld (pk.p 1) 0 5)
    have hslots := congrArg Ch.slots hch
    have hqueue := congrArg Ch.queue hch
    have hrun := congrArg Ch.run hch
    have hdata := unload_data (s.rung specSlotUnload pk) pk.o (fld (pk.p 1) 0 5)
    refine ⟨(settleUnits_loaded ..).trans (unload_loaded ..), ?_⟩
    obtain ⟨st, md, hsettle⟩ := settleUnits_units ((s.rung specSlotUnload pk).unload pk.o (fld (pk.p 1) 0 5))
    dsimp only
    rw [hsettle]
    exact ⟨hslots, hqueue, hrun, hdata.probes, hdata.basins⟩
  case allot =>
    rintro h o st md rfl rfl rfl hnamed hst hmd
    refine h.answers (by decide) ((concern_named hnamed).trans ((chk_passes ?_ ..).trans (chk_passes ?_ ..)))
    · rw [Bool.or_eq_false_iff, decide_eq_false_iff_not, decide_eq_false_iff_not]
      omega
    · simp only [foldl_others, rung_allot, Nat.zero_add]
      rw [Bool.or_eq_false_iff, decide_eq_false_iff_not, decide_eq_false_iff_not]
      exact ⟨Nat.not_lt.mpr hst, Nat.not_lt.mpr hmd⟩
  case status =>
    intro h
    refine h.answers (by decide) ?_
    unfold bodyChStatus
    dsimp only
    rw [foldl_total, Nat.zero_add]
    rfl

end Sys2Proof.Machine
end

section
/-! SUPPORT. The starts of the running op (R291, R309), the removal of a core (R310 to R313), and what a load ends in (R306, R317 to
R319). -/

namespace Sys2Proof.Machine

/-! ## What a start of the running op changes (R291, R309) -/

/-- A start of the running op changes the cores, the run, reads under way and the words of the cores' banks. -/
def RunOnly (s t : State) : Prop :=
  t = { s with mgr := t.mgr, ecc := { s.ecc with word := t.ecc.word, bank := t.ecc.bank }, ch := { s.ch with cores := t.ch.cores, run := t.ch.run } }

theorem RunOnly.rfl {s : State} : RunOnly s s := Eq.refl s

theorem RunOnly.trans {s t u : State} (h : RunOnly s t) (k : RunOnly t u) : RunOnly s u := by
  unfold RunOnly at *
  rw [k, h]

theorem RunOnly.foldl {α : Type} {f : State → α → State} (h : ∀ s a, RunOnly s (f s a)) (l : List α) (s : State) : RunOnly s (l.foldl f s) := by
  induction l generalizing s with
  | nil => exact .rfl
  | cons a l ih => exact (h s a).trans (ih _)

theorem RunOnly.ite {s a b : State} {c : Prop} [Decidable c] (ha : RunOnly s a) (hb : RunOnly s b) : RunOnly s (if c then a else b) := by
  split <;> assumption

/-- A state written out with what a start changes. -/
theorem RunOnly.parts {s : State} {mgr : Mgr} {word : Tab EccWord} {bank : Tab Bank} {cores : Tab Core} {run : Option Running} : RunOnly s { s with
    mgr := mgr, ecc := { s.ecc with word := word, bank := bank }, ch := { s.ch with cores := cores, run := run } } := Eq.refl _

theorem RunOnly.now {s t : State} (h : RunOnly s t) : t.now = s.now := by rw [RunOnly] at h; rw [h]; rfl

/-- What a core's state and registers are after they are cleared (R280, R293). -/
def Core.cleared (x : Core) (now : Nat) : Core :=
  { Core.zero with store := x.store, psn := x.psn.filter (fun w => 24576 ≤ w), stepAt := now }

theorem cleared_cleared (x : Core) (now : Nat) : (x.cleared now).cleared now = x.cleared now := by
  simp [Core.cleared]

theorem clearCore_core (s : State) (c k : Nat) : (s.clearCore c).core k = if k = c then (s.core c).cleared s.now else s.core k :=
  State.setCore_core ..

theorem clearCore_runOnly (s : State) (c : Nat) : RunOnly s (s.clearCore c) := .parts

theorem clearCores_core (s : State) (cs : List Nat) (k : Nat) :
    (cs.foldl State.clearCore s).core k = if k ∈ cs then (s.core k).cleared s.now else s.core k := by
  induction cs generalizing s with
  | nil => rfl
  | cons c cs ih =>
    rw [List.foldl_cons, ih, clearCore_core, (clearCore_runOnly s c).now]
    by_cases hc : k = c
    · subst hc
      simp [cleared_cleared]
    · simp [hc]

theorem clearCores_runOnly (s : State) (cs : List Nat) : RunOnly s (cs.foldl State.clearCore s) := .foldl clearCore_runOnly cs s

/-- The run of an op from its first step (R291). -/
def Running.fresh (r : Running) (now : Nat) : Running :=
  { r with startAt := now, w2 := 0, w3 := 0, outs := [], outBad := [], poison := false, sat := false, streamed := false, failed := none,
           opened := [], wrote := 0 }

theorem restart_eq (s : State) (r : Running) : s.restart r = (r.cores.foldl State.clearCore s).setRun (r.fresh s.now) := by
  rfl

theorem restart_runOnly (s : State) (r : Running) : RunOnly s (s.restart r) := (clearCores_runOnly s r.cores).trans .parts

theorem restart_run (s : State) (r : Running) : (s.restart r).ch.run = some (r.fresh s.now) := by
  rw [restart_eq]
  rfl

theorem restart_core (s : State) (r : Running) (k : Nat) :
    (s.restart r).core k = if k ∈ r.cores then (s.core k).cleared s.now else s.core k := clearCores_core s r.cores k

/-- Requests to memory change nothing else. -/
def MgrOnly (s t : State) : Prop := t = { s with mgr := t.mgr }

theorem MgrOnly.rfl {s : State} : MgrOnly s s := Eq.refl s

theorem MgrOnly.trans {s t u : State} (h : MgrOnly s t) (k : MgrOnly t u) : MgrOnly s u := by
  unfold MgrOnly at *
  rw [k, h]

theorem MgrOnly.foldl {α : Type} {f : State → α → State} (h : ∀ s a, MgrOnly s (f s a)) (l : List α) (s : State) : MgrOnly s (l.foldl f s) := by
  induction l generalizing s with
  | nil => exact .rfl
  | cons a l ih => exact (h s a).trans (ih _)

theorem mgrPush_mgrOnly (s : State) (q : MReq) : MgrOnly s (s.mgrPush q) := Eq.refl _

theorem askPages_mgrOnly (s : State) (r : Running) : MgrOnly s (s.askPages r) := by
  unfold State.askPages
  dsimp only
  split
  · split
    · exact .foldl mgrPush_mgrOnly _ _
    · exact .rfl
  · exact .rfl

theorem askInputs_mgrOnly (s : State) (r : Running) : MgrOnly s (s.askInputs r) := by
  refine (MgrOnly.foldl (fun t j => ?_) [0, 1] s).trans (askPages_mgrOnly ..)
  split
  · exact .foldl mgrPush_mgrOnly _ _
  · exact .rfl

/-- The op runs from its first step, its inputs asked for. -/
theorem restart_askInputs (s : State) (r q : Running) : RunOnly s ((s.restart r).askInputs q) ∧
    ((s.restart r).askInputs q).ch.run = some (r.fresh s.now) ∧
    ∀ k, ((s.restart r).askInputs q).core k = if k ∈ r.cores then (s.core k).cleared s.now else s.core k := by
  have h := askInputs_mgrOnly (s.restart r) q
  rw [MgrOnly] at h
  rw [h]
  exact ⟨(restart_runOnly s r).trans .parts, restart_run s r, restart_core s r⟩

/-! ## The op executed again (R309, R310) -/

theorem giveStores_runOnly (s : State) (cs : List Nat) (t : Tab (Tab Byte)) : RunOnly s (s.giveStores cs t) :=
  .foldl (fun _ _ => .parts) _ _

theorem giveStores_core_other (s : State) {cs : List Nat} (t : Tab (Tab Byte)) {k : Nat} (hk : k ∉ cs) : (s.giveStores cs t).core k = s.core k := by
  have hall : ∀ (es : List (Nat × Nat)) (u : State), (∀ e ∈ es, e.2 ≠ k) →
      (es.foldl (fun s e => s.setCore e.2 { s.core e.2 with store := tget t e.1 [] }) u).core k = u.core k := by
    intro es
    induction es with
    | nil => exact fun _ _ => rfl
    | cons e es ih =>
      intro u h
      rw [List.foldl_cons, ih _ fun e' he' => h e' (List.mem_cons_of_mem _ he'), State.setCore_core, if_neg (h e List.mem_cons_self).symm]
  refine hall _ s fun e he hek => hk ?_
  obtain ⟨i, hi, rfl⟩ := List.mem_mapIdx.mp he
  exact hek ▸ List.getElem_mem hi

/-- The cores of an op in the order of their numbers. -/
def inOrder (cs : List Nat) : List Nat := (List.range 16).filter fun c => cs.contains c

/-- The running op starts again with the next attempt number. -/
def State.again (s : State) (r : Running) : State :=
  let r' := { r with attempt := r.attempt + 1, firstRun := none, cores := inOrder r.cores }
  let t := if r.dup then s.dropReads.giveStores r'.cores r.stores else s.dropReads
  (t.restart r').askInputs (r'.fresh t.now)

theorem reExec_again {s : State} {r : Running} (hrun : s.ch.run = some r) (h : r.attempt < 3) : s.reExec = s.again r := by
  unfold State.reExec
  rw [hrun]
  refine (if_neg (by omega)).trans ?_
  dsimp only
  rw [restart_run]
  rfl

theorem again_spec (s : State) (r : Running) : RunOnly s (s.again r) ∧
    (s.again r).ch.run = some ({ r with attempt := r.attempt + 1, firstRun := none, cores := inOrder r.cores }.fresh s.now) ∧
    ∀ k ∉ r.cores, (s.again r).core k = s.core k := by
  generalize ht : (if r.dup then s.dropReads.giveStores (inOrder r.cores) r.stores else s.dropReads) = t
  have htrun : RunOnly s t := by
    rw [← ht]
    exact .ite (RunOnly.trans .parts (giveStores_runOnly ..)) .parts
  have htcore : ∀ k ∉ inOrder r.cores, t.core k = s.core k := fun k hk => by
    rw [← ht]
    split
    · exact giveStores_core_other _ _ hk
    · rfl
  obtain ⟨hrunOnly, hrun, hcore⟩ := restart_askInputs t { r with attempt := r.attempt + 1, firstRun := none, cores := inOrder r.cores }
    ({ r with attempt := r.attempt + 1, firstRun := none, cores := inOrder r.cores }.fresh t.now)
  have hagain : s.again r = (t.restart { r with attempt := r.attempt + 1, firstRun := none, cores := inOrder r.cores }).askInputs
      ({ r with attempt := r.attempt + 1, firstRun := none, cores := inOrder r.cores }.fresh t.now) := by
    rw [← ht]
    rfl
  rw [hagain]
  refine ⟨htrun.trans hrunOnly, ?_, fun k hk => ?_⟩
  · rw [hrun, htrun.now]
  · have hout : k ∉ inOrder r.cores := fun h => hk (by simpa [inOrder] using (List.mem_filter.mp h).2)
    rw [hcore, if_neg hout, htcore k hout]

theorem opFails_runOnly (s : State) (status : Status) (idx : Nat) : RunOnly s (s.opFails status idx) := by
  unfold State.opFails
  split
  · exact .parts
  · exact .rfl

theorem opFails_core (s : State) (status : Status) (idx k : Nat) : (s.opFails status idx).core k = s.core k := by
  unfold State.opFails
  split <;> rfl

/-- Whether it starts again or has had its attempts, the op keeps what is not its own. -/
theorem reExec_keeps {s : State} {r : Running} (hrun : s.ch.run = some r) : RunOnly s s.reExec ∧ ∀ k ∉ r.cores, s.reExec.core k = s.core k := by
  by_cases h : r.attempt < 3
  · rw [reExec_again hrun h]
    obtain ⟨honly, -, hcore⟩ := again_spec s r
    exact ⟨honly, hcore⟩
  · have hfails : s.reExec = s.opFails .internal 0 := by
      unfold State.reExec
      rw [hrun]
      exact if_pos (by omega)
    rw [hfails]
    exact ⟨opFails_runOnly .., fun k _ => opFails_core ..⟩

/-! ## A core removed (R310 to R313) -/

/-- A write of the Logbook touches it and the raises alone, and takes no raise back. -/
theorem lbWrite_parts (s : State) (f : Logbook → Logbook) : ∃ (lb : Logbook) (fc : Fc), s.lbWrite f = { s with lb := lb, fc := fc } ∧
    ∀ p ∈ s.fc.pend, p ∈ fc.pend := by
  unfold State.lbWrite State.lbAccess
  cases hpresent : s.lb.present with
  | true => exact ⟨_, _, rfl, fun p hp => hp⟩
  | false =>
    simp only [Bool.false_eq_true, if_false]
    split
    · exact ⟨_, _, rfl, fun p hp => List.mem_append_left _ hp⟩
    · exact ⟨_, _, rfl, fun p hp => hp⟩

/-- A core is gone: its memory is lost, the map and the Logbook name it, the raise is made. -/
def State.coreGone (s : State) (c how : Nat) : State :=
  let n := s.ch.removed + 1
  let s := { s with ch := { s.ch with
    online := setBit s.ch.online c false, domOn := setBit s.ch.domOn c false, removed := n
    cores := tset s.ch.cores c Core.zero Core.zero } }
  let s := s.raise (if n < 5 then 0x702 else 0x703) c (how + min 31 n * 2 ^ 8)
  let m : MapEntry := ⟨2, c, 0, 0, false⟩
  let s := { s with ecc := { s.ecc with map := s.ecc.map.filter (fun e => e ≠ m) ++ [m] } }
  let map := s.ecc.map
  s.lbWrite (fun l => { l with spareMap := map })

/-- The inputs of the ops that wait lose what the core's logical index held (R311). -/
def State.inputsWithout (s : State) (k : Nat) : State :=
  { s with ch := { s.ch with
    standing := s.ch.standing.map (fun (x : Standing) => { x with i0 := x.i0.without k, i1 := x.i1.without k })
    queue := s.ch.queue.map (fun (x : OpInst) => { x with i0 := x.i0.without k, i1 := x.i1.without k }) } }

/-- The running op without a core. -/
def Running.without (s : State) (r : Running) (c : Nat) : Running :=
  let l := ((List.range 16).filter (fun k => r.cores.contains k)).findIdx (fun x => x = c)
  { r with
    cores := (List.range 16).filter (fun k => s.ch.online.getLsbD k)
    op := if r.cores.contains c then { r.op with i0 := r.op.i0.without l, i1 := r.op.i1.without l } else r.op
    stores := r.stores.filterMap (fun e => if e.1 = l then none else some (if l < e.1 then e.1 - 1 else e.1, e.2)) }

/-- The running op goes on without a core, if it has one left (R310, R312). -/
def State.runWithout (s : State) (c : Nat) : State :=
  match s.ch.run with
  | none => s
  | some r =>
    let t := s.setRun (r.without s c)
    if (r.without s c).cores.isEmpty then t.opFails .degraded 0 else t.reExec

theorem removeCore_eq {s : State} {c : Nat} (how : Nat) (hon : s.ch.online.getLsbD c = true) : s.removeCore c how =
    ((s.coreGone c how).inputsWithout ((List.range c).countP fun k => (s.coreGone c how).ch.online.getLsbD k)).runWithout c := by
  unfold State.removeCore
  rw [hon]
  rfl

/-- The raise of a core's removal (R310). -/
def State.removal (s : State) (c how : Nat) : Pend :=
  ⟨if s.ch.removed + 1 < 5 then 0x702 else 0x703, c, BitVec.ofNat 32 (how + min 31 (s.ch.removed + 1) * 2 ^ 8), none, s.ts, s.now, false, false⟩

theorem coreGone_spec (s : State) (c how : Nat) : (s.coreGone c how).ch = { s.ch with
      online := setBit s.ch.online c false, domOn := setBit s.ch.domOn c false, removed := s.ch.removed + 1
      cores := tset s.ch.cores c Core.zero Core.zero } ∧
    (⟨2, c, 0, 0, false⟩ : MapEntry) ∈ (s.coreGone c how).ecc.map ∧ s.removal c how ∈ (s.coreGone c how).fc.pend := by
  unfold State.coreGone
  extract_lets n ch t u m e v map
  obtain ⟨lb, fc, hwrite, hpend⟩ := lbWrite_parts v fun l => { l with spareMap := map }
  rw [hwrite]
  refine ⟨rfl, List.mem_append_right _ List.mem_cons_self, hpend _ ?_⟩
  exact List.mem_append_right _ List.mem_cons_self

theorem runWithout_keeps (s : State) {c : Nat} (hoff : s.ch.online.getLsbD c = false) :
    RunOnly s (s.runWithout c) ∧ (s.runWithout c).core c = s.core c := by
  unfold State.runWithout
  split
  · exact ⟨.rfl, rfl⟩
  · next r _ =>
    have hrun : RunOnly s (s.setRun (r.without s c)) := .parts
    have hout : c ∉ (r.without s c).cores := fun h => by
      have hbit := (List.mem_filter.mp h).2
      rw [hoff] at hbit
      cases hbit
    obtain ⟨honly, hcore⟩ := reExec_keeps (s := s.setRun (r.without s c)) rfl
    dsimp only
    split
    · exact ⟨hrun.trans (opFails_runOnly ..), opFails_core ..⟩
    · exact ⟨hrun.trans honly, hcore c hout⟩

/-- The state t is s without core c: its memory is lost, its removal is raised and remembered (R310 to R313). -/
def CoreLost (s t : State) (c how : Nat) : Prop :=
  t.ch.online = setBit s.ch.online c false ∧ t.ch.removed = s.ch.removed + 1 ∧ t.core c = Core.zero ∧
    (⟨2, c, 0, 0, false⟩ : MapEntry) ∈ t.ecc.map ∧ t.ch.queue.map OpInst.seq = s.ch.queue.map OpInst.seq ∧ s.removal c how ∈ t.fc.pend

theorem removeCore_lost {s : State} {c : Nat} (how : Nat) (hon : s.ch.online.getLsbD c = true) : CoreLost s (s.removeCore c how) c how := by
  obtain ⟨hch, hmap, hpend⟩ := coreGone_spec s c how
  rw [removeCore_eq how hon]
  generalize hk : ((List.range c).countP fun k => (s.coreGone c how).ch.online.getLsbD k) = k
  have hoff : ((s.coreGone c how).inputsWithout k).ch.online.getLsbD c = false := by
    show (s.coreGone c how).ch.online.getLsbD c = false
    rw [hch]
    exact (getLsbD_setBit _ _ _ _ (BitVec.lt_of_getLsbD hon)).trans (if_pos rfl)
  obtain ⟨honly, hcore⟩ := runWithout_keeps ((s.coreGone c how).inputsWithout k) hoff
  refine ⟨?_, ?_, ?_, ?_, ?_, ?_⟩
  · rw [honly]
    exact congrArg Ch.online hch
  · rw [honly]
    exact congrArg Ch.removed hch
  · rw [hcore]
    show tget (s.coreGone c how).ch.cores c Core.zero = Core.zero
    rw [hch]
    exact tget_tset_same ..
  · rw [honly]
    exact hmap
  · rw [honly]
    show ((s.coreGone c how).ch.queue.map _).map OpInst.seq = _
    rw [hch, List.map_map]
    rfl
  · rw [honly]
    exact hpend

/-! ## What a load ends in (R306, R317 to R319) -/

/-- The load leaves the list, its bytes are let go, its completion is posted. -/
def State.endLoad (s : State) (itin : Bool) (l : Load) (st : Status) (ws : List Nat) : State :=
  ({ s with
    ch := { s.ch with loads := s.ch.loads.erase l }
    mgr := { s.mgr with ready := s.mgr.ready.filter (fun q => q.why ≠ Purpose.image l.id) } } : State).complete
      (if itin then 0x52 else 0x53) l.owner l.seq l.slot st ws

section
variable {s v : State} {itin : Bool} {l : Load} (hidle : s.ch.run = none) (hawake : s.lk.st = .underway)
  (hfind : s.ch.loads.find? (fun x => x.itin == itin && (s.loadBytes x).isSome) = some l)
include hidle hawake hfind

theorem runLoad_absent (hbytes : s.loadBytes l = some (none, v)) : s.runLoad itin = v.endLoad itin l .internal [0, 0] := by
  unfold State.runLoad
  rw [hfind]
  refine (if_neg (by simp [hidle, hawake])).trans ?_
  dsimp only
  rw [hbytes]
  rfl

theorem runLoad_tried {b : List Byte} (hbytes : s.loadBytes l = some (some b, v)) {u : State} {st : Status} {ws : List Nat}
    (htry : v.tryLoad l b = (u, st, ws)) : s.runLoad itin = u.endLoad itin l st (failWords st ws) := by
  unfold State.runLoad
  rw [hfind]
  refine (if_neg (by simp [hidle, hawake])).trans ?_
  dsimp only
  rw [hbytes]
  dsimp only
  rw [htry]
  rfl

end

section
variable {v : State} {l : Load} {b : List Byte}

theorem tryLoad_closed (hopen : v.openImage l.owner b = none) : v.tryLoad l b = (v, .integrity, [0, 0]) := by
  unfold State.tryLoad
  rw [hopen]

variable {plain : List Byte} (hopen : v.openImage l.owner b = some plain)
include hopen

theorem tryLoad_unfit (hfits : (imgHeader b).fits l.itin b.length = false) : v.tryLoad l b = (v, .badParam, [0, 0]) := by
  unfold State.tryLoad
  rw [hopen]
  exact if_pos (by rw [hfits]; decide)

variable (hfits : (imgHeader b).fits l.itin b.length = true)
include hfits

theorem tryLoad_badStep (hitin : l.itin = true) {i : Nat} (hbad : badItin (imgHeader b) plain = some i) : v.tryLoad l b = (v, .badParam, [0, i]) := by
  unfold State.tryLoad
  rw [hopen]
  refine (if_neg (by rw [hfits]; decide)).trans ?_
  rw [if_pos hitin, hbad]

theorem tryLoad_places (hsteps : l.itin = true → badItin (imgHeader b) plain = none) : v.tryLoad l b = v.placeLoad l (imgHeader b) plain := by
  unfold State.tryLoad
  rw [hopen]
  refine (if_neg (by rw [hfits]; decide)).trans ?_
  cases hitin : l.itin with
  | false => rfl
  | true => rw [if_pos rfl, hsteps hitin]

end

/-- The model units of an owner that no slot of his uses. -/
def State.freeUnits (s : State) (o : Nat) : List Nat := (s.mdUnits o).filter fun u => !s.mdUsed o u

/-- The bytes of an image that stay on the chip (R319). -/
def residentBytes (l : Load) (h : ImgHeader) : Nat := if l.streamed then h.plain - h.wBytes else h.plain

/-- The image into slot i. -/
def State.placeAt (s : State) (l : Load) (h : ImgHeader) (plain : List Byte) (i : Nat) : State × Status × List Nat :=
  if (s.freeUnits l.owner).length * 65536 < residentBytes l h then (s, .tooLarge, [0, residentBytes l h - (s.freeUnits l.owner).length * 65536])
  else if l.streamed && decide (l.owner ≠ hm) && (s.memKey l.owner).isNone then (s, .badParam, [0, 0])
  else if l.streamed && decide (l.blocks < (h.wBytes + 4079) / 4080) then (s, .badParam, [7, 0])
  else if l.streamed && decide (2 ^ 24 ≤ tget s.ch.loadNo l.owner 0) then (s, .exhausted, [0, 0])
  else
    let us := (s.freeUnits l.owner).take ((residentBytes l h + 65535) / 65536)
    let w := i + us.length * 2 ^ 5
    (s.putLoad l h plain i us, .ok, if l.itin then [w] else [w, if l.streamed then rateFactor s.mgr h.wBytes else 0x100])

theorem placeLoad_full {s : State} {l : Load} (h : ImgHeader) (plain : List Byte) (hfull : ∀ i < 32, (s.loaded? l.owner i).isSome = true) :
    s.placeLoad l h plain = (s, .exhausted, [0, 0]) := by
  have hnone : (List.range 32).find? (fun i => (s.loaded? l.owner i).isNone) = none := by
    refine List.find?_range_eq_none.mpr fun i hi => ?_
    simp [hfull i hi]
  unfold State.placeLoad
  dsimp only
  rw [hnone]

theorem placeLoad_lowest {s : State} {l : Load} (h : ImgHeader) (plain : List Byte) {i : Nat} (hi : i < 32) (hfree : (s.loaded? l.owner i).isNone = true)
    (hlow : ∀ k < i, (s.loaded? l.owner k).isSome = true) : s.placeLoad l h plain = s.placeAt l h plain i := by
  have hsome : (List.range 32).find? (fun i => (s.loaded? l.owner i).isNone) = some i := by
    refine List.find?_range_eq_some.mpr ⟨hfree, List.mem_range.mpr hi, fun k hk => ?_⟩
    simp [hlow k hk]
  unfold State.placeLoad
  dsimp only
  rw [hsome]
  rfl

section
variable {s : State} {l : Load} {h : ImgHeader} {plain : List Byte} {i : Nat}

theorem keyed_passes (hkey : l.streamed = true → l.owner = hm ∨ (s.memKey l.owner).isSome = true) :
    ¬ (l.streamed && decide (l.owner ≠ hm) && (s.memKey l.owner).isNone) = true := by
  rw [Bool.and_eq_true, Bool.and_eq_true, decide_eq_true_eq]
  rintro ⟨⟨hstream, howner⟩, hnone⟩
  have hsome := (hkey hstream).resolve_left howner
  rw [Option.isNone_iff_eq_none.mp hnone] at hsome
  cases hsome

theorem placeAt_tooLarge (hroom : (s.freeUnits l.owner).length * 65536 < residentBytes l h) :
    s.placeAt l h plain i = (s, .tooLarge, [0, residentBytes l h - (s.freeUnits l.owner).length * 65536]) := if_pos hroom

variable (hroom : residentBytes l h ≤ (s.freeUnits l.owner).length * 65536)
include hroom

theorem placeAt_unkeyed (hstream : l.streamed = true) (hkey : ¬ (l.owner = hm ∨ (s.memKey l.owner).isSome = true)) :
    s.placeAt l h plain i = (s, .badParam, [0, 0]) :=
  (if_neg (Nat.not_lt.mpr hroom)).trans (if_pos (by simpa [hstream] using hkey))

variable (hkey : l.streamed = true → l.owner = hm ∨ (s.memKey l.owner).isSome = true)
include hkey

theorem placeAt_short (hstream : l.streamed = true) (hblocks : l.blocks < (h.wBytes + 4079) / 4080) :
    s.placeAt l h plain i = (s, .badParam, [7, 0]) :=
  (if_neg (Nat.not_lt.mpr hroom)).trans ((if_neg (keyed_passes hkey)).trans (if_pos (by simp [hstream, hblocks])))

variable (hblocks : l.streamed = true → (h.wBytes + 4079) / 4080 ≤ l.blocks)
include hblocks

theorem placeAt_spent (hstream : l.streamed = true) (hno : 2 ^ 24 ≤ tget s.ch.loadNo l.owner 0) : s.placeAt l h plain i = (s, .exhausted, [0, 0]) :=
  (if_neg (Nat.not_lt.mpr hroom)).trans ((if_neg (keyed_passes hkey)).trans
    ((if_neg (by simpa using hblocks)).trans (if_pos (by simpa [hstream] using hno))))

theorem placeAt_puts (hno : l.streamed = true → tget s.ch.loadNo l.owner 0 < 2 ^ 24) : s.placeAt l h plain i =
    (s.putLoad l h plain i ((s.freeUnits l.owner).take ((residentBytes l h + 65535) / 65536)), .ok,
      (i + (residentBytes l h + 65535) / 65536 * 32) :: (if l.itin = true then [] else
        [if l.streamed = true then rateFactor s.mgr h.wBytes else 256])) := by
  have hlen : ((s.freeUnits l.owner).take ((residentBytes l h + 65535) / 65536)).length = (residentBytes l h + 65535) / 65536 := by
    rw [List.length_take]
    omega
  refine (if_neg (Nat.not_lt.mpr hroom)).trans ((if_neg (keyed_passes hkey)).trans
    ((if_neg (by simpa using hblocks)).trans ((if_neg (by simpa using hno)).trans ?_)))
  dsimp only
  rw [hlen]
  cases l.itin <;> rfl

end

/-! ## Failed cores (R310) -/

/-- The residue mismatch of a core is noted. -/
def State.residueNoted (s : State) (c : Nat) : State := { s with ch := { s.ch with residue := tset s.ch.residue c (s.now + 1) 0 } }

section
variable {s : State} {c : Fin 16} {r : Running} (hrun : s.ch.run = some r) (hmem : c.val ∈ r.cores) (hfailed : r.failed = none)
include hrun hmem hfailed

theorem exec_residue_again (h : tget s.ch.residue c.val 0 = 0 ∨ tget s.ch.residue c.val 0 + 1000000000 ≤ s.now) :
    exec (.coreResidueMismatch c) s = .next (((s.residueNoted c.val).raise 0x700 c.val r.op.seq.toNat).reExec) := by
  have hexec : exec (.coreResidueMismatch c) s = execCoreResidueMismatch c s := rfl
  rw [hexec, execCoreResidueMismatch, hrun]
  refine congrArg _ ((if_neg (by simp [hmem, hfailed])).trans (if_neg ?_))
  simp only [Bool.and_eq_true, decide_eq_true_eq]
  omega

theorem exec_residue_removes (h0 : tget s.ch.residue c.val 0 ≠ 0) (h : s.now < tget s.ch.residue c.val 0 + 1000000000) :
    exec (.coreResidueMismatch c) s = .next ((s.residueNoted c.val).removeCore c.val 0) := by
  have hexec : exec (.coreResidueMismatch c) s = execCoreResidueMismatch c s := rfl
  rw [hexec, execCoreResidueMismatch, hrun]
  exact congrArg _ ((if_neg (by simp [hmem, hfailed])).trans (if_pos (by simp [h0, h])))

theorem exec_watchdog_removes (hhalt : (s.core c.val).halted = false) (h : 65536 * 5 ≤ (s.now - (s.core c.val).stepAt) * 6) :
    exec (.coreWatchdog c) s = .next (s.removeCore c.val 1) := by
  have hexec : exec (.coreWatchdog c) s = execCoreWatchdog c s := rfl
  rw [hexec, execCoreWatchdog, hrun]
  exact congrArg _ (if_neg (by simp [hmem, hfailed, hhalt]; omega))

end

/-- Settles O44: the loads by the status of each branch of tryLoad and placeLoad, the failed cores by what a removal and a new attempt
leave. -/
theorem loadsAndCores : Obligations.LoadsAndCores := by
  refine ⟨?loads, ?cores, ?selfTest⟩
  case loads =>
    intro s itin l v hidle hawake hfind ended ends
    obtain rfl : l.itin = itin := by
      have := List.find?_some hfind
      simp only [Bool.and_eq_true, beq_iff_eq] at this
      exact this.1
    have hends : ∀ {u : State} {st : Status} {ws : List Nat}, s.runLoad l.itin = u.endLoad l.itin l st ws → ends u st ws := by
      intro u st ws hrun
      exact ⟨fun h => congrArg _ ((congrArg s.runLoad h.symm).trans hrun), fun h => congrArg _ ((congrArg s.runLoad h.symm).trans hrun)⟩
    refine ⟨fun hbytes => hends (runLoad_absent hidle hawake hfind hbytes), fun b hbytes => ?_⟩
    intro h
    have htried : ∀ {u : State} {st : Status} {ws : List Nat}, v.tryLoad l b = (u, st, ws) → failWords st ws = ws → ends u st ws :=
      fun htry hws => hends ((runLoad_tried hidle hawake hfind hbytes htry).trans (by rw [hws]))
    refine ⟨fun hclosed => htried (tryLoad_closed hclosed) rfl, fun plain hopen => ⟨fun hunfit => htried (tryLoad_unfit hopen hunfit) rfl,
      fun i hitin hfits hbad => htried (tryLoad_badStep hopen hfits hitin hbad) rfl, ?_⟩⟩
    intro hfits hsteps resident blocks keyed
    have hplaces := tryLoad_places hopen hfits hsteps
    refine ⟨fun hfull => htried (hplaces.trans (placeLoad_full _ _ hfull)) rfl, ?_⟩
    rintro i hi hfree hlow free rfl
    have hat := hplaces.trans (placeLoad_lowest _ _ hi hfree hlow)
    refine ⟨fun hlarge => htried (hat.trans (placeAt_tooLarge hlarge)) rfl, fun hroom hstream => ⟨?_, ?_, ?_⟩, fun hroom hstream => ?_⟩
    · exact fun hkey => htried (hat.trans (placeAt_unkeyed hroom hstream hkey)) rfl
    · exact fun hkey hblocks => htried (hat.trans (placeAt_short hroom (fun _ => hkey) hstream hblocks)) rfl
    · exact fun hkey hblocks hno => htried (hat.trans (placeAt_spent hroom (fun _ => hkey) (fun _ => hblocks) hstream hno)) rfl
    · refine htried (hat.trans (placeAt_puts hroom (fun h => (hstream h).1) (fun h => (hstream h).2.1) fun h => (hstream h).2.2)) rfl
  case cores =>
    intro s c r hrun hmem hfailed
    have hlost : ∀ {u t : State} {how : Nat}, u.ch.online = s.ch.online → u.ch.removed = s.ch.removed → u.ch.queue = s.ch.queue →
        CoreLost u t c.val how → t.ch.online = setBit s.ch.online c.val false ∧ t.ch.removed = s.ch.removed + 1 ∧ t.core c.val = Core.zero ∧
          (⟨2, c.val, 0, 0, false⟩ : MapEntry) ∈ t.ecc.map ∧ t.ch.queue.map OpInst.seq = s.ch.queue.map OpInst.seq := by
      rintro u t how hon hremoved hqueue ⟨h1, h2, h3, h4, h5, -⟩
      exact ⟨hon ▸ h1, hremoved ▸ h2, h3, h4, hqueue ▸ h5⟩
    refine ⟨fun hfirst hattempt => ?_, fun h0 hsecond hon => ?_, fun hhalt hstep hon => ?_⟩
    · have hagain := exec_residue_again hrun hmem hfailed hfirst
      generalize hu : (s.residueNoted c.val).raise 0x700 c.val r.op.seq.toNat = u at hagain
      have hurun : u.ch.run = some r := by
        rw [← hu]
        exact hrun
      rw [reExec_again hurun hattempt] at hagain
      obtain ⟨honly, hr, -⟩ := again_spec u r
      refine ⟨u.again r, _, hagain, hr, rfl, rfl, ?_, rfl, ?_, ?_, ?_⟩
      · show u.now = s.now
        rw [← hu]
        rfl
      all_goals rw [honly, ← hu]
      · rfl
      · rfl
      · exact List.mem_append_right _ (List.mem_singleton.mpr rfl)
    · exact ⟨_, exec_residue_removes hrun hmem hfailed h0 hsecond, hlost rfl rfl rfl (removeCore_lost 0 hon)⟩
    · exact ⟨_, exec_watchdog_removes hrun hmem hfailed hhalt hstep, hlost rfl rfl rfl (removeCore_lost 1 hon)⟩
  case selfTest =>
    intro s c hidle hon
    have htest : ∀ pass : Bool, exec (.coreSelfTest c pass) s = .next (if pass then { s with ch := { s.ch with testAt := tset s.ch.testAt c.val s.now 0 } }
        else ({ s with ch := { s.ch with testAt := tset s.ch.testAt c.val s.now 0 } } : State).removeCore c.val 2) :=
      fun pass => congrArg _ (if_neg (by simp [hidle, hon]))
    obtain ⟨honline, hremoved, hcore, hmap, -, hpend⟩ :=
      removeCore_lost (s := { s with ch := { s.ch with testAt := tset s.ch.testAt c.val s.now 0 } }) (c := c.val) 2 hon
    refine ⟨htest true, _, htest false, honline, hremoved, hcore, hmap, ?_⟩
    have hcode : (if s.ch.removed < 4 then 0x702 else 0x703) = if s.ch.removed + 1 < 5 then 0x702 else 0x703 :=
      if_congr (by omega) rfl rfl
    rw [hcode]
    exact hpend

end Sys2Proof.Machine
end

section
/-! SUPPORT. An op from ready to result (R278, R288 to R294): the instance a standing op makes, the instance that starts next, the
start, and the ends. -/

namespace Sys2Proof.Machine

/-! ## A standing op's ready time (R288, R296) -/

/-- An instance of a standing op is pending, or there is no room for one. -/
def State.noRoom (s : State) (x : Standing) : Bool :=
  s.ch.queue.any (fun p => decide (p.owner = x.owner) && decide (some p.seq = x.cur)) ||
    (match s.ch.run with | some r => decide (r.op.owner = x.owner) && decide (some r.op.seq = x.cur) | none => false) ||
    decide (32 ≤ s.ch.queue.length) || decide ((s.allot x.owner).limit ≤ s.ownInstances x.owner)

theorem noRoom_iff (s : State) (x : Standing) : s.noRoom x = true ↔
    ((∃ p ∈ s.ch.queue, p.owner = x.owner ∧ some p.seq = x.cur) ∨ (∃ r, s.ch.run = some r ∧ r.op.owner = x.owner ∧ some r.op.seq = x.cur)) ∨
      32 ≤ s.ch.queue.length ∨ (s.allot x.owner).limit ≤ s.ownInstances x.owner := by
  unfold State.noRoom
  cases hrun : s.ch.run <;> simp [or_assoc]

/-- The sequence number that the next instance of a standing op gets, and the state with it taken. -/
def State.instSeq (s : State) (x : Standing) : BitVec 32 × State := if x.first then (x.seq, s) else s.takeSeq x.owner

theorem instSeq_noRoom (s : State) (x : Standing) : (s.instSeq x).2.noRoom x = s.noRoom x := by
  unfold State.instSeq
  split <;> rfl

/-- A standing op becomes ready, by its room and its sequence numbers. -/
def Standing.ready (x : Standing) (k readyTs : Nat) (noRoom spent : Bool) (q : BitVec 32 × State) : State :=
  let s' := q.2
  let y := x.inst q.1 readyTs s'.now
  let next := nextReady x.desc (max readyTs s'.ts)
  let x' : Standing := if noRoom then { x with first := false, nextTs := next }
    else { x with first := false, nextTs := next, cur := some q.1, i0 := Input.begin_ s'.ts, i1 := Input.begin_ s'.ts }
  let s' := { s' with ch := { s'.ch with standing := lset s'.ch.standing k (fun _ => x') } }
  if noRoom then s'.postResult { y with i0 := Input.zero, i1 := Input.zero } 0x30 0 0 0
  else if spent then s'.postResult y 0x31 0 0 0
  else { s' with ch := { s'.ch with queue := s'.ch.queue ++ [y] } }

theorem makeInstance_eq {s : State} {k : Nat} {x : Standing} (hx : s.ch.standing[k]? = some x) (readyTs : Nat) : s.makeInstance k readyTs =
    x.ready k readyTs ((s.instSeq x).2.noRoom x) (flag (x.desc.getD 0 0) 18 && !x.first && s.seqSpent x.owner) (s.instSeq x) := by
  unfold State.makeInstance
  rw [hx]
  rfl

/-- The instance of a standing op, as its owner gets it (R288). -/
def State.instOf (s : State) (x : Standing) (readyTs : Nat) : OpInst :=
  ⟨x.owner, (if x.first = true then x.seq else tget s.ch.seq x.owner 0), x.desc, readyTs, s.now, if x.first = true then x.slot else 0, x.pseq, x.i0, x.i1, 0⟩

/-- With room, it enters the queue, or ends when its sequence numbers are spent. -/
theorem ready_room (s : State) (x : Standing) (k readyTs : Nat) (spent : Bool) : x.ready k readyTs false spent (s.instSeq x) =
    let u := if x.first = true then s else (s.takeSeq x.owner).2
    let t := { u with ch := { u.ch with standing := lset s.ch.standing k (fun _ => { x with
      first := false, nextTs := nextReady x.desc (max readyTs s.ts), cur := some (s.instOf x readyTs).seq
      i0 := Input.begin_ s.ts, i1 := Input.begin_ s.ts }) } }
    if spent = true then t.postResult (s.instOf x readyTs) 0x31 0 0 0
    else { t with ch := { t.ch with queue := s.ch.queue ++ [s.instOf x readyTs] } } := by
  obtain ⟨_, _, _, first, _⟩ := x
  cases first <;> rfl

/-- Without room, it is skipped. -/
theorem ready_noRoom (s : State) (x : Standing) (k readyTs : Nat) (spent : Bool) : x.ready k readyTs true spent (s.instSeq x) =
    let u := if x.first = true then s else (s.takeSeq x.owner).2
    ({ u with ch := { u.ch with standing := lset s.ch.standing k (fun _ => { x with
      first := false, nextTs := nextReady x.desc (max readyTs s.ts) }) } } : State).postResult
        { s.instOf x readyTs with i0 := Input.zero, i1 := Input.zero } 0x30 0 0 0 := by
  obtain ⟨_, _, _, first, _⟩ := x
  cases first <;> rfl

/-! ## The instance that starts next (R289) -/

theorem lexLt_irrefl (a : List Nat) : lexLt a a = false := by
  induction a with
  | nil => rfl
  | cons n a ih => simp [lexLt, ih]

theorem lexLt_trans {a b c : List Nat} (hab : lexLt a b = true) (hbc : lexLt b c = true) : lexLt a c = true := by
  induction a generalizing b c with
  | nil => simp [lexLt] at hab
  | cons i a ih =>
    cases b with
    | nil => simp [lexLt] at hab
    | cons j b =>
      cases c with
      | nil => simp [lexLt] at hbc
      | cons k c =>
        simp only [lexLt, Bool.or_eq_true, Bool.and_eq_true, decide_eq_true_eq] at *
        rcases hab with hij | ⟨rfl, hab⟩
        · rcases hbc with hjk | ⟨rfl, -⟩
          · exact .inl (by omega)
          · exact .inl hij
        · rcases hbc with hjk | ⟨rfl, hbc⟩
          · exact .inl hjk
          · exact .inr ⟨rfl, ih hab hbc⟩

/-- Instance b starts before instance a. -/
def before (a b : OpInst) : Bool := lexLt b.key a.key

theorem foldl_first (l : List OpInst) (y : OpInst) : l.foldl (fun (a : Option OpInst) x =>
    match a with | none => some x | some b => if lexLt x.key b.key then some x else some b) (some y) = some (bestFrom before y l) := by
  induction l generalizing y with
  | nil => rfl
  | cons z l ih =>
    have hstep : bestFrom before y (z :: l) = bestFrom before (if before y z then z else y) l := rfl
    rw [hstep, ← ih, List.foldl_cons]
    refine congrArg (fun a => List.foldl _ a l) ?_
    exact (apply_ite some _ _ _).symm

theorem nextOp_first {s : State} {x : OpInst} (h : s.nextOp = some x) : x ∈ s.ch.queue ∧ s.expired x = false ∧
    ∀ y ∈ s.ch.queue, s.expired y = false → lexLt y.key x.key = false := by
  unfold State.nextOp at h
  cases hl : s.ch.queue.filter (fun x => !s.expired x) with
  | nil =>
    rw [hl] at h
    cases h
  | cons y l =>
    rw [hl, List.foldl_cons] at h
    obtain rfl : bestFrom before y l = x := Option.some.inj ((foldl_first l y).symm.trans h)
    have hmem : bestFrom before y l ∈ s.ch.queue.filter (fun x => !s.expired x) := hl ▸ bestFrom_mem before y l
    obtain ⟨hqueue, hdue⟩ := List.mem_filter.mp hmem
    refine ⟨hqueue, by simpa using hdue, fun z hz hzdue => ?_⟩
    refine bestFrom_best (less := before) (fun a b c hab hbc => lexLt_trans hbc hab) (fun a => lexLt_irrefl a.key) y l z ?_
    rw [← hl]
    exact List.mem_filter.mpr ⟨hz, by simp [hzdue]⟩

/-! ## The start of an op (R282, R291) -/

/-- Two runs of an op that differ in what its inputs hold. -/
def SameRun (r q : Running) : Prop := q = { r with op := { r.op with i0 := q.op.i0, i1 := q.op.i1 } }

theorem SameRun.rfl {r : Running} : SameRun r r := Eq.refl r

theorem SameRun.trans {r q p : Running} (h : SameRun r q) (k : SameRun q p) : SameRun r p := by
  unfold SameRun at *
  rw [k, h]

theorem setInput_same (r : Running) (j : Nat) (i : Input) : SameRun r { r with op := r.op.setInput j i } := by
  unfold OpInst.setInput
  split <;> exact Eq.refl _

/-- An op's input j takes a record of its space. -/
def OpInst.seeAt (o : OpInst) (space cores cell : Nat) (bad : Bool) (f : Nat → Bool) (x : Rec) (j : Nat) : OpInst :=
  if inSpace o.desc j = space && f j then o.setInput j ((o.input j).take o.desc j cores 1 cell bad x) else o

theorem see_same (r : Running) (space cores cell : Nat) (bad : Bool) (f : Nat → Bool) (x : Rec) :
    SameRun r { r with op := r.op.see space cores cell bad f x } := by
  have hone : ∀ (q : Running) (j : Nat), SameRun q { q with op := q.op.seeAt space cores cell bad f x j } := fun q j => by
    unfold OpInst.seeAt
    split
    · exact setInput_same q j _
    · exact .rfl
  exact (hone r 0).trans (hone { r with op := r.op.seeAt space cores cell bad f x 0 } 1)

theorem foldl_same {α : Type} {f : Running → α → Running} (h : ∀ r a, SameRun r (f r a)) (l : List α) (r : Running) : SameRun r (l.foldl f r) := by
  induction l generalizing r with
  | nil => exact .rfl
  | cons a l ih => exact (h r a).trans (ih _)

/-- The BASIN inputs are filled from a cell of a queue. -/
def fillCell (n : Nat) (a : Running × State) (c : Cell) : Running × State :=
  let f := a.2.fetch c.bank (c.idx * 4) 4
  (c.recs.foldl (fun (r : Running) x => { r with op := r.op.see 2 n c.no f.1 (fun _ => true) x }) a.1, f.2)

theorem fillCells_same (n : Nat) (cs : List Cell) (a : Running × State) :
    SameRun a.1 (cs.foldl (fillCell n) a).1 ∧ Reads a.2 (cs.foldl (fillCell n) a).2 := by
  induction cs generalizing a with
  | nil => exact ⟨.rfl, .rfl⟩
  | cons c cs ih =>
    obtain ⟨hrun, hreads⟩ := ih (fillCell n a c)
    exact ⟨(foldl_same (fun _ _ => see_same ..) _ _).trans hrun, (fetch_reads ..).trans hreads⟩

/-- The inputs are filled: the op is the same otherwise, and the queues and the ledger are read. -/
theorem fillInputs_same (s : State) (r : Running) : SameRun r (s.fillInputs r).1 ∧ Reads s (s.fillInputs r).2 := by
  unfold State.fillInputs
  extract_lets n o uses b l
  have hb : SameRun r b.1 ∧ Reads s b.2 := by
    unfold b
    split
    · exact fillCells_same n _ (r, s)
    · exact ⟨.rfl, .rfl⟩
  split
  · refine ⟨hb.1.trans (foldl_same (fun r e => ?_) _ _), hb.2.trans (ownRecs_reads ..)⟩
    split
    · exact .rfl
    · exact see_same ..
  · exact hb

/-! ### The model of a WEAR_PREDICT (R338) -/

theorem stageWrites_mgrOnly (s : State) (o slot loadNo base : Nat) (ws : List Byte) : MgrOnly s (s.stageWrites o slot loadNo base ws) := by
  refine .foldl (fun s i => ?_) _ _
  exact .foldl mgrPush_mgrOnly _ _

theorem MgrOnly.data {s t : State} (h : MgrOnly s t) : DataOnly s t := by
  rw [h]
  exact .parts

theorem putLoad_data (s : State) (l : Load) (h : ImgHeader) (plain : List Byte) (i : Nat) (us : List Nat) : DataOnly s (s.putLoad l h plain i us) := by
  unfold State.putLoad
  extract_lets o no body x t ch u
  have ht : DataOnly s t := .foldl _ (fun _ _ => .parts) _ _
  have hu : DataOnly s u := ht.trans .parts
  exact .ite ((hu.trans .parts).trans (stageWrites_mgrOnly ..).data) hu

theorem placeLoad_data (s : State) (l : Load) (h : ImgHeader) (plain : List Byte) : DataOnly s (s.placeLoad l h plain).1 := by
  unfold State.placeLoad
  extract_lets o free resident
  split
  · exact .rfl
  · exact .ite_fst .rfl (.ite_fst .rfl (.ite_fst .rfl (.ite_fst .rfl (putLoad_data ..))))

theorem tryLoad_data (s : State) (l : Load) (b : List Byte) : DataOnly s (s.tryLoad l b).1 := by
  unfold State.tryLoad
  split
  · exact .rfl
  · refine .ite_fst .rfl ?_
    split
    · exact .rfl
    · exact placeLoad_data ..

/-- Loading the model keeps whose instance it is. -/
theorem loadWearModel_same (s : State) (x : OpInst) :
    (s.loadWearModel x).1.owner = x.owner ∧ (s.loadWearModel x).1.seq = x.seq ∧ DataOnly s (s.loadWearModel x).2 := by
  unfold State.loadWearModel
  split
  · exact ⟨rfl, rfl, .rfl⟩
  · extract_lets i item r b t slot
    split
    · exact ⟨rfl, rfl, .rfl⟩
    · split
      · exact ⟨rfl, rfl, (lbAccess_data s).trans (tryLoad_data ..)⟩
      · exact ⟨rfl, rfl, lbAccess_data s⟩

/-! ### OP_START -/

/-- The cores that are left. -/
def State.onlineCores (s : State) : List Nat := (List.range 16).filter fun c => s.ch.online.getLsbD c

/-- The run with which an op starts (R291). -/
def State.firstRun (s : State) (x : OpInst) : Running :=
  ⟨{ x with i0 := x.i0.opens x.desc 0 s.ts, i1 := x.i1.opens x.desc 1 s.ts }, s.onlineCores, 0, s.now, s.now, 0, 0, [], [], false, false, false, none,
    none, s.isDup x.owner x.desc, 0, [], [], 0⟩

/-- An op starts on the cores that are left: its inputs are filled, a duplicated one keeps the state it began with. -/
def State.startOp (s : State) (x : OpInst) : State :=
  let f := ({ s with ch := { s.ch with domOn := s.ch.online } } : State).fillInputs (s.firstRun x)
  let r := { f.1 with stores := if f.1.dup then f.2.saveStores s.onlineCores else [] }
  (f.2.restart r).askInputs r

theorem exec_opStart {s : State} {x : OpInst} {m : OpInst × State} (hnext : s.nextOp = some x) (hidle : s.ch.run = none)
    (hup : s.dev.restarting = false) (hdown : s.dev.down = false) (hawake : s.lk.st = .underway) (hentering : s.lk.entering = none)
    (hheld : s.coresHeld = false) (hm : ({ s with ch := { s.ch with queue := s.ch.queue.erase x } } : State).loadWearModel x = m)
    (hcores : m.2.onlineCores ≠ []) (hslots : m.2.slotsOk m.1.owner m.1.desc = true)
    (hrings : opRepeat m.1.desc = 0 → m.2.ringBytes + ringsOf m.1.desc * 1024 ≤ 393216) : exec .opStart s = .next (m.2.startOp m.1) := by
  have hexec : exec .opStart s = execOpStart s := rfl
  rw [hexec, execOpStart, hnext]
  refine congrArg _ ((if_neg (by simp [hidle, hup, hdown, hawake, hentering, hheld])).trans ?_)
  dsimp only
  rw [hm]
  refine (if_neg fun h => hcores (List.isEmpty_iff.mp h)).trans ((if_neg (by simp [hslots])).trans ((if_neg (by simpa using hrings)).trans rfl))

theorem DataOnly.now {s t : State} (h : DataOnly s t) : t.now = s.now := by rw [DataOnly] at h; rw [h]; rfl
theorem Reads.now {s t : State} (h : Reads s t) : t.now = s.now := by rw [Reads] at h; rw [h]; rfl

/-- What a start leaves: the run from its first step, the cores cleared. -/
theorem startOp_spec (s : State) (x : OpInst) : ∃ (i0 i1 : Input) (stores : Tab (Tab Byte)),
    (s.startOp x).ch.run = some { s.firstRun x with op := { x with i0 := i0, i1 := i1 }, stores := stores } ∧
    (s.startOp x).ch.queue = s.ch.queue ∧ (s.startOp x).ch.standing = s.ch.standing ∧ (s.startOp x).ch.seq = s.ch.seq ∧
    (s.startOp x).ch.domOn = s.ch.online ∧ ∀ c ∈ s.onlineCores, (s.startOp x).core c = (s.core c).cleared s.now := by
  unfold State.startOp
  generalize hu : ({ s with ch := { s.ch with domOn := s.ch.online } } : State) = u
  obtain ⟨hsame, hreads⟩ := fillInputs_same u (s.firstRun x)
  generalize u.fillInputs (s.firstRun x) = f at hsame hreads
  dsimp only
  generalize (if f.1.dup then f.2.saveStores s.onlineCores else []) = stores
  obtain ⟨honly, hrun, hcore⟩ := restart_askInputs f.2 { f.1 with stores := stores } { f.1 with stores := stores }
  have hnow : f.2.now = s.now := by
    rw [hreads.now, ← hu]
    rfl
  have hch : f.2.ch = { s.ch with domOn := s.ch.online } := by
    rw [hreads.ch, ← hu]
  have hqueue : f.2.ch.queue = s.ch.queue := by rw [hch]
  have hstanding : f.2.ch.standing = s.ch.standing := by rw [hch]
  have hseq : f.2.ch.seq = s.ch.seq := by rw [hch]
  have hdom : f.2.ch.domOn = s.ch.online := by rw [hch]
  refine ⟨f.1.op.i0, f.1.op.i1, stores, ?_, ?_, ?_, ?_, ?_, fun c hc => ?_⟩
  · rw [hrun, hsame, hnow]
    rfl
  · rw [honly]
    exact hqueue
  · rw [honly]
    exact hstanding
  · rw [honly]
    exact hseq
  · rw [honly]
    exact hdom
  · have hin : c ∈ f.1.cores := by
      rw [hsame]
      exact hc
    rw [hcore, if_pos hin, hnow]
    show (tget f.2.ch.cores c Core.zero).cleared s.now = _
    rw [hch]
    rfl

/-! ## The ends (R289, R292, R294) -/

/-- The end of an op leaves the array idle. -/
theorem finishOp_idle (s : State) (r : Running) (status w2 w3 : Nat) (blocks : Bool) :
    (s.finishOp r status w2 w3 blocks).ch.run = none ∧ (s.finishOp r status w2 w3 blocks).ch.idleAt = s.now := by
  unfold State.finishOp
  extract_lets st need n t any flags w u gone src ch v z
  have hnow : u.now = s.now := (postResult_data ..).now.trans (MgrOnly.foldl (fun _ _ => mgrPush_mgrOnly ..) _ _).data.now
  have hz : z.ch.run = none ∧ z.ch.idleAt = u.now :=
    ⟨foldl_proj (fun s => s.ch.run) (fun s (e : Nat × Loaded) => s.unload (e.1 / 32) (e.1 % 32)) (fun s e => by rw [unload_ch]) gone v,
      foldl_proj (fun s => s.ch.idleAt) (fun s (e : Nat × Loaded) => s.unload (e.1 / 32) (e.1 % 32)) (fun s e => by rw [unload_ch]) gone v⟩
  obtain ⟨ust, md, hsettle⟩ := settleUnits_units z.releaseKept
  rw [hsettle, ← hnow]
  exact hz

/-! ### A library op without inputs in memory (R294, R297) -/

section
variable {s : State} {r : Running} (hmodel : flag (r.op.desc.getD 1 0) 5 = false) (hin : ∀ j < 2, inSpace r.op.desc j < 5)
include hmodel

theorem libModel_none : s.libModel r = none := if_neg (by rw [Running.usesModel, hmodel]; decide)

theorem pagesIn_none : s.pagesIn r = some (true, false, []) := by
  unfold State.pagesIn
  rw [libModel_none hmodel]

theorem modelRead_none : s.modelRead r = (false, s) := by
  unfold State.modelRead
  rw [libModel_none hmodel]

omit hmodel
include hin

theorem dramIn_none {j : Nat} (hj : j < 2) : s.dramIn r j = some (([], false), s) := if_neg (by have := hin j hj; omega)

theorem statePlaces_none {j : Nat} (hj : j < 2) : s.statePlaces r j = [] := if_neg (by
  have := hin j hj
  simp [isState]
  omega)

theorem stateBad_none : s.stateBad r = (false, s) := by
  unfold State.stateBad
  rw [statePlaces_none hin (by decide), statePlaces_none hin (by decide)]
  induction r.cores with
  | nil => rfl
  | cons c cs ih => exact ih

end

/-- The run with its result words (R294). -/
def Running.answers (r : Running) (w2 w3 : Nat) : Running := { r with w2 := BitVec.ofNat 64 w2, w3 := BitVec.ofNat 64 w3 }

theorem answers_self (r : Running) : r.answers r.w2.toNat r.w3.toNat = r := by
  simp [Running.answers]

/-- An op that is not duplicated and writes no blocks ends with its result words. -/
theorem opDone_ends (s : State) {r : Running} (w2 w3 : Nat) (hdup : r.dup = false) (hdram : descDram r.op.desc = false) :
    s.opDone r w2 w3 = (s.setRun (r.answers w2 w3)).finishOp (r.answers w2 w3) 0 w2 w3 true := by
  unfold State.opDone
  refine (if_pos (by simp [hdup])).trans (if_neg ?_)
  simp [hdram]

theorem libRun_latHist (s : State) {r : Running} (hop : opCode r.op.desc = 1) {d0 d1 far : List Byte} :
    (s.libRun r d0 d1 far).w2 = r.recs.countP fun q => decide (q.ty = 0x12) := by
  unfold State.libRun
  dsimp only
  rw [hop]
  simp [State.recordOp, latHist, List.countP_eq_length_filter]

/-- LAT_HIST counts the responses (R297). -/
theorem libDone_latHist (s : State) {r : Running} (hop : opCode r.op.desc = 1) (hmodel : flag (r.op.desc.getD 1 0) 5 = false) (hdup : r.dup = false)
    (hin : ∀ j < 2, inSpace r.op.desc j < 5) (hrecs : ∀ q ∈ r.recs, q.bad = false) (hdram : descDram r.op.desc = false) :
    ∃ (r' : Running) (w3 : Nat), s.libDone r ([], false) ([], false) (true, false, []) =
      (s.setRun r').finishOp r' 0 (r.recs.countP fun q => decide (q.ty = 0x12)) w3 true ∧ r'.op = r.op ∧ r'.poison = false := by
  unfold State.libDone
  extract_lets streamed q b t m u l bad out z w2 v
  have hlib : s.libModel r = none := libModel_none hmodel
  have hb : b = (false, s) := stateBad_none (r := q) hin
  have ht : t = s := congrArg Prod.snd hb
  have hm : m = (false, s) := (congrArg (fun t => State.modelRead t q) ht).trans (modelRead_none hmodel)
  have hu : u = s := congrArg Prod.snd hm
  have hbad : bad = false := by
    have hnone : r.recs.any (fun x => x.bad) = false := List.any_eq_false.mpr fun x hx => by simp [hrecs x hx]
    show (m.1 || r.recs.any fun x => x.bad) = false
    rw [hm, hnone]
    rfl
  have hw2 : w2 = r.recs.countP fun q => decide (q.ty = 0x12) :=
    (if_neg (by rw [show opCode z.op.desc = 1 from hop]; decide)).trans (libRun_latHist u hop)
  have hv : v = s := by
    refine (if_neg (by rw [show z.dup = false from hdup]; exact Bool.false_ne_true)).trans (Eq.trans ?_ hu)
    exact if_neg (by rw [show opCode z.op.desc = 1 from hop]; decide)
  refine ⟨z.answers w2 l.w3, l.w3, ?_, rfl, hbad⟩
  rw [if_neg (by rw [show q.usesModel = false from hmodel]; exact Bool.false_ne_true), if_neg (by decide), if_neg, if_neg (by rw [hb]; exact Bool.false_ne_true), hv, hw2]
  · exact opDone_ends s _ _ hdup hdram
  · have hfits : ∀ j < 2, s.stateFits q j = true := fun j hj => by
      have := hin j hj
      simp [State.stateFits, isState, show q.op = r.op from rfl]
      omega
    rw [hfits 0 (by decide), hfits 1 (by decide)]
    decide

/-- Settles O45: the ready time by the room and the sequence number, the start by what the filled inputs and the cleared cores keep,
the ends by finishOp. -/
theorem opEvents : Obligations.OpEvents := by
  refine ⟨?ready, fun s x h => nextOp_first h, ?start, ?deadline, ?ends⟩
  case ready =>
    intro s idx x hx hrep hdue q u spent y pending
    have hexec : exec (.periodOpReady idx) s = .next (s.makeInstance idx.val x.nextTs) := by
      have h : exec (.periodOpReady idx) s = execPeriodOpReady idx s := rfl
      rw [h, execPeriodOpReady, hx]
      exact congrArg _ (if_pos (by simp [hrep, hdue]))
    rw [hexec, makeInstance_eq hx, instSeq_noRoom]
    have hspent : (flag (x.desc.getD 0 0) 18 && !x.first && s.seqSpent x.owner) = true ↔ spent := by
      simp only [Bool.and_eq_true, Bool.not_eq_true', and_assoc]
      exact Iff.rfl
    refine ⟨fun hpending hqueue hlimit => ?_, fun hfull => ?_⟩
    · have hroom : s.noRoom x = false := Bool.eq_false_iff.mpr fun h => by
        rcases (noRoom_iff s x).mp h with h | h | h
        · exact hpending h
        · omega
        · omega
      rw [hroom, ready_room]
      exact ⟨fun h => congrArg _ (if_neg fun h' => h (hspent.mp h')), fun h => congrArg _ (if_pos (hspent.mpr h))⟩
    · rw [(noRoom_iff s x).mpr hfull, ready_noRoom]
      rfl
  case start =>
    intro s x hnext hidle hup hdown hawake hentering hheld m cores hcores hslots hrings
    obtain ⟨howner, hxseq, hdata⟩ := loadWearModel_same { s with ch := { s.ch with queue := s.ch.queue.erase x } } x
    obtain ⟨i0, i1, stores, hrun, hqueue, hstanding, hseq, hdom, hcore⟩ := startOp_spec m.2 m.1
    have hnow : m.2.now = s.now := hdata.now
    refine ⟨_, _, exec_opStart hnext hidle hup hdown hawake hentering hheld rfl hcores hslots hrings, hrun, howner, hxseq, rfl, rfl, rfl, hnow, hnow, rfl,
      rfl, rfl, rfl, hqueue, hstanding, hseq, hdom, fun h4 h5 => if_pos (by simp [h4, h5]), fun c hc => ?_⟩
    rw [hcore c hc]
    exact ⟨rfl, rfl, rfl, rfl, rfl, rfl, rfl, rfl⟩
  case deadline =>
    intro s o seq x hx hdl hlate
    obtain ⟨ho, hq⟩ : x.owner = o.val ∧ x.seq = seq := by simpa using List.find?_some hx
    have hexec : exec (.opDeadlineExpiry o seq) s = execOpDeadlineExpiry o seq s := rfl
    rw [hexec, execOpDeadlineExpiry, hx]
    refine congrArg _ ((if_pos (by simp [State.expired, hdl, hlate])).trans ?_)
    rw [State.dropInstance, ho, hq]
  case ends =>
    intro s r hrun
    have hexec : exec .opComplete s = execOpComplete s := rfl
    have hself : s.setRun r = s := by
      unfold State.setRun
      rw [← hrun]
    refine ⟨fun hbudget => ?_, fun st idx hfailed => ?_, fun hfailed hop hhalt hdup hdram => ?_, fun hfailed hop hopen hmodel hdup hin hrecs hdram => ?_⟩
    · have hexec : exec .opBudgetExceeded s = execOpBudgetExceeded s := rfl
      rw [hexec, execOpBudgetExceeded, hrun]
      exact ⟨_, congrArg _ (if_pos hbudget), rfl, finishOp_idle ..⟩
    · rw [hexec, execOpComplete, hrun]
      dsimp only
      rw [hfailed]
      refine ⟨_, rfl, (finishOp_idle ..).1, (finishOp_idle ..).2, ?_, ?_, ?_⟩
      · rintro rfl
        exact congrArg (fun p => s.finishOp { r with poison := p } 0x12 (idx % 2 ^ 16) 0 false) (Bool.and_false r.poison)
      · rintro rfl
        exact congrArg (fun p => s.finishOp { r with poison := p } 0x31 r.w2.toNat 0 true) (Bool.and_true r.poison)
      · intro h12 h31
        have h12' : st.toNat ≠ 0x12 := fun h => h12 (BitVec.eq_of_toNat_eq h)
        have h31' : st.toNat ≠ 0x31 := fun h => h31 (BitVec.eq_of_toNat_eq h)
        simp only [h12', h31', decide_false, Bool.and_false, if_false]
    · rw [hexec, execOpComplete, hrun]
      dsimp only
      rw [hfailed]
      refine ⟨_, congrArg _ ((if_pos hop).trans ((if_pos ?_).trans (opDone_ends s _ _ hdup hdram))), ?_⟩
      · simpa using hhalt
      · rw [answers_self, hself]
        exact ⟨rfl, finishOp_idle ..⟩
    · obtain ⟨r', w3, hdone, hsame, hpoison⟩ := libDone_latHist s hop hmodel hdup hin hrecs hdram
      rw [hexec, execOpComplete, hrun]
      dsimp only
      rw [hfailed]
      refine ⟨_, r', w3, congrArg _ ((if_neg (by rw [hop]; decide)).trans ((if_neg (by rw [hopen]; decide)).trans ?_)), rfl, hsame, hpoison, finishOp_idle ..⟩
      rw [pagesIn_none hmodel, dramIn_none hin (by decide), dramIn_none hin (by decide)]
      dsimp only
      rw [dramIn_none hin (by decide)]
      exact hdone

end Sys2Proof.Machine
end


section
/-! SUPPORT. Charters and key slots: what each packet of 0x80 to 0x87 makes of the charter table (R403, R407 to R419). -/

namespace Sys2Proof.Machine

variable {pk : Pkt} {s : State}

/-! ## Beginning a charter, and its status (R407, R410) -/

theorem charterBegin_answers (hd : Heard specCharterBegin pk s) (hst : s.chState (fld (pk.p 1) 0 4) = .inactive) :
    Answers (exec (.charterBegin pk) s) specCharterBegin pk s [] (fun t => { t with chart := { t.chart with
      st := tset t.chart.st (fld (pk.p 1) 0 4) .active .inactive, kek := tset t.chart.kek (fld (pk.p 1) 0 4) none none } }) :=
  hd.answers (by decide) (chk_passes (decide_eq_false (not_not.mpr hst)) ..)

theorem charterStatus_answers (hd : Heard specCharterStatus pk s) :
    Answers (exec (.charterStatus pk) s) specCharterStatus pk s
      [2 ^ 16 + ((List.range 16).map (fun c => b2n (s.active c) * 2 ^ c)).sum,
       s.keygen pk.o + s.chart.slots.countP (fun e => decide (e.2.owner = pk.o) && decide (e.2.st ≠ .free) && decide (e.2.st ≠ .dead)) * 2 ^ 8 +
         (s.units pk.o).length * 2 ^ 14] (fun t => t) := by
  rw [← foldl_total]
  exact hd.answers (by decide) rfl

/-! ## The identity key (R411, R413, R415) -/

/-- The key store's answer is read, not changed. -/
theorem askKey_ksErr (s : State) (label : Nat) : (s.askKey label).io.ksErr = s.io.ksErr :=
  proj_of_ite (fun t : State => t.io.ksErr) rfl rfl

theorem bodyAttest_unkeyed (pk : Pkt) (n : Nat) {s : State} (hks : s.io.ksErr = true) : bodyAttest pk n s = .done .internal [0, 0] (s.askKey 1) := by
  unfold bodyAttest
  exact if_pos ((askKey_ksErr s 1).trans hks)

theorem bodyAttest_keyed (pk : Pkt) (n : Nat) {s : State} (hks : s.io.ksErr = false) : bodyAttest pk n s =
    .done .ok (s.evidence pk.o (pk.ps.map (·.toNat)) ++
        pairWords (Config.ecSign s.fresh.1 identityKey (Config.sha256 (beOfWords (s.evidence pk.o (pk.ps.map (·.toNat)))))) ++
        pairWords (Config.ecPublic identityKey))
      { s with free := s.free + 1, io := { s.io with ksLabel := 1 } } := by
  unfold bodyAttest
  rw [askKey_answered 1 hks]
  exact if_neg (ne_true_of_eq_false hks)

theorem attest_unkeyed (hd : Heard specAttest pk s) (hks : s.io.ksErr = true) :
    exec (.attest pk) s = .next (finish specAttest pk (slotFor specAttest pk s) false (s.rung specAttest pk)
      (.done .internal [0, 0] ((s.rung specAttest pk).askKey 1))) := by
  have hb : bodyAttest pk (slotFor specAttest pk s) (s.rung specAttest pk) = .done .internal [0, 0] ((s.rung specAttest pk).askKey 1) :=
    bodyAttest_unkeyed pk _ hks
  exact congrArg Host.Outcome.next (by rw [hd.launch, hb]; rfl)

theorem attest_answers (hd : Heard specAttest pk s) (hks : s.io.ksErr = false) (ev : List Nat) (hev : ev = s.evidence pk.o (pk.ps.map (·.toNat))) :
    Answers (exec (.attest pk) s) specAttest pk s
      (ev ++ pairWords (Config.ecSign s.fresh.1 identityKey (Config.sha256 (beOfWords ev))) ++ pairWords (Config.ecPublic identityKey))
      (fun t => { t with free := t.free + 1, io := { t.io with ksLabel := 1 } }) := by
  subst hev
  exact hd.answers (by decide) (bodyAttest_keyed pk _ hks)

theorem keyAgree_invalid (hd : Heard specKeyAgree pk s) (h : Config.ecValid (BitVec.ofNat 512 (ofBeWords (pk.ps.take 16))) = false) :
    exec (.keyAgree pk) s = .next ((s.rung specKeyAgree pk).reply 0x83 pk .badParam [1, 0]) := by
  have hb : bodyKeyAgree pk (slotFor specKeyAgree pk s) (s.rung specKeyAgree pk) = .reject .badParam 1 0 := if_pos (by rw [h]; rfl)
  exact congrArg Host.Outcome.next (by rw [hd.launch, hb]; rfl)

theorem bodyKeyAgree_unkeyed (pk : Pkt) (n : Nat) {s : State} (h : Config.ecValid (BitVec.ofNat 512 (ofBeWords (pk.ps.take 16))) = true)
    (hks : s.io.ksErr = true) : bodyKeyAgree pk n s = .done .internal [0, 0] (s.askKey 1) := by
  unfold bodyKeyAgree
  exact (chk_passes (by rw [h]; rfl) ..).trans (if_pos ((askKey_ksErr s 1).trans hks))

/-- The KEK agreed with a host (R415). -/
def State.agreedKek (s : State) (pk : Pkt) : W256 :=
  Config.hkdf (BitVec.ofNat 256 (ofBeWords (pk.ps.drop 16))) (Config.ecdh (Config.ephemeral s.free) (BitVec.ofNat 512 (ofBeWords (pk.ps.take 16))))
    (kekInfo pk.o s.chip)

/-- The words that the chip signs in its answer. -/
def State.agreedWords (s : State) (pk : Pkt) : List Byte :=
  beOfWords ((pk.ps.take 16).map (·.toNat) ++ pairWords (Config.ecPublic (Config.ephemeral s.free)) ++ (pk.ps.drop 16).map (·.toNat))

theorem bodyKeyAgree_keyed (pk : Pkt) (n : Nat) {s : State} (h : Config.ecValid (BitVec.ofNat 512 (ofBeWords (pk.ps.take 16))) = true)
    (hks : s.io.ksErr = false) : bodyKeyAgree pk n s =
    .done .ok (pairWords (Config.ecPublic (Config.ephemeral s.free)) ++
        pairWords (Config.ecSign (Config.freeValue (s.free + 1)) identityKey (Config.sha256 (s.agreedWords pk))))
      { s with free := s.free + 2, io := { s.io with ksLabel := 1 },
               chart := { s.chart with kek := tset s.chart.kek pk.o (some (s.agreedKek pk)) none } } := by
  unfold bodyKeyAgree
  rw [askKey_answered 1 hks]
  exact (chk_passes (by rw [h]; rfl) ..).trans (if_neg (ne_true_of_eq_false hks))

theorem keyAgree_unkeyed (hd : Heard specKeyAgree pk s) (h : Config.ecValid (BitVec.ofNat 512 (ofBeWords (pk.ps.take 16))) = true)
    (hks : s.io.ksErr = true) : exec (.keyAgree pk) s = .next (finish specKeyAgree pk (slotFor specKeyAgree pk s) false
      (s.rung specKeyAgree pk) (.done .internal [0, 0] ((s.rung specKeyAgree pk).askKey 1))) := by
  have hb : bodyKeyAgree pk (slotFor specKeyAgree pk s) (s.rung specKeyAgree pk) = .done .internal [0, 0] ((s.rung specKeyAgree pk).askKey 1) :=
    bodyKeyAgree_unkeyed pk _ h hks
  exact congrArg Host.Outcome.next (by rw [hd.launch, hb]; rfl)

theorem keyAgree_answers (hd : Heard specKeyAgree pk s) (host : BitVec 512) (hhost : host = BitVec.ofNat 512 (ofBeWords (pk.ps.take 16)))
    (h : Config.ecValid host = true) (hks : s.io.ksErr = false) :
    let eph := Config.ephemeral s.free
    let kek := Config.hkdf (BitVec.ofNat 256 (ofBeWords (pk.ps.drop 16))) (Config.ecdh eph host) (kekInfo pk.o s.chip)
    let signed := beOfWords ((pk.ps.take 16).map (·.toNat) ++ pairWords (Config.ecPublic eph) ++ (pk.ps.drop 16).map (·.toNat))
    Answers (exec (.keyAgree pk) s) specKeyAgree pk s
      (pairWords (Config.ecPublic eph) ++ pairWords (Config.ecSign (Config.freeValue (s.free + 1)) identityKey (Config.sha256 signed)))
      (fun t => { t with
        free := t.free + 2, io := { t.io with ksLabel := 1 }, chart := { t.chart with kek := tset t.chart.kek pk.o (some kek) none } }) := by
  subst hhost
  exact hd.answers (by decide) (bodyKeyAgree_keyed pk _ h hks)

end Sys2Proof.Machine
end

section
/-! SUPPORT. Key slots, and a charter's new generation (R416 to R419). -/

namespace Sys2Proof.Machine

/-! ## Giving up a key (R418, R419) -/

section
variable (s : State)

@[simp] theorem setKeySlot_keySlot_same (i : Nat) (x : KeySlot) : (s.setKeySlot i x).keySlot i = x := tget_tset_same ..

theorem setKeySlot_keySlot_other {i j : Nat} (x : KeySlot) (h : j ≠ i) : (s.setKeySlot i x).keySlot j = s.keySlot j := tget_tset_other _ _ _ _ _ h

/-- Given up, a key is overwritten. -/
theorem dropKey_keySlot {i : Nat} {k : KeySlot} {o : Option (Nat × KeySlot)} (h : o = some (i, k)) : (s.dropKey o).keySlot i = KeySlot.zero := by
  subst h
  exact setKeySlot_keySlot_same s i _

/-- Nothing but the key slots changes. -/
theorem dropKey_slots (o : Option (Nat × KeySlot)) :
    s.dropKey o = { s with chart := { s.chart with slots := (s.dropKey o).chart.slots } } := by
  cases o <;> rfl

end

/-! ## Closing a lighter (R196) -/

/-- The second state differs from the first in the exports, the requests to memory and the STP alone. -/
def ExportOnly (s t : State) : Prop := t = { s with exp := t.exp, mgr := t.mgr, svc := t.svc }

theorem ExportOnly.rfl {s : State} : ExportOnly s s := Eq.refl s

/-- A state written out with those parts changed. -/
theorem ExportOnly.parts {s : State} {exp : Tab Export} {mgr : Mgr} {svc : Svc} : ExportOnly s { s with exp := exp, mgr := mgr, svc := svc } := Eq.refl _

theorem ExportOnly.trans {s t u : State} (h : ExportOnly s t) (k : ExportOnly t u) : ExportOnly s u := by
  unfold ExportOnly at *
  rw [k, h]

theorem ExportOnly.ite {s a b : State} {c : Prop} [Decidable c] (ha : ExportOnly s a) (hb : ExportOnly s b) : ExportOnly s (if c then a else b) := by
  split <;> assumption

/-- What the exports, the requests to memory and the STP do not hold is left. -/
theorem ExportOnly.proj {α : Type} {s t : State} (h : ExportOnly s t) (π : State → α)
    (hπ : ∀ (s : State) exp mgr svc, π { s with exp := exp, mgr := mgr, svc := svc } = π s) : π t = π s := by
  rw [ExportOnly] at h
  rw [h, hπ]

theorem toStp_exportOnly (s : State) (o : Nat) (ws : List W64) : ExportOnly s (s.toStp o ws) := by
  unfold State.toStp
  exact .ite .parts .parts

theorem toStp_exp (s : State) (o : Nat) (ws : List W64) : (s.toStp o ws).exp = s.exp := proj_of_ite State.exp rfl rfl

section
variable (s : State) (o close : Nat)

/-- A lighter leaves: its owner's export has moved on, and it is on its way to its destinations. -/
theorem closeLighter_some {l : OpenL} (h : (s.export_ o).openL = some l) : ∃ u, s.closeLighter o close = u ∧ ExportOnly s u ∧
    u.exp = (s.setExport o { s.export_ o with
      openL := none, seq := ((s.export_ o).seq + 1) % 2 ^ 48
      ring := if (s.export_ o).dram then (s.export_ o).ring ++ [(s.export_ o).seq] else (s.export_ o).ring }).exp := by
  refine ⟨_, rfl, ?_⟩
  unfold State.closeLighter
  dsimp only
  rw [h]
  exact ⟨.ite ((ExportOnly.ite .parts .parts).trans (toStp_exportOnly ..)) (.ite .parts .parts),
    proj_of_ite State.exp ((toStp_exp ..).trans (proj_of_ite State.exp rfl rfl)) (proj_of_ite State.exp rfl rfl)⟩

theorem closeLighter_none (h : (s.export_ o).openL = none) : s.closeLighter o close = s := by
  unfold State.closeLighter
  dsimp only
  rw [h]

theorem closeLighter_exportOnly : ExportOnly s (s.closeLighter o close) := by
  cases h : (s.export_ o).openL with
  | none => rw [closeLighter_none s o close h]; exact .rfl
  | some l =>
    obtain ⟨u, hu, hout, _⟩ := closeLighter_some s o close h
    exact hu ▸ hout

/-- The lighter is closed. -/
theorem closeLighter_openL : ((s.closeLighter o close).export_ o).openL = none := by
  cases h : (s.export_ o).openL with
  | none => rw [closeLighter_none s o close h, h]
  | some l =>
    obtain ⟨u, hu, _, hexp⟩ := closeLighter_some s o close h
    rw [hu, State.export_, hexp]
    exact congrArg Export.openL (tget_tset_same ..)

end

/-! ## A new generation (R418) -/

/-- The second state differs from the first in what a new generation of an owner's memory changes: exports, keys and their
generations, the sequences, the models loaded, and what the ledger and the assay keep for owners. -/
def NewGenOnly (s t : State) : Prop := t = { s with
  exp := t.exp, mgr := t.mgr, svc := t.svc, chart := { s.chart with slots := t.chart.slots, keygen := t.chart.keygen }
  ledger := t.ledger, assay := t.assay
  ch := { s.ch with seq := t.ch.seq, seqOut := t.ch.seqOut, loadNo := t.ch.loadNo, slots := t.ch.slots } }

theorem NewGenOnly.trans {s t u : State} (h : NewGenOnly s t) (k : NewGenOnly t u) : NewGenOnly s u := by
  unfold NewGenOnly at *
  rw [k, h]

theorem ExportOnly.newGen {s t : State} (h : ExportOnly s t) : NewGenOnly s t := by
  rw [ExportOnly] at h
  rw [h]
  exact Eq.refl _

theorem dropKey_newGenOnly (s : State) (k : Option (Nat × KeySlot)) : NewGenOnly s (s.dropKey k) := by
  rw [dropKey_slots]
  exact Eq.refl _

section
variable (s : State) (o : Nat)

/-- With its lighter closed and its memory key given up, an owner's state before the new generation. -/
def State.unkeyed : State := (s.closeLighter o 3).dropKey (s.memKey o)

theorem newGen_eq : s.newGen o = State.restartSeqs { s.unkeyed o with chart := { (s.unkeyed o).chart with
    keygen := tset s.chart.keygen o (min 255 (s.keygen o + 1)) 0 } } o := by
  have hchart : (s.closeLighter o 3).chart = s.chart := (closeLighter_exportOnly s o 3).proj State.chart fun _ _ _ _ => rfl
  have hmem : (s.closeLighter o 3).memKey o = s.memKey o := congrArg (fun c : Chart => c.slots.find? _) hchart
  have hgen : ((s.closeLighter o 3).dropKey (s.memKey o)).chart.keygen = s.chart.keygen := by rw [dropKey_slots, hchart]
  unfold State.newGen State.unkeyed
  dsimp only
  rw [hmem, State.keygen, State.keygen, hgen]

theorem newGen_newGenOnly : NewGenOnly s (s.newGen o) := by
  have hu : NewGenOnly s (s.unkeyed o) := (closeLighter_exportOnly s o 3).newGen.trans (dropKey_newGenOnly ..)
  rw [newGen_eq]
  exact hu.trans (Eq.refl _)

theorem newGen_keygen : (s.newGen o).keygen o = min 255 (s.keygen o + 1) := by
  rw [newGen_eq]
  exact tget_tset_same ..

/-- The old memory key is overwritten. -/
theorem newGen_memKey {j : Nat} {k : KeySlot} (h : s.memKey o = some (j, k)) : (s.newGen o).keySlot j = KeySlot.zero := by
  rw [newGen_eq]
  exact dropKey_keySlot _ h

theorem newGen_openL : ((s.newGen o).export_ o).openL = none := by
  have hexp : (s.unkeyed o).exp = (s.closeLighter o 3).exp := by rw [State.unkeyed, dropKey_slots]
  rw [newGen_eq]
  exact (congrArg Export.openL (tget_tset_same ..)).trans ((congrArg (fun e => (tget e o Export.zero).openL) hexp).trans (closeLighter_openL ..))

/-- The sequences of the owner begin again. -/
theorem newGen_restarts : tget (s.newGen o).ch.seq o 0 = 0 ∧ tget (s.newGen o).ledger.readNext o 0 = 0 ∧ ((s.newGen o).export_ o).seq = 0 := by
  rw [newGen_eq]
  exact ⟨tget_tset_same .., tget_tset_same .., congrArg Export.seq (tget_tset_same ..)⟩

end

end Sys2Proof.Machine
end

section
/-! SUPPORT. KEY_INSTALL, KEY_ZEROISE and LINK_MODE (R416 to R419, R423, R424, R428, R429). -/

namespace Sys2Proof.Machine

/-! ## KEY_INSTALL (R416 to R418) -/

section
variable (s : State) (i link : Nat) (key : W256)

theorem freeKeySlot_lowest {s : State} {i : Nat} (hi : i < 64) (hfree : (s.keySlot i).st = .free) (hless : ∀ k < i, (s.keySlot k).st ≠ .free) :
    s.freeKeySlot = some i := by
  unfold State.freeKeySlot
  simp only [List.find?_range_eq_some, decide_eq_true_eq, List.mem_range]
  exact ⟨hfree, hi, fun k hk => by simpa using hless k hk⟩

theorem dropKey_keygen (k : Option (Nat × KeySlot)) : (s.dropKey k).chart.keygen = s.chart.keygen := by rw [dropKey_slots]

/-- A new STP key changes no key slot and no generation. -/
theorem stpKeyed_chart : s.stpKeyed.chart = s.chart := proj_of_ite State.chart rfl rfl

theorem placeLink_keygen : (s.placeLink i link key).chart.keygen = s.chart.keygen := by
  unfold State.placeLink
  exact proj_of_ite (fun t : State => t.chart.keygen) ((congrArg Chart.keygen (stpKeyed_chart _)).trans (dropKey_keygen ..))
    (proj_of_ite (fun t : State => t.chart.keygen) rfl (dropKey_keygen ..))

/-- A key of the STP, or the first of a link, is CURRENT at once. -/
theorem placeLink_first (h : link = 3 ∨ s.linkKey link false = none) : (s.placeLink i link key).keySlot i = ⟨.current, key, hm, 2, link⟩ := by
  unfold State.placeLink
  by_cases h3 : link = 3
  · rw [if_pos h3, h3]
    exact (congrArg (fun c : Chart => tget c.slots i KeySlot.zero) (stpKeyed_chart _)).trans (setKeySlot_keySlot_same ..)
  · rw [if_neg h3, if_pos (Option.isNone_iff_eq_none.mpr (h.resolve_left h3))]
    exact setKeySlot_keySlot_same s i _

/-- A key beside a link's CURRENT one is its NEXT. -/
theorem placeLink_next (h3 : link ≠ 3) (h : s.linkKey link false ≠ none) : (s.placeLink i link key).keySlot i = ⟨.next, key, hm, 2, link⟩ := by
  unfold State.placeLink
  rw [if_neg h3, if_neg (fun hn => h (Option.isNone_iff_eq_none.mp hn))]
  exact setKeySlot_keySlot_same _ i _

end

/-- The state with a key of its kind in slot i. -/
def State.installed (pk : Pkt) (i : Nat) (key : W256) (s : State) : State :=
  match fld (pk.p 1) 0 2 with
  | 0 => (s.newGen pk.o).setKeySlot i ⟨.current, key, pk.o, 0, 0⟩
  | 1 => (s.dropKey (s.modelKey pk.o)).setKeySlot i ⟨.current, key, pk.o, 1, 0⟩
  | _ => s.placeLink i (fld (pk.p 1) 2 2) key

section
variable {pk : Pkt} {s : State} {kek : W256} (n : Nat) (hkek : tget s.chart.kek pk.o none = some kek) (hbad : fld (pk.p 1) 0 2 ≠ 3)
  (hown : fld (pk.p 1) 0 2 = 2 → pk.o = hm)
include hkek hbad hown

/-- With a KEK and a kind that is allowed, the key is unwrapped. -/
theorem bodyKeyInstall_unwraps : bodyKeyInstall pk n s =
    match Config.keyUnwrap kek (BitVec.ofNat 320 (ofBeWords (pk.ps.drop 1))) with
    | none => .reject .integrity 2 0
    | some key =>
      chk (decide (fld (pk.p 1) 0 2 = 0) && decide (s.keygen pk.o = 255)) .exhausted 1 <|
      chk (decide (fld (pk.p 1) 0 2 = 0) && s.keyBusy pk.o) .busy 1 <|
      match s.freeKeySlot with
      | none => .reject .exhausted 1 0
      | some i => .done .ok [i + (s.installed pk i key).keygen pk.o * 2 ^ 6] (s.installed pk i key) := by
  unfold bodyKeyInstall
  dsimp only
  rw [chk_passes (by simpa using hown), chk_passes (by simpa using hbad), hkek]
  rfl

theorem bodyKeyInstall_places {i : Nat} {key : W256} (hkey : Config.keyUnwrap kek (BitVec.ofNat 320 (ofBeWords (pk.ps.drop 1))) = some key)
    (hnew : fld (pk.p 1) 0 2 = 0 → s.keygen pk.o < 255 ∧ s.keyBusy pk.o = false) (hfree : s.freeKeySlot = some i) :
    bodyKeyInstall pk n s = .done .ok [i + (s.installed pk i key).keygen pk.o * 2 ^ 6] (s.installed pk i key) := by
  have hroom : (decide (fld (pk.p 1) 0 2 = 0) && decide (s.keygen pk.o = 255)) = false := by
    simp only [Bool.and_eq_false_imp, decide_eq_true_eq, decide_eq_false_iff_not]
    exact fun h => Nat.ne_of_lt (hnew h).1
  have hidle : (decide (fld (pk.p 1) 0 2 = 0) && s.keyBusy pk.o) = false := by
    simp only [Bool.and_eq_false_imp, decide_eq_true_eq]
    exact fun h => (hnew h).2
  rw [bodyKeyInstall_unwraps n hkek hbad hown, hkey]
  dsimp only
  rw [chk_passes hroom, chk_passes hidle, hfree]

end

/-! ### The key in its slot -/

section
variable {pk : Pkt} (i : Nat) (key : W256) (s : State)

theorem installed_memory (h : fld (pk.p 1) 0 2 = 0) : s.installed pk i key = (s.newGen pk.o).setKeySlot i ⟨.current, key, pk.o, 0, 0⟩ := by
  simp only [State.installed, h]

theorem installed_model (h : fld (pk.p 1) 0 2 = 1) :
    s.installed pk i key = (s.dropKey (s.modelKey pk.o)).setKeySlot i ⟨.current, key, pk.o, 1, 0⟩ := by
  simp only [State.installed, h]

theorem installed_link (h : fld (pk.p 1) 0 2 = 2) : s.installed pk i key = s.placeLink i (fld (pk.p 1) 2 2) key := by
  simp only [State.installed, h]

/-- A memory key's slot, and what begins again with it. -/
theorem installed_memory_fresh (h : fld (pk.p 1) 0 2 = 0) (hroom : s.keygen pk.o < 255) : let u := s.installed pk i key
    u.keySlot i = ⟨.current, key, pk.o, 0, 0⟩ ∧ u.keygen pk.o = s.keygen pk.o + 1 ∧ tget u.ch.seq pk.o 0 = 0 ∧
      tget u.ledger.readNext pk.o 0 = 0 ∧ (u.export_ pk.o).seq = 0 ∧ (u.export_ pk.o).openL = none ∧
      ∀ j k, s.memKey pk.o = some (j, k) → j ≠ i → u.keySlot j = KeySlot.zero := by
  obtain ⟨hseq, hread, hexp⟩ := newGen_restarts s pk.o
  have hgen : (s.newGen pk.o).keygen pk.o = s.keygen pk.o + 1 := (newGen_keygen s pk.o).trans (Nat.min_eq_right (by omega))
  simp only [installed_memory i key s h]
  exact ⟨setKeySlot_keySlot_same .., hgen, hseq, hread, hexp, newGen_openL s pk.o,
    fun j k hk hj => (setKeySlot_keySlot_other _ _ hj).trans (newGen_memKey s pk.o hk)⟩

/-- A model key's slot; the old key is overwritten. -/
theorem installed_model_fresh (h : fld (pk.p 1) 0 2 = 1) : let u := s.installed pk i key
    u.keySlot i = ⟨.current, key, pk.o, 1, 0⟩ ∧ u.keygen pk.o = s.keygen pk.o ∧
      ∀ j k, s.modelKey pk.o = some (j, k) → j ≠ i → u.keySlot j = KeySlot.zero := by
  simp only [installed_model i key s h]
  exact ⟨setKeySlot_keySlot_same .., congrArg (fun g => tget g pk.o 0) (dropKey_keygen s _),
    fun j k hk hj => (setKeySlot_keySlot_other _ _ hj).trans (dropKey_keySlot s hk)⟩

theorem installed_keygen (hbad : fld (pk.p 1) 0 2 ≠ 3) (hroom : fld (pk.p 1) 0 2 = 0 → s.keygen pk.o < 255) :
    (s.installed pk i key).keygen pk.o = if fld (pk.p 1) 0 2 = 0 then s.keygen pk.o + 1 else s.keygen pk.o := by
  have hlt : fld (pk.p 1) 0 2 < 4 := Nat.mod_lt _ (by decide)
  obtain h | h | h : fld (pk.p 1) 0 2 = 0 ∨ fld (pk.p 1) 0 2 = 1 ∨ fld (pk.p 1) 0 2 = 2 := by omega
  · rw [if_pos h]
    exact (installed_memory_fresh i key s h (hroom h)).2.1
  · rw [if_neg (by omega)]
    exact (installed_model_fresh i key s h).2.1
  · rw [if_neg (by omega), installed_link i key s h]
    exact congrArg (fun g => tget g pk.o 0) (placeLink_keygen ..)

end

/-- A heard KEY_INSTALL that the checks let pass, of a key that unwraps. -/
theorem keyInstall_answers {pk : Pkt} {s : State} (hd : Heard specKeyInstall pk s) {kek key : W256} {i : Nat}
    (hkek : tget s.chart.kek pk.o none = some kek) (hbad : fld (pk.p 1) 0 2 ≠ 3) (hown : fld (pk.p 1) 0 2 = 2 → pk.o = hm)
    (hnew : fld (pk.p 1) 0 2 = 0 → s.keygen pk.o < 255 ∧ s.keyBusy pk.o = false) (hfree : s.freeKeySlot = some i)
    (hkey : Config.keyUnwrap kek (BitVec.ofNat 320 (ofBeWords (pk.ps.drop 1))) = some key) :
    Answers (exec (.keyInstall pk) s) specKeyInstall pk s
      [i + (if fld (pk.p 1) 0 2 = 0 then s.keygen pk.o + 1 else s.keygen pk.o) * 2 ^ 6] (State.installed pk i key) := by
  have hgen := installed_keygen i key (s.rung specKeyInstall pk) hbad fun h => (hnew h).1
  have hb := bodyKeyInstall_places (s := s.rung specKeyInstall pk) (slotFor specKeyInstall pk s) hkek hbad hown hkey hnew hfree
  rw [hgen] at hb
  exact hd.answers (by decide) hb

theorem keyInstall_broken {pk : Pkt} {s : State} (hd : Heard specKeyInstall pk s) {kek : W256}
    (hkek : tget s.chart.kek pk.o none = some kek) (hbad : fld (pk.p 1) 0 2 ≠ 3) (hown : fld (pk.p 1) 0 2 = 2 → pk.o = hm)
    (hkey : Config.keyUnwrap kek (BitVec.ofNat 320 (ofBeWords (pk.ps.drop 1))) = none) :
    exec (.keyInstall pk) s = .next ((s.rung specKeyInstall pk).reply 0x84 pk .integrity [2, 0]) := by
  have hb : bodyKeyInstall pk (slotFor specKeyInstall pk s) (s.rung specKeyInstall pk) = .reject .integrity 2 0 := by
    rw [bodyKeyInstall_unwraps (s := s.rung specKeyInstall pk) _ hkek hbad hown, hkey]
  exact congrArg Host.Outcome.next (by rw [hd.launch, hb]; rfl)

/-! ## A lane goes down (R129) -/

/-- A peer but for the active lane and the measurement of its lanes' constants. -/
def Peer.unmeasured (p : Peer) : Peer := { p with active := 0, a := p.a.unmeasured, b := p.b.unmeasured }

theorem Peer.unmeasured_sealMode {p q : Peer} (h : p.unmeasured = q.unmeasured) : p.sealMode = q.sealMode := by
  have hs : p.unmeasured.sealMode = q.unmeasured.sealMode := congrArg Peer.sealMode h
  exact hs

theorem Peer.unmeasured_up {p q : Peer} (h : p.unmeasured = q.unmeasured) (b : Bool) : (p.lane b).up = (q.lane b).up := by
  have ha : p.unmeasured.a.up = q.unmeasured.a.up := congrArg (fun x : Peer => x.a.up) h
  have hb : p.unmeasured.b.up = q.unmeasured.b.up := congrArg (fun x : Peer => x.b.up) h
  cases b
  · exact ha
  · exact hb

/-- A lane that goes down brings none up. -/
theorem Peer.modLane_down (p : Peer) (b c : Bool) (h : (p.lane c).up = false) :
    ((p.modLane b (fun l => { l with up := false, fails := 0, opened := false })).lane c).up = false := by
  by_cases hc : c = b
  · rw [hc, Peer.modLane_lane]
  · obtain rfl : c = !b := Bool.eq_not.mpr hc
    rwa [Peer.modLane_lane_not]

section
variable (s : State) (j : Nat) (b : Bool)

theorem setActive_unmeasured (a : Nat) : ((s.setActive j a).peer j).unmeasured = (s.peer j).unmeasured := by
  rw [setActive_peer]
  rfl

/-- The lane is down; the rest of the peer stays as it is, its active lane and its measurements apart. -/
theorem laneDown_unmeasured : ((s.laneDown j b).peer j).unmeasured =
    ((s.peer j).modLane b (fun l => { l with up := false, fails := 0, opened := false })).unmeasured := by
  unfold State.laneDown
  extract_lets u p me v
  have hp : p = (s.peer j).modLane b (fun l => { l with up := false, fails := 0, opened := false }) := modLane_peer ..
  rw [← hp]
  refine proj_of_ite (fun t : State => (t.peer j).unmeasured) rfl (proj_of_ite (fun t : State => (t.peer j).unmeasured) ?_ ?_)
  · have hv : (if b then v else v.raise 0x306 (2 * j + 1) 0).peer j = v.peer j := proj_of_ite (State.peer · j) rfl rfl
    rw [checkLane_peer, hv]
    exact setActive_unmeasured u j _
  · rw [loseLink_peer]
    exact setActive_unmeasured u j _

/-- Another peer's lane. -/
theorem laneDown_peer_other {k : Nat} (h : k ≠ j) : (s.laneDown j b).peer k = s.peer k := by
  unfold State.laneDown
  extract_lets u p me v
  have hset : ∀ (t : State) f, (t.modPeer j f).peer k = t.peer k := fun t f => tget_tset_other _ _ _ _ _ h
  have hu : u.peer k = s.peer k := hset ..
  refine proj_of_ite (State.peer · k) hu (proj_of_ite (State.peer · k) ?_ ?_)
  · have hv : (if b then v else v.raise 0x306 (2 * j + 1) 0).peer k = v.peer k := proj_of_ite (State.peer · k) rfl rfl
    rw [checkLane_peer, hv]
    exact (hset ..).trans hu
  · rw [loseLink_peer]
    exact (hset ..).trans hu

theorem laneDown_chart : (s.laneDown j b).chart = s.chart := by
  unfold State.laneDown
  extract_lets u p me v
  refine proj_of_ite State.chart rfl (proj_of_ite State.chart ?_ (loseLink_outside _ j State.chart fun _ _ _ _ _ => rfl))
  exact (checkLane_outside _ j State.chart fun _ _ _ _ => rfl).trans (proj_of_ite State.chart rfl rfl)

end

/-- Both lanes of a peer go down. -/
def State.linkDown (s : State) (j : Nat) : State := [false, true].foldl (fun s b => if ((s.peer j).lane b).up then s.laneDown j b else s) s

section
variable (s : State) (j : Nat)

theorem linkDown_chart : (s.linkDown j).chart = s.chart :=
  foldl_proj State.chart _ (fun t b => proj_of_ite State.chart (laneDown_chart t j b) rfl) _ s

theorem linkDown_peer_other {k : Nat} (h : k ≠ j) : (s.linkDown j).peer k = s.peer k :=
  foldl_proj (State.peer · k) _ (fun t b => proj_of_ite (State.peer · k) (laneDown_peer_other t j b h) rfl) _ s

theorem linkDown_sealMode : ((s.linkDown j).peer j).sealMode = (s.peer j).sealMode := by
  refine foldl_proj (fun t : State => (t.peer j).sealMode) _ (fun t b => proj_of_ite (fun t : State => (t.peer j).sealMode) ?_ rfl) _ s
  exact (Peer.unmeasured_sealMode (laneDown_unmeasured t j b)).trans (Peer.modLane_sealMode ..)

theorem linkDown_up (b : Bool) : (((s.linkDown j).peer j).lane b).up = false := by
  refine foldl_establishes (fun t : State => ((t.peer j).lane b).up = false) _ b [false, true] (by cases b <;> decide) (fun t => ?_) (fun t c ht => ?_) s
  · split
    · exact (Peer.unmeasured_up (laneDown_unmeasured t j b) b).trans (by rw [Peer.modLane_lane])
    · next h => exact Bool.eq_false_iff.mpr h
  · split
    · rw [Peer.unmeasured_up (laneDown_unmeasured t j c) b]
      exact Peer.modLane_down _ c b ht
    · exact ht

end

end Sys2Proof.Machine
end

section
/-! SUPPORT. KEY_ZEROISE and LINK_MODE: the raises that wait stay while lanes go down (R129, R419, R423, R428). -/

namespace Sys2Proof.Machine

/-! ## Raises that wait -/

/-- Every raise that waits in the first state waits in the second. -/
def PendKept (s t : State) : Prop := s.fc.pend ⊆ t.fc.pend

theorem PendKept.of_fc {s t : State} (h : t.fc = s.fc) : PendKept s t := by rw [PendKept, h]; exact List.Subset.refl _

theorem PendKept.trans {s t u : State} (h : PendKept s t) (k : PendKept t u) : PendKept s u := List.Subset.trans h k

theorem PendKept.ite {s a b : State} {c : Prop} [Decidable c] (ha : PendKept s a) (hb : PendKept s b) : PendKept s (if c then a else b) := by
  split <;> assumption

theorem PendKept.foldl {α : Type} {f : State → α → State} (h : ∀ s a, PendKept s (f s a)) (l : List α) (s : State) : PendKept s (l.foldl f s) := by
  induction l generalizing s with
  | nil => exact .of_fc rfl
  | cons a l ih => exact (h s a).trans (ih _)

section
variable (s : State)

theorem raise_pendKept (code unit detail : Nat) : PendKept s (s.raise code unit detail) := List.subset_append_left ..

theorem setPersist_pendKept (code unit : Nat) (on : Bool) : PendKept s (s.setPersist code unit on) := List.Subset.refl _

theorem showState_pendKept : PendKept s s.showState :=
  .of_fc ((syncOf_canal { s with time := { s.time with oweStatus := true } } blockSources).proj State.fc fun _ _ => rfl)

theorem setTState_pendKept (st : TState) : PendKept s (s.setTState st) := by
  unfold State.setTState
  extract_lets old _ u v
  have hv : PendKept s v := .ite ((raise_pendKept u ..).trans (setPersist_pendKept ..)) (setPersist_pendKept u ..)
  exact .ite (.of_fc rfl) (.ite hv (hv.trans (showState_pendKept v)))

theorem beUncertain_pendKept (rtt : Rat) : PendKept s (s.beUncertain rtt) := by
  have hbound : PendKept s { s with time := { s.time with bound := boundOf (rtt * 2) } } := .of_fc rfl
  exact hbound.trans (setTState_pendKept ..)

theorem checkLane_pendKept (j : Nat) : PendKept s (s.checkLane j) := by
  unfold State.checkLane
  dsimp only
  exact .ite (.of_fc rfl) (.ite (.ite (.of_fc rfl) (beUncertain_pendKept s _)) (.ite (setTState_pendKept s _) (.of_fc rfl)))

theorem enterHoldover_pendKept : PendKept s s.enterHoldover := by
  unfold State.enterHoldover
  extract_lets _ u
  have hu : PendKept s (u.setRate u.time.f 0) := .of_fc rfl
  exact hu.trans (setTState_pendKept ..)

/-- A follower without its lead holds over. -/
theorem splitHoldover_pendKept (c : Convoy) : PendKept s (State.enterHoldover { s with convoy := c }) := by
  have hc : PendKept s { s with convoy := c } := .of_fc rfl
  exact hc.trans (enterHoldover_pendKept _)

theorem loseLink_pendKept (j : Nat) : PendKept s (s.loseLink j) := by
  unfold State.loseLink
  extract_lets p u lost
  have hu : PendKept s u := (raise_pendKept s ..).trans (setPersist_pendKept ..)
  exact .ite (.of_fc rfl) (.ite (hu.trans (splitHoldover_pendKept ..)) hu)

theorem laneDown_pendKept (j : Nat) (b : Bool) : PendKept s (s.laneDown j b) := by
  unfold State.laneDown
  extract_lets u p me v
  have hv : PendKept s v := .of_fc rfl
  have h0 : PendKept s (u.setActive j 0) := .of_fc rfl
  refine .ite (.of_fc rfl) (.ite ?_ (h0.trans (loseLink_pendKept ..)))
  exact (hv.trans (.ite (.of_fc rfl) (raise_pendKept v ..))).trans (checkLane_pendKept ..)

theorem linkDown_pendKept (j : Nat) : PendKept s (s.linkDown j) :=
  .foldl (fun t b => .ite (laneDown_pendKept t j b) (.of_fc rfl)) _ s

end

/-! ## LINK_MODE (R423, R428) -/

/-- A peer that has said HELLO has the housing of this chip's. -/
def State.sameHousing (s : State) (j : Nat) : Bool :=
  match (s.peer j).hello with
  | some (_, h) => decide (h.toNat = setHousing s.dev.settings) && decide (setHousing s.dev.settings ≠ 0)
  | none => false

section
variable {pk : Pkt} {s : State}

theorem bodyLinkMode_allowed (n : Nat) (h : flag (pk.p 1) 2 = true → fld (pk.p 1) 0 2 ≠ 3 ∧ s.sameHousing (fld (pk.p 1) 0 2) = true) :
    bodyLinkMode pk n s = .done .ok [] (if fld (pk.p 1) 0 2 = 3 ∨ (s.peer (fld (pk.p 1) 0 2)).sealMode = flag (pk.p 1) 2 then s
      else (s.modPeer (fld (pk.p 1) 0 2) (fun p => { p with sealMode := flag (pk.p 1) 2 })).linkDown (fld (pk.p 1) 0 2)) := by
  have hchk : (flag (pk.p 1) 2 && (decide (fld (pk.p 1) 0 2 = 3) || !(s.sameHousing (fld (pk.p 1) 0 2)))) = false := by
    cases hm : flag (pk.p 1) 2 with
    | false => rfl
    | true =>
      obtain ⟨h3, hs⟩ := h hm
      simp [h3, hs]
  have hb : bodyLinkMode pk n s = _ := chk_passes hchk ..
  rw [hb]
  simp only [Bool.or_eq_true, decide_eq_true_eq, beq_iff_eq]
  split <;> rfl

/-- The peer's link in its new mode: its lanes are down. -/
theorem linkMode_peer (s : State) (j : Nat) (m : Bool) : let u := (s.modPeer j (fun p => { p with sealMode := m })).linkDown j
    (u.peer j).sealMode = m ∧ ((u.peer j).lane false).up = false ∧ ((u.peer j).lane true).up = false ∧
      (∀ k, k ≠ j → u.peer k = s.peer k) ∧ u.chart = s.chart :=
  ⟨(linkDown_sealMode ..).trans (congrArg Peer.sealMode (modPeer_peer ..)), linkDown_up _ j false, linkDown_up _ j true,
    fun _ hk => (linkDown_peer_other _ j hk).trans (tget_tset_other _ _ _ _ _ hk), linkDown_chart ..⟩

end

/-! ## KEY_ZEROISE (R419) -/

section
variable {pk : Pkt} {s : State} (i : Nat) (readback : W256)

/-- A slot's memory key closes its owner's lighter, and the slot is overwritten. -/
def State.wiped (s : State) (o i : Nat) (readback : W256) : State :=
  (if (s.keySlot i).kind = 0 then s.closeLighter o 3 else s).zeroise i readback

/-- Without its CURRENT key the link of the slot is down. -/
def State.unlinked (s : State) (k : KeySlot) : State :=
  if k.kind = 2 && k.st = .current && decide (k.link < 3) && !(s.linkOpen k.link) then s.linkDown k.link else s

theorem bodyKeyZeroise_allowed (n : Nat) (hi : i = fld (pk.p 1) 0 6) (hfree : (s.keySlot i).st ≠ .free) (hdead : (s.keySlot i).st ≠ .dead)
    (hown : (s.keySlot i).owner = pk.o) :
    bodyKeyZeroise readback pk n s = .done .ok [] ((s.wiped pk.o i readback).unlinked (s.keySlot i)) := by
  subst hi
  have hb : bodyKeyZeroise readback pk n s = _ := chk_passes (by simp [hfree, hdead, hown]) ..
  rw [hb]
  rfl

theorem unlinked_chart (s : State) (k : KeySlot) : (s.unlinked k).chart = s.chart := proj_of_ite State.chart (linkDown_chart ..) rfl

theorem unlinked_pendKept (s : State) (k : KeySlot) : PendKept s (s.unlinked k) := .ite (linkDown_pendKept ..) (.of_fc rfl)

/-- A memory key is no link's. -/
theorem unlinked_memory (s : State) {k : KeySlot} (h : k.kind = 0) : s.unlinked k = s := if_neg (by simp [h])

end

section
variable (s : State) (i o : Nat) (readback : W256)

/-- A slot is overwritten, out of use when it did not read back as zeros. -/
theorem zeroise_chart : (s.zeroise i readback).chart = { s.chart with
    slots := tset s.chart.slots i (if readback = 0 then KeySlot.zero else { KeySlot.zero with st := .dead }) KeySlot.zero } := by
  unfold State.zeroise
  split <;> rfl

theorem zeroise_exp : (s.zeroise i readback).exp = s.exp := proj_of_ite State.exp rfl rfl

theorem zeroise_fail (h : readback ≠ 0) : (⟨0xA01, i, 0, none, s.ts, s.now, false, false⟩ : Pend) ∈ (s.zeroise i readback).fc.pend := by
  unfold State.zeroise
  rw [if_neg h]
  exact List.mem_append_right _ (List.mem_singleton.mpr rfl)

/-- Before the slot is overwritten nothing but exports changes. -/
theorem wiped_closes : ∃ u, s.wiped o i readback = u.zeroise i readback ∧ ExportOnly s u ∧ ((s.keySlot i).kind = 0 → (u.export_ o).openL = none) := by
  refine ⟨_, rfl, .ite (closeLighter_exportOnly ..) .rfl, fun h => ?_⟩
  rw [if_pos h]
  exact closeLighter_openL ..

theorem wiped_chart : (s.wiped o i readback).chart = { s.chart with
    slots := tset s.chart.slots i (if readback = 0 then KeySlot.zero else { KeySlot.zero with st := .dead }) KeySlot.zero } := by
  obtain ⟨u, hu, hout, -⟩ := wiped_closes s i o readback
  rw [hu, zeroise_chart, hout.proj State.chart fun _ _ _ _ => rfl]

theorem wiped_fail (h : readback ≠ 0) : (⟨0xA01, i, 0, none, s.ts, s.now, false, false⟩ : Pend) ∈ (s.wiped o i readback).fc.pend := by
  obtain ⟨u, hu, hout, -⟩ := wiped_closes s i o readback
  rw [hu, ← hout.proj State.ts fun _ _ _ _ => rfl, ← hout.proj State.now fun _ _ _ _ => rfl]
  exact zeroise_fail u i readback h

theorem wiped_openL (h : (s.keySlot i).kind = 0) : ((s.wiped o i readback).export_ o).openL = none := by
  obtain ⟨u, hu, -, hopen⟩ := wiped_closes s i o readback
  rw [hu, State.export_, zeroise_exp]
  exact hopen h

/-- The packet's change of the state: the slot's key is gone, and with it the link that it kept up. -/
def State.zeroised (s : State) : State := (s.wiped o i readback).unlinked (s.keySlot i)

theorem zeroised_spec : let u := State.zeroised i o readback s
    (u.keySlot i = if readback = 0 then KeySlot.zero else { KeySlot.zero with st := .dead }) ∧
      (∀ j, j ≠ i → u.keySlot j = s.keySlot j) ∧ u.chart.st = s.chart.st ∧ u.chart.keygen = s.chart.keygen ∧ u.chart.kek = s.chart.kek ∧
      (readback ≠ 0 → (⟨0xA01, i, 0, none, s.ts, s.now, false, false⟩ : Pend) ∈ u.fc.pend) ∧
      ((s.keySlot i).kind = 0 → (u.export_ o).openL = none) := by
  have hchart : (State.zeroised i o readback s).chart = _ := (unlinked_chart ..).trans (wiped_chart ..)
  have hslot : ∀ j, (State.zeroised i o readback s).keySlot j = _ := fun j => congrArg (fun c : Chart => tget c.slots j KeySlot.zero) hchart
  refine ⟨(hslot i).trans (tget_tset_same ..), fun j hj => (hslot j).trans (tget_tset_other _ _ _ _ _ hj), by rw [hchart], by rw [hchart],
    by rw [hchart], fun h => ?_, fun h => ?_⟩
  · exact unlinked_pendKept _ _ (wiped_fail s i o readback h)
  · rw [State.zeroised, unlinked_memory _ h]
    exact wiped_openL s i o readback h

end

theorem sameHousing_of {s : State} {j : Nat} (h : ∃ x h, (s.peer j).hello = some (x, h) ∧ h.toNat = setHousing s.dev.settings ∧ setHousing s.dev.settings ≠ 0) :
    s.sameHousing j = true := by
  obtain ⟨x, h, hh, heq, hne⟩ := h
  simp [State.sameHousing, hh, heq, hne]

section
variable {pk : Pkt} {s : State} (hd : Heard specLinkMode pk s)
  (h : flag (pk.p 1) 2 = true → fld (pk.p 1) 0 2 ≠ 3 ∧ s.sameHousing (fld (pk.p 1) 0 2) = true)
include hd h

theorem linkMode_same (hsame : fld (pk.p 1) 0 2 = 3 ∨ (s.peer (fld (pk.p 1) 0 2)).sealMode = flag (pk.p 1) 2) :
    Answers (exec (.linkMode pk) s) specLinkMode pk s [] (fun t => t) :=
  hd.answers (by decide) ((bodyLinkMode_allowed (s := s.rung specLinkMode pk) _ h).trans (congrArg _ (if_pos hsame)))

theorem linkMode_changes (h3 : fld (pk.p 1) 0 2 ≠ 3) (hnew : (s.peer (fld (pk.p 1) 0 2)).sealMode ≠ flag (pk.p 1) 2) :
    Answers (exec (.linkMode pk) s) specLinkMode pk s []
      (fun t => (t.modPeer (fld (pk.p 1) 0 2) (fun p => { p with sealMode := flag (pk.p 1) 2 })).linkDown (fld (pk.p 1) 0 2)) :=
  hd.answers (by decide) ((bodyLinkMode_allowed (s := s.rung specLinkMode pk) _ h).trans (congrArg _ (if_neg (not_or.mpr ⟨h3, hnew⟩))))

end

theorem keyZeroise_answers {pk : Pkt} {s : State} (hd : Heard specKeyZeroise pk s) {i : Nat} (readback : W256) (hi : i = fld (pk.p 1) 0 6)
    (hfree : (s.keySlot i).st ≠ .free) (hdead : (s.keySlot i).st ≠ .dead) (hown : (s.keySlot i).owner = pk.o) :
    Answers (exec (.keyZeroise pk readback) s) specKeyZeroise pk s [] (State.zeroised i pk.o readback) :=
  hd.answers (by decide) (bodyKeyZeroise_allowed (s := s.rung specKeyZeroise pk) i readback _ hi hfree hdead hown)

end Sys2Proof.Machine
end

section
/-! SUPPORT. The probes of a charter that ends: every object of its returns to the harbourmaster (R145, R431). -/

namespace Sys2Proof.Machine

/-! ## New owners (R145, R394) -/

/-- The owner that a field of PROBE_OWNERS leaves: 31 keeps the present one. -/
def newOwner (o old : Nat) : Nat := if o = 31 then old else o

/-- The owner of a probe's object, in the order of the fields of PROBE_OWNERS: the fixed counters, the sampler, the command
and edge streams, the eight PMCs, the four ranges. -/
def Probe.holder (x : Probe) : Nat → Nat
  | 0 => x.cfg.fixedOwner
  | 1 => x.cfg.samplerOwner
  | 2 => x.cfg.cmdOwner
  | 3 => x.cfg.edgeOwner
  | k + 4 => if k < 8 then tget x.cfg.pmcOwner k hm else tget x.cfg.rangeOwner (k - 8) hm

/-- A setter of object n's owner leaves the other objects' owners. -/
def SetsOwner (n : Nat) (f : Nat → Probe → Probe) : Prop :=
  ∀ o x k, (f o x).holder k = if k = n then newOwner o (x.holder k) else x.holder k

/-- A setter that does nothing for 31 or the present owner. -/
theorem setsOwner_of_change {n : Nat} {g : Nat → Probe → Probe} (hg : ∀ o x k, (g o x).holder k = if k = n then o else x.holder k) :
    SetsOwner n (fun o x => if o = 31 || o = x.holder n then x else g o x) := by
  intro o x k
  dsimp only
  by_cases ho : o = 31
  · simp [ho, newOwner]
  · by_cases hs : o = x.holder n
    · simp only [hs, decide_true, Bool.or_true, if_true]
      split
      · next hk => subst hk; simp [newOwner]
      · rfl
    · simp only [ho, hs, decide_false, Bool.or_false, Bool.false_eq_true, if_false, hg, newOwner]

theorem holder_pmc (x : Probe) {i : Nat} (hi : i < 8) : x.holder (4 + i) = tget x.cfg.pmcOwner i hm := by
  rw [Nat.add_comm]
  exact if_pos hi

theorem holder_range (x : Probe) (j : Nat) : x.holder (12 + j) = tget x.cfg.rangeOwner j hm := by
  rw [show 12 + j = (8 + j) + 4 by omega]
  exact (if_neg (by omega)).trans (by rw [Nat.add_sub_cancel_left])

theorem setFixed_sets : SetsOwner 0 (fun o x => x.setFixed o) :=
  setsOwner_of_change fun o x k => by
    match k with
    | 0 | 1 | 2 | 3 | k + 4 => rfl

theorem setSamplerOwner_sets : SetsOwner 1 (fun o x => x.setSamplerOwner o) :=
  setsOwner_of_change fun o x k => by
    match k with
    | 0 | 1 | 2 | 3 | k + 4 => rfl

theorem setCmdOwner_sets : SetsOwner 2 (fun o x => x.setCmdOwner o) :=
  setsOwner_of_change fun o x k => by
    match k with
    | 0 | 1 | 2 | 3 | k + 4 => rfl

theorem setEdgeOwner_sets : SetsOwner 3 (fun o x => x.setEdgeOwner o) :=
  setsOwner_of_change fun o x k => by
    match k with
    | 0 | 1 | 2 | 3 | k + 4 => rfl

/-- The owner of one PMC is written. -/
theorem holder_setPmc {x y : Probe} {i o : Nat} {pmc : Tab Pmc} {enable : BitVec 13} (hi : i < 8)
    (hy : y.cfg = { x.cfg with pmcOwner := tset x.cfg.pmcOwner i o hm, pmc := pmc, enable := enable }) (k : Nat) : y.holder k = if k = 4 + i then o else x.holder k := by
  match k with
  | 0 | 1 | 2 | 3 => rw [if_neg (by omega)]; simp only [Probe.holder, hy]
  | k + 4 =>
    simp only [Probe.holder, hy, tget_tset, show (k + 4 = 4 + i) = (k = i) from propext (by omega)]
    by_cases hk : k = i
    · simp [hk, hi]
    · simp [hk]

theorem setPmcOwner_sets {i : Nat} (hi : i < 8) : SetsOwner (4 + i) (fun o x => x.setPmcOwner i o) := by
  have h := setsOwner_of_change (n := 4 + i) (g := fun o x => ({ x with cfg := { x.cfg with
    pmcOwner := tset x.cfg.pmcOwner i o hm
    pmc := tset x.cfg.pmc i { tget x.cfg.pmc i Pmc.zero with flt := (tget x.cfg.pmc i Pmc.zero).flt.forced o } Pmc.zero } } : Probe).clearCounter (5 + i))
    fun o x k => holder_setPmc hi rfl k
  simp only [holder_pmc _ hi] at h
  exact h

theorem setRangeOwner_sets (j : Nat) : SetsOwner (12 + j) (fun o x => x.setRangeOwner j o) := by
  intro o x k
  by_cases ho : o = 31
  · simp [Probe.setRangeOwner, newOwner, ho]
  · simp only [Probe.setRangeOwner, newOwner, ho, if_false]
    match k with
    | 0 | 1 | 2 | 3 => rw [if_neg (by omega)]; rfl
    | k + 4 =>
      simp only [Probe.holder, tget_tset]
      by_cases hk : k < 8
      · rw [if_pos hk, if_pos hk, if_neg (by omega)]
      · simp only [hk, if_false, show (k + 4 = 12 + j) = (k - 8 = j) from propext (by omega)]

/-- Setters of objects in a row. -/
theorem holder_foldl_sets {f : Nat → Nat → Probe → Probe} {m n : Nat} (hf : ∀ i < n, SetsOwner (m + i) (f i)) (v : Nat → Nat) (x : Probe) (k : Nat) :
    ((List.range n).foldl (fun x i => f i (v i) x) x).holder k = if m ≤ k ∧ k < m + n then newOwner (v (k - m)) (x.holder k) else x.holder k := by
  induction n with
  | zero => rw [if_neg (by omega)]; rfl
  | succ n ih =>
    rw [List.range_succ, List.foldl_concat, hf n (by omega), ih fun i hi => hf i (by omega)]
    by_cases hk : k = m + n
    · rw [if_pos hk, if_neg (by omega), if_pos (by omega), show k - m = n by omega]
    · rw [if_neg hk]
      exact if_congr (by omega) rfl rfl

/-- Every field of PROBE_OWNERS says who holds its object. -/
theorem setOwners_holder (vs : List Nat) (x : Probe) {k : Nat} (hk : k < 16) : (x.setOwners vs).holder k = newOwner (vs.getD k 31) (x.holder k) := by
  unfold Probe.setOwners
  dsimp only
  rw [holder_foldl_sets (f := fun j o x => x.setRangeOwner j o) (fun j _ => setRangeOwner_sets j),
    holder_foldl_sets (f := fun i o x => x.setPmcOwner i o) (fun i hi => setPmcOwner_sets hi), setEdgeOwner_sets, setCmdOwner_sets,
    setSamplerOwner_sets, setFixed_sets]
  interval_cases k <;> rfl

/-! ## Objects that return (R431) -/

/-- A charter owns none of a probe's objects. -/
def Probe.freeOf (x : Probe) (c : Nat) : Prop := ∀ k < 16, x.holder k ≠ c

/-- The owner that each object of a charter's gets, and 31 for every other one's. -/
def Probe.givenBack (x : Probe) (c : Nat) : List Nat :=
  let f := fun (o : Nat) => if o = c then hm else 31
  [f x.cfg.fixedOwner, f x.cfg.samplerOwner, f x.cfg.cmdOwner, f x.cfg.edgeOwner] ++
    (List.range 8).map (fun i => f (tget x.cfg.pmcOwner i hm)) ++ (List.range 4).map (fun j => f (tget x.cfg.rangeOwner j hm))

theorem givenBack_getD (x : Probe) (c : Nat) {k : Nat} (hk : k < 16) : (x.givenBack c).getD k 31 = if x.holder k = c then hm else 31 := by
  interval_cases k <;> rfl

theorem holder_of_owners {x y : Probe} {enable : BitVec 13} {pmc : Tab Pmc} {ranges : Tab (Nat × Nat)}
    (h : y.cfg = { x.cfg with enable := enable, pmc := pmc, ranges := ranges }) (k : Nat) : y.holder k = x.holder k := by
  match k with
  | 0 | 1 | 2 | 3 | k + 4 => simp only [Probe.holder, h]

/-- Released, an object of the charter's is the harbourmaster's; others' owners stay. -/
theorem release_holder (x : Probe) (c : Nat) {k : Nat} (hk : k < 16) : (x.release c).holder k = if x.holder k = c then hm else x.holder k := by
  have hset : (x.release c).holder k = (x.setOwners (x.givenBack c)).holder k := by
    unfold Probe.release
    extract_lets f y gone mine
    have hy : y = x.setOwners (x.givenBack c) := rfl
    clear_value y
    rw [← hy]
    exact holder_of_owners rfl k
  rw [hset, setOwners_holder _ _ hk, givenBack_getD x c hk]
  by_cases h : x.holder k = c
  · rw [if_pos h, if_pos h]; rfl
  · rw [if_neg h, if_neg h]; rfl

theorem release_freeOf (x : Probe) {c : Nat} (hc : c < 16) : (x.release c).freeOf c := by
  intro k hk
  rw [release_holder x c hk]
  split
  · exact Ne.symm (Nat.ne_of_lt hc)
  · assumption

theorem zero_freeOf {c : Nat} (hc : c < 16) : Probe.zero.freeOf c := by
  intro k hk
  have hz : Probe.zero.holder k = 16 := by interval_cases k <;> rfl
  rw [hz]
  exact Ne.symm (Nat.ne_of_lt hc)

/-- What the objects' owners are, by their names. -/
theorem freeOf_iff {x : Probe} {c : Nat} (h : x.freeOf c) : x.cfg.fixedOwner ≠ c ∧ x.cfg.samplerOwner ≠ c ∧ x.cfg.cmdOwner ≠ c ∧
    x.cfg.edgeOwner ≠ c ∧ (∀ i < 8, tget x.cfg.pmcOwner i hm ≠ c) ∧ ∀ i < 4, tget x.cfg.rangeOwner i hm ≠ c := by
  refine ⟨h 0 (by omega), h 1 (by omega), h 2 (by omega), h 3 (by omega), fun i hi => ?_, fun j hj => ?_⟩
  · rw [← holder_pmc x hi]
    exact h _ (by omega)
  · rw [← holder_range x j]
    exact h _ (by omega)

/-! ## The capture ends (R431) -/

/-- Every probe of the table gives the charter's objects back. -/
def State.releaseAll (s : State) (c : Nat) : State := s.probes.foldl (fun s e => s.modProbe e.1 (Probe.release c)) s

theorem tget_absent {α : Type} (t : Tab α) (k : Nat) (d : α) (h : ∀ e ∈ t, e.1 ≠ k) : tget t k d = d := by
  induction t with
  | nil => rfl
  | cons e t ih =>
    rw [tget, if_neg (Ne.symm (h e (List.mem_cons_self ..)))]
    exact ih fun e he => h e (List.mem_cons_of_mem _ he)

/-- A fold whose steps over the list's elements leave a projection leaves it. -/
theorem foldl_proj_mem {α β γ : Type} (π : α → γ) (f : α → β → α) (l : List β) (h : ∀ s, ∀ a ∈ l, π (f s a) = π s) (s : α) : π (l.foldl f s) = π s := by
  induction l generalizing s with
  | nil => rfl
  | cons a l ih => rw [List.foldl_cons, ih fun t b hb => h t b (List.mem_cons_of_mem _ hb), h s a (List.mem_cons_self ..)]

theorem modProbe_probe (s : State) (p q : Nat) (f : Probe → Probe) : (s.modProbe p f).probe q = if q = p then f (s.probe p) else s.probe q := tget_tset ..

theorem releaseAll_freeOf (s : State) {c : Nat} (hc : c < 16) (p : Nat) : ((s.releaseAll c).probe p).freeOf c := by
  by_cases hp : ∃ e ∈ s.probes, e.1 = p
  · obtain ⟨e, he, rfl⟩ := hp
    refine foldl_establishes (fun t : State => (t.probe e.1).freeOf c) _ e s.probes he (fun t => ?_) (fun t d ht => ?_) s
    · rw [modProbe_probe, if_pos rfl]
      exact release_freeOf _ hc
    · rw [modProbe_probe]
      split
      · exact release_freeOf _ hc
      · exact ht
  · have hne : ∀ e ∈ s.probes, e.1 ≠ p := fun e he heq => hp ⟨e, he, heq⟩
    have hkeep : (s.releaseAll c).probe p = s.probe p :=
      foldl_proj_mem (State.probe · p) _ s.probes (fun t e he => (modProbe_probe t e.1 p _).trans (if_neg (Ne.symm (hne e he)))) s
    rw [hkeep, State.probe, tget_absent _ _ _ hne]
    exact zero_freeOf hc

end Sys2Proof.Machine
end

section
/-! SUPPORT. A charter's end at T0 (R293, R431). -/

namespace Sys2Proof.Machine

/-! ## Its sources stop -/

theorem silence_canal (s : State) (o : Nat) : CanalOnly s (s.silence o) :=
  .foldl _ (fun t src => by
    dsimp only
    exact .ite _ (setStream_canal t src o _) .rfl) _ s

/-- Nothing but the probes and the canal changes. -/
theorem releaseAll_proj {α : Type} (s : State) (c : Nat) (π : State → α) (h : ∀ (s : State) ps, π { s with probes := ps } = π s) :
    π (s.releaseAll c) = π s := foldl_proj π _ (fun t _ => h t _) _ s

/-- The canal apart, the charter's sources are silent and its objects given back. -/
theorem captureEnd_canal (s : State) (c : Nat) : CanalOnly ((s.silence c).releaseAll c) (s.captureEnd c) := by
  unfold State.captureEnd State.releaseAll
  exact Eq.refl _

theorem captureEnd_chart (s : State) (c : Nat) : (s.captureEnd c).chart = s.chart := by
  rw [(captureEnd_canal s c).proj State.chart fun _ _ => rfl, releaseAll_proj (s.silence c) c State.chart fun _ _ => rfl,
    (silence_canal s c).proj State.chart fun _ _ => rfl]

theorem captureEnd_freeOf (s : State) {c : Nat} (hc : c < 16) (p : Nat) : ((s.captureEnd c).probe p).freeOf c := by
  rw [(captureEnd_canal s c).probe p]
  exact releaseAll_freeOf (s.silence c) hc p

/-! ## The assay and the Counting House let go -/

theorem DataOnly.chart {s t : State} (h : DataOnly s t) : t.chart = s.chart := by rw [DataOnly] at h; rw [h]

theorem assayEnd_data (s : State) (o : Nat) : DataOnly s (s.assayEnd o) := by
  unfold State.assayEnd
  extract_lets u a head mine mgr v
  have hu : DataOnly s u := .foldl _ (fun _ _ => .parts) _ _
  have hv : DataOnly u v := .parts
  exact (hu.trans hv).trans (engineStart_data v)

/-- The op of a charter that ends is dropped. -/
def State.dropOp (s : State) (c : Nat) : State :=
  match s.ch.run with
  | some r => if r.op.owner = c then { s.dropReads with ch := { s.ch with run := none, idleAt := s.now } } else s
  | none => s

theorem dropOp_data (s : State) (c : Nat) : DataOnly s (s.dropOp c) := by
  unfold State.dropOp
  cases s.ch.run with
  | none => exact .rfl
  | some r => exact .ite .parts .rfl

theorem dropOp_run (s : State) (c : Nat) : ∀ r, (s.dropOp c).ch.run = some r → r.op.owner ≠ c := by
  unfold State.dropOp
  cases hrun : s.ch.run with
  | none => simp [hrun]
  | some r =>
    by_cases hr : r.op.owner = c
    · simp [hr]
    · simp [hr, hrun]

theorem eraseUnits_data (s : State) (us : List Nat) : DataOnly s (s.eraseUnits us) := by
  have hw : DataOnly s ((List.range 16).foldl (fun s c => us.foldl (fun s u => s.writeRange (12 + c) (24576 + 256 * u) 256) s) s) :=
    .foldl _ (fun t c => .foldl _ (fun _ _ => .parts) _ t) _ s
  exact hw.trans .parts

/-- What the cores' stores do not hold, the Counting House keeps. -/
theorem eraseUnits_ch (s : State) (us : List Nat) : (s.eraseUnits us).ch = { s.ch with cores := (s.eraseUnits us).ch.cores } := by
  have hw : ((List.range 16).foldl (fun s c => us.foldl (fun s u => s.writeRange (12 + c) (24576 + 256 * u) 256) s) s).ch = s.ch :=
    foldl_proj State.ch _ (fun t c => foldl_proj State.ch (fun t u => t.writeRange (12 + c) (24576 + 256 * u) 256) (fun _ _ => rfl) us t) _ s
  exact congrArg (fun c : Ch => { c with cores := (s.eraseUnits us).ch.cores }) hw

/-- No op of the charter is queued, standing or running. -/
def Ch.freeOf (h : Ch) (c : Nat) : Prop :=
  (∀ x ∈ h.queue, x.owner ≠ c) ∧ (∀ x ∈ h.standing, x.owner ≠ c) ∧ ∀ r, h.run = some r → r.op.owner ≠ c

/-- The charter's ops are gone; its slots and units still hold what they held. -/
def State.withoutOps (s : State) (c : Nat) : State :=
  { s.dropOp c with ch := { (s.dropOp c).ch with
    queue := (s.dropOp c).ch.queue.filter (fun x => x.owner ≠ c), standing := (s.dropOp c).ch.standing.filter (fun x => x.owner ≠ c) } }

theorem withoutOps_freeOf (s : State) (c : Nat) : (s.withoutOps c).ch.freeOf c :=
  ⟨fun _ hx => by simpa using (List.mem_filter.mp hx).2, fun _ hx => by simpa using (List.mem_filter.mp hx).2, dropOp_run s c⟩

/-- The charter's slots are empty. -/
def State.withoutSlots (s : State) (c : Nat) : State := ((s.withoutOps c).ownSlots c).foldl (fun s e => s.unload c e.1) (s.withoutOps c)

theorem withoutSlots_data (s : State) (c : Nat) : DataOnly s (s.withoutSlots c) := by
  have ho : DataOnly s (s.withoutOps c) := (dropOp_data s c).trans .parts
  exact ho.trans (.foldl _ (fun t (e : Nat × Loaded) => unload_data t c e.1) _ _)

theorem withoutSlots_freeOf (s : State) (c : Nat) : (s.withoutSlots c).ch.freeOf c := by
  have hp : ∀ {α : Type} (π : Ch → α), (∀ (h : Ch) slots, π { h with slots := slots } = π h) → π (s.withoutSlots c).ch = π (s.withoutOps c).ch :=
    fun π h => foldl_proj (fun t : State => π t.ch) _ (fun t (e : Nat × Loaded) => (congrArg π (unload_ch t c e.1)).trans (h _ _)) _ _
  obtain ⟨hq, hst, hr⟩ := withoutOps_freeOf s c
  refine ⟨?_, ?_, ?_⟩
  · rwa [hp Ch.queue fun _ _ => rfl]
  · rwa [hp Ch.standing fun _ _ => rfl]
  · rwa [hp Ch.run fun _ _ => rfl]

theorem releaseKept_chart (s : State) : s.releaseKept.chart = s.chart := rfl
theorem releaseKept_probes (s : State) : s.releaseKept.probes = s.probes := rfl
theorem releaseKept_ch (s : State) : s.releaseKept.ch = s.ch := rfl

theorem chEnd_eq (s : State) (c : Nat) : s.chEnd c = ((s.withoutSlots c).eraseUnits ((s.withoutSlots c).stUnits c)).releaseKept := rfl

theorem chEnd_chart (s : State) (c : Nat) : (s.chEnd c).chart = s.chart := by
  have h := (withoutSlots_data s c).trans (eraseUnits_data (s.withoutSlots c) ((s.withoutSlots c).stUnits c))
  rw [chEnd_eq, releaseKept_chart, h.chart]

theorem chEnd_probes (s : State) (c : Nat) : (s.chEnd c).probes = s.probes := by
  have h := (withoutSlots_data s c).trans (eraseUnits_data (s.withoutSlots c) ((s.withoutSlots c).stUnits c))
  rw [chEnd_eq, releaseKept_probes, h.probes]

theorem chEnd_freeOf (s : State) (c : Nat) : (s.chEnd c).ch.freeOf c := by
  rw [chEnd_eq, releaseKept_ch, eraseUnits_ch]
  exact withoutSlots_freeOf s c

/-! ## T0 (R431 steps 1 to 4) -/

/-- What the capture, the assay, the Counting House and the export hold of a charter goes. -/
def State.letGo (s : State) (c : Nat) : State := (((s.captureEnd c).assayEnd c).chEnd c).exportEnd c

theorem exportEnd_chart (s : State) (c : Nat) : (s.exportEnd c).chart = s.chart := rfl
theorem exportEnd_ch (s : State) (c : Nat) : (s.exportEnd c).ch = s.ch := rfl
theorem exportEnd_probes (s : State) (c : Nat) : (s.exportEnd c).probes = s.probes := rfl

section
variable (s : State) (c : Nat)

theorem letGo_chart : (s.letGo c).chart = s.chart := by
  rw [State.letGo, exportEnd_chart, chEnd_chart, (assayEnd_data _ c).chart, captureEnd_chart]

theorem letGo_ch : (s.letGo c).ch.freeOf c := by
  rw [State.letGo, exportEnd_ch]
  exact chEnd_freeOf _ c

theorem letGo_probe {c : Nat} (hc : c < 16) (p : Nat) : ((s.letGo c).probe p).freeOf c := by
  have hp : (s.letGo c).probes = (s.captureEnd c).probes := by rw [State.letGo, exportEnd_probes, chEnd_probes, (assayEnd_data _ c).probes]
  rw [State.probe, hp]
  exact captureEnd_freeOf s hc p

end

/-- A new generation without a key. -/
def State.keyless (s : State) (c : Nat) : State := (s.newGen c).dropKey ((s.newGen c).modelKey c)

section
variable (s : State) (c : Nat)

theorem keyless_newGenOnly : NewGenOnly s (s.keyless c) := (newGen_newGenOnly s c).trans (dropKey_newGenOnly ..)

theorem keyless_keygen : (s.keyless c).keygen c = min 255 (s.keygen c + 1) := by
  rw [State.keygen, State.keyless, dropKey_keygen]
  exact newGen_keygen s c

theorem keyless_openL : ((s.keyless c).export_ c).openL = none := by
  have hexp : (s.keyless c).exp = (s.newGen c).exp := by rw [State.keyless, dropKey_slots]
  rw [State.export_, hexp]
  exact newGen_openL s c

end

theorem NewGenOnly.chart {s t : State} (h : NewGenOnly s t) : t.chart = { s.chart with slots := t.chart.slots, keygen := t.chart.keygen } := by
  rw [NewGenOnly] at h
  rw [h]

theorem NewGenOnly.probes {s t : State} (h : NewGenOnly s t) : t.probes = s.probes := by
  rw [NewGenOnly] at h
  rw [h]

theorem NewGenOnly.ch_freeOf {s t : State} {c : Nat} (h : NewGenOnly s t) (hs : s.ch.freeOf c) : t.ch.freeOf c := by
  rw [NewGenOnly] at h
  rw [h]
  exact hs

/-- The state with the charter ENDING. -/
def State.ending (s : State) (t : Turnover) : State :=
  { s with chart := { s.chart with st := tset s.chart.st t.charter .ending .inactive, turnover := some { t with begun := true, t0At := s.now } } }

/-- The state once the charter holds nothing and has no key. -/
def State.stripped (s : State) (t : Turnover) : State := ((s.ending t).letGo t.charter).keyless t.charter

/-- Its KEK, its ID mode with the marker, and its domains go. -/
def State.unbound (s : State) (c : Nat) : State := { s with
  chart := { s.chart with kek := tset s.chart.kek c none none }
  esl := { s.esl with idMode := setBit s.esl.idMode c false, marker := setBit s.esl.marker c false }
  lk := { s.lk with assign := tset s.lk.assign c 0 0 } }

theorem beginTurnover_eq (s : State) (t : Turnover) : s.beginTurnover t = (s.stripped t).unbound t.charter := by
  unfold State.beginTurnover
  extract_lets c chart s₀ s₁ s₂ s₃
  have h₀ : s₀ = s.ending t := rfl
  have h₁ : s₁ = s₀.letGo c := rfl
  have h₃ : s₃ = s₁.keyless c := rfl
  rw [State.stripped, ← h₀]
  change _ = ((s₀.letGo c).keyless c).unbound c
  rw [← h₁, ← h₃]
  clear_value s₃
  rfl

section
variable (s : State) (t : Turnover)

theorem stripped_chart : (s.stripped t).chart.st = tset s.chart.st t.charter .ending .inactive ∧
    (s.stripped t).chart.turnover = some { t with begun := true, t0At := s.now } := by
  have hgo : ((s.ending t).letGo t.charter).chart = (s.ending t).chart := letGo_chart ..
  have h : (s.stripped t).chart = _ := (keyless_newGenOnly ((s.ending t).letGo t.charter) t.charter).chart
  rw [h, hgo]
  exact ⟨rfl, rfl⟩

theorem stripped_keygen : (s.stripped t).keygen t.charter = min 255 (s.keygen t.charter + 1) := by
  have hgo : ((s.ending t).letGo t.charter).chart = (s.ending t).chart := letGo_chart ..
  rw [State.stripped, keyless_keygen, State.keygen, hgo]
  rfl

theorem stripped_ch : (s.stripped t).ch.freeOf t.charter := (keyless_newGenOnly ..).ch_freeOf (letGo_ch ..)

theorem stripped_probe (hc : t.charter < 16) (p : Nat) : ((s.stripped t).probe p).freeOf t.charter := by
  have h := (keyless_newGenOnly ((s.ending t).letGo t.charter) t.charter).probes
  rw [State.probe, State.stripped, h]
  exact letGo_probe (s.ending t) hc p

/-- At T0 the charter is ENDING, of the next generation, without a KEK, ID mode or domain, and nothing is its own. -/
theorem beginTurnover_spec (hc : t.charter < 16) : let c := t.charter
    let u := s.beginTurnover t
    u.chart.turnover = some { t with begun := true, t0At := s.now } ∧ u.chart.st = tset s.chart.st c .ending .inactive ∧
      u.keygen c = min 255 (s.keygen c + 1) ∧ tget u.chart.kek c none = none ∧ u.esl.idMode.getLsbD c = false ∧ tget u.lk.assign c 0 = 0 ∧
      (u.export_ c).openL = none ∧ u.ch.freeOf c ∧ ∀ p, (u.probe p).freeOf c := by
  obtain ⟨hst, hturn⟩ := stripped_chart s t
  have hgen := stripped_keygen s t
  have hopen : ((s.stripped t).export_ t.charter).openL = none := keyless_openL ..
  have hch := stripped_ch s t
  have hprobe := stripped_probe s t hc
  simp only [beginTurnover_eq]
  generalize s.stripped t = v at hst hturn hgen hopen hch hprobe
  exact ⟨hturn, hst, hgen, tget_tset_same .., (getLsbD_setBit v.esl.idMode _ _ false (by omega)).trans (if_pos rfl), tget_tset_same .., hopen, hch, hprobe⟩

end

end Sys2Proof.Machine
end

section
/-! SUPPORT. CHARTER_END, the scrub and its completion (R393, R431, R432). -/

namespace Sys2Proof.Machine

/-! ## CHARTER_END (R393, R431) -/

/-- The turnover that a CHARTER_END asks for. -/
def endOf (pk : Pkt) (s : State) (slot : Nat) : Turnover := ⟨fld (pk.p 1) 0 4, pk.o, pk.seq, slot, false, s.now, false⟩

section
variable {pk : Pkt} {s : State} (hact : s.active (fld (pk.p 1) 0 4) = true) (hown : pk.o = hm ∨ pk.o = fld (pk.p 1) 0 4)
  (hnone : s.chart.turnover = none)
include hact hown hnone

theorem bodyCharterEnd_allowed (slot : Nat) : bodyCharterEnd pk slot s = .accept []
    (if s.packetsOpen (fld (pk.p 1) 0 4) = true then { s with chart := { s.chart with turnover := some (endOf pk s slot) } }
      else s.beginTurnover (endOf pk s slot)) := by
  have hleaves : s.leaves (fld (pk.p 1) 0 4) = false := by simp [State.leaves, hnone]
  have hmine : (decide (pk.o ≠ hm) && decide (fld (pk.p 1) 0 4 ≠ pk.o)) = false := by
    rcases hown with h | h <;> simp [h]
  unfold bodyCharterEnd
  dsimp only
  rw [chk_passes (by simp [hact, hleaves]), chk_passes hmine, chk_passes (by simp [hnone])]
  rfl

variable (hd : Heard specCharterEnd pk s)
include hd

theorem charterEnd_waits (hopen : s.packetsOpen (fld (pk.p 1) 0 4) = true) :
    Accepts (exec (.charterEnd pk) s) specCharterEnd pk s []
      (fun slot t => { t with chart := { t.chart with turnover := some (endOf pk s slot) } }) :=
  hd.accepts ((bodyCharterEnd_allowed (s := s.rung specCharterEnd pk) hact hown hnone _).trans (congrArg _ (if_pos hopen)))

theorem charterEnd_begins (hopen : s.packetsOpen (fld (pk.p 1) 0 4) = false) :
    Accepts (exec (.charterEnd pk) s) specCharterEnd pk s [] (fun slot t => t.beginTurnover (endOf pk s slot)) :=
  hd.accepts ((bodyCharterEnd_allowed (s := s.rung specCharterEnd pk) hact hown hnone _).trans
    (congrArg _ (if_neg (ne_true_of_eq_false hopen))))

end

/-! ## CHARTER_SCRUB_START (R431, R432) -/

section
variable {s : State} {x : Turnover} (hx : s.chart.turnover = some x)
include hx

theorem exec_scrubStart_begins (hbegun : x.begun = false) (hopen : s.packetsOpen x.charter = false) :
    exec .charterScrubStart s = .next (s.beginTurnover x) := by
  have hexec : exec .charterScrubStart s = execCharterScrubStart s := rfl
  rw [hexec, execCharterScrubStart, hx]
  dsimp only
  rw [if_pos (by simp [hbegun]), if_neg (ne_true_of_eq_false hopen)]

theorem exec_scrubStart_scrubs (hbegun : x.begun = true) (hscrub : x.scrub = false) (hlate : x.t0At + 100000 ≤ s.now) :
    exec .charterScrubStart s = .next (State.scrub { s with chart := { s.chart with turnover := some { x with scrub := true } } } x.charter) := by
  have hexec : exec .charterScrubStart s = execCharterScrubStart s := rfl
  rw [hexec, execCharterScrubStart, hx]
  dsimp only
  rw [if_neg (by simp [hbegun]), if_neg (by simp [hscrub, Nat.not_lt.mpr hlate])]

end

section
variable (s : State) (c : Nat)

/-- What the scrub leaves of a table that owners have entries in. -/
def scrubbed {α : Type} (t : Tab α) (c : Nat) : Tab α := t.filter fun e => decide (e.1 ≠ c)

theorem tget_scrubbed_same {α : Type} (t : Tab α) (d : α) : tget (scrubbed t c) c d = d :=
  (tget_filter_key (fun k => decide (k ≠ c)) t c d).trans (if_neg (by simp))

theorem tget_scrubbed_other {α : Type} (t : Tab α) (d : α) {o : Nat} (h : o ≠ c) : tget (scrubbed t c) o d = tget t o d :=
  (tget_filter_key (fun k => decide (k ≠ c)) t o d).trans (if_pos (by simp [h]))

theorem scrub_apt : (s.scrub c).esl.apt = scrubbed s.esl.apt c := rfl
theorem scrub_exp : (s.scrub c).exp = scrubbed s.exp c := rfl
theorem scrub_irqStatus : (s.scrub c).win.irqStatus = scrubbed s.win.irqStatus c := rfl
theorem scrub_charterQ : (s.scrub c).basins.charterQ = tset s.basins.charterQ c [] [] := rfl
theorem scrub_chart : (s.scrub c).chart = s.chart := rfl
theorem scrub_probes : (s.scrub c).probes = s.probes := rfl
theorem scrub_ch : (s.scrub c).ch = s.ch := rfl
theorem scrub_time : (s.scrub c).time = s.time := rfl

/-- The charter's register page and queue are empty. -/
theorem scrub_own : (s.scrub c).apt c = Apt.zero ∧ (s.scrub c).export_ c = Export.zero ∧ (s.scrub c).irqStatus c = 0 ∧ (s.scrub c).charterQ c = [] := by
  rw [State.apt, State.export_, State.irqStatus, State.charterQ, scrub_apt, scrub_exp, scrub_irqStatus, scrub_charterQ]
  exact ⟨tget_scrubbed_same .., tget_scrubbed_same .., tget_scrubbed_same .., tget_tset_same ..⟩

/-- Other owners' are not touched. -/
theorem scrub_others {o : Nat} (h : o ≠ c) : (s.scrub c).apt o = s.apt o ∧ (s.scrub c).export_ o = s.export_ o ∧
    (s.scrub c).irqStatus o = s.irqStatus o ∧ (s.scrub c).charterQ o = s.charterQ o := by
  rw [State.apt, State.export_, State.irqStatus, State.charterQ, scrub_apt, scrub_exp, scrub_irqStatus, scrub_charterQ]
  exact ⟨tget_scrubbed_other _ _ _ h, tget_scrubbed_other _ _ _ h, tget_scrubbed_other _ _ _ h, tget_tset_other _ _ _ _ _ h⟩

end

end Sys2Proof.Machine
end

section
/-! SUPPORT. The units of a charter that has ended, and CHARTER_SCRUB_DONE (R279, R431). -/

namespace Sys2Proof.Machine

/-! ## Units of the state and model stores -/

/-- None of the 32 units is the owner's. -/
def NoUnit (t : Tab Nat) (c : Nat) : Prop := ∀ u < 32, tget t u 31 ≠ c

theorem NoUnit.tset {t : Tab Nat} {c : Nat} (h : NoUnit t c) (u : Nat) {o : Nat} (ho : o ≠ c) : NoUnit (Machine.tset t u o 31) c := by
  intro v hv
  rw [tget_tset]
  split
  · exact ho
  · exact h v hv

/-- An owner without an allotment gets none of the units that are shared out (R279). -/
theorem shareUnits_none {held : Tab Nat} {want : Nat → Nat} {used : Nat → Nat → Bool} {lost : Nat → Bool} {c : Nat} (hc : c < 31)
    (hheld : NoUnit held c) (hwant : want c = 0) : NoUnit (shareUnits held want used lost) c := by
  unfold shareUnits
  extract_lets us n t
  have ht : NoUnit t c := List.foldlRecOn (motive := (NoUnit · c)) _ _ hheld fun t ht u _ => by
    dsimp only
    split
    · exact ht.tset u (by omega)
    · exact ht
  refine List.foldlRecOn (motive := (NoUnit · c)) _ _ ht fun t ht u _ => ?_
  split
  · split
    · next o ho =>
      refine ht.tset u ?_
      rintro rfl
      have hless := List.find?_some ho
      simp [hwant] at hless
    · exact ht
  · exact ht

/-- The units of one owner are free. -/
@[irreducible] def freed (t : Tab Nat) (c : Nat) : Tab Nat := (List.range 32).foldl (fun t u => if tget t u 31 = c then tset t u 31 31 else t) t

theorem freed_none (t : Tab Nat) {c : Nat} (hc : c < 31) : NoUnit (freed t c) c := by
  intro u hu
  unfold freed
  refine foldl_establishes (fun t : Tab Nat => tget t u 31 ≠ c) _ u (List.range 32) (List.mem_range.mpr hu) (fun t => ?_) (fun t v ht => ?_) t
  · split
    · rw [tget_tset_same]; omega
    · assumption
  · split
    · rw [tget_tset]
      split
      · omega
      · exact ht
    · exact ht

theorem settleUnits_stUnit (s : State) :
    s.settleUnits.ch.stUnit = shareUnits s.ch.stUnit (fun o => (s.allot o).st) s.stUsed (fun _ => false) := by
  simp only [State.settleUnits]

theorem settleUnits_mdUnit (s : State) :
    s.settleUnits.ch.mdUnit = shareUnits s.ch.mdUnit (fun o => (s.allot o).model) s.mdUsed (fun u => s.ch.lostUnits.contains u) := by
  simp only [State.settleUnits]

theorem settleUnits_none {s : State} {c : Nat} (hc : c < 31) (hallot : s.allot c = Allot.zero) (hst : NoUnit s.ch.stUnit c)
    (hmd : NoUnit s.ch.mdUnit c) : NoUnit s.settleUnits.ch.stUnit c ∧ NoUnit s.settleUnits.ch.mdUnit c := by
  have hnone : (s.allot c).st = 0 ∧ (s.allot c).model = 0 := by rw [hallot]; exact ⟨rfl, rfl⟩
  rw [settleUnits_stUnit, settleUnits_mdUnit]
  exact ⟨shareUnits_none (want := fun o => (s.allot o).st) hc hst hnone.1, shareUnits_none (want := fun o => (s.allot o).model) hc hmd hnone.2⟩

/-! ## Units of the basins -/

/-- The second state differs from the first in the owners of the basins' units alone. -/
def OwnersOnly (s t : State) : Prop := t = { s with basins := { s.basins with owner := t.basins.owner } }

theorem OwnersOnly.rfl {s : State} : OwnersOnly s s := Eq.refl s

theorem OwnersOnly.trans {s t u : State} (h : OwnersOnly s t) (k : OwnersOnly t u) : OwnersOnly s u := by
  unfold OwnersOnly at *
  rw [k, h]

theorem OwnersOnly.foldl {α : Type} {f : State → α → State} (h : ∀ s a, OwnersOnly s (f s a)) (l : List α) (s : State) : OwnersOnly s (l.foldl f s) := by
  induction l generalizing s with
  | nil => exact .rfl
  | cons a l ih => exact (h s a).trans (ih _)

theorem setUnitOwner_ownersOnly (s : State) (u o : Nat) : OwnersOnly s (s.setUnitOwner u o) := Eq.refl _

theorem grant_ownersOnly (s : State) (n : Nat) : OwnersOnly s (s.grant n) := by
  induction n generalizing s with
  | zero => exact .rfl
  | succ n ih =>
    rw [State.grant]
    split
    · exact .rfl
    · split
      · exact .rfl
      · exact (setUnitOwner_ownersOnly ..).trans (ih _)

/-- The charter has no allotment, and its units of the Counting House are free. -/
def State.disallotted (s : State) (c : Nat) : State := { s with
  ch := { s.ch with allot := tset s.ch.allot c Allot.zero Allot.zero, stUnit := freed s.ch.stUnit c, mdUnit := freed s.ch.mdUnit c } }

theorem disallotted_allot (s : State) (c : Nat) : (s.disallotted c).allot c = Allot.zero := tget_tset_same ..
theorem disallotted_stUnit (s : State) (c : Nat) : (s.disallotted c).ch.stUnit = freed s.ch.stUnit c := rfl
theorem disallotted_mdUnit (s : State) (c : Nat) : (s.disallotted c).ch.mdUnit = freed s.ch.mdUnit c := rfl

/-- The charter's units of the basins are the harbourmaster's, those that were leaving apart. -/
def State.unitsMoved (s : State) (c : Nat) : State :=
  (s.units c).foldl (fun s u => s.setUnitOwner u hm) ((s.leavingOf c).foldl (fun s u => s.setUnitOwner u 31)
    { s with basins := { s.basins with leaving := s.basins.leaving.filter (fun u => !(s.leavingOf c).contains u) } })

/-- The charter's quota is 0, and the harbourmaster's larger by n. -/
def State.quotaMoved (s : State) (c n : Nat) : State :=
  { s with basins := { s.basins with quota := tset (tset s.basins.quota c 0 0) hm (s.quotaOf hm + n) 0 } }

/-- The charter's units have gone to the harbourmaster, and partitions below their quota have taken free ones. -/
def State.unitsGiven (s : State) (c : Nat) : State := ((s.unitsMoved c).quotaMoved c (s.units c).length).grant 124

theorem unitsBack_eq (s : State) (c : Nat) : s.unitsBack c = ((s.unitsGiven c).disallotted c).settleUnits := by
  unfold State.unitsBack State.unitsGiven State.quotaMoved State.unitsMoved State.disallotted freed
  dsimp only

theorem OwnersOnly.eq {s t : State} (h : OwnersOnly s t) : t = { s with basins := t.basins } := by
  rw [OwnersOnly] at h
  rw [h]

theorem OwnersOnly.quota {s t : State} (h : OwnersOnly s t) : t.basins.quota = s.basins.quota := by
  rw [OwnersOnly] at h
  rw [h]

theorem unitsMoved_basins (s : State) (c : Nat) : ∃ basins : Basins, s.unitsMoved c = { s with basins := basins } := by
  have h := (OwnersOnly.foldl (fun s u => setUnitOwner_ownersOnly s u 31) (s.leavingOf c)
    { s with basins := { s.basins with leaving := s.basins.leaving.filter (fun u => !(s.leavingOf c).contains u) } }).trans
    (.foldl (fun s u => setUnitOwner_ownersOnly s u hm) (s.units c) _)
  exact ⟨_, h.eq⟩

/-- Nothing but the basins changes, and the charter's quota is 0. -/
theorem unitsGiven_spec (s : State) {c : Nat} (hc : c < 16) : ∃ basins : Basins,
    s.unitsGiven c = { s with basins := basins } ∧ tget basins.quota c 0 = 0 := by
  obtain ⟨basins, h⟩ := unitsMoved_basins s c
  rw [State.unitsGiven, h]
  have hgrant := grant_ownersOnly (State.quotaMoved { s with basins := basins } c (s.units c).length) 124
  refine ⟨_, hgrant.eq, ?_⟩
  rw [hgrant.quota]
  exact (tget_tset_other _ _ _ _ _ (Nat.ne_of_lt hc)).trans (tget_tset_same ..)

section
variable (s : State) {c : Nat} (hc : c < 16)
include hc

/-- The units are back: nothing but the basins and the Counting House has changed. -/
theorem unitsBack_spec : let v := s.unitsBack c
    v.chart = s.chart ∧ NoUnit v.ch.stUnit c ∧ NoUnit v.ch.mdUnit c ∧ v.allot c = Allot.zero ∧ v.quotaOf c = 0 ∧ v.probes = s.probes ∧ v.esl = s.esl := by
  obtain ⟨basins, h, hquota⟩ := unitsGiven_spec s hc
  obtain ⟨st, md, hsettle⟩ := settleUnits_units ((s.unitsGiven c).disallotted c)
  obtain ⟨hst, hmd⟩ := settleUnits_none (s := (s.unitsGiven c).disallotted c) (by omega) (disallotted_allot ..)
    (by rw [disallotted_stUnit]; exact freed_none _ (by omega)) (by rw [disallotted_mdUnit]; exact freed_none _ (by omega))
  simp only [unitsBack_eq]
  refine ⟨?_, hst, hmd, ?_, ?_, ?_, ?_⟩
  · rw [hsettle, h]; rfl
  · rw [hsettle]; exact disallotted_allot ..
  · rw [hsettle, h]; exact hquota
  · rw [hsettle, h]; rfl
  · rw [hsettle, h]; rfl

end

/-! ## CHARTER_SCRUB_DONE (R431 steps 7 and 8) -/

section
variable {s : State} {x : Turnover} (hx : s.chart.turnover = some x) (hscrub : x.scrub = true) (hlate : x.t0At + 1300000 ≤ s.now)
include hx hscrub hlate

theorem exec_scrubDone (verified : Bool) : exec (.charterScrubDone verified) s = .next (if verified = true then
      (State.unitsBack { s with chart := { s.chart with turnover := none, st := tset s.chart.st x.charter .inactive .inactive } } x.charter).complete
        0x81 x.by_ x.seq x.slot .ok [(State.unitsBack { s with chart := { s.chart with
          turnover := none, st := tset s.chart.st x.charter .inactive .inactive } } x.charter).keygen x.charter]
    else (State.raise { s with chart := { s.chart with turnover := none } } 0xA05 0 x.charter).complete 0x81 x.by_ x.seq x.slot .internal [0, 0]) := by
  have hexec : exec (.charterScrubDone verified) s = execCharterScrubDone verified s := rfl
  rw [hexec, execCharterScrubDone, hx]
  dsimp only
  rw [if_neg (by simp [hscrub, Nat.not_lt.mpr hlate])]

end

end Sys2Proof.Machine
end

section
namespace Sys2Proof.Machine

theorem charterEnd_spec {pk : Pkt} {s : State} (hd : Heard specCharterEnd pk s) {c : Nat} (hc : c = fld (pk.p 1) 0 4) (hact : s.active c = true)
    (hown : pk.o = hm ∨ pk.o = c) (hnone : s.chart.turnover = none) (hopen : s.packetsOpen c = false) :
    ∃ f : Nat → State → State, Accepts (exec (.charterEnd pk) s) specCharterEnd pk s [] f ∧
      let u := f (slotFor specCharterEnd pk s) (s.rung specCharterEnd pk)
      u.chart.turnover = some ⟨c, pk.o, pk.seq, slotFor specCharterEnd pk s, true, s.now, false⟩ ∧
      u.chart.st = tset s.chart.st c .ending .inactive ∧ u.keygen c = min 255 (s.keygen c + 1) ∧ tget u.chart.kek c none = none ∧
      u.esl.idMode.getLsbD c = false ∧ tget u.lk.assign c 0 = 0 ∧ (u.export_ c).openL = none ∧
      (∀ x ∈ u.ch.queue, x.owner ≠ c) ∧ (∀ x ∈ u.ch.standing, x.owner ≠ c) ∧ (∀ r, u.ch.run = some r → r.op.owner ≠ c) ∧
      (∀ p, (u.probe p).cfg.fixedOwner ≠ c ∧ (u.probe p).cfg.samplerOwner ≠ c ∧ (u.probe p).cfg.cmdOwner ≠ c ∧
        (u.probe p).cfg.edgeOwner ≠ c ∧ (∀ i < 8, tget (u.probe p).cfg.pmcOwner i hm ≠ c) ∧ ∀ i < 4, tget (u.probe p).cfg.rangeOwner i hm ≠ c) := by
  subst hc
  have hlt : fld (pk.p 1) 0 4 < 16 := Nat.mod_lt _ (by decide)
  obtain ⟨hturn, hst, hgen, hkek, hid, hdom, hexp, ⟨hq, hstand, hrun⟩, hprobe⟩ :=
    beginTurnover_spec (s.rung specCharterEnd pk) (endOf pk s (slotFor specCharterEnd pk s)) hlt
  exact ⟨_, charterEnd_begins hact hown hnone hd hopen, hturn, hst, hgen, hkek, hid, hdom, hexp, hq, hstand, hrun, fun p => freeOf_iff (hprobe p)⟩

/-- Settles O50: each packet's body is written out where its checks let it pass, and each event where its turnover is due; at
T0 nothing is left of the charter because every part that could hold something of it is followed through the turnover. -/
theorem chartersAndKeys : Obligations.ChartersAndKeys := by
  unfold Obligations.ChartersAndKeys
  refine ⟨fun pk s => ⟨charterBegin_answers, ?charterEnd, attest_unkeyed, ?attest, ?keyAgree, ?keyInstall, ?keyZeroise, ?linkMode,
    charterStatus_answers⟩, fun s x hx hc => ⟨?begins, ?scrubs, ?done⟩⟩
  case charterEnd =>
    intro hd c hc hact hown hnone
    refine ⟨fun hopen => ?_, charterEnd_spec hd hc hact hown hnone⟩
    subst hc
    exact charterEnd_waits hact hown hnone hd hopen
  case attest =>
    intro hd hks
    exact ⟨_, rfl, fun ev hev => attest_answers hd hks ev hev⟩
  case keyAgree =>
    intro hd host hhost
    exact ⟨fun h => keyAgree_invalid hd (hhost ▸ h), fun h hks => keyAgree_unkeyed hd (hhost ▸ h) hks,
      fun h hks => keyAgree_answers hd host hhost h hks⟩
  case keyInstall =>
    intro hd kek i kind link hkek hkind hlink hbad hown hnew hi hfree hless
    subst hkind hlink
    have hslot := freeKeySlot_lowest hi hfree hless
    split
    · next hkey => exact keyInstall_broken hd hkek hbad hown hkey
    · next key hkey =>
      refine ⟨_, keyInstall_answers hd hkek hbad hown hnew hslot hkey, fun h => installed_memory_fresh i key _ h (hnew h).1,
        fun h => installed_model_fresh i key _ h, fun h hfirst => ?_, fun h h3 hsome => ?_⟩
      · rw [installed_link i key _ h]
        exact placeLink_first _ i _ key hfirst
      · rw [installed_link i key _ h]
        exact placeLink_next _ i _ key h3 hsome
  case keyZeroise =>
    intro hd i readback hi hfree hdead hown
    exact ⟨_, keyZeroise_answers hd readback hi hfree hdead hown, zeroised_spec (s.rung specKeyZeroise pk) i pk.o readback⟩
  case linkMode =>
    intro hd j m hj hmode hallowed
    subst hj hmode
    have h := fun hm => (hallowed hm).imp_right sameHousing_of
    exact ⟨linkMode_same hd h, fun h3 hne => ⟨_, linkMode_changes hd h h3 hne, linkMode_peer (s.rung specLinkMode pk) _ _⟩⟩
  case begins =>
    intro hbegun hopen
    obtain ⟨hturn, hst, -⟩ := beginTurnover_spec s x hc
    exact ⟨_, exec_scrubStart_begins hx hbegun hopen, hturn, hst⟩
  case scrubs =>
    intro hbegun hscrub hlate
    obtain ⟨hapt, hexp, hirq, hq⟩ := scrub_own { s with chart := { s.chart with turnover := some { x with scrub := true } } } x.charter
    exact ⟨_, exec_scrubStart_scrubs hx hbegun hscrub hlate, scrub_chart .., hapt, hexp, hirq, hq,
      fun o ho => scrub_others { s with chart := { s.chart with turnover := some { x with scrub := true } } } x.charter ho,
      scrub_probes .., scrub_ch .., scrub_time ..⟩
  case done =>
    intro hscrub hlate
    refine ⟨?_, exec_scrubDone hx hscrub hlate false⟩
    obtain ⟨hchart, hst, hmd, hallot, hquota, hprobes, hesl⟩ := unitsBack_spec
      { s with chart := { s.chart with turnover := none, st := tset s.chart.st x.charter .inactive .inactive } } hc
    refine ⟨_, (exec_scrubDone hx hscrub hlate true).trans ?_, hchart, fun u hu => ⟨hst u hu, hmd u hu⟩, hallot, hquota, hprobes, hesl⟩
    rw [if_pos rfl, State.keygen, hchart]
    rfl

end Sys2Proof.Machine
end
